-- ==== Sys2Proof/Word.lean ====
section
/-! DEFINITION. The byte, the four-way index of lanes, bays and cassettes (scope, "Naming conventions") and a record of
four like things. Plain data and its plainest arithmetic only. -/

namespace Sys2Proof

/-- A byte of the host line and of the journal memory. -/
abbrev Byte := BitVec 8

/-- Lanes, bays and cassettes are numbered 1 to 4 (scope, "Naming conventions"). -/
inductive Ix4 where
  | i1
  | i2
  | i3
  | i4
  deriving DecidableEq, Repr

/-- A lane, its bay and its carrier share one number. -/
abbrev Lane := Ix4

/-- A cassette, C1 to C4. -/
abbrev Cass := Ix4

/-- The number, 1 to 4, that the manual gives the thing. -/
def Ix4.num : Ix4 → Nat
  | .i1 => 1
  | .i2 => 2
  | .i3 => 3
  | .i4 => 4

/-- The thing of a number; absent outside 1 to 4. -/
def Ix4.ofNum : Nat → Option Ix4
  | 1 => some .i1
  | 2 => some .i2
  | 3 => some .i3
  | 4 => some .i4
  | _ => none

/-- All four, in number order. -/
def Ix4.all : List Ix4 := [.i1, .i2, .i3, .i4]

/-- One thing for each of 1 to 4. -/
structure Four (α : Type) where
  v1 : α
  v2 : α
  v3 : α
  v4 : α
  deriving DecidableEq, Repr

/-- The entry of a number. -/
def Four.get {α : Type} (f : Four α) : Ix4 → α
  | .i1 => f.v1
  | .i2 => f.v2
  | .i3 => f.v3
  | .i4 => f.v4

/-- The record with one entry replaced. -/
def Four.set {α : Type} (f : Four α) (i : Ix4) (a : α) : Four α :=
  match i with
  | .i1 => { f with v1 := a }
  | .i2 => { f with v2 := a }
  | .i3 => { f with v3 := a }
  | .i4 => { f with v4 := a }

/-- The record with one entry changed by a function. -/
def Four.modify {α : Type} (f : Four α) (i : Ix4) (g : α → α) : Four α := f.set i (g (f.get i))

/-- Four times the same thing. -/
def Four.const {α : Type} (a : α) : Four α := ⟨a, a, a, a⟩

/-- Every entry changed by a function. -/
def Four.map {α β : Type} (f : Four α) (g : α → β) : Four β := ⟨g f.v1, g f.v2, g f.v3, g f.v4⟩

/-- The four entries in number order. -/
def Four.toList {α : Type} (f : Four α) : List α := [f.v1, f.v2, f.v3, f.v4]

/-- The sum of four counts. -/
def Four.sum (f : Four Nat) : Nat := f.v1 + f.v2 + f.v3 + f.v4

/-- Blowers are named A and B; so are the hold-up inputs and the journal banks. -/
inductive AB where
  | a
  | b
  deriving DecidableEq, Repr

/-- The other one of the two. -/
def AB.other : AB → AB
  | .a => .b
  | .b => .a

/-- A list's entry at a place replaced by a function of it; nothing past the end. -/
def modifyAt {α : Type} (g : α → α) : Nat → List α → List α
  | _, [] => []
  | 0, x :: xs => g x :: xs
  | n + 1, x :: xs => x :: modifyAt g n xs

end Sys2Proof
end

