-- ==== Sys2Proof/Config.lean ====
section
/-! DEFINITION. What one DT-4 fixes: the times, limits and capacities the manual prints as numbers, and the one value
of the part that the manual leaves open (the number of its message set), which is a free value. All times in ms unless
the name says seconds. -/

namespace Sys2Proof.Config

/-- IDENT answer window (R5). -/
def identWindow : Nat := 50
/-- IDENT queries of one enrolment (R5). -/
def identQueries : Nat := 3
/-- Poll answer window (R7). -/
def pollWindow : Nat := 20
/-- Missed polls after which a FULL station is lost (R10). -/
def missesToLose : Nat := 3
/-- Vehicle clear time (R11). -/
def vehicleClear : Nat := 1500
/-- Characters of display text kept (R18). -/
def textLimit : Nat := 20
/-- Longest wait of a transit queue entry (R26). -/
def queueWait : Nat := 60000
/-- Diverter and valve settle (R29). -/
def divertSettle : Nat := 300
/-- Launch timer (R30). -/
def launchLimit : Nat := 2000
/-- SETTLE (R34). -/
def settle : Nat := 400
/-- Purge timer (R41). -/
def purgeLimit : Nat := 30000
/-- Spin-up limit (R51). -/
def spinUpLimit : Nat := 3000
/-- Refresh run (R57). -/
def refreshRun : Nat := 2000
/-- Pick arrival timer (R70). -/
def arrivalLimit : Nat := 250
/-- Gauge timer (R71). -/
def gaugeLimit : Nat := 500
/-- Clearing (R77). -/
def clearing : Nat := 2000
/-- Reject box capacity in notes (R68). -/
def boxCapacity : Nat := 300
/-- Reject box count from which BOX_HIGH rises (R68). -/
def boxHigh : Nat := 270
/-- Misses in a row that empty a cassette (R70). -/
def missLimit : Nat := 3
/-- Doubles in a row that fault a cassette (R71). -/
def doubleLimit : Nat := 5
/-- Most notes a cassette's counts hold (R64). -/
def cassetteMax : Nat := 2500
/-- Requests the dispense queue holds (R85). -/
def dispenseQueueMax : Nat := 3
/-- Loads the load table holds (R86). -/
def loadTableMax : Nat := 8
/-- Loads of one request at most (R93). -/
def loadsPerRequest : Nat := 4
/-- Candidates per level below the first in the bounded search (R91). -/
def searchSpan : Nat := 4
/-- Greatest amount of a DISPENSE (R87). -/
def amountMax : Nat := 10000000
/-- Push timer (R108). -/
def pushLimit : Nat := 4000
/-- Shuttle travel back to HOME, with or without a bundle (R100). -/
def shuttleReturn : Nat := 1500
/-- Lift timer (R129). -/
def liftLimit : Nat := 2000
/-- Arm return (R129). -/
def armReturn : Nat := 1000
/-- Print timer (R131). -/
def printLimit : Nat := 1000
/-- Drop timer (R132). -/
def dropLimit : Nat := 3000
/-- Greatest value of the 32-bit counters (R126, R146, R201). -/
def max32 : Nat := 4294967295
/-- Segments of the journal memory (R141). -/
def segments : Nat := 16
/-- Slots of a segment (R141). -/
def slotsPerSegment : Nat := 128
/-- Bytes of a slot (R141). -/
def slotBytes : Nat := 32
/-- Free slots kept for ALARM and POWER records (R145). -/
def reserveSlots : Nat := 16
/-- Free slot count at which JOURNAL_LOW rises (R145). -/
def journalLow : Nat := 256
/-- Program failures in a row that fail the journal (R149, R150). -/
def programFailures : Nat := 3
/-- Erase window (R156). -/
def eraseWindow : Nat := 500
/-- Erase time limit (R158). -/
def eraseLimit : Nat := 8000
/-- Records of one JOURNAL_READ at most (R154). -/
def readMax : Nat := 6
/-- Sounder cutoff (R181). -/
def sounderCutoff : Nat := 180000
/-- The unit of the sounder period (R181). -/
def sounderUnit : Nat := 100
/-- Requests outstanding at most (R192). -/
def outstandingMax : Nat := 4
/-- Condition instances (R195). -/
def conditions : Nat := 69
/-- Longest message body (section 11.1). -/
def bodyMax : Nat := 232
/-- Greatest dropped-frame count (R190). -/
def droppedMax : Nat := 65535
/-- Greatest lost-record count (R182). -/
def lostMax : Nat := 255
/-- Gap between two bytes of a frame after which it is dropped (R190). -/
def byteGap : Nat := 20
/-- Start byte of a frame (section 11.1). -/
def startByte : Byte := 0xC3#8

/-- The number of the message set the part speaks, which IDENTIFY reports (R203). The manual gives no number: a FREE
VALUE (DESIGN CHOICE, notes/assumptions/2.md; safe, nothing constrains it). -/
opaque messageSet : Byte

end Sys2Proof.Config
end

