-- ==== Sys2Proof/Syntax.lean ====
section
/-! DEFINITION. The commands of the block: one constructor of `Instr` for each row of spec/opcode_table.json, with the
row's operands. A host request carries its tag and the values of its body's fields as they stand on the line (so a value
outside its stated set can be sent and is answered MALFORMED); an event carries what the wired mechanism presents. -/

namespace Sys2Proof

/-- How a power loss finds the retained-store write of the last change (R204): done, or cut off while the first or the
second copy was being programmed. -/
inductive StoreCut where
  | done
  | inFirst
  | inSecond
  deriving DecidableEq, Repr

/-- What a FULL station reports in answer to an IDENT query (R5). -/
structure IdentReport where
  features : Byte
  carrier : Bool
  door : Bool
  loop : Bool
  tamper : Bool
  deriving DecidableEq, Repr

/-- What a FULL station reports in a poll answer (R7): the SEND, CALL and loop activation latches and four levels. -/
structure PollReport where
  send : Bool
  call : Bool
  loopLatch : Bool
  loop : Bool
  tamper : Bool
  carrier : Bool
  door : Bool
  deriving DecidableEq, Repr

/-- The two door zones, 3 (SAFE_DOOR) and 4 (BIN_DOOR) (R168). -/
inductive Door where
  | safe
  | bin
  deriving DecidableEq, Repr

/-- The commands. -/
inductive Instr where
  -- power, clock and line (chapter 10)
  | powerOn (firstReads secondReads : Bool)
  | restartStartUp
  | deviceClockTick
  | frameTaken (bytes : List Byte)
  | frameDropped (bytes : List Byte) (framingError : Bool)
  | interByteTimeout
  | frameSent
  -- lanes (chapter 1)
  | laneSettings (tag lane features waypoints timeout autoRecall : Nat)
  | openLane (tag lane : Nat)
  | closeLane (tag lane : Nat)
  | laneText (tag lane : Nat) (text : List Byte)
  | laneStatus (tag lane : Nat)
  | rescan (tag lane : Nat)
  | rescanAllLanes (tag : Nat)
  | enrolmentStart
  | identAnswer (report : IdentReport)
  | identTimeout (loopClosed : Bool)
  | pollDue (lane : Lane)
  | pollAnswer (report : PollReport)
  | pollAnswerTimeout
  | basicSendEdge (lane : Lane)
  | basicCallEdge (lane : Lane)
  | basicCarrierPresentChange (lane : Lane) (present : Bool)
  | vehicleClearExpiry (lane : Lane)
  -- carriers and the tube drive (chapter 2)
  | send (tag lane : Nat)
  | recall (tag lane : Nat)
  | purge (tag lane towards : Nat)
  | arbiterGrant
  | divertSettleDone
  | launchTimeout
  | bayCarrierPresentChange (lane : Lane) (present : Bool)
  | bayContentChange (lane : Lane) (content : Bool)
  | bayDoorChange (lane : Lane) (closed : Bool)
  | waypointPass (lane : Lane) (waypoint : Nat)
  | transitTimeout
  | settleEnd
  | purgeTimeout
  | queueWaitExpiry (lane : Lane)
  -- air supply (chapter 3)
  | pressureSwitchClose (blower : AB)
  | pressureSwitchOpen (blower : AB)
  | spinUpLimit
  | idleThresholdReached
  | refreshDue
  | refreshRunEnd
  | airSettings (tag mode idle refresh autoSwitch duty : Nat)
  | airEconomy (tag : Nat)
  | airWake (tag : Nat)
  | airReset (tag blower : Nat)
  | airStatus (tag : Nat)
  -- cassettes and the note path (chapter 4)
  | cassetteSensorChange (cassette : Cass) (present : Bool)
  | loadHandOver
  | pickingStart
  | pickMiss
  | noteAtGauge (reading : Nat)
  | noteLeavesGauge
  | gaugeTimeout
  | safeDoorChange (opened : Bool)
  | clearingEnd (pathClear : Bool)
  | replenish (tag cassette denomination count nominal low : Nat)
  | confirm (tag cassette : Nat)
  | cassetteStatus (tag : Nat)
  | clearPath (tag : Nat)
  | boxEmptied (tag : Nat)
  -- dispense planning (chapter 5)
  | dispenseSettings (tag capacity noteCeiling duressCeiling rejectCeiling doubleThreshold : Nat)
  | dispense (tag lane amount autoSend reference : Nat)
  | cancelDispense (tag lane : Nat)
  | deferredCancelDispense
  -- stacker, shuttle and loads (chapter 6)
  | transferStart
  | presentingReservationRequest
  | pushTimeout
  | withdrawalEnd
  | shuttleHome
  | stageHoldExpiry
  | loadStatus (tag lane : Nat)
  | loadClose (tag load outcome : Nat)
  | stackerSettings (tag hold : Nat)
  -- envelope capture (chapter 7)
  | capture (tag bay : Nat)
  | armRelease
  | liftTimeout
  | armReturnEnd
  | printReport (completed : Bool)
  | printTimeout
  | printerStateChange (ready : Bool)
  | dropSensed
  | dropTimeout
  | binDoorChange (closed : Bool)
  | binPresentChange (present : Bool)
  | captureClear (tag disposition : Nat)
  | captureStatus (tag : Nat)
  | captureSettings (tag stamp capacity : Nat)
  | binExchanged (tag : Nat)
  | binConfirm (tag : Nat)
  -- the journal (chapter 8)
  | journalProgramDone (missed : List Byte)
  | eraseWindowExpiry
  | eraseVerify
  | eraseLimit
  | journalStatus (tag : Nat)
  | journalRead (tag start count : Nat)
  | journalReconcile (tag through : Nat)
  | journalErase (tag segment : Nat)
  | journalRecover (tag : Nat)
  | journalReadDone
  -- alarm zones and outputs (chapter 9)
  | holdupInputChange (input : AB) (active : Bool)
  | keySwitchEdge (rising : Bool)
  | entryDelayExpiry (door : Door)
  | windowExpiry (door : Door)
  | sounderPhaseEnd
  | sounderCutoff
  | zoneSettings (tag zone delay : Nat)
  | authorize (tag zone minutes : Nat)
  | ackZone (tag zone : Nat)
  | sounderSilence (tag : Nat)
  | sounderSettings (tag period : Nat)
  | alarmStatus (tag : Nat)
  -- conditions, clock, identity and RESTART (chapter 10)
  | conditionsEnable (tag : Nat) (enabled autoClear : List Nat)
  | conditionsRead (tag : Nat)
  | conditionsClear (tag : Nat) (cleared : List Nat)
  | setTime (tag seconds : Nat)
  | identify (tag : Nat)
  | restart (tag : Nat)
  | powerLoss (cut : StoreCut) (programmed : Nat) (partialBits : Byte)
  deriving DecidableEq, Repr

end Sys2Proof
end

