-- ==== Sys2Proof/Machine/State.lean ====
section
/-! DEFINITION. The state of the DT-4: the ten blocks' records (chapters 1 to 10), the retained store, the journal
memory, the queue of waiting commands, and the value of each field after power-on (`State.reset`). What the manual
derives from other fields (the lane state, the resolved features, the displayed text, the lamp, the bay content, the
outputs, the duress flag, the availability, the free slot count) is computed in Flags.lean and not stored twice. -/

namespace Sys2Proof.Machine

/-! ## Lane Interface (R1 to R21) -/

/-- A set of lane station features (R1). -/
structure Features where
  vehicleLoop : Bool
  tamperSwitch : Bool
  laneDisplay : Bool
  carrierDoor : Bool
  deriving DecidableEq, Repr

/-- Station kind (R1). -/
inductive StationKind where
  | full
  | basic
  | absent
  deriving DecidableEq, Repr

/-- Yes, no or unsensed (R1). -/
inductive Sense where
  | yes
  | no
  | unsensed
  deriving DecidableEq, Repr

/-- Lane state (R2), derived. -/
inductive LaneState where
  | closed
  | opened
  | outOfService
  deriving DecidableEq, Repr

/-- The set of out-of-service reasons (R1, R2); one Bool each, so a reason is held at most once. -/
structure Reasons where
  stationLost : Bool
  jam : Bool
  carrierUnknown : Bool
  tamper : Bool
  deriving DecidableEq, Repr

/-- The retained fields of a lane record (R1). -/
structure LaneSettings where
  enabled : Features
  isOpen : Bool
  autoRecall : Bool
  waypoints : Nat
  segTimeout : Nat
  deriving DecidableEq, Repr

/-- A lane record (R1), with the vehicle clear timer's due time, the BASIC station's discrete carrier input (section 1.2),
the tamper level the LI last learned (R3, R10), the text the station last received (R7, R13) and the acknowledgement its
next poll carries (R7). -/
structure LaneRec where
  set : LaneSettings
  kind : StationKind
  advertised : Features
  reasons : Reasons
  carrier : Sense
  door : Sense
  vehicle : Bool
  text : Option (List Byte)
  missed : Nat
  clearDue : Option Nat
  tamperLevel : Bool
  shown : Option (List Byte)
  answerReceived : Bool
  carrierInput : Bool
  deriving DecidableEq, Repr

/-- Why a lane is enrolled (R5): in start-up, by RESCAN of one lane or of all, or because a lost station answered. -/
inductive EnrolWhy where
  | startUp
  | rescanOne
  | rescanAll
  | lost
  deriving DecidableEq, Repr

/-- What waits for the bus (R4): a lane's enrolment, or the bus reset that begins a RESCAN of all lanes (R21). -/
inductive EnrolJob where
  | enrol (lane : Lane) (why : EnrolWhy)
  | busReset
  deriving DecidableEq, Repr

/-- The one exchange the lane bus carries (R4); the asserted select line is its lane's. -/
inductive Bus where
  | free
  | ident (lane : Lane) (why : EnrolWhy) (query : Nat) (due : Nat)
  | poll (lane : Lane) (due : Nat)
  deriving DecidableEq, Repr

/-- A RESCAN in progress (R20, R21): its tag, and whether it is of all lanes and its bus reset has been pulsed. -/
structure Rescan where
  tag : Nat
  all : Bool
  resetDone : Bool
  deriving DecidableEq, Repr

/-- The Lane Interface. -/
structure LI where
  lanes : Four LaneRec
  bus : Bus
  enrolWaiting : List EnrolJob
  pollsWaiting : List Lane
  rescan : Option Rescan
  deriving DecidableEq, Repr

/-! ## Tube Drive (R22 to R46) -/

/-- A carrier's location (R22). -/
inductive Location where
  | atBay
  | atLane
  | movingUp
  | movingDown
  | unknown
  deriving DecidableEq, Repr

/-- Bay content as the TD reports it (R22, R23), derived. -/
inductive Content where
  | empty
  | content
  | unsensed
  deriving DecidableEq, Repr

/-- A carrier's reservation (R22). -/
inductive Reservation where
  | none
  | queued
  | moving
  | presenting
  | capturing
  deriving DecidableEq, Repr

/-- UP is bay to lane, DOWN is lane to bay (R25). -/
inductive Dir where
  | up
  | down
  deriving DecidableEq, Repr

/-- Where a move came from (R25). -/
inductive Origin where
  | host
  | station
  | autoSend
  | autoRecall
  deriving DecidableEq, Repr

/-- A carrier record (R22); its bay content is derived (R23). -/
structure Carrier where
  location : Location
  reservation : Reservation
  outstanding : Option Nat
  deriving DecidableEq, Repr

/-- The three sensors of a bay (R23): the content sensor reads CONTENT when true. -/
structure Bay where
  present : Bool
  content : Bool
  doorClosed : Bool
  deriving DecidableEq, Repr

/-- An entry of the transit queue (R25). -/
structure Entry where
  lane : Lane
  dir : Dir
  origin : Origin
  time : Nat
  deriving DecidableEq, Repr

/-- What a SETTLE follows (R33, R34, R41). -/
inductive SettleOf where
  | arrival
  | fallBack
  | find
  deriving DecidableEq, Repr

/-- The phase of the move in flight with the due time of the timer it runs (section 2.4, R41). -/
inductive MovePhase where
  | air
  | divert (due : Nat)
  | launch (due : Nat)
  | transit (due : Nat)
  | purging (due : Nat)
  | settle (due : Nat) (after : SettleOf)
  deriving DecidableEq, Repr

/-- The move in flight (R27): a purge has `dir` up toward the lane and down toward the bay (R29, R40). -/
structure Move where
  lane : Lane
  dir : Dir
  origin : Origin
  isPurge : Bool
  phase : MovePhase
  deriving DecidableEq, Repr

/-- The result given with MOVE_FAILED, in the order of section 2.9. -/
inductive MoveResult where
  | waitExpired
  | laneBlocked
  | locationLost
  | locationChanged
  | airFault
  | launchFailed
  | doorOpened
  | fellBack
  | purgeExpired
  deriving DecidableEq, Repr

/-- The Tube Drive. -/
structure TD where
  carriers : Four Carrier
  bays : Four Bay
  queue : List Entry
  diverter : Option Lane
  valve : Option Dir
  move : Option Move
  deriving DecidableEq, Repr

/-! ## Air Supply (R47 to R63) -/

/-- The retained air settings and the retained duty role (R47); the other blower is STANDBY. -/
structure AirSettings where
  duty : AB
  directed : Bool
  idleThreshold : Nat
  refreshInterval : Nat
  autoSwitch : Bool
  deriving DecidableEq, Repr

/-- A blower's health and pressure switch (R47). -/
structure Blower where
  failed : Bool
  switchClosed : Bool
  deriving DecidableEq, Repr

/-- The air states (R48). -/
inductive AirState where
  | economy
  | refresh
  | spinUp
  | ready
  | driving
  | fault
  deriving DecidableEq, Repr

/-- An elapsed-time count: the time gathered and, while it runs, since when (R48, R158). -/
structure Count where
  spent : Nat
  since : Option Nat
  deriving DecidableEq, Repr

/-- The Air Supply. `started` is the duty blower's start while its switch has yet to prove it (R51, R53, R57), and
`closedInRun` that the switch has closed during the refresh run (R57). -/
structure AS where
  set : AirSettings
  blowerA : Blower
  blowerB : Blower
  state : AirState
  demand : Bool
  driveHeld : Bool
  started : Option Nat
  closedInRun : Bool
  idle : Count
  refresh : Count
  deriving DecidableEq, Repr

/-! ## Note Dispenser (R64 to R82) -/

/-- Cassette state (R64). -/
inductive CassState where
  | absent
  | unconfirmed
  | present
  | low
  | empty
  | fault
  deriving DecidableEq, Repr

/-- The retained fields of a cassette record (R64). -/
structure Ledger where
  denomination : Option Nat
  state : CassState
  loaded : Nat
  estimate : Int
  inPath : Nat
  accepted : Nat
  rejected : Nat
  low : Nat
  thickness : Nat
  misses : Nat
  doubles : Nat
  deriving DecidableEq, Repr

/-- A REPLENISH waiting for its record (R78). -/
structure Replenishing where
  tag : Nat
  denomination : Nat
  count : Nat
  nominal : Nat
  low : Nat
  deriving DecidableEq, Repr

/-- A cassette record with its slot's present sensor (R64, R67). -/
structure Cassette where
  kept : Ledger
  committed : Nat
  pending : Option Replenishing
  slot : Bool
  deriving DecidableEq, Repr

/-- The Note Dispenser's states (R69). -/
inductive NDState where
  | idle
  | waiting
  | picking
  | halted
  | clearing
  | fault
  deriving DecidableEq, Repr

/-- What a reading at the gauge says (R72). -/
inductive NoteClass where
  | single
  | double
  | thin
  deriving DecidableEq, Repr

/-- A note at the gauge (R71): the cassette it is charged to (of the pick in flight, or of the last pick for a stray
note), its class and reading T, and the gauge timer's due time. -/
structure Gauge where
  cassette : Option Cass
  stray : Bool
  outcome : NoteClass
  reading : Nat
  due : Nat
  deriving DecidableEq, Repr

/-- A BOX_EMPTIED waiting for its record (R82): its tag, the count it carries and the notes added since. -/
structure Emptying where
  tag : Nat
  count : Nat
  added : Nat
  deriving DecidableEq, Repr

/-- The Note Dispenser with its path record (R69). `stopping` marks a CANCEL_DISPENSE that waits for the pick in flight
(R74); `strayInPath` a stray note stopped in the path (R71, R75). -/
structure ND where
  state : NDState
  cassettes : Four Cassette
  box : Nat
  emptying : Option Emptying
  current : Option Nat
  ceiling : Nat
  rejects : Nat
  pick : Option Cass
  lastPick : Option Cass
  arrivalDue : Option Nat
  gauge : Option Gauge
  strayInPath : Bool
  stopping : Bool
  clearingDue : Option Nat
  safeDoorOpen : Bool
  deriving DecidableEq, Repr

/-! ## Dispense Planner (R83 to R99) -/

/-- The retained dispense settings (R83). -/
structure DispenseSettings where
  capacity : Nat
  noteCeiling : Nat
  duressCeiling : Nat
  rejectCeiling : Nat
  doubleThreshold : Nat
  deriving DecidableEq, Repr

/-- Load state (R86). -/
inductive LoadState where
  | planned
  | picking
  | staged
  | held
  | presenting
  | presented
  | sent
  | delivered
  | awaitingClose
  | closed
  deriving DecidableEq, Repr

/-- Load outcome (R86). -/
inductive LoadOutcome where
  | taken
  | returned
  | purged
  | failed
  | cancelled
  | interrupted
  deriving DecidableEq, Repr

/-- The refusal codes, in the order of section 10.8 (R208). -/
inductive Code where
  | linkBusy
  | starting
  | unknownKind
  | malformed
  | busy
  | laneNotOpen
  | laneBlocked
  | carrierElsewhere
  | carrierBusy
  | contentAbsent
  | contentPresent
  | bayDoorOpen
  | loadOutstanding
  | queueFull
  | tableFull
  | noMix
  | noteCeiling
  | dispenserHalted
  | boxFull
  | binFull
  | binUnconfirmed
  | stampOut
  | journalUnavailable
  | unreconciled
  | segmentInUse
  | duressLock
  | tooLate
  | noSuchLoad
  | wrongState
  deriving DecidableEq, Repr

/-- The TD's answer to a request for a move (R25, R45, R46). -/
inductive SendAnswer where
  | queued (position : Nat)
  | alreadyQueued (position : Nat)
  | refused (code : Code)
  deriving DecidableEq, Repr

/-- A load record (R86) with the SS's fields (R100): the LOAD record's sequence, the stage hold due time, the expiry
mark, the auto-send result and the last reservation refusal. `order` is the cassette order of the load's line (R93). -/
structure Load where
  id : Nat
  lane : Lane
  reference : Nat
  autoSend : Bool
  index : Nat
  count : Nat
  planned : Four Nat
  accepted : Four Nat
  order : List Cass
  amount : Nat
  state : LoadState
  outcome : Option LoadOutcome
  seq : Option Nat
  holdDue : Option Nat
  expiryMarked : Bool
  autoSendResult : Option SendAnswer
  lastRefusal : Option Code
  deriving DecidableEq, Repr

/-- An entry of the dispense queue (R85). -/
structure Request where
  lane : Lane
  reference : Nat
  autoSend : Bool
  asked : Nat
  planned : Nat
  clamped : Bool
  loads : List Nat
  deriving DecidableEq, Repr

/-- The Dispense Planner: settings, dispense queue (head first), load table in order of creation, next load id. -/
structure DP where
  set : DispenseSettings
  queue : List Request
  loads : List Load
  nextId : Nat
  deriving DecidableEq, Repr

/-! ## Stacker and Shuttle (R100 to R122) -/

/-- The pick side (R100). -/
inductive PickSide where
  | empty
  | filling (load notes : Nat)
  | full (load notes : Nat)
  deriving DecidableEq, Repr

/-- The delivery side (R100). -/
inductive DeliverySide where
  | empty
  | holding (load notes : Nat)
  | presenting (load notes : Nat)
  deriving DecidableEq, Repr

/-- Why a withdrawal runs (R110 to R112). -/
inductive WithdrawWhy where
  | aborted
  | pushFailed
  | cancelled
  deriving DecidableEq, Repr

/-- The shuttle: HOME, or at a bay pushing, withdrawing or on its way back, with the due time (R100, R108, R110). -/
inductive Shuttle where
  | home
  | pushing (bay : Lane) (due : Nat)
  | withdrawing (bay : Lane) (due : Nat) (why : WithdrawWhy)
  | returning (bay : Lane) (due : Nat)
  deriving DecidableEq, Repr

/-- A record close the SS owes the JN (R118). -/
structure OwedClose where
  seq : Nat
  outcome : LoadOutcome
  notes : Nat
  deriving DecidableEq, Repr

/-- The Stacker and Shuttle. `closeHanded` marks that the head of the owed-close list stands in the program queue;
`deferred` the cancels that wait for the append of the transfer in progress (R105). -/
structure SS where
  pick : PickSide
  delivery : DeliverySide
  transfer : Option Nat
  shuttle : Shuttle
  stageHold : Nat
  owed : List OwedClose
  closeHanded : Bool
  deferred : List (Nat × Lane)
  deriving DecidableEq, Repr

/-! ## Capture Unit (R123 to R140) -/

/-- The Capture Unit's states (R123). -/
inductive CUState where
  | idle
  | lifting
  | stamping
  | dropping
  | fault
  deriving DecidableEq, Repr

/-- Why the arm returns the envelope (R129, R130). -/
inductive ReturnWhy where
  | liftFailed
  | aborted
  deriving DecidableEq, Repr

/-- The capture record (R123); `opening` holds the tag of the CAPTURE whose record is being appended, `returning` why
the arm is returning, and `due` the due time of the timer the state runs. `stamp` is whether the stamp was printed. -/
structure Capture where
  bay : Lane
  number : Nat
  seq : Option Nat
  opening : Option Nat
  returning : Option ReturnWhy
  duress : Bool
  stamp : Option Bool
  uncounted : Bool
  due : Option Nat
  deriving DecidableEq, Repr

/-- The flags a record may carry (R209), as a set. -/
structure RecFlags where
  duress : Bool
  noStamp : Bool
  aborted : Bool
  dropFault : Bool
  interrupted : Bool
  deriving DecidableEq, Repr

/-- A change in place of a CAPTURE record (R134): flags to program, and when it closes the record the late field if any. -/
structure CaptureChange where
  seq : Nat
  flags : RecFlags
  closes : Bool
  late : Option Nat
  deriving DecidableEq, Repr

/-- Bin state (R124). -/
inductive BinState where
  | confirmed
  | unconfirmed
  | removed
  | doorOpen
  deriving DecidableEq, Repr

/-- The retained depository bin record (R124). -/
structure Bin where
  count : Nat
  capacity : Nat
  state : BinState
  deriving DecidableEq, Repr

/-- The retained capture counter and stamp setting (R126, R138). -/
structure CaptureSettings where
  next : Nat
  exhausted : Bool
  stampRequired : Bool
  deriving DecidableEq, Repr

/-- What the chute printer was told to print: the capture number, the lane and the device clock (R131). -/
structure ChutePrint where
  number : Nat
  lane : Lane
  clock : Nat
  deriving DecidableEq, Repr

/-- A BIN_EXCHANGED waiting for its record (R139): its tag, the outgoing count, and whether the bin door has opened
meanwhile. -/
structure Exchange where
  tag : Nat
  outgoing : Nat
  doorOpened : Bool
  deriving DecidableEq, Repr

/-- The Capture Unit. `print` is the print in progress (R131), `exchange` the pending BIN_EXCHANGED (R139). -/
structure CU where
  state : CUState
  hand : Option Capture
  print : Option ChutePrint
  owed : Option CaptureChange
  owedHanded : Bool
  lateDrop : Bool
  printerReady : Bool
  bin : Bin
  exchange : Option Exchange
  set : CaptureSettings
  binPresent : Bool
  binDoorClosed : Bool
  deriving DecidableEq, Repr

/-! ## Journal (R141 to R167) -/

/-- Segment state (R142). -/
inductive SegState where
  | erased
  | filling
  | full
  | pendingErase
  | erasing
  | bad
  deriving DecidableEq, Repr

/-- A segment: its state, its part of the sequence directory (slot and sequence, in slot order, R153), and whether an
erase of it was begun and has not verified, so that its bytes are in neither clean form (R159, R160). `torn` belongs to
the memory and survives power loss. -/
structure Segment where
  state : SegState
  records : List (Nat × Nat)
  torn : Bool
  deriving DecidableEq, Repr

/-- Kinds of record (R147). -/
inductive RecKind where
  | capture
  | load
  | replenish
  | binExchange
  | boxEmptied
  | alarm
  | power
  deriving DecidableEq, Repr

/-- The early fields of a record to append (R147, section 11.5): `body` is bytes 12 to 25. -/
structure Record where
  kind : RecKind
  lane : Nat
  seq : Nat
  clock : Nat
  body : List Byte
  duress : Bool
  closed : Bool
  deriving DecidableEq, Repr

/-- A change in place (R148): late bytes by slot offset in programming order, flags, and whether it closes. -/
structure Change where
  seq : Nat
  late : List (Nat × Byte)
  flags : RecFlags
  closes : Bool
  deriving DecidableEq, Repr

/-- Who handed a program to the JN, and is told its end (R149, R151). -/
inductive Owner where
  | transfer (load : Nat)
  | loadClose
  | captureOpening
  | captureChange (c : CaptureChange)
  | captureOwed (c : CaptureChange)
  | binExchange
  | replenish (c : Cass)
  | boxEmptied
  | alarm
  | power
  | scan
  | walk
  deriving DecidableEq, Repr

/-- What a program does: an append, a change in place, a reconcile mark, or the scan's VOID mark of a slot (R149, R161). -/
inductive Work where
  | append (r : Record)
  | change (c : Change)
  | mark (seq : Nat)
  | voidSlot (segment slot : Nat)
  deriving DecidableEq, Repr

/-- An entry of the program queue (R149). `redo` holds the byte programs of a change in place whose verify failed: the
retry makes the same again (R150). -/
structure Program where
  owner : Owner
  work : Work
  redo : Option (List (Nat × Byte)) := none
  deriving DecidableEq, Repr

/-- The erase run (R157, R158): its bank, the segments still to come in ascending order, the window's due time while
open, the segment erasing with its erase time, and the segments ended, each with whether it became ERASED. -/
structure EraseRun where
  bank : AB
  waiting : List Nat
  windowDue : Option Nat
  erasing : Option Nat
  spent : Count
  ended : List (Nat × Bool)
  deriving DecidableEq, Repr

/-- A JOURNAL_READ being served (R154): the records found, each by sequence, segment and slot, and whether it is given as a
placeholder because its segment is ERASING or has become so since (R153). -/
structure ReadJob where
  tag : Nat
  found : List (Nat × Nat × Nat × Bool)
  deriving DecidableEq, Repr

/-- A reconcile walk (R155): its tag, its bound, the sequence last passed or marked, and the records marked. -/
structure Walk where
  tag : Nat
  through : Nat
  reached : Option Nat
  marked : Nat
  deriving DecidableEq, Repr

/-- The journal memory: bytes by address, addresses rising, no byte FFh listed (an erased byte reads FFh, R141). -/
abbrev Memory := List Host.Cell

/-- The Journal. `filling` is the append point: segment and next unused slot (R143). `busy` marks that the head of the
queue is being programmed, `reading` that the head of `reads` is being read. `voids` and `interrupted` are the scan's
counts for the POWER record (R165). -/
structure JN where
  mem : Memory
  segs : List Segment
  failed : Bool
  filling : Option (Nat × Nat)
  counter : Nat
  exhausted : Bool
  failures : Nat
  claims : Nat
  queue : List Program
  busy : Bool
  run : Option EraseRun
  reads : List ReadJob
  reading : Bool
  walk : Option Walk
  scanCloses : List Program
  powerLost : Bool
  voids : Nat
  interrupted : Nat
  deriving DecidableEq, Repr

/-! ## Alarm Unit (R168 to R189) -/

/-- The twelve zones (R168). -/
inductive ZoneId where
  | holdupA
  | holdupB
  | safeDoor
  | binDoor
  | tamper (lane : Lane)
  | tubeJam
  | airFail
  | envelopeJam
  | carrierMissing
  deriving DecidableEq, Repr

/-- Zone state (R168). -/
inductive ZoneState where
  | idle
  | delay
  | alarm
  | latched
  | locked
  | unsupervised
  deriving DecidableEq, Repr

/-- A zone record (R168). `heldLatched` is a LATCHED state that the store holds for a TAMPER zone until the start-up
evaluation (R183). -/
structure Zone where
  cause : Bool
  state : ZoneState
  acked : Bool
  delayDue : Option Nat
  windowUntil : Option Nat
  supervised : Bool
  heldLatched : Bool
  deriving DecidableEq, Repr

/-- The zone table (R168). -/
structure Zones where
  holdupA : Zone
  holdupB : Zone
  safeDoor : Zone
  binDoor : Zone
  tamper : Four Zone
  tubeJam : Zone
  airFail : Zone
  envelopeJam : Zone
  carrierMissing : Zone
  deriving DecidableEq, Repr

/-- The sounder run (R181): while PULSING, whether the on-phase runs, its end, and the cutoff. -/
inductive SounderRun where
  | idle
  | pulsing (on : Bool) (phaseDue cutoffDue : Nat)
  | stopped
  deriving DecidableEq, Repr

/-- The Alarm Unit. `missing` is zone 12's missing lanes (R179). -/
structure AU where
  zones : Zones
  safeDelay : Nat
  binDelay : Nat
  missing : Four Bool
  keySwitch : Bool
  run : SounderRun
  period : Nat
  lost : Nat
  deriving DecidableEq, Repr

/-! ## Link Controller (R190 to R207) -/

/-- The per-lane conditions, in the order of section 11.4. -/
inductive LaneCond where
  | call
  | vehicle
  | driveOff
  | station
  | carrierAtBay
  | carrierAtLane
  | moveFailed
  | overdue
  | lateArrival
  | loadHeld
  | loadPresented
  | loadAwaitingClose
  | loadClosed
  | dispenseFailed
  deriving DecidableEq, Repr

/-- A condition instance (R195, section 11.4). -/
inductive Cond where
  | lane (l : Lane) (k : LaneCond)
  | cassette
  | boxHigh
  | pathJam
  | captureDone
  | captureFault
  | binHigh
  | binChange
  | journalLow
  | eraseDone
  | journalFailed
  | zoneChange
  | airChange
  | retainedLost
  deriving DecidableEq, Repr

/-- The fields of a condition instance (R195). -/
structure CondRec where
  isPending : Bool
  enabled : Bool
  snapshot : Option (List Byte)
  deriving DecidableEq, Repr

/-- The eight group kinds set to auto-clear (R195). -/
structure Groups where
  lane : Bool
  carrier : Bool
  load : Bool
  dispenser : Bool
  capture : Bool
  journal : Bool
  alarm : Bool
  air : Bool
  deriving DecidableEq, Repr

/-- An entry of the notice transmit list: the START notice, or a condition instance's number (R196, R206). -/
inductive NoticeEntry where
  | start
  | cond (number : Nat)
  deriving DecidableEq, Repr

/-- A decided reply (R193); `refusal` says it stands in the refusal place (R192), `restart` that it is RESTART's OK. -/
structure Reply where
  kind : Nat
  tag : Nat
  body : List Byte
  refusal : Bool
  restart : Bool
  deriving DecidableEq, Repr

/-- What the frame on the outgoing line is: a reply, a notice whose entry is still in the list, or a frame whose entry
is gone (a notice cleared meanwhile, or a frame begun before a RESTART's start-up). -/
inductive SendingOf where
  | reply
  | notice (e : NoticeEntry)
  | orphan
  deriving DecidableEq, Repr

/-- The frame on the outgoing line (R194). -/
structure Sending where
  what : SendingOf
  kind : Nat
  tag : Nat
  body : List Byte
  deriving DecidableEq, Repr

/-- The receiver's states (R190). -/
inductive RxState where
  | hunt
  | length
  | body
  | check
  deriving DecidableEq, Repr

/-- The receiver with the bytes of the frame read so far, length bytes first (R190). -/
structure Receiver where
  state : RxState
  buffer : List Byte
  deriving DecidableEq, Repr

/-- The kind of the last start (R203). -/
inductive StartKind where
  | powerOn
  | restart
  deriving DecidableEq, Repr

/-- The Link Controller. -/
structure LC where
  rx : Receiver
  outstanding : Nat
  replies : List Reply
  sending : Option Sending
  conds : List CondRec
  auto : Groups
  notices : List NoticeEntry
  dropped : Nat
  clock : Nat
  clockSet : Bool
  lastStart : StartKind
  storeFailed : Bool
  startEnded : Nat
  deriving DecidableEq, Repr

/-! ## The retained store (R204) -/

/-- The retained alarm items (R168, R181). A TAMPER zone is here LATCHED or IDLE; so are the others, but for the two
HOLDUP zones, which are LOCKED or IDLE. -/
structure AlarmKept where
  safeDelay : Nat
  binDelay : Nat
  period : Nat
  lockedA : Bool
  lockedB : Bool
  latchedSafe : Bool
  latchedBin : Bool
  latchedTamper : Four Bool
  latchedJam : Bool
  latchedAir : Bool
  latchedEnvelope : Bool
  deriving DecidableEq, Repr

/-- Every retained item (R204). The device clock is among them with its mark; the backup supply counts it on in each copy
(R201, notes/assumptions/25.md). -/
structure Retained where
  lanes : Four LaneSettings
  air : AirSettings
  ledgers : Four Ledger
  box : Nat
  dispense : DispenseSettings
  stageHold : Nat
  bin : Bin
  capture : CaptureSettings
  alarm : AlarmKept
  clock : Nat
  clockSet : Bool
  deriving DecidableEq, Repr

/-- One copy of the retained store: what it holds, and whether its CRC-16 matches (R204). -/
structure StoreCopy where
  content : Retained
  sound : Bool
  deriving DecidableEq, Repr

/-- The retained store: two copies, and what they held before the last write (a write cut off by a power loss is
lost alone, R204). -/
structure Store where
  first : StoreCopy
  second : StoreCopy
  before : Retained
  deriving DecidableEq, Repr

/-! ## The part -/

/-- The start-up steps that wait for an event (R205): the scan's programs, the POWER record, the enrolments, the note
path clearing, the refresh run. -/
inductive StartStep where
  | scan
  | powerRecord
  | enrolment
  | notePath
  | air
  deriving DecidableEq, Repr

/-- Whether the part is unpowered, in start-up, running, or between RESTART's reply and its start-up (R205, R207);
`replySent` says that the last byte of RESTART's reply has been sent. -/
inductive Phase where
  | off
  | startUp (step : StartStep)
  | running
  | restarting (replySent : Bool)
  deriving DecidableEq, Repr

/-- The whole machine. `pending` is the queue of commands that wait, first in first out, and `now` the elapsed time in
ms: both are the model's own (notes/assumptions/1.md and 3.md). -/
structure State where
  pending : List Instr
  now : Nat
  phase : Phase
  li : LI
  td : TD
  as : AS
  nd : ND
  dp : DP
  ss : SS
  cu : CU
  jn : JN
  au : AU
  lc : LC
  store : Store
  deriving DecidableEq, Repr

/-- Why the machine stops with a fault. No command of the DT-4 does: the manual gives every command an effect, and an
event whose timer or mechanism is not at work changes nothing. The type is closed and has no constructor (safe). -/
inductive Fault where
  deriving DecidableEq, Repr

/-- Why a command is refused by the model (not by the part: a request the part refuses gets its reply). -/
inductive Refusal where
  /-- Raised by a dispatch arm without a meaning. No arm is left so (safe: the run stops). -/
  | notModelled (mnemonic : String)
  deriving DecidableEq, Repr

/-! ## Values after power-on and after a retained-store loss -/

def Features.none : Features := ⟨false, false, false, false⟩
def Features.all : Features := ⟨true, true, true, true⟩
def Reasons.none : Reasons := ⟨false, false, false, false⟩
def RecFlags.none : RecFlags := ⟨false, false, false, false, false⟩
def Groups.none : Groups := ⟨false, false, false, false, false, false, false, false⟩
def Count.zero : Count := ⟨0, Option.none⟩

/-- The defaults of the retained lane fields (R1). -/
def LaneSettings.default : LaneSettings :=
  { enabled := Features.all, isOpen := false, autoRecall := false, waypoints := 0, segTimeout := 8000 }

/-- The defaults of the retained air fields (R47). -/
def AirSettings.default : AirSettings :=
  { duty := .a, directed := false, idleThreshold := 60, refreshInterval := 900, autoSwitch := true }

/-- A cassette's retained fields after a retained-store loss (R64). -/
def Ledger.default : Ledger :=
  { denomination := none, state := .unconfirmed, loaded := 0, estimate := 0, inPath := 0, accepted := 0, rejected := 0,
    low := 100, thickness := 1600, misses := 0, doubles := 0 }

/-- The defaults of the dispense settings (R83). -/
def DispenseSettings.default : DispenseSettings :=
  { capacity := 40, noteCeiling := 150, duressCeiling := 20000, rejectCeiling := 10, doubleThreshold := 170 }

/-- The bin record after a retained-store loss (R124). -/
def Bin.default : Bin := { count := 0, capacity := 800, state := .unconfirmed }

/-- The capture counter and stamp setting after a retained-store loss (R126, R135). -/
def CaptureSettings.default : CaptureSettings := { next := 1, exhausted := false, stampRequired := true }

/-- The retained alarm items after a retained-store loss (R168, R188). -/
def AlarmKept.default : AlarmKept :=
  { safeDelay := 30, binDelay := 30, period := 10, lockedA := false, lockedB := false, latchedSafe := false,
    latchedBin := false, latchedTamper := Four.const false, latchedJam := false, latchedAir := false,
    latchedEnvelope := false }

/-- Every retained item at its default (R204). -/
def Retained.default : Retained :=
  { lanes := Four.const LaneSettings.default, air := AirSettings.default, ledgers := Four.const Ledger.default, box := 0,
    dispense := DispenseSettings.default, stageHold := 180, bin := Bin.default, capture := CaptureSettings.default,
    alarm := AlarmKept.default, clock := 0, clockSet := false }

/-- A lane record at power-on (R1), over its retained fields and its discrete carrier input. The first poll's
acknowledgement is 'not received', for which R7 gives no start value (DESIGN CHOICE, log entry 10). -/
def LaneRec.initial (set : LaneSettings) (input : Bool) : LaneRec :=
  { set := set, kind := .absent, advertised := Features.none, reasons := Reasons.none, carrier := .unsensed,
    door := .unsensed, vehicle := false, text := none, missed := 0, clearDue := none, tamperLevel := false, shown := none,
    answerReceived := false, carrierInput := input }

/-- The Lane Interface at power-on (R1). -/
def LI.initial (sets : Four LaneSettings) (inputs : Four Bool) : LI :=
  { lanes := ⟨.initial sets.v1 inputs.v1, .initial sets.v2 inputs.v2, .initial sets.v3 inputs.v3, .initial sets.v4 inputs.v4⟩,
    bus := .free, enrolWaiting := [], pollsWaiting := [], rescan := none }

/-- The Tube Drive at power-on (R22): locations are derived later (R24) and stand UNKNOWN until then. -/
def TD.initial (bays : Four Bay) : TD :=
  { carriers := Four.const { location := .unknown, reservation := .none, outstanding := none }, bays := bays, queue := [],
    diverter := none, valve := none, move := none }

/-- The Air Supply at power-on (R47, R48, R58). The refresh count stands stopped at 0 until ECONOMY is next entered: R48 has it
run in ECONOMY, and R58 says only that both counts are 0 (DESIGN CHOICE, log entry 15). -/
def AS.initial (set : AirSettings) (switchA switchB : Bool) : AS :=
  { set := set, blowerA := ⟨false, switchA⟩, blowerB := ⟨false, switchB⟩, state := .economy, demand := false,
    driveHeld := false, started := none, closedInRun := false, idle := Count.zero, refresh := Count.zero }

/-- The Note Dispenser at power-on (R64, R69, R77). -/
def ND.initial (ledgers : Four Ledger) (box : Nat) (slots : Four Bool) (doorOpen : Bool) : ND :=
  { state := .idle, cassettes := ⟨⟨ledgers.v1, 0, none, slots.v1⟩, ⟨ledgers.v2, 0, none, slots.v2⟩,
      ⟨ledgers.v3, 0, none, slots.v3⟩, ⟨ledgers.v4, 0, none, slots.v4⟩⟩, box := box, emptying := none, current := none, ceiling := 0, rejects := 0,
    pick := none, lastPick := none, arrivalDue := none, gauge := none, strayInPath := false, stopping := false,
    clearingDue := none, safeDoorOpen := doorOpen }

/-- The Dispense Planner at power-on (R85, R86, R99). -/
def DP.initial (set : DispenseSettings) : DP := { set := set, queue := [], loads := [], nextId := 1 }

/-- The Stacker and Shuttle at power-on (R100): what the sides and the shuttle hold stays until the start-up purge (R102). -/
def SS.initial (stageHold : Nat) (pick : PickSide) (delivery : DeliverySide) (shuttle : Shuttle) : SS :=
  { pick := pick, delivery := delivery, transfer := none, shuttle := shuttle, stageHold := stageHold, owed := [],
    closeHanded := false, deferred := [] }

/-- The Capture Unit at power-on (R123, R124). -/
def CU.initial (set : CaptureSettings) (bin : Bin) (printerReady binPresent binDoorClosed : Bool) : CU :=
  { state := .idle, hand := none, print := none, owed := none, owedHanded := false, lateDrop := false, printerReady := printerReady,
    bin := bin, exchange := none, set := set, binPresent := binPresent, binDoorClosed := binDoorClosed }

/-- The Journal at power-on, before the scan (R143), over its memory and the torn marks of its segments. -/
def JN.initial (mem : Memory) (torn : List Bool) : JN :=
  { mem := mem, segs := torn.map fun t => { state := .erased, records := [], torn := t }, failed := false,
    filling := none, counter := 1, exhausted := false, failures := 0, claims := 0, queue := [], busy := false, run := none,
    reads := [], reading := false, walk := none, scanCloses := [], powerLost := false, voids := 0, interrupted := 0 }

/-- A zone at power-on (R183), over its cause's level and the state the store gives it. -/
def Zone.initial (cause : Bool) (state : ZoneState) (held : Bool) : Zone :=
  { cause := cause, state := state, acked := false, delayDue := none, windowUntil := none, supervised := false,
    heldLatched := held }

/-- LATCHED or IDLE, as the store holds it. -/
def latchedIf (b : Bool) : ZoneState := if b then .latched else .idle

/-- LOCKED or IDLE, as the store holds it. -/
def lockedIf (b : Bool) : ZoneState := if b then .locked else .idle

/-- The Alarm Unit at power-on (R183), over its retained items and the levels of its wired inputs. -/
def AU.initial (k : AlarmKept) (inputA inputB safeOpen binOpen key : Bool) : AU :=
  { zones :=
      { holdupA := .initial inputA (lockedIf k.lockedA) false, holdupB := .initial inputB (lockedIf k.lockedB) false,
        safeDoor := .initial safeOpen (latchedIf k.latchedSafe) false, binDoor := .initial binOpen (latchedIf k.latchedBin) false,
        tamper := ⟨.initial false .unsupervised k.latchedTamper.v1, .initial false .unsupervised k.latchedTamper.v2,
          .initial false .unsupervised k.latchedTamper.v3, .initial false .unsupervised k.latchedTamper.v4⟩,
        tubeJam := .initial false (latchedIf k.latchedJam) false,
        airFail := .initial false (latchedIf k.latchedAir) false,
        envelopeJam := .initial false (latchedIf k.latchedEnvelope) false,
        carrierMissing := .initial false .idle false },
    safeDelay := k.safeDelay, binDelay := k.binDelay, missing := Four.const false, keySwitch := key, run := .idle,
    period := k.period, lost := 0 }

/-- The Link Controller at power-on (R190, R192, R195, R205). -/
def LC.initial (clock : Nat) (clockSet : Bool) (kind : StartKind) (storeFailed : Bool) : LC :=
  { rx := { state := .hunt, buffer := [] }, outstanding := 0, replies := [], sending := none,
    conds := List.replicate Config.conditions { isPending := false, enabled := false, snapshot := none },
    auto := Groups.none, notices := [], dropped := 0, clock := clock, clockSet := clockSet, lastStart := kind,
    storeFailed := storeFailed, startEnded := 0 }

/-- The machine at reset: every field at its power-on value, the retained items at their defaults, the journal memory
erased, the mechanisms at rest (bays empty with their doors shut, the safe and the bin shut, the printer READY), and the
part waiting for POWER_ON. What the manual gives no value for is named in notes/assumptions/4.md (DESIGN CHOICE). -/
def State.reset : State :=
  { pending := [], now := 0, phase := .off,
    li := LI.initial Retained.default.lanes (Four.const false),
    td := TD.initial (Four.const { present := false, content := false, doorClosed := true }),
    as := AS.initial AirSettings.default false false,
    nd := ND.initial (Four.const Ledger.default) 0 (Four.const false) false,
    dp := DP.initial DispenseSettings.default,
    ss := SS.initial 180 .empty .empty .home,
    cu := CU.initial CaptureSettings.default Bin.default true true true,
    jn := JN.initial [] (List.replicate Config.segments false),
    au := AU.initial AlarmKept.default false false false false false,
    lc := LC.initial 0 false .powerOn false,
    store := { first := { content := Retained.default, sound := true }, second := { content := Retained.default, sound := true },
               before := Retained.default } }

end Sys2Proof.Machine
end

