-- ==== Sys2Proof/Machine/Ops.lean ====
section
/-! DEFINITION. The named operations the blocks share: encoding numbers into bytes (R208), the CRC-16 (R190), the journal
memory (R141), the elapsed time and its counts, the retained store (R204), and updates of one record of a block. -/

namespace Sys2Proof.Machine

/-! ## Bytes (R208): every number goes with its high byte first -/

def u8 (n : Nat) : List Byte := [BitVec.ofNat 8 n]
def u16 (n : Nat) : List Byte := [BitVec.ofNat 8 (n / 256), BitVec.ofNat 8 n]
def u24 (n : Nat) : List Byte := [BitVec.ofNat 8 (n / 65536), BitVec.ofNat 8 (n / 256), BitVec.ofNat 8 n]
def u32 (n : Nat) : List Byte :=
  [BitVec.ofNat 8 (n / 16777216), BitVec.ofNat 8 (n / 65536), BitVec.ofNat 8 (n / 256), BitVec.ofNat 8 n]

/-- A signed number in two bytes, two's complement (R208). -/
def i16 (z : Int) : List Byte := u16 (BitVec.ofInt 16 z).toNat

/-- On/off or yes/no: 01h or 00h (R208). -/
def yesNo (b : Bool) : List Byte := u8 (if b then 1 else 0)

/-- An optional field of a given length: a presence byte, and FFh bytes where it is absent (R208). -/
def optional (len : Nat) : Option (List Byte) → List Byte
  | some bs => 0x01#8 :: bs
  | none => 0x00#8 :: List.replicate len 0xFF#8

/-- A text: a count byte and the characters (R208). -/
def textBytes (t : List Byte) : List Byte := u8 t.length ++ t

/-- A set of instances or of group kinds: a count byte and the numbers (R208). -/
def numberSet (ns : List Nat) : List Byte := u8 ns.length ++ ns.flatMap u8

/-- A set coded in one byte, bit k−1 for the k-th member (R208). -/
def bitSet : List Bool → Nat
  | [] => 0
  | b :: bs => (if b then 1 else 0) + 2 * bitSet bs

/-- The number a run of bytes spells, high byte first (R208). -/
def number (bs : List Byte) : Nat := bs.foldl (fun n b => n * 256 + b.toNat) 0

/-! ## CRC-16 (R190): x^16 + x^12 + x^5 + 1, from FFFFh, MSB first, no final XOR -/

def crcBit (crc : BitVec 16) (b : Bool) : BitVec 16 :=
  if (crc.getLsbD 15).xor b then (crc <<< 1) ^^^ 0x1021#16 else crc <<< 1

def crcByte (crc : BitVec 16) (b : Byte) : BitVec 16 :=
  ([7, 6, 5, 4, 3, 2, 1, 0].map b.getLsbD).foldl crcBit crc

def crc16 (bs : List Byte) : BitVec 16 := bs.foldl crcByte 0xFFFF#16

def crcBytes (bs : List Byte) : List Byte := u16 (crc16 bs).toNat

/-! ## The journal memory (R141): an unlisted address reads FFh, as an erased byte does -/

/-- What an unlisted address reads as. -/
def Memory.erasedByte : Byte := 0xFF#8

/-- The byte at an address. -/
def Memory.read : Memory → Nat → Byte
  | [], _ => Memory.erasedByte
  | (a, v) :: m, addr => if addr = a then v else if addr < a then Memory.erasedByte else Memory.read m addr

/-- An entry in front of a memory, left out where it reads as an unlisted address does. -/
def Memory.entry (addr : Nat) (v : Byte) (m : Memory) : Memory :=
  if v = Memory.erasedByte then m else (addr, v) :: m

/-- The memory with one byte replaced, in canonical form. -/
def Memory.write : Memory → Nat → Byte → Memory
  | [], addr, v => Memory.entry addr v []
  | (a, w) :: m, addr, v =>
    if addr = a then Memory.entry addr v m
    else if addr < a then Memory.entry addr v ((a, w) :: m)
    else (a, w) :: Memory.write m addr v

/-- Programming turns bits from 1 to 0 and no bit back (R141). -/
def Memory.program (m : Memory) (addr : Nat) (v : Byte) : Memory := m.write addr (m.read addr &&& v)

/-- Erasing returns every byte of a range to FFh (R141). -/
def Memory.eraseRange (m : Memory) (lo len : Nat) : Memory := m.filter fun c => decide (c.1 < lo ∨ lo + len ≤ c.1)

/-- Canonical form: addresses strictly rising from `lo`, no byte that an unlisted address reads as. -/
def Memory.wfFrom : Nat → Memory → Bool
  | _, [] => true
  | lo, (a, v) :: m => decide (lo ≤ a) && decide (v ≠ Memory.erasedByte) && Memory.wfFrom (a + 1) m

/-- The memory is in canonical form. -/
def Memory.wf (m : Memory) : Bool := Memory.wfFrom 0 m

/-- The address of a byte of a slot: 16 segments of 128 slots of 32 bytes (R141). -/
def slotAddress (segment slot offset : Nat) : Nat :=
  (segment * Config.slotsPerSegment + slot) * Config.slotBytes + offset

/-- The first address of a segment. -/
def segmentAddress (segment : Nat) : Nat := slotAddress segment 0 0

/-- Bytes of a segment. -/
def segmentBytes : Nat := Config.slotsPerSegment * Config.slotBytes

/-- `len` bytes of a slot from an offset. -/
def slotRead (m : Memory) (segment slot offset len : Nat) : List Byte :=
  (List.range len).map fun k => m.read (slotAddress segment slot (offset + k))

/-! ## Elapsed time -/

/-- A count's value at an elapsed time (R48, R158). -/
def Count.value (c : Count) (now : Nat) : Nat :=
  match c.since with
  | some t => c.spent + (now - t)
  | none => c.spent

/-- A count running from 0. -/
def Count.start (now : Nat) : Count := { spent := 0, since := some now }

/-- A count stopped at its value. -/
def Count.stop (c : Count) (now : Nat) : Count := { spent := c.value now, since := none }

/-- A count running on from its value. -/
def Count.resume (c : Count) (now : Nat) : Count :=
  match c.since with
  | some _ => c
  | none => { c with since := some now }

/-- The elapsed time at which a running count reaches a value. -/
def Count.reaches (c : Count) (target : Nat) : Option Nat := c.since.map fun t => t + (target - c.spent)

/-- An expiry command says that its timer's due time has come: the elapsed time moves up to it, never back. -/
def State.reach (s : State) (due : Nat) : State := { s with now := max s.now due }

/-- Whole seconds of a number of ms, rounded down. -/
def seconds (ms : Nat) : Nat := ms / 1000

/-! ## The retained store (R204) -/

/-- The retained items as they stand. A TAMPER zone's LATCHED state held for the start-up evaluation is kept (R183). -/
def State.retained (s : State) : Retained :=
  { lanes := s.li.lanes.map (·.set), air := s.as.set, ledgers := s.nd.cassettes.map (·.kept), box := s.nd.box,
    dispense := s.dp.set, stageHold := s.ss.stageHold, bin := s.cu.bin, capture := s.cu.set,
    alarm :=
      { safeDelay := s.au.safeDelay, binDelay := s.au.binDelay, period := s.au.period,
        lockedA := s.au.zones.holdupA.state == .locked, lockedB := s.au.zones.holdupB.state == .locked,
        latchedSafe := s.au.zones.safeDoor.state == .latched, latchedBin := s.au.zones.binDoor.state == .latched,
        latchedTamper := s.au.zones.tamper.map fun z => z.state == .latched || z.heldLatched,
        latchedJam := s.au.zones.tubeJam.state == .latched, latchedAir := s.au.zones.airFail.state == .latched,
        latchedEnvelope := s.au.zones.envelopeJam.state == .latched },
    clock := s.lc.clock, clockSet := s.lc.clockSet }

/-- The retained items written to both copies, in the step of their change (R204). A step that changes none writes
nothing. -/
def State.writeStore (s : State) : State :=
  if s.store.first.content = s.retained ∧ s.store.first.sound ∧ s.store.second.content = s.retained ∧ s.store.second.sound
  then s
  else { s with store := { first := { content := s.retained, sound := true },
                           second := { content := s.retained, sound := true },
                           before := s.store.first.content } }

/-! ## One record of a block changed -/

def State.modLane (s : State) (l : Lane) (f : LaneRec → LaneRec) : State :=
  { s with li := { s.li with lanes := s.li.lanes.modify l f } }

def State.modCarrier (s : State) (l : Lane) (f : Carrier → Carrier) : State :=
  { s with td := { s.td with carriers := s.td.carriers.modify l f } }

def State.modBay (s : State) (l : Lane) (f : Bay → Bay) : State :=
  { s with td := { s.td with bays := s.td.bays.modify l f } }

def State.modCass (s : State) (c : Cass) (f : Cassette → Cassette) : State :=
  { s with nd := { s.nd with cassettes := s.nd.cassettes.modify c f } }

/-- A live load's record changed; no other record is touched. -/
def State.modLoad (s : State) (id : Nat) (f : Load → Load) : State :=
  { s with dp := { s.dp with loads := s.dp.loads.map fun ld => if ld.id = id then f ld else ld } }

def State.laneRec (s : State) (l : Lane) : LaneRec := s.li.lanes.get l
def State.carrier (s : State) (l : Lane) : Carrier := s.td.carriers.get l
def State.bay (s : State) (l : Lane) : Bay := s.td.bays.get l
def State.cass (s : State) (c : Cass) : Cassette := s.nd.cassettes.get c

/-- The live load of an id. -/
def State.load (s : State) (id : Nat) : Option Load := s.dp.loads.find? fun ld => ld.id = id

/-- The zone of an id (R168). -/
def Zones.get (z : Zones) : ZoneId → Zone
  | .holdupA => z.holdupA
  | .holdupB => z.holdupB
  | .safeDoor => z.safeDoor
  | .binDoor => z.binDoor
  | .tamper l => z.tamper.get l
  | .tubeJam => z.tubeJam
  | .airFail => z.airFail
  | .envelopeJam => z.envelopeJam
  | .carrierMissing => z.carrierMissing

/-- The zone table with one zone replaced. -/
def Zones.set (z : Zones) (i : ZoneId) (r : Zone) : Zones :=
  match i with
  | .holdupA => { z with holdupA := r }
  | .holdupB => { z with holdupB := r }
  | .safeDoor => { z with safeDoor := r }
  | .binDoor => { z with binDoor := r }
  | .tamper l => { z with tamper := z.tamper.set l r }
  | .tubeJam => { z with tubeJam := r }
  | .airFail => { z with airFail := r }
  | .envelopeJam => { z with envelopeJam := r }
  | .carrierMissing => { z with carrierMissing := r }

def State.zone (s : State) (i : ZoneId) : Zone := s.au.zones.get i

def State.modZone (s : State) (i : ZoneId) (f : Zone → Zone) : State :=
  { s with au := { s.au with zones := s.au.zones.set i (f (s.au.zones.get i)) } }

/-- The zone number (R168). -/
def ZoneId.num : ZoneId → Nat
  | .holdupA => 1
  | .holdupB => 2
  | .safeDoor => 3
  | .binDoor => 4
  | .tamper l => 4 + l.num
  | .tubeJam => 9
  | .airFail => 10
  | .envelopeJam => 11
  | .carrierMissing => 12

/-- The zones in zone order. -/
def ZoneId.all : List ZoneId :=
  [.holdupA, .holdupB, .safeDoor, .binDoor, .tamper .i1, .tamper .i2, .tamper .i3, .tamper .i4, .tubeJam, .airFail,
    .envelopeJam, .carrierMissing]

/-- The zone of a number; absent outside 1 to 12. -/
def ZoneId.ofNum (n : Nat) : Option ZoneId := ZoneId.all.find? fun z => z.num = n

/-- The zone of a door. -/
def doorZone : Door → ZoneId
  | .safe => .safeDoor
  | .bin => .binDoor

/-- Some step of start-up has not ended, or RESTART's start-up has not begun: frames are answered STARTING (R191, R207). -/
def State.started (s : State) : Bool := s.phase == .running

/-- The mechanisms' commands are served: start-up has ended, or a RESTART waits for its start-up. -/
def State.live (s : State) : Bool :=
  match s.phase with
  | .running => true
  | .restarting _ => true
  | _ => false

/-- The part is powered. -/
def State.powered (s : State) : Bool := s.phase != .off

end Sys2Proof.Machine
end

