-- ==== Sys2Proof/Decode.lean ====
section
/-! DEFINITION. Words and frames as commands. No row of spec/opcode_table.json gives bits to its fields (its lists of fields
are empty), so no word spells a command. What spells a request is a frame of the host line: its kind, tag and body (R191,
sections 11.1 to 11.3), read here by `requestOf` and written by `requestFrame`. -/

namespace Sys2Proof

/-- The command a word spells by the table's bits: none, as the table gives no row any. -/
def decodeTableWord (_nbits _w : Nat) : Option Instr := none

open Machine (number u8 u16 u24 u32 numberSet textBytes)

/-! ## Reading a body (R208) -/

/-- The byte's number. -/
def nat (v : Byte) : Nat := v.toNat

/-- A counted list of bytes at the front of a body, and the rest. -/
def countedList : List Byte → Option (List Byte × List Byte)
  | [] => none
  | n :: rest => if n.toNat ≤ rest.length then some (rest.take n.toNat, rest.drop n.toNat) else none

/-- A body that is one counted list. -/
def wholeList (body : List Byte) : Option (List Byte) :=
  match countedList body with
  | some (ns, []) => some ns
  | _ => none

/-- A body that is two counted lists. -/
def twoLists (body : List Byte) : Option (List Byte × List Byte) :=
  match countedList body with
  | some (ns, rest) => (wholeList rest).map fun ms => (ns, ms)
  | none => none

/-- A body without fields. -/
def noFields (i : Instr) : List Byte → Option Instr
  | [] => some i
  | _ => none

/-- A body of one byte. -/
def oneByte (f : Nat → Instr) : List Byte → Option Instr
  | [v] => some (f (nat v))
  | _ => none

/-- A body of two bytes, a field each. -/
def twoBytes (f : Nat → Nat → Instr) : List Byte → Option Instr
  | [v, w] => some (f (nat v) (nat w))
  | _ => none

/-- A body of one number of four bytes. -/
def oneNumber (f : Nat → Instr) : List Byte → Option Instr
  | [v3, v2, v1, v0] => some (f (number [v3, v2, v1, v0]))
  | _ => none

/-- LANE_SETTINGS (R15). -/
def readLaneSettings (tag : Nat) : List Byte → Option Instr
  | [lane, features, waypoints, t1, t0, auto] =>
    some (.laneSettings tag (nat lane) (nat features) (nat waypoints) (number [t1, t0]) (nat auto))
  | _ => none

/-- LANE_TEXT: the lane and a text (R18). -/
def readLaneText (tag : Nat) : List Byte → Option Instr
  | lane :: rest => (wholeList rest).map fun text => .laneText tag (nat lane) text
  | [] => none

/-- RESCAN: an optional lane (R20, R21). -/
def readRescan (tag : Nat) : List Byte → Option Instr
  | [one, lane] =>
    if one = 0x00#8 ∧ lane = 0xFF#8 then some (.rescanAllLanes tag)
    else if one = 0x01#8 then some (.rescan tag (nat lane)) else none
  | _ => none

/-- AIR_SETTINGS (R59). -/
def readAirSettings (tag : Nat) : List Byte → Option Instr
  | [mode, i1, i0, r1, r0, auto, duty] =>
    some (.airSettings tag (nat mode) (number [i1, i0]) (number [r1, r0]) (nat auto) (nat duty))
  | _ => none

/-- REPLENISH (R78). -/
def readReplenish (tag : Nat) : List Byte → Option Instr
  | [c, d2, d1, d0, n1, n0, t1, t0, l1, l0] =>
    some (.replenish tag (nat c) (number [d2, d1, d0]) (number [n1, n0]) (number [t1, t0]) (number [l1, l0]))
  | _ => none

/-- DISPENSE_SETTINGS (R84). -/
def readDispenseSettings (tag : Nat) : List Byte → Option Instr
  | [k, n, d2, d1, d0, r, t] => some (.dispenseSettings tag (nat k) (nat n) (number [d2, d1, d0]) (nat r) (nat t))
  | _ => none

/-- DISPENSE (R87). -/
def readDispense (tag : Nat) : List Byte → Option Instr
  | [lane, a3, a2, a1, a0, auto, r1, r0] =>
    some (.dispense tag (nat lane) (number [a3, a2, a1, a0]) (nat auto) (number [r1, r0]))
  | _ => none

/-- STACKER_SETTINGS (R122). -/
def readStackerSettings (tag : Nat) : List Byte → Option Instr
  | [h1, h0] => some (.stackerSettings tag (number [h1, h0]))
  | _ => none

/-- CAPTURE_SETTINGS (R138). -/
def readCaptureSettings (tag : Nat) : List Byte → Option Instr
  | [stamp, c1, c0] => some (.captureSettings tag (nat stamp) (number [c1, c0]))
  | _ => none

/-- JOURNAL_READ (R154). -/
def readJournalRead (tag : Nat) : List Byte → Option Instr
  | [q3, q2, q1, q0, n] => some (.journalRead tag (number [q3, q2, q1, q0]) (nat n))
  | _ => none

/-- CONDITIONS_ENABLE: two sets (R198). -/
def readConditionsEnable (tag : Nat) (body : List Byte) : Option Instr :=
  (twoLists body).map fun x => .conditionsEnable tag (x.1.map nat) (x.2.map nat)

/-- CONDITIONS_CLEAR: a set (R200). -/
def readConditionsClear (tag : Nat) (body : List Byte) : Option Instr :=
  (wholeList body).map fun ns => .conditionsClear tag (ns.map nat)

/-! ## The request kinds (section 11.3) -/

/-- The lane and tube drive kinds with how their bodies are read (chapters 1 and 2). -/
def laneRows : List (Nat × (Nat → List Byte → Option Instr)) :=
  [ (0x10, readLaneSettings), (0x11, fun tag => oneByte (.openLane tag)), (0x12, fun tag => oneByte (.closeLane tag)),
    (0x13, readLaneText), (0x14, fun tag => oneByte (.laneStatus tag)), (0x15, readRescan),
    (0x18, fun tag => oneByte (.send tag)), (0x19, fun tag => oneByte (.recall tag)),
    (0x1A, fun tag => twoBytes (.purge tag)) ]

/-- The air, cassette, dispense and load kinds (chapters 3 to 6). -/
def noteRows : List (Nat × (Nat → List Byte → Option Instr)) :=
  [ (0x20, readAirSettings), (0x21, fun tag => noFields (.airEconomy tag)), (0x22, fun tag => noFields (.airWake tag)),
    (0x23, fun tag => oneByte (.airReset tag)), (0x24, fun tag => noFields (.airStatus tag)),
    (0x28, readReplenish), (0x29, fun tag => oneByte (.confirm tag)), (0x2A, fun tag => noFields (.cassetteStatus tag)),
    (0x2B, fun tag => noFields (.clearPath tag)), (0x2C, fun tag => noFields (.boxEmptied tag)),
    (0x30, readDispenseSettings), (0x31, readDispense), (0x32, fun tag => oneByte (.cancelDispense tag)),
    (0x34, fun tag => oneByte (.loadStatus tag)), (0x35, fun tag => twoBytes (.loadClose tag)), (0x36, readStackerSettings) ]

/-- The capture and journal kinds (chapters 7 and 8). -/
def recordRows : List (Nat × (Nat → List Byte → Option Instr)) :=
  [ (0x38, fun tag => oneByte (.capture tag)), (0x39, fun tag => oneByte (.captureClear tag)),
    (0x3A, fun tag => noFields (.captureStatus tag)), (0x3B, readCaptureSettings),
    (0x3C, fun tag => noFields (.binExchanged tag)), (0x3D, fun tag => noFields (.binConfirm tag)),
    (0x40, fun tag => noFields (.journalStatus tag)), (0x41, readJournalRead),
    (0x42, fun tag => oneNumber (.journalReconcile tag)), (0x43, fun tag => oneByte (.journalErase tag)),
    (0x44, fun tag => noFields (.journalRecover tag)) ]

/-- The alarm kinds and the LC's own (chapters 9 and 10). -/
def unitRows : List (Nat × (Nat → List Byte → Option Instr)) :=
  [ (0x48, fun tag => twoBytes (.zoneSettings tag)), (0x49, fun tag => twoBytes (.authorize tag)),
    (0x4A, fun tag => oneByte (.ackZone tag)), (0x4B, fun tag => noFields (.sounderSilence tag)),
    (0x4C, fun tag => oneByte (.sounderSettings tag)), (0x4D, fun tag => noFields (.alarmStatus tag)),
    (0x50, readConditionsEnable), (0x51, fun tag => noFields (.conditionsRead tag)), (0x52, readConditionsClear),
    (0x53, fun tag => oneNumber (.setTime tag)), (0x54, fun tag => noFields (.identify tag)),
    (0x55, fun tag => noFields (.restart tag)) ]

/-- Every request kind with how its body is read. -/
def requestRows : List (Nat × (Nat → List Byte → Option Instr)) := laneRows ++ noteRows ++ recordRows ++ unitRows

/-- The request a frame spells; absent where the kind is no request's or the body length does not fit it (R191, R208). -/
def requestOf (kind tag : Nat) (body : List Byte) : Option Instr :=
  (requestRows.find? fun r => r.1 = kind).bind fun r => r.2 tag body

/-! ## Writing a frame (sections 11.1 to 11.3) -/

/-- The kind, tag and body of a request's frame; absent for an event, which no frame spells. -/
def requestFrame (i : Instr) : Option (Nat × Nat × List Byte) :=
  match i with
  | .laneSettings tag lane features waypoints timeout auto =>
    some (0x10, tag, u8 lane ++ u8 features ++ u8 waypoints ++ u16 timeout ++ u8 auto)
  | .openLane tag lane => some (0x11, tag, u8 lane)
  | .closeLane tag lane => some (0x12, tag, u8 lane)
  | .laneText tag lane text => some (0x13, tag, u8 lane ++ textBytes text)
  | .laneStatus tag lane => some (0x14, tag, u8 lane)
  | .rescan tag lane => some (0x15, tag, 0x01#8 :: u8 lane)
  | .rescanAllLanes tag => some (0x15, tag, [0x00#8, 0xFF#8])
  | .send tag lane => some (0x18, tag, u8 lane)
  | .recall tag lane => some (0x19, tag, u8 lane)
  | .purge tag lane towards => some (0x1A, tag, u8 lane ++ u8 towards)
  | .airSettings tag mode idle refresh auto duty =>
    some (0x20, tag, u8 mode ++ u16 idle ++ u16 refresh ++ u8 auto ++ u8 duty)
  | .airEconomy tag => some (0x21, tag, [])
  | .airWake tag => some (0x22, tag, [])
  | .airReset tag blower => some (0x23, tag, u8 blower)
  | .airStatus tag => some (0x24, tag, [])
  | .replenish tag cassette denomination count nominal low =>
    some (0x28, tag, u8 cassette ++ u24 denomination ++ u16 count ++ u16 nominal ++ u16 low)
  | .confirm tag cassette => some (0x29, tag, u8 cassette)
  | .cassetteStatus tag => some (0x2A, tag, [])
  | .clearPath tag => some (0x2B, tag, [])
  | .boxEmptied tag => some (0x2C, tag, [])
  | .dispenseSettings tag capacity noteCeiling duressCeiling rejectCeiling threshold =>
    some (0x30, tag, u8 capacity ++ u8 noteCeiling ++ u24 duressCeiling ++ u8 rejectCeiling ++ u8 threshold)
  | .dispense tag lane amount autoSend reference =>
    some (0x31, tag, u8 lane ++ u32 amount ++ u8 autoSend ++ u16 reference)
  | .cancelDispense tag lane => some (0x32, tag, u8 lane)
  | .loadStatus tag lane => some (0x34, tag, u8 lane)
  | .loadClose tag load outcome => some (0x35, tag, u8 load ++ u8 outcome)
  | .stackerSettings tag hold => some (0x36, tag, u16 hold)
  | .capture tag bay => some (0x38, tag, u8 bay)
  | .captureClear tag disposition => some (0x39, tag, u8 disposition)
  | .captureStatus tag => some (0x3A, tag, [])
  | .captureSettings tag stamp capacity => some (0x3B, tag, u8 stamp ++ u16 capacity)
  | .binExchanged tag => some (0x3C, tag, [])
  | .binConfirm tag => some (0x3D, tag, [])
  | .journalStatus tag => some (0x40, tag, [])
  | .journalRead tag start count => some (0x41, tag, u32 start ++ u8 count)
  | .journalReconcile tag through => some (0x42, tag, u32 through)
  | .journalErase tag segment => some (0x43, tag, u8 segment)
  | .journalRecover tag => some (0x44, tag, [])
  | .zoneSettings tag zone delay => some (0x48, tag, u8 zone ++ u8 delay)
  | .authorize tag zone minutes => some (0x49, tag, u8 zone ++ u8 minutes)
  | .ackZone tag zone => some (0x4A, tag, u8 zone)
  | .sounderSilence tag => some (0x4B, tag, [])
  | .sounderSettings tag period => some (0x4C, tag, u8 period)
  | .alarmStatus tag => some (0x4D, tag, [])
  | .conditionsEnable tag enabled autoClear => some (0x50, tag, numberSet enabled ++ numberSet autoClear)
  | .conditionsRead tag => some (0x51, tag, [])
  | .conditionsClear tag cleared => some (0x52, tag, numberSet cleared)
  | .setTime tag seconds => some (0x53, tag, u32 seconds)
  | .identify tag => some (0x54, tag, [])
  | .restart tag => some (0x55, tag, [])
  | .powerOn .. | .restartStartUp | .deviceClockTick | .frameTaken .. | .frameDropped .. | .interByteTimeout
  | .frameSent | .enrolmentStart | .identAnswer .. | .identTimeout .. | .pollDue .. | .pollAnswer ..
  | .pollAnswerTimeout | .basicSendEdge .. | .basicCallEdge .. | .basicCarrierPresentChange ..
  | .vehicleClearExpiry .. | .arbiterGrant | .divertSettleDone | .launchTimeout | .bayCarrierPresentChange ..
  | .bayContentChange .. | .bayDoorChange .. | .waypointPass .. | .transitTimeout | .settleEnd | .purgeTimeout
  | .queueWaitExpiry .. | .pressureSwitchClose .. | .pressureSwitchOpen .. | .spinUpLimit | .idleThresholdReached
  | .refreshDue | .refreshRunEnd | .cassetteSensorChange .. | .loadHandOver | .pickingStart | .pickMiss
  | .noteAtGauge .. | .noteLeavesGauge | .gaugeTimeout | .safeDoorChange .. | .clearingEnd ..
  | .deferredCancelDispense | .transferStart | .presentingReservationRequest | .pushTimeout | .withdrawalEnd
  | .shuttleHome | .stageHoldExpiry | .armRelease | .liftTimeout | .armReturnEnd | .printReport .. | .printTimeout
  | .printerStateChange .. | .dropSensed | .dropTimeout | .binDoorChange .. | .binPresentChange ..
  | .journalProgramDone .. | .eraseWindowExpiry | .eraseVerify | .eraseLimit | .journalReadDone
  | .holdupInputChange .. | .keySwitchEdge .. | .entryDelayExpiry .. | .windowExpiry .. | .sounderPhaseEnd
  | .sounderCutoff | .powerLoss .. => none

end Sys2Proof
end

