-- ==== Sys2Proof/Machine/Flags.lean ====
section
/-! DEFINITION. What is derived from the stored fields (lane state, resolved features, displayed text, lamp, bay content,
outputs, duress, availability, free slots), the codes of named values (R208), and the condition set: raising and clearing
an instance, and its notice entry (R195 to R197). -/

namespace Sys2Proof.Machine

/-! ## Derived levels -/

/-- advertised ∩ enabled (R3). -/
def LaneRec.resolved (r : LaneRec) : Features :=
  { vehicleLoop := r.advertised.vehicleLoop && r.set.enabled.vehicleLoop,
    tamperSwitch := r.advertised.tamperSwitch && r.set.enabled.tamperSwitch,
    laneDisplay := r.advertised.laneDisplay && r.set.enabled.laneDisplay,
    carrierDoor := r.advertised.carrierDoor && r.set.enabled.carrierDoor }

/-- No reason is held. -/
def Reasons.isEmpty (r : Reasons) : Bool := !(r.stationLost || r.jam || r.carrierUnknown || r.tamper)

/-- The lane state (R2): OUT_OF_SERVICE while a reason is held, else the open choice. -/
def LaneRec.state (r : LaneRec) : LaneState :=
  if r.reasons.isEmpty then (if r.set.isOpen then .opened else .closed) else .outOfService

/-- The displayed text (R13): the display text (an empty line when absent), LANE CLOSED, or PLEASE WAIT. -/
def LaneRec.displayed (r : LaneRec) : List Byte :=
  match r.state with
  | .opened => r.text.getD []
  | .closed => [0x4C#8, 0x41#8, 0x4E#8, 0x45#8, 0x20#8, 0x43#8, 0x4C#8, 0x4F#8, 0x53#8, 0x45#8, 0x44#8]
  | .outOfService => [0x50#8, 0x4C#8, 0x45#8, 0x41#8, 0x53#8, 0x45#8, 0x20#8, 0x57#8, 0x41#8, 0x49#8, 0x54#8]

/-- The reasons that forbid a direction (R26). -/
def Reasons.forbid (r : Reasons) : Dir → Bool
  | .up => r.stationLost || r.jam || r.carrierUnknown || r.tamper
  | .down => r.stationLost || r.jam || r.carrierUnknown

/-- A SETTLE of the lane's move is running (R23). -/
def TD.settling (td : TD) (l : Lane) : Bool :=
  match td.move with
  | some m => m.lane == l && (match m.phase with | .settle _ _ => true | _ => false)
  | none => false

/-- A bay sensor's reading as content. -/
def sensedContent (b : Bay) : Content := if b.content then .content else .empty

/-- The bay content of a carrier (R23): the content sensor while the carrier is AT_BAY and present and no SETTLE of its
move runs, else UNSENSED. -/
def TD.content (td : TD) (l : Lane) : Content :=
  if (td.carriers.get l).location = .atBay ∧ (td.bays.get l).present ∧ ¬ td.settling l
  then sensedContent (td.bays.get l) else .unsensed

def State.bayContent (s : State) (l : Lane) : Content := s.td.content l

/-- The move in flight is for the lane (a purge included). -/
def TD.moves (td : TD) (l : Lane) : Bool :=
  match td.move with
  | some m => m.lane == l
  | none => false

/-- The lane's entry in the transit queue. -/
def TD.entry (td : TD) (l : Lane) : Option Entry := td.queue.find? fun e => e.lane = l

/-- An entry's place counted from the oldest, 1 to 4 (R45). -/
def TD.position (td : TD) (l : Lane) : Nat := td.queue.findIdx (fun e => e.lane = l) + 1

/-- The duress flag (R171): at least one HOLDUP zone is LOCKED. -/
def AU.duress (au : AU) : Bool := au.zones.holdupA.state == .locked || au.zones.holdupB.state == .locked

/-- The class of a zone (R168). -/
inductive ZoneClass where
  | holdup
  | door
  | tamper
  | fault
  | missing
  deriving DecidableEq, Repr

def ZoneId.cls : ZoneId → ZoneClass
  | .holdupA => .holdup
  | .holdupB => .holdup
  | .safeDoor => .door
  | .binDoor => .door
  | .tamper _ => .tamper
  | .tubeJam => .fault
  | .airFail => .fault
  | .envelopeJam => .fault
  | .carrierMissing => .missing

/-- ALARM, LATCHED or LOCKED. -/
def ZoneState.alarming : ZoneState → Bool
  | .alarm => true
  | .latched => true
  | .locked => true
  | _ => false

/-- SILENT (R180). -/
def AU.silent (au : AU) : Bool :=
  ZoneId.all.any fun z => z.cls != .fault && (au.zones.get z).state.alarming

/-- TROUBLE (R180). -/
def AU.trouble (au : AU) : Bool :=
  ZoneId.all.any fun z => (z.cls == .door || z.cls == .fault || z.cls == .missing) && (au.zones.get z).state.alarming

/-- The AU drives the lane's lamp red (R177, R180). -/
def AU.lampDrive (au : AU) (l : Lane) : Bool := (au.zones.tamper.get l).state.alarming

/-- A DOOR or TAMPER zone is in ALARM (R181). -/
def AU.sounding (au : AU) : Bool :=
  ZoneId.all.any fun z => (z.cls == .door || z.cls == .tamper) && (au.zones.get z).state == .alarm

/-- The sounder output (R181). -/
def AU.sounderOn (au : AU) : Bool :=
  match au.run with
  | .pulsing on _ _ => on
  | _ => false

/-- The lamp of a lane (R14). -/
inductive Lamp where
  | red
  | green
  | off
  deriving DecidableEq, Repr

def State.lamp (s : State) (l : Lane) : Lamp :=
  if (s.laneRec l).state = .outOfService ∨ s.au.lampDrive l then .red
  else if (s.laneRec l).state = .opened then .green else .off

/-- A cassette can be picked from (R70). -/
def Cassette.usable (c : Cassette) : Bool := c.kept.state == .present || c.kept.state == .low

/-- Availability (R66). -/
def Cassette.available (c : Cassette) : Nat :=
  if c.usable ∧ c.pending = none then (c.kept.estimate - c.committed).toNat else 0

/-- Notes on the pick side and on the delivery side (R100). -/
def PickSide.notes : PickSide → Nat
  | .empty => 0
  | .filling _ n => n
  | .full _ n => n

def DeliverySide.notes : DeliverySide → Nat
  | .empty => 0
  | .holding _ n => n
  | .presenting _ n => n

def PickSide.loadId : PickSide → Option Nat
  | .empty => none
  | .filling i _ => some i
  | .full i _ => some i

def DeliverySide.loadId : DeliverySide → Option Nat
  | .empty => none
  | .holding i _ => some i
  | .presenting i _ => some i

/-- Notes in the stacker, both sides (R68). -/
def SS.notes (ss : SS) : Nat := ss.pick.notes + ss.delivery.notes

/-- Unused slots of the FILLING segment (R145). -/
def JN.unused (jn : JN) : Nat :=
  match jn.filling with
  | some (_, next) => Config.slotsPerSegment - next
  | none => 0

/-- The free slot count (R145). -/
def JN.free (jn : JN) : Nat :=
  jn.unused + Config.slotsPerSegment * (jn.segs.filter fun g => g.state == .erased).length - jn.claims

/-- The journal takes ordinary appends: OPERATING with more than 16 free slots (R87, R103, R145). -/
def JN.takesOrdinary (jn : JN) : Bool := !jn.failed && decide (Config.reserveSlots < jn.free)

/-! ## Codes of named values (R208, sections 10.8, 11.4, 11.5) -/

def Code.num : Code → Nat
  | .linkBusy => 1
  | .starting => 2
  | .unknownKind => 3
  | .malformed => 4
  | .busy => 5
  | .laneNotOpen => 6
  | .laneBlocked => 7
  | .carrierElsewhere => 8
  | .carrierBusy => 9
  | .contentAbsent => 10
  | .contentPresent => 11
  | .bayDoorOpen => 12
  | .loadOutstanding => 13
  | .queueFull => 14
  | .tableFull => 15
  | .noMix => 16
  | .noteCeiling => 17
  | .dispenserHalted => 18
  | .boxFull => 19
  | .binFull => 20
  | .binUnconfirmed => 21
  | .stampOut => 22
  | .journalUnavailable => 23
  | .unreconciled => 24
  | .segmentInUse => 25
  | .duressLock => 26
  | .tooLate => 27
  | .noSuchLoad => 28
  | .wrongState => 29

def LaneCond.num : LaneCond → Nat
  | .call => 1
  | .vehicle => 2
  | .driveOff => 3
  | .station => 4
  | .carrierAtBay => 5
  | .carrierAtLane => 6
  | .moveFailed => 7
  | .overdue => 8
  | .lateArrival => 9
  | .loadHeld => 10
  | .loadPresented => 11
  | .loadAwaitingClose => 12
  | .loadClosed => 13
  | .dispenseFailed => 14

/-- The instance number, 1 to 69 (section 11.4). -/
def Cond.num : Cond → Nat
  | .lane l k => (l.num - 1) * 14 + k.num
  | .cassette => 57
  | .boxHigh => 58
  | .pathJam => 59
  | .captureDone => 60
  | .captureFault => 61
  | .binHigh => 62
  | .binChange => 63
  | .journalLow => 64
  | .eraseDone => 65
  | .journalFailed => 66
  | .zoneChange => 67
  | .airChange => 68
  | .retainedLost => 69

/-- The lane byte of a notice: 1 to 4, or 0 for a global instance (section 11.2). -/
def laneOfNumber (n : Nat) : Nat := if n ≤ 56 then (n - 1) / 14 + 1 else 0

def CassState.code : CassState → Nat
  | .absent => 1
  | .unconfirmed => 2
  | .present => 3
  | .low => 4
  | .empty => 5
  | .fault => 6

def ZoneState.code : ZoneState → Nat
  | .idle => 1
  | .delay => 2
  | .alarm => 3
  | .latched => 4
  | .locked => 5
  | .unsupervised => 6

def ZoneClass.code : ZoneClass → Nat
  | .holdup => 1
  | .door => 2
  | .tamper => 3
  | .fault => 4
  | .missing => 5

def LoadOutcome.code : LoadOutcome → Nat
  | .taken => 1
  | .returned => 2
  | .purged => 3
  | .failed => 4
  | .cancelled => 5
  | .interrupted => 6

def LoadState.code : LoadState → Nat
  | .planned => 1
  | .picking => 2
  | .staged => 3
  | .held => 4
  | .presenting => 5
  | .presented => 6
  | .sent => 7
  | .delivered => 8
  | .awaitingClose => 9
  | .closed => 10

def MoveResult.code : MoveResult → Nat
  | .waitExpired => 1
  | .laneBlocked => 2
  | .locationLost => 3
  | .locationChanged => 4
  | .airFault => 5
  | .launchFailed => 6
  | .doorOpened => 7
  | .fellBack => 8
  | .purgeExpired => 9

def Origin.code : Origin → Nat
  | .host => 1
  | .station => 2
  | .autoSend => 3
  | .autoRecall => 4

def AirState.code : AirState → Nat
  | .economy => 1
  | .refresh => 2
  | .spinUp => 3
  | .ready => 4
  | .driving => 5
  | .fault => 6

def BinState.code : BinState → Nat
  | .confirmed => 1
  | .unconfirmed => 2
  | .removed => 3
  | .doorOpen => 4

def abCode : AB → Nat
  | .a => 1
  | .b => 2

def RecKind.code : RecKind → Nat
  | .capture => 1
  | .load => 2
  | .replenish => 3
  | .binExchange => 4
  | .boxEmptied => 5
  | .alarm => 6
  | .power => 7

def LaneState.code : LaneState → Nat
  | .closed => 1
  | .opened => 2
  | .outOfService => 3

def StationKind.code : StationKind → Nat
  | .full => 1
  | .basic => 2
  | .absent => 3

def Sense.code : Sense → Nat
  | .yes => 1
  | .no => 2
  | .unsensed => 3

def Location.code : Location → Nat
  | .atBay => 1
  | .atLane => 2
  | .movingUp => 3
  | .movingDown => 4
  | .unknown => 5

def Content.code : Content → Nat
  | .empty => 1
  | .content => 2
  | .unsensed => 3

def Reservation.code : Reservation → Nat
  | .none => 1
  | .queued => 2
  | .moving => 3
  | .presenting => 4
  | .capturing => 5

def Dir.code : Dir → Nat
  | .up => 1
  | .down => 2

def NDState.code : NDState → Nat
  | .idle => 1
  | .waiting => 2
  | .picking => 3
  | .halted => 4
  | .clearing => 5
  | .fault => 6

def CUState.code : CUState → Nat
  | .idle => 1
  | .lifting => 2
  | .stamping => 3
  | .dropping => 4
  | .fault => 5

def SegState.code : SegState → Nat
  | .erased => 1
  | .filling => 2
  | .full => 3
  | .pendingErase => 4
  | .erasing => 5
  | .bad => 6

def StartKind.code : StartKind → Nat
  | .powerOn => 1
  | .restart => 2

def SounderRun.code : SounderRun → Nat
  | .idle => 1
  | .pulsing _ _ _ => 2
  | .stopped => 3

/-- VEHICLE_LOOP, TAMPER_SWITCH, LANE_DISPLAY, CARRIER_DOOR as bits 0 to 3 (R1, R208). -/
def Features.code (f : Features) : Nat := bitSet [f.vehicleLoop, f.tamperSwitch, f.laneDisplay, f.carrierDoor]

/-- The feature set of a byte; bits that are no feature are dropped (R3, R15). -/
def Features.ofNat (n : Nat) : Features :=
  { vehicleLoop := n.testBit 0, tamperSwitch := n.testBit 1, laneDisplay := n.testBit 2, carrierDoor := n.testBit 3 }

/-- STATION_LOST, JAM, CARRIER_UNKNOWN, TAMPER as bits 0 to 3 (R1, R208). -/
def Reasons.code (r : Reasons) : Nat := bitSet [r.stationLost, r.jam, r.carrierUnknown, r.tamper]

/-! ## The condition set (R195 to R197) -/

/-- An instance rises: pending is set, the snapshot is the rise's, and an entry is added at the tail where an enabled
instance goes from not pending to pending and has no entry (R195, R196). -/
def LC.raise (lc : LC) (n : Nat) (snapshot : Option (List Byte)) : LC :=
  match lc.conds[n - 1]? with
  | none => lc
  | some c =>
    { lc with
      conds := modifyAt (fun c => { c with isPending := true, snapshot := snapshot }) (n - 1) lc.conds
      notices := if !c.isPending && c.enabled && !lc.notices.contains (.cond n) then lc.notices ++ [.cond n] else lc.notices }

/-- An instance's entry leaves the notice list; a frame of it on the line goes on to its end (R194, R196). -/
def LC.dropEntry (lc : LC) (n : Nat) : LC :=
  { lc with
    notices := lc.notices.filter fun e => e != .cond n
    sending := lc.sending.map fun f => if f.what = .notice (.cond n) then { f with what := .orphan } else f }

/-- An instance is cleared: not pending, its entry removed, its snapshot left (R197). -/
def LC.clear (lc : LC) (n : Nat) : LC :=
  match lc.conds[n - 1]? with
  | none => lc
  | some c =>
    if c.isPending then
      LC.dropEntry { lc with conds := modifyAt (fun c => { c with isPending := false }) (n - 1) lc.conds } n
    else lc

/-- An instance's pending flag. -/
def LC.isPending (lc : LC) (n : Nat) : Bool :=
  match lc.conds[n - 1]? with
  | some c => c.isPending
  | none => false

def LC.isEnabled (lc : LC) (n : Nat) : Bool :=
  match lc.conds[n - 1]? with
  | some c => c.enabled
  | none => false

/-- A condition rises with its snapshot. -/
def State.raise (s : State) (c : Cond) (snapshot : List Byte) : State :=
  { s with lc := s.lc.raise c.num (some snapshot) }

/-- A condition rises with no snapshot. -/
def State.raiseBare (s : State) (c : Cond) : State := { s with lc := s.lc.raise c.num none }

/-- A lane's condition rises. -/
def State.raiseLane (s : State) (l : Lane) (k : LaneCond) (snapshot : List Byte) : State := s.raise (.lane l k) snapshot

/-- A lane's condition rises with no snapshot. -/
def State.raiseLaneBare (s : State) (l : Lane) (k : LaneCond) : State := s.raiseBare (.lane l k)

/-- The group kinds of auto-clear (R195). -/
inductive Group where
  | lane
  | carrier
  | load
  | dispenser
  | capture
  | journal
  | alarm
  | air
  deriving DecidableEq, Repr

def Groups.has (g : Groups) : Group → Bool
  | .lane => g.lane
  | .carrier => g.carrier
  | .load => g.load
  | .dispenser => g.dispenser
  | .capture => g.capture
  | .journal => g.journal
  | .alarm => g.alarm
  | .air => g.air

/-- The instance numbers of a group; a per-lane kind's group is the lane's (R195, section 11.4). -/
def Group.members (g : Group) (l : Lane) : List Nat :=
  let base := (l.num - 1) * 14
  match g with
  | .lane => [base + 1, base + 2, base + 3, base + 4]
  | .carrier => [base + 5, base + 6, base + 7, base + 8, base + 9]
  | .load => [base + 10, base + 11, base + 12, base + 13, base + 14]
  | .dispenser => [57, 58, 59]
  | .capture => [60, 61, 62, 63]
  | .journal => [64, 65, 66]
  | .alarm => [67]
  | .air => [68]

/-- The pending flags of a group, a yes/no byte each, in the order of the numbers (R195, R208; notes/assumptions/8.md). -/
def LC.groupFlags (lc : LC) (g : Group) (l : Lane) : List Byte := (g.members l).flatMap fun n => yesNo (lc.isPending n)

/-- Auto-clear after a status read (R197). -/
def LC.autoClear (lc : LC) (g : Group) (l : Lane) : LC :=
  if lc.auto.has g then (g.members l).foldl LC.clear lc else lc

def State.autoClear (s : State) (g : Group) (l : Lane) : State := { s with lc := s.lc.autoClear g l }

/-! ## Replies and the transmitter (R192 to R194) -/

/-- Every request kind (section 11.3). -/
def requestKinds : List Nat :=
  [0x10, 0x11, 0x12, 0x13, 0x14, 0x15, 0x18, 0x19, 0x1A, 0x20, 0x21, 0x22, 0x23, 0x24, 0x28, 0x29, 0x2A, 0x2B, 0x2C, 0x30,
    0x31, 0x32, 0x34, 0x35, 0x36, 0x38, 0x39, 0x3A, 0x3B, 0x3C, 0x3D, 0x40, 0x41, 0x42, 0x43, 0x44, 0x48, 0x49, 0x4A, 0x4B,
    0x4C, 0x4D, 0x50, 0x51, 0x52, 0x53, 0x54, 0x55]

/-- The kind of a reply: the request's plus 80h, FFh where the kind is no request kind (R208). -/
def replyKind (kind : Nat) : Nat := if requestKinds.contains kind then kind + 0x80 else 0xFF

/-- A decided reply joins the tail of the reply list (R193). -/
def State.reply (s : State) (kind tag : Nat) (body : List Byte) : State :=
  { s with lc := { s.lc with replies := s.lc.replies ++
      [{ kind := replyKind kind, tag := tag, body := body, refusal := false, restart := false }] } }

/-- The reply OK with its values. -/
def State.ok (s : State) (kind tag : Nat) (values : List Byte) : State := s.reply kind tag (0x00#8 :: values)

/-- A refusal, with the detail its owner's rule names (R208). -/
def State.refuse (s : State) (kind tag : Nat) (code : Code) (detail : List Byte) : State :=
  s.reply kind tag (u8 code.num ++ detail)

/-- Entries cut at the end of the last whole one that fits the room, with the number left out (R193, R208). -/
def cutEntries : Nat → List (List Byte) → List Byte × Nat
  | _, [] => ([], 0)
  | room, e :: es =>
    if e.length ≤ room then
      let r := cutEntries (room - e.length) es
      (e ++ r.1, r.2)
    else ([], (e :: es).length)

/-- A count byte, a list of varying length cut to fit between a head and a tail, the tail, and the entries-left-out byte
(R193, R208). The body's result byte is `head`'s first. The list alone is cut and the fields after it are kept, on which
R193 is silent (DESIGN CHOICE, log entry 8). -/
def listBody (head : List Byte) (entries : List (List Byte)) (tail : List Byte) : List Byte :=
  let r := cutEntries (Config.bodyMax - head.length - tail.length - 2) entries
  head ++ u8 (entries.length - r.2) ++ r.1 ++ tail ++ u8 r.2

/-- The bytes of a frame (section 11.1). -/
def frameBytes (kind tag : Nat) (body : List Byte) : List Byte :=
  let inner := u16 (2 + body.length) ++ u8 kind ++ u8 tag ++ body
  Config.startByte :: inner ++ crcBytes inner

/-- The retained store check failed at this start; RESTART makes no check (R204). -/
def LC.checkFailed (lc : LC) : Bool := lc.storeFailed && lc.lastStart == .powerOn

/-- The body of the START notice (R206, section 11.2). -/
def startBody (s : State) : List Byte :=
  u8 s.lc.lastStart.code ++ yesNo s.lc.checkFailed ++ u32 s.lc.clock ++ yesNo s.lc.clockSet
    ++ u8 (if s.jn.failed then 2 else 1) ++ yesNo s.jn.powerLost ++ u16 s.jn.interrupted

/-- A notice's body, built with the snapshot as it stands when it is chosen (R194, section 11.2). -/
def noticeBody (lc : LC) (n : Nat) : List Byte :=
  let snap := match lc.conds[n - 1]? with
    | some c => c.snapshot.getD []
    | none => []
  u8 n ++ u8 (laneOfNumber n) ++ u8 snap.length ++ snap

/-- The transmitter's choice when the line is free: the oldest reply, else the oldest notice entry, else nothing (R194). -/
def State.transmit (s : State) : State :=
  match s.lc.sending with
  | some _ => s
  | none =>
    match s.lc.replies with
    | r :: _ => { s with lc := { s.lc with sending := some { what := .reply, kind := r.kind, tag := r.tag, body := r.body } } }
    | [] =>
      match s.lc.notices with
      | .start :: _ =>
        { s with lc := { s.lc with sending := some { what := .notice .start, kind := 0xE1, tag := 0, body := startBody s } } }
      | .cond n :: _ =>
        { s with lc := { s.lc with sending := some { what := .notice (.cond n), kind := 0xE0, tag := 0, body := noticeBody s.lc n } } }
      | [] => s

/-- How every step of a powered part ends: changed retained items are written to the store in the same step (R204), and a
free line takes its next frame (R194). -/
def State.finish (s : State) : State := s.writeStore.transmit

/-- A step of the powered part; an unpowered part is at rest (notes/assumptions/5.md). -/
def State.poweredStep (s : State) (f : State → State) : Host.Outcome State Fault Refusal :=
  .next (if s.powered then (f s).finish else s)

/-- Dropped frames are counted up to 65,535 (R190). -/
def LC.countDrop (lc : LC) : LC := { lc with dropped := min Config.droppedMax (lc.dropped + 1) }

/-- A taken frame through the LC (R191, R192): LINK_BUSY or a discard at four outstanding, else it counts and is answered
STARTING, UNKNOWN_KIND or MALFORMED (tag 0), or handed to its owner. -/
def State.takeFrame (s : State) (kind tag : Nat) (owner : State → State) : State :=
  if Config.outstandingMax ≤ s.lc.outstanding then
    if s.lc.replies.any (·.refusal) then { s with lc := s.lc.countDrop }
    else { s with lc := { s.lc with replies := s.lc.replies ++
      [{ kind := replyKind kind, tag := tag, body := u8 Code.linkBusy.num, refusal := true, restart := false }] } }
  else
    let s : State := { s with lc := { s.lc with outstanding := s.lc.outstanding + 1 } }
    if !s.started then s.refuse kind tag .starting []
    else if !requestKinds.contains kind then s.refuse kind tag .unknownKind []
    else if tag = 0 then s.refuse kind tag .malformed []
    else owner s

/-- A host request taken from the line. -/
def State.request (s : State) (kind tag : Nat) (owner : State → State) : Host.Outcome State Fault Refusal :=
  s.poweredStep fun s => s.takeFrame kind tag owner

end Sys2Proof.Machine
end

