-- ==== Sys2Proof/Machine/Journal.lean ====
section
/-! DEFINITION. The Journal's shared operations: the slot layout (R209, section 11.5), the ring (R144), admission of
appends (R145, R146), handing programs to the queue (R148, R149), the bytes a program changes, and the bank's sharing
between programs, reads and the erase (R141, R153, R159). -/

namespace Sys2Proof.Machine

/-- Segments 0 to 7 are A0 to A7, 8 to 15 are B0 to B7 (scope, "Naming conventions"). -/
def bankOf (segment : Nat) : AB := if segment < 8 then .a else .b

def JN.seg (jn : JN) (i : Nat) : Segment := jn.segs.getD i { state := .bad, records := [], torn := true }

def JN.modSeg (jn : JN) (i : Nat) (f : Segment → Segment) : JN := { jn with segs := modifyAt f i jn.segs }

/-! ## The slot (section 11.5, R209) -/

/-- Slot states (R141). -/
inductive SlotState where
  | erased
  | written
  | closed
  | reconciled
  | void
  deriving DecidableEq, Repr

/-- The state a status byte codes; absent where it is no valid code (R209). -/
def slotState (b : Byte) : Option SlotState :=
  if b = 0xFF#8 then some .erased
  else if b = 0x7F#8 then some .written
  else if b = 0x3F#8 then some .closed
  else if b = 0x1F#8 then some .reconciled
  else if b = 0xF7#8 ∨ b = 0x77#8 ∨ b = 0x37#8 ∨ b = 0x17#8 then some .void
  else none

/-- The state of a slot as it stands in memory. -/
def JN.status (jn : JN) (segment slot : Nat) : Option SlotState := slotState (jn.mem.read (slotAddress segment slot 0))

/-- The flags byte of a set of flags: a flag is programmed by its bit going to 0; bits 5 to 7 stay 1 (R209). -/
def RecFlags.byte (f : RecFlags) : Byte :=
  BitVec.ofNat 8 (255 - bitSet [f.duress, f.noStamp, f.aborted, f.dropFault, f.interrupted])

def RecFlags.isEmpty (f : RecFlags) : Bool := !(f.duress || f.noStamp || f.aborted || f.dropFault || f.interrupted)

/-- Flags of both sets. -/
def RecFlags.union (f g : RecFlags) : RecFlags :=
  { duress := f.duress || g.duress, noStamp := f.noStamp || g.noStamp, aborted := f.aborted || g.aborted,
    dropFault := f.dropFault || g.dropFault, interrupted := f.interrupted || g.interrupted }

/-- A kind body filled with FFh to its 14 bytes (section 11.5). -/
def padBody (bs : List Byte) : List Byte := (bs ++ List.replicate (14 - bs.length) 0xFF#8).take 14

/-- The early fields, bytes 2 to 25 of the slot, which the CRC covers (section 11.5). -/
def Record.early (r : Record) : List Byte :=
  u8 r.kind.code ++ u8 r.lane ++ u32 r.seq ++ u32 r.clock ++ padBody r.body

/-- The first stretch of an append: the status WRITTEN, then bytes 1 to 27 (R209). -/
def Record.writing (r : Record) : List (Nat × Byte) :=
  (0, 0x7F#8) :: (1, { RecFlags.none with duress := r.duress }.byte)
    :: ((List.range 26).map (· + 2)).zip (r.early ++ crcBytes r.early)

/-- The second stretch of an append written CLOSED: the CLOSED bit (R209). -/
def Record.closing (r : Record) : List (Nat × Byte) := if r.closed then [(0, 0x3F#8)] else []

/-! ## The directory (R153) -/

/-- The segment and slot of a sequence, from the directory. -/
def findSeq (seq : Nat) : Nat → List Segment → Option (Nat × Nat)
  | _, [] => none
  | i, g :: gs =>
    match g.records.find? fun r => r.2 = seq with
    | some r => some (i, r.1)
    | none => findSeq seq (i + 1) gs

def JN.find (jn : JN) (seq : Nat) : Option (Nat × Nat) := findSeq seq 0 jn.segs

/-- Every record of the directory as sequence, segment, slot; segments BAD hold none (R153). -/
def directory : Nat → List Segment → List (Nat × Nat × Nat)
  | _, [] => []
  | i, g :: gs => (g.records.map fun r => (r.2, i, r.1)) ++ directory (i + 1) gs

/-- A list of directory entries with one put at its place by rising sequence. -/
def insertBySeq (e : Nat × Nat × Nat) : List (Nat × Nat × Nat) → List (Nat × Nat × Nat)
  | [] => [e]
  | f :: fs => if e.1 ≤ f.1 then e :: f :: fs else f :: insertBySeq e fs

/-- The records held, in sequence order. -/
def JN.bySeq (jn : JN) : List (Nat × Nat × Nat) := (directory 0 jn.segs).foldr insertBySeq []

/-! ## The ring (R144) -/

/-- The first ERASED segment of a list of segment numbers. -/
def JN.firstErased (jn : JN) (is : List Nat) : Option Nat := is.find? fun i => (jn.seg i).state == .erased

/-- The next ERASED segment after one, in ring order. -/
def JN.nextErased (jn : JN) (i : Nat) : Option Nat :=
  jn.firstErased ((List.range (Config.segments - 1)).map fun k => (i + k + 1) % Config.segments)

/-- The ring's advance, where the FILLING segment has no unused slot (R144). -/
def JN.advance (jn : JN) : JN :=
  match jn.filling with
  | none => jn
  | some (i, next) =>
    if next < Config.slotsPerSegment then jn
    else match jn.nextErased i with
      | none => jn
      | some j =>
        { (jn.modSeg i fun g => { g with state := .full }).modSeg j fun g => { g with state := .filling, records := [] } with
          filling := some (j, 0) }

/-! ## Programs -/

/-- Where a program works: the append point, or the slot its record stands in. -/
def JN.target (jn : JN) : Work → Option (Nat × Nat)
  | .append _ => jn.advance.filling
  | .change c => jn.find c.seq
  | .mark seq => jn.find seq
  | .voidSlot i k => some (i, k)

def Work.isAppend : Work → Bool
  | .append _ => true
  | _ => false

/-- The late fields of a record are programmed already: byte 28 of a LOAD record, bytes 28–29 of a CAPTURE record (R209). -/
def JN.lateDone (jn : JN) (i k : Nat) : Bool :=
  if jn.mem.read (slotAddress i k 2) = 0x02#8 then jn.mem.read (slotAddress i k 28) != 0xFF#8
  else jn.mem.read (slotAddress i k 28) != 0xFF#8 || jn.mem.read (slotAddress i k 29) != 0xFF#8

/-- The byte programs of a change in place, in order (R148, R209): a close only of a WRITTEN record, a flag change only of a
WRITTEN or CLOSED one, a reconcile mark only of a CLOSED one. -/
def JN.changeSteps (jn : JN) (w : Work) : List (Nat × Byte) :=
  match w, jn.target w with
  | .change c, some (i, k) =>
    let flags := if c.flags.isEmpty then [] else [(1, c.flags.byte)]
    if c.closes then
      if jn.status i k = some .written then (if jn.lateDone i k then [] else c.late) ++ flags ++ [(0, 0x3F#8)] else []
    else if jn.status i k = some .written ∨ jn.status i k = some .closed then flags else []
  | .mark _, some (i, k) => if jn.status i k = some .closed then [(0, 0x1F#8)] else []
  | .voidSlot _ _, some _ => [(0, 0xF7#8)]
  | _, _ => []

/-- The byte programs a queued change makes: at a retry those of the first attempt (R150). -/
def JN.stepsOf (jn : JN) (p : Program) : List (Nat × Byte) := p.redo.getD (jn.changeSteps p.work)

/-- Byte programs made in a slot. `missed` gives for each the bits that stay at 1 though they were to be programmed; the
result says whether the slot reads back as programmed (R149). -/
def programBytes (m : Memory) (i k : Nat) : List (Nat × Byte) → List Byte → Memory × Bool
  | [], _ => (m, true)
  | (off, v) :: rest, missed =>
    let a := slotAddress i k off
    let left := missed.headD 0x00#8
    let good := decide (m.read a &&& (v ||| left) = m.read a &&& v)
    let r := programBytes (m.program a (v ||| left)) i k rest missed.tail
    (r.1, good && r.2)

/-- The byte programs of a program cut off after some whole ones, the next with the bits of `left` not programmed (R204,
R209). -/
def cutBytes (m : Memory) (i k : Nat) : List (Nat × Byte) → Nat → Byte → Memory
  | [], _, _ => m
  | (off, v) :: _, 0, left => m.program (slotAddress i k off) (v ||| left)
  | (off, v) :: rest, n + 1, left => cutBytes (m.program (slotAddress i k off) v) i k rest n left

/-! ## Sharing a bank (R141, R153, R159) -/

/-- The banks a read takes: those of the records it reads from the memory. -/
def ReadJob.uses (r : ReadJob) (bank : AB) : Bool :=
  r.found.any fun f => !f.2.2.2 && bankOf f.2.1 == bank

/-- A program works in a bank. -/
def JN.works (jn : JN) (w : Work) (bank : AB) : Bool :=
  match jn.target w with
  | some (i, _) => bankOf i == bank
  | none => false

/-- The erase of a bank is suspended while a program or a read of the bank runs or waits (R159). -/
def JN.suspended (jn : JN) (bank : AB) : Bool :=
  jn.queue.any (fun p => jn.works p.work bank) || jn.reads.any (fun r => r.uses bank)

/-- A segment becomes ERASING: its records in a read not yet ended are placeholders from then on, so the read takes its bank
for them no longer (R153, R159). -/
def ReadJob.withErasing (segment : Nat) (r : ReadJob) : ReadJob :=
  { r with found := r.found.map fun f => (f.1, f.2.1, f.2.2.1, f.2.2.2 || f.2.1 == segment) }

/-- The head of the queue starts when the engine is free and its bank serves no read (R149, R153). -/
def JN.startProgram (jn : JN) : JN :=
  match jn.queue with
  | [] => jn
  | p :: _ =>
    if jn.busy then jn
    else if jn.reading && jn.reads.head?.any (fun r => (jn.works p.work .a && r.uses .a) || (jn.works p.work .b && r.uses .b)) then jn
    else { (if p.work.isAppend then jn.advance else jn) with busy := true }

/-- The oldest read starts when its banks carry out no program (R153). Reads are served one at a time, in the order taken: a
read of a free bank waits for one in progress in the other bank, on which the manual is silent (DESIGN CHOICE, log entry
23). -/
def JN.startRead (jn : JN) : JN :=
  match jn.reads with
  | [] => jn
  | r :: _ =>
    if jn.reading then jn
    else if jn.busy && jn.queue.head?.any (fun p => (jn.works p.work .a && r.uses .a) || (jn.works p.work .b && r.uses .b)) then jn
    else { jn with reading := true }

/-- The erase time runs while a segment is erasing and its bank is not suspended (R158, R159). -/
def JN.timeErase (jn : JN) (now : Nat) : JN :=
  match jn.run with
  | none => jn
  | some run =>
    match run.erasing with
    | none => jn
    | some _ =>
      { jn with run := some { run with spent := if jn.suspended run.bank then run.spent.stop now else run.spent.resume now } }

/-- RESTART's reply has been sent: the program in progress is finished and no other is begun (R207). -/
def State.programsStopped (s : State) : Bool := s.phase == .restarting true

/-- The reads, the engine and the erase take up what they can. A read that waited for the end of a program goes before the
next program of its bank, so it waits at most 5 ms (R153); between two waiting reads no program is let in, which the manual
leaves open (DEDUCED, log entry 23). -/
def State.jnRun (s : State) : State :=
  let jn := s.jn.startRead
  { s with jn := (if s.programsStopped then jn else jn.startProgram).timeErase s.now }

/-- JOURNAL_LOW rises at a fall of the free slot count to 256 or below (R145). -/
def State.noteFree (s : State) (before : Nat) : State :=
  if s.jn.free < before ∧ s.jn.free ≤ Config.journalLow then s.raise .journalLow (u16 s.jn.free) else s

/-! ## Admission (R145, R146) -/

/-- ALARM and POWER records use the reserve rule (R145). -/
def RecKind.reserve : RecKind → Bool
  | .alarm => true
  | .power => true
  | _ => false

/-- The test of R145 by kind. -/
def JN.roomFor (jn : JN) (kind : RecKind) : Bool :=
  !jn.failed && (if kind.reserve then decide (1 ≤ jn.free) else decide (Config.reserveSlots < jn.free))

/-- The append is admitted (R145), the sequence counter not being exhausted (R146). -/
def JN.admits (jn : JN) (kind : RecKind) : Bool := jn.roomFor kind && !jn.exhausted

/-- An append is asked of the JN: admitted it takes a claim and a sequence and joins the queue, else nothing changes. The
second result says whether it was admitted; `closed` asks for a record written CLOSED (R147). -/
def State.append (s : State) (owner : Owner) (kind : RecKind) (lane : Nat) (body : List Byte) (duress closed : Bool) :
    State × Bool :=
  if s.jn.admits kind then
    let r : Record := { kind := kind, lane := lane, seq := s.jn.counter, clock := s.lc.clock, body := body, duress := duress,
                        closed := closed }
    let before := s.jn.free
    let jn : JN := { s.jn with
      claims := s.jn.claims + 1
      counter := if s.jn.counter = Config.max32 then s.jn.counter else s.jn.counter + 1
      exhausted := s.jn.counter = Config.max32
      queue := s.jn.queue ++ [{ owner := owner, work := .append r }] }
    ((({ s with jn := jn } : State).noteFree before).jnRun, true)
  else (s, false)

/-- A change in place is handed to the JN: queued while OPERATING, reported at once as not programmed while FAILED (R149,
R152). The second result says whether it was queued. -/
def State.hand (s : State) (owner : Owner) (work : Work) : State × Bool :=
  if s.jn.failed then (s, false)
  else (({ s with jn := { s.jn with queue := s.jn.queue ++ [{ owner := owner, work := work }] } } : State).jnRun, true)

end Sys2Proof.Machine
end

