-- ==== Sys2Proof/Machine/TransitQueue.lean ====
section
/-! DEFINITION. The transit queue's shared operations: dropping an entry (R26), the checks of an UP and of a DOWN request
and their answers (R25, R45, R46), and a change of a lane's reason set as the TD takes it (R2, R26). -/

namespace Sys2Proof.Machine

/-- A queued entry is dropped: its reservation returns to NONE and MOVE_FAILED rises with the result and its origin (R26). -/
def State.dropQueued (s : State) (l : Lane) (result : MoveResult) : State :=
  match s.td.entry l with
  | none => s
  | some e =>
    let s : State := { s with td := { s.td with queue := s.td.queue.filter fun e => e.lane != l } }
    (s.modCarrier l fun c => { c with reservation := .none }).raiseLane l .moveFailed (u8 result.code ++ u8 e.origin.code)

/-- The LI changes a lane's reason set and sends it to the TD, which drops an entry whose direction it forbids (R2, R26). -/
def State.setReasons (s : State) (l : Lane) (f : Reasons → Reasons) : State :=
  let s := s.modLane l fun r => { r with reasons := f r.reasons }
  match s.td.entry l with
  | none => s
  | some e => if (s.laneRec l).reasons.forbid e.dir then s.dropQueued l .laneBlocked else s

/-- An entry joins the tail of the transit queue; the reservation becomes QUEUED (R25), from PRESENTING or CAPTURING too where
a RECALL asks for a carrier relocated to its lane: the model's choice (notes/assumptions/14.md). -/
def State.enqueue (s : State) (l : Lane) (dir : Dir) (origin : Origin) : State :=
  let s : State := { s with td := { s.td with queue := s.td.queue ++ [{ lane := l, dir := dir, origin := origin, time := s.now }] } }
  s.modCarrier l fun c => { c with reservation := .queued }

/-- The lane has an entry of a direction. -/
def TD.hasEntry (td : TD) (l : Lane) (dir : Dir) : Bool := td.queue.any fun e => e.lane == l && e.dir == dir

/-- The outstanding load's state, absent when there is none. -/
def State.outstandingState (s : State) (l : Lane) : Option LoadState :=
  (s.carrier l).outstanding.bind fun id => (s.load id).map (·.state)

/-- A request for an UP move, checked in the order of R45. -/
def State.askUp (s : State) (l : Lane) (origin : Origin) : State × SendAnswer :=
  if (s.laneRec l).state = .closed then (s, .refused .laneNotOpen)
  else if (s.laneRec l).state = .outOfService then (s, .refused .laneBlocked)
  else if s.td.hasEntry l .up then (s, .alreadyQueued (s.td.position l))
  else if (s.carrier l).location ≠ .atBay then (s, .refused .carrierElsewhere)
  else if (s.carrier l).reservation = .presenting ∨ (s.carrier l).reservation = .capturing
      ∨ (s.carrier l).reservation = .moving then (s, .refused .carrierBusy)
  else if (s.carrier l).outstanding ≠ none ∧ s.outstandingState l ≠ some .presented then (s, .refused .loadOutstanding)
  else
    let s := s.enqueue l .up origin
    (s, .queued (s.td.position l))

/-- A request for a DOWN move, checked in the order of R46. -/
def State.askDown (s : State) (l : Lane) (origin : Origin) : State × SendAnswer :=
  if s.td.hasEntry l .down then (s, .alreadyQueued (s.td.position l))
  else if (s.carrier l).location ≠ .atLane then (s, .refused .carrierElsewhere)
  else if (s.laneRec l).reasons.forbid .down then (s, .refused .laneBlocked)
  else if (s.carrier l).reservation = .moving then (s, .refused .carrierBusy)
  else
    let s := s.enqueue l .down origin
    (s, .queued (s.td.position l))

end Sys2Proof.Machine
end

