-- ==== Sys2Proof/Machine/Alarm.lean ====
section
/-! DEFINITION. The Alarm Unit's shared operations: a zone's transition with everything that goes with it (R175, R182), the
rise and fall of a cause by class (R170 to R179), windows and entry delays (R172 to R174), duress (R171), supervision of
the TAMPER zones (R176) and the sounder run (R181). -/

namespace Sys2Proof.Machine

/-- Length of the on-phase and of the off-phase for a period (R181). -/
def phaseLength (period : Nat) (on : Bool) : Nat :=
  if on then (period + 1) / 2 * Config.sounderUnit else period / 2 * Config.sounderUnit

/-- The sounder run after a zone's transition: an entry of a DOOR or TAMPER zone into ALARM starts a run unless one is
PULSING, and the run is IDLE as soon as no such zone is in ALARM (R181). -/
def AU.rerun (au : AU) (now : Nat) (entersAlarm : Bool) : AU :=
  if !au.sounding then { au with run := .idle }
  else match au.run with
    | .pulsing _ _ _ => au
    | _ =>
      if entersAlarm then
        { au with run := .pulsing true (now + phaseLength au.period true) (now + Config.sounderCutoff) }
      else au

/-- The transition appends an ALARM record: an entry into ALARM or LOCKED, or a return to IDLE from ALARM, LATCHED or
LOCKED (R182). -/
def recordsTransition (left entered : ZoneState) : Bool :=
  entered == .alarm || entered == .locked || (entered == .idle && left.alarming)

/-- The lane field of a zone's ALARM record (R182). -/
def ZoneId.laneField : ZoneId → Nat
  | .tamper l => l.num
  | _ => 0

/-- The ALARM record's body (R182, section 11.5). -/
def alarmBody (s : State) (z : ZoneId) (left entered : ZoneState) : List Byte :=
  u8 z.num ++ u8 z.cls.code ++ u8 entered.code ++ u8 left.code ++ yesNo (s.zone z).cause ++ yesNo s.au.duress

/-- An ALARM record that is not made is counted, up to 255 (R182). -/
def State.countLost (s : State) : State := { s with au := { s.au with lost := min Config.lostMax (s.au.lost + 1) } }

/-- The ALARM record of a transition is handed to the JN; one not admitted is counted lost (R182). -/
def State.alarmRecord (s : State) (z : ZoneId) (left entered : ZoneState) : State :=
  let r := s.append .alarm .alarm z.laneField (alarmBody s z left entered) false true
  if r.2 then r.1 else r.1.countLost

/-- A TAMPER zone's entry into ALARM or return to IDLE is reported to the LI, which sets or removes TAMPER (R177). -/
def State.tellTamper (s : State) (z : ZoneId) (entered : ZoneState) : State :=
  match z, entered with
  | .tamper l, .alarm => s.setReasons l fun r => { r with tamper := true }
  | .tamper l, .idle => s.setReasons l fun r => { r with tamper := false }
  | _, _ => s

/-- A zone's transition, in the order of R182: the state, the report to the LI, the outputs and the sounder run,
ZONE_CHANGE, the ALARM record. Acknowledged is cleared at an entry into ALARM or IDLE (R168). -/
def State.zoneTo (s : State) (z : ZoneId) (entered : ZoneState) : State :=
  let left := (s.zone z).state
  if entered = left then s
  else
    let s := s.modZone z fun r =>
      { r with state := entered, delayDue := none,
               acked := if entered = .alarm ∨ entered = .idle then false else r.acked }
    let s := s.tellTamper z entered
    let s : State := { s with au := s.au.rerun s.now (entered == .alarm && (z.cls == .door || z.cls == .tamper)) }
    let s := s.raise .zoneChange (u8 z.num ++ u8 entered.code)
    if recordsTransition left entered then s.alarmRecord z left entered else s

/-- A zone returns to IDLE; a TAMPER zone without supervision goes on to UNSUPERVISED in the same step (R176). -/
def State.zoneIdle (s : State) (z : ZoneId) : State :=
  let s := s.zoneTo z .idle
  match z with
  | .tamper _ => if (s.zone z).supervised then s else s.zoneTo z .unsupervised
  | _ => s

/-- The entry delay of a door zone in seconds (R168). -/
def AU.entryDelay (au : AU) : Door → Nat
  | .safe => au.safeDelay
  | .bin => au.binDelay

/-- A door zone's delay begins, or the zone enters ALARM at once with a delay of 0 (R172, R174). -/
def State.startDelay (s : State) (d : Door) : State :=
  if s.au.entryDelay d = 0 then s.zoneTo (doorZone d) .alarm
  else (s.zoneTo (doorZone d) .delay).modZone (doorZone d) fun r => { r with delayDue := some (s.now + s.au.entryDelay d * 1000) }

/-- A door zone's authorization window closes; an IDLE zone with its door open then starts its delay (R174). -/
def State.closeWindow (s : State) (d : Door) : State :=
  let s := s.modZone (doorZone d) fun r => { r with windowUntil := none }
  if (s.zone (doorZone d)).state = .idle ∧ (s.zone (doorZone d)).cause then s.startDelay d else s

/-- A HOLDUP zone locks in; at the onset of duress both windows close in the same step (R170, R171), zone 3 before zone 4, an
order the manual does not give (DESIGN CHOICE, log entry 26). -/
def State.lockIn (s : State) (z : ZoneId) : State :=
  let before := s.au.duress
  let s := s.zoneTo z .locked
  if before then s else (s.closeWindow .safe).closeWindow .bin

/-- A door opens (R172). -/
def State.doorOpens (s : State) (d : Door) : State :=
  let r := s.zone (doorZone d)
  match r.state with
  | .idle => if r.windowUntil.isSome then s else s.startDelay d
  | .latched => if r.windowUntil.isSome then s else s.zoneTo (doorZone d) .alarm
  | _ => s

/-- A cause rises (R170, R172, R175, R177, R178, R179). -/
def State.causeRises (s : State) (z : ZoneId) : State :=
  match z with
  | .holdupA => if (s.zone z).state = .idle then s.lockIn z else s
  | .holdupB => if (s.zone z).state = .idle then s.lockIn z else s
  | .safeDoor => s.doorOpens .safe
  | .binDoor => s.doorOpens .bin
  | _ => if (s.zone z).state = .idle ∨ (s.zone z).state = .latched then s.zoneTo z .alarm else s

/-- A cause falls: a zone in ALARM goes to IDLE if acknowledged, else to LATCHED; no other state moves (R170, R172,
R175). -/
def State.causeFalls (s : State) (z : ZoneId) : State :=
  if (s.zone z).state = .alarm then (if (s.zone z).acked then s.zoneIdle z else s.zoneTo z .latched) else s

/-- A zone's cause as reported. A change moves the zone; during start-up it is recorded alone (R169, R183). -/
def State.setCause (s : State) (z : ZoneId) (active : Bool) : State :=
  if (s.zone z).cause = active then s
  else
    let s := s.modZone z fun r => { r with cause := active }
    if s.live then (if active then s.causeRises z else s.causeFalls z) else s

/-- Some lane's reason set holds JAM (R169). -/
def State.anyJam (s : State) : Bool := s.li.lanes.toList.any fun r => r.reasons.jam

/-- Zone 9 takes the LI's report of the reason sets (R169). -/
def State.tellJam (s : State) : State := s.setCause .tubeJam s.anyJam

/-- The tamper level of a lane goes to the AU while TAMPER_SWITCH is resolved (R8, R169). -/
def State.tellTamperLevel (s : State) (l : Lane) : State :=
  if (s.laneRec l).resolved.tamperSwitch then s.setCause (.tamper l) (s.laneRec l).tamperLevel else s

/-- TAMPER_SWITCH is resolved or not for a lane, with the tamper level the LI holds (R3, R176). -/
def State.supervise (s : State) (l : Lane) (resolved : Bool) : State :=
  let z := ZoneId.tamper l
  if (s.zone z).supervised = resolved then s
  else if resolved then
    let s := s.modZone z fun r => { r with supervised := true, cause := (s.laneRec l).tamperLevel }
    if s.live then
      let s := if (s.zone z).state = .unsupervised then s.zoneTo z .idle else s
      if (s.zone z).cause then s.causeRises z else s
    else s
  else
    let s := s.modZone z fun r => { r with supervised := false, cause := false }
    if s.live then
      if (s.zone z).state = .idle then s.zoneTo z .unsupervised else s.causeFalls z
    else s

end Sys2Proof.Machine
end

