-- ==== Sys2Proof/Machine/AirOps.lean ====
section
/-! DEFINITION. The Air Supply's shared operations: the TD's request for pressure and its release (R49, R50), the entries
into READY, ECONOMY and FAULT (R52, R54, R55), marking a blower FAILED and swapping roles (R47, R51, R53), and the
re-examination of FAULT (R52). -/

namespace Sys2Proof.Machine

def AS.blower (as : AS) : AB → Blower
  | .a => as.blowerA
  | .b => as.blowerB

def AS.modBlower (as : AS) (which : AB) (f : Blower → Blower) : AS :=
  match which with
  | .a => { as with blowerA := f as.blowerA }
  | .b => { as with blowerB := f as.blowerB }

/-- The duty blower and the standby (R47). -/
def AS.duty (as : AS) : Blower := as.blower as.set.duty
def AS.standby (as : AS) : Blower := as.blower as.set.duty.other

/-- What a blower does (R48). -/
inductive BlowerDrive where
  | stopped
  | running
  | holdSpeed
  | driveSpeed
  deriving DecidableEq, Repr

/-- The drive of each blower, by the state: the standby is always stopped (R48). -/
def AS.blowerDrive (as : AS) (which : AB) : BlowerDrive :=
  if which = as.set.duty then
    match as.state with
    | .economy => .stopped
    | .refresh => .running
    | .spinUp => .running
    | .ready => .holdSpeed
    | .driving => .driveSpeed
    | .fault => .stopped
  else .stopped

/-- GOOD is coded 1 and FAILED 2 (R47, R208). -/
def Blower.healthCode (b : Blower) : Nat := if b.failed then 2 else 1

def State.modAS (s : State) (f : AS → AS) : State := { s with as := f s.as }

/-- AIR_CHANGE rises with the duty blower, both healths and the state after the change (R47). -/
def State.airChange (s : State) : State :=
  s.raise .airChange (u8 (abCode s.as.set.duty) ++ u8 s.as.blowerA.healthCode ++ u8 s.as.blowerB.healthCode ++ u8 s.as.state.code)

/-- READY is entered: the refresh count stops and the idle count runs from 0 under AUTO with the drive-held mark clear
(R51, R55). -/
def AS.enterReady (as : AS) (now : Nat) : AS :=
  { as with state := .ready, refresh := as.refresh.stop now,
            idle := if !as.set.directed && !as.driveHeld then Count.start now else Count.zero }

/-- ECONOMY is entered: the duty blower stops and the refresh count runs from 0 (R54). -/
def AS.enterEconomy (as : AS) (now : Nat) : AS :=
  { as with state := .economy, started := none, closedInRun := false, idle := Count.zero, refresh := Count.start now }

/-- The duty blower is started from stopped: SPIN_UP under its limit (R51). -/
def AS.enterSpinUp (as : AS) (now : Nat) : AS :=
  { as with state := .spinUp, started := some now, idle := Count.zero, refresh := as.refresh.stop now }

/-- A refresh run of the duty blower begins (R57). A switch that reads CLOSED at the start counts as having closed during the
run, and the refresh count keeps its value in the run and after one that failed or was cut short, until the next entry into
ECONOMY, where R48 leaves open whether such a run is 'finished' (both DESIGN CHOICE, log entry 15). -/
def AS.enterRefresh (as : AS) (now : Nat) : AS :=
  { as with state := .refresh, started := some now, closedInRun := as.duty.switchClosed, idle := Count.zero,
            refresh := as.refresh.stop now }

/-- The AS's answer to a request for pressure (R49). -/
inductive AirAnswer where
  | ready
  | fault
  | later
  deriving DecidableEq, Repr

/-- The TD asks for pressure (R49). -/
def AS.request (as : AS) (now : Nat) : AS × AirAnswer :=
  let as := { as with demand := true, driveHeld := true, idle := Count.zero }
  match as.state with
  | .ready => ({ as with state := .driving }, .ready)
  | .driving => (as, .ready)
  | .economy =>
    if as.duty.switchClosed then ({ as with state := .driving, refresh := as.refresh.stop now }, .ready)
    else (as.enterSpinUp now, .later)
  | .refresh =>
    if as.duty.switchClosed then ({ as with state := .driving, started := none, closedInRun := false }, .ready)
    else ({ as with state := .spinUp, closedInRun := false }, .later)
  | .spinUp => (as, .later)
  | .fault => ({ as with demand := false }, .fault)

/-- The TD releases the pressure (R50). -/
def AS.release (as : AS) (now : Nat) : AS :=
  let as := { as with demand := false }
  if as.state = .driving then as.enterReady now else as

/-- The TD reports that the drive is idle (R50). -/
def AS.driveIdle (as : AS) (now : Nat) : AS :=
  let as := { as with driveHeld := false }
  if as.state = .ready ∧ as.set.directed = false then { as with idle := Count.start now } else as

/-- The duty and standby roles are exchanged; AIR_CHANGE rises (R47). -/
def State.airSwap (s : State) : State :=
  (s.modAS fun as => { as with set := { as.set with duty := as.set.duty.other } }).airChange

/-- The duty blower is marked FAILED and stopped; AIR_CHANGE rises (R51, R53, R57). -/
def State.dutyFails (s : State) : State :=
  (s.modAS fun as => { as.modBlower as.set.duty (fun b => { b with failed := true }) with started := none, closedInRun := false }).airChange

/-- A swap can be made: auto-switch is on and the standby is GOOD (R51, R53). -/
def AS.canSwap (as : AS) : Bool := as.set.autoSwitch && !as.standby.failed

/-- FAULT is entered: blowers and counts stop, the idle count at 0 (R55), AIR_CHANGE rises, AIR_FAIL's cause becomes active,
and an answer that waits is FAULT, which clears the demand (R52). The second result says that the TD is told FAULT. -/
def State.airFault (s : State) : State × Bool :=
  let tell := s.as.demand
  let waits := s.as.state == .spinUp
  let s := s.modAS fun as =>
    { as with state := .fault, started := none, closedInRun := false, idle := Count.zero,
              refresh := as.refresh.stop s.now, demand := as.demand && !waits }
  (s.airChange.setCause .airFail true, tell)

/-- A spin-up ends with pressure established: DRIVING where a demand is held, else READY (R51). The second result says that
the TD is answered READY. -/
def State.airEstablished (s : State) : State × Bool :=
  if s.as.demand then (s.modAS fun as => { as with state := .driving, started := none, idle := Count.zero }, true)
  else (s.modAS fun as => ({ as with started := none } : AS).enterReady s.now, false)

/-- A spin-up ends at the first moment the duty blower's switch is found CLOSED, its start included (R51). -/
def State.airFoundClosed (s : State) : State × Bool :=
  if s.as.state = .spinUp ∧ s.as.duty.switchClosed then s.airEstablished else (s, false)

/-- FAULT is left for ECONOMY: AIR_FAIL's cause becomes normal and AIR_CHANGE rises (R52). -/
def State.airLeavesFault (s : State) : State :=
  ((s.modAS fun as => as.enterEconomy s.now).setCause .airFail false).airChange

/-- The re-examination of FAULT at a change of health, role or auto-switch (R52). -/
def State.airReexamine (s : State) : State :=
  if s.as.state ≠ .fault then s
  else if !s.as.duty.failed then s.airLeavesFault
  else if s.as.canSwap then s.airSwap.airLeavesFault
  else s

/-- The AS enters FAULT unless it can swap roles. The third result says that it swapped. -/
def State.airSwapOrFault (s : State) : State × Bool × Bool :=
  if s.as.canSwap then (s.airSwap, false, true)
  else
    let r := s.airFault
    (r.1, r.2, false)

end Sys2Proof.Machine
end

