-- ==== Sys2Proof/Machine/Loads.lean ====
section
/-! DEFINITION. Loads shared by the DP and the SS: the reject box (R68), closing a load (R86, R118) and owing its record
close (R119), committed counts (R94), the dispense queue's upkeep (R85), the TD's reports to the SS about a carrier (R114
to R116), purges of the stacker (R102), and what a bay's door or carrier does to a push or a lift at that bay (R110,
R130). -/

namespace Sys2Proof.Machine

/-! ## The reject box (R68) -/

/-- Notes are added to the reject box, which holds 300; a count of 270 or more raises BOX_HIGH (R68). -/
def State.boxAdd (s : State) (n : Nat) : State :=
  let count := min Config.boxCapacity (s.nd.box + n)
  let s : State := { s with nd := { s.nd with
    box := count, emptying := s.nd.emptying.map fun e => { e with added := e.added + n } } }
  if n ≠ 0 ∧ Config.boxHigh ≤ count then s.raise .boxHigh (u16 count) else s

/-! ## Committed counts and the dispense queue -/

/-- Committed falls by the notes of a load that were planned and not accepted; never below 0 (R94). -/
def State.releaseCommitted (s : State) (ld : Load) : State :=
  Ix4.all.foldl (fun s c => s.modCass c fun r =>
    { r with committed := r.committed - (ld.planned.get c - ld.accepted.get c) }) s

/-- A load of the table is still to be picked: PLANNED or PICKING (R85). -/
def DP.toPick (dp : DP) (id : Nat) : Bool :=
  dp.loads.any fun ld => ld.id == id && (ld.state == .planned || ld.state == .picking)

/-- A request whose loads have all left PICKING leaves the dispense queue (R85). -/
def DP.pruned (dp : DP) : DP := { dp with queue := dp.queue.filter fun r => r.loads.any dp.toPick }

def State.pruneQueue (s : State) : State := { s with dp := s.dp.pruned }

/-! ## Closing (R86, R118) -/

/-- A freed load leaves its request's list, so that its id, given anew, names the new load alone (R86). -/
def Request.without (r : Request) (id : Nat) : Request := { r with loads := r.loads.filter fun i => i != id }

/-- A load's outcome is set, LOAD_CLOSED rises and its record is freed (R86). -/
def State.freeLoad (s : State) (id : Nat) (outcome : LoadOutcome) : State :=
  match s.load id with
  | none => s
  | some ld =>
    let s := s.modLoad id fun ld => { ld with state := .closed, outcome := some outcome }
    let s := s.raiseLane ld.lane .loadClosed (u8 id ++ u8 outcome.code)
    ({ s with dp := { s.dp with
      loads := s.dp.loads.filter fun ld => ld.id != id, queue := s.dp.queue.map fun r => r.without id } } : State).pruneQueue

/-- The head of the owed closes is handed to the JN, one at a time (R118, R119). -/
def State.handOwedClose (s : State) : State :=
  match s.ss.owed with
  | [] => s
  | c :: _ =>
    if s.ss.closeHanded then s
    else
      let w : Change := { seq := c.seq, late := [(29, BitVec.ofNat 8 c.notes), (28, BitVec.ofNat 8 c.outcome.code)],
                          flags := RecFlags.none, closes := true }
      let r := s.hand .loadClose (.change w)
      if r.2 then { r.1 with ss := { r.1.ss with closeHanded := true } } else r.1

/-- A record close joins the owed closes (R118). -/
def State.oweClose (s : State) (c : OwedClose) : State :=
  ({ s with ss := { s.ss with owed := s.ss.owed ++ [c] } } : State).handOwedClose

/-- A load that has been HELD closes, in the order of R118: outcome, outstanding load, owed record close, LOAD_CLOSED, the
record freed. -/
def State.closeHeld (s : State) (id : Nat) (outcome : LoadOutcome) : State :=
  match s.load id with
  | none => s
  | some ld =>
    let s := if (s.carrier ld.lane).outstanding = some id then s.modCarrier ld.lane fun c => { c with outstanding := none } else s
    let s := match ld.seq with
      | none => s
      | some q => s.oweClose { seq := q, outcome := outcome, notes := ld.planned.sum }
    s.freeLoad id outcome

/-- A load the ND holds WAITING is handed back: the ND returns to IDLE (R69). -/
def State.handBack (s : State) (id : Nat) : State :=
  if s.nd.state = .waiting ∧ s.nd.current = some id then { s with nd := { s.nd with state := .idle, current := none } } else s

/-- A PLANNED load closes CANCELLED; committed falls by its planned notes (R96, R97). -/
def State.cancelLoad (s : State) (ld : Load) : State :=
  ((s.handBack ld.id).releaseCommitted ld).freeLoad ld.id .cancelled

/-- The loads of the request that a load belongs to, in index order. -/
def DP.mates (dp : DP) (id : Nat) : List Nat :=
  match dp.queue.find? fun r => r.loads.contains id with
  | none => []
  | some r => r.loads

/-- A load that is PLANNED closes CANCELLED, committed falling by its planned notes (R96, R113). -/
def State.cancelIfPlanned (s : State) (id : Nat) : State :=
  match s.load id with
  | some ld => if ld.state = .planned then s.cancelLoad ld else s
  | none => s

/-- Each PLANNED load of a list closes CANCELLED, in order (R96, R113). -/
def State.cancelPlanned (s : State) (ids : List Nat) : State := ids.foldl State.cancelIfPlanned s

/-! ## Purges of the stacker (R102) -/

/-- The pick side is emptied into the reject box. -/
def State.purgePick (s : State) : State :=
  let n := s.ss.pick.notes
  ({ s with ss := { s.ss with pick := .empty } } : State).boxAdd n

/-- The delivery side is emptied into the reject box. -/
def State.purgeDelivery (s : State) : State :=
  let n := s.ss.delivery.notes
  ({ s with ss := { s.ss with delivery := .empty } } : State).boxAdd n

/-- The purge of a clearing: a FILLING pick side is emptied, a FULL one kept (R77, R102). -/
def State.purgeForClearing (s : State) : State :=
  match s.ss.pick with
  | .filling _ _ => s.purgePick
  | _ => s

/-! ## The TD's reports to the SS (R114 to R116) -/

/-- The outstanding load of a carrier moves from one state to another. -/
def State.stepOutstanding (s : State) (l : Lane) (before after : LoadState) : State :=
  match (s.carrier l).outstanding with
  | none => s
  | some id => s.modLoad id fun ld => if ld.state = before then { ld with state := after } else ld

/-- A launch of an UP move: PRESENTED becomes SENT (R114). -/
def State.reportLaunch (s : State) (l : Lane) : State := s.stepOutstanding l .presented .sent

/-- The carrier is at the lane: SENT becomes DELIVERED (R115). -/
def State.reportAtLane (s : State) (l : Lane) : State := s.stepOutstanding l .sent .delivered

/-- A load enters AWAITING_CLOSE; LOAD_AWAITING_CLOSE rises (R116). -/
def State.awaitClose (s : State) (l : Lane) (id : Nat) : State :=
  (s.modLoad id fun ld => { ld with state := .awaitingClose }).raiseLane l .loadAwaitingClose (u8 id)

/-- The carrier is at the bay with the content read; `find` tells a find from an arrival (R116). -/
def State.reportAtBay (s : State) (l : Lane) (read : Content) (find : Bool) : State :=
  match (s.carrier l).outstanding with
  | none => s
  | some id =>
    match s.outstandingState l, read with
    | some .delivered, .empty => s.closeHeld id .taken
    | some .delivered, .content => s.awaitClose l id
    | some .sent, _ => if find then s.awaitClose l id else s
    | _, _ => s

/-! ## A bay's door or carrier during a push or a lift -/

/-- A push at the bay is aborted: the withdrawal starts (R110). -/
def State.abortPush (s : State) (l : Lane) : State :=
  match s.ss.shuttle with
  | .pushing b _ =>
    if b = l then { s with ss := { s.ss with shuttle := .withdrawing l (s.now + Config.shuttleReturn) .aborted } } else s
  | _ => s

/-- A capture LIFTING at the bay, its arm not returning, is aborted: the arm starts the return (R130). -/
def State.abortLift (s : State) (l : Lane) : State :=
  match s.cu.hand with
  | none => s
  | some h =>
    if s.cu.state = .lifting ∧ h.bay = l ∧ h.returning = none then
      { s with cu := { s.cu with hand := some { h with returning := some .aborted, due := some (s.now + Config.armReturn) } } }
    else s

/-- What a bay's door opening, or its carrier being lifted, does to the holder of the carrier (R39, R110, R130). -/
def State.disturbBay (s : State) (l : Lane) : State := (s.abortPush l).abortLift l

end Sys2Proof.Machine
end

