-- ==== Sys2Proof/Machine/NoteOps.lean ====
section
/-! DEFINITION. The Note Dispenser's shared operations: a cassette's state and ledger (R64 to R66), the slot check (R67),
the headroom test (R68), notes charged by a clearing and the clearing itself (R77). -/

namespace Sys2Proof.Machine

/-- A cassette's state changes: CASSETTE rises with its number and the new state (R65). -/
def State.cassTo (s : State) (c : Cass) (st : CassState) : State :=
  if (s.cass c).kept.state = st then s
  else (s.modCass c fun r => { r with kept := { r.kept with state := st } }).raise .cassette (u8 c.num ++ u8 st.code)

/-- PRESENT or LOW by the estimate (R65). -/
def Ledger.level (k : Ledger) : CassState := if k.estimate ≤ (k.low : Int) then .low else .present

/-- A PRESENT or LOW cassette's state follows its estimate and low threshold (R65). -/
def State.relevel (s : State) (c : Cass) : State :=
  if (s.cass c).usable then s.cassTo c (s.cass c).kept.level else s

/-- A cassette's ledger changed, its state following (R65). -/
def State.modLedger (s : State) (c : Cass) (f : Ledger → Ledger) : State :=
  (s.modCass c fun r => { r with kept := f r.kept }).relevel c

/-- The slot's sensor rises or falls (R65). -/
def State.slotChange (s : State) (c : Cass) (present : Bool) : State :=
  let s := s.modCass c fun r => { r with slot := present }
  if present then (if (s.cass c).kept.state = .absent then s.cassTo c .unconfirmed else s) else s.cassTo c .absent

/-- The start-up slot check (R67). -/
def State.slotCheck (s : State) : State :=
  Ix4.all.foldl (fun s c => s.slotChange c (s.cass c).slot) s

/-- The headroom test for a load of `n` notes over the stacker's notes (R68). -/
def State.headroom (s : State) (stacker n : Nat) : Bool :=
  decide (s.nd.box + stacker + n + s.dp.set.rejectCeiling + 2 ≤ Config.boxCapacity)

/-- A stray note is charged to the cassette of the last pick and to the box (R71). -/
def State.chargeStray (s : State) (c : Option Cass) : State :=
  let s := match c with
    | none => s
    | some c => s.modLedger c fun k => { k with estimate := k.estimate - 1, rejected := k.rejected + 1 }
  s.boxAdd 1

/-- The note of a cassette that stopped in the path is charged as a reject, to its ledger and to the box (R75, R77). -/
def State.chargeInPath (s : State) (c : Cass) : State :=
  if (s.cass c).kept.inPath = 0 then s
  else (s.modLedger c fun k => { k with inPath := 0, rejected := k.rejected + 1 }).boxAdd 1

/-- A cleared path's notes are charged as rejects: the note in path of each cassette (at most one), and a stray note that
had stopped there (R75, R77). -/
def State.chargePath (s : State) : State :=
  let s := Ix4.all.foldl State.chargeInPath s
  let s := if s.nd.strayInPath then s.chargeStray s.nd.lastPick else s
  { s with nd := { s.nd with strayInPath := false } }

/-- A note at the gauge stays in the path when the path stops: a pick's by its in-path count, a stray note by its mark. -/
def State.stopPath (s : State) : State :=
  { s with nd := { s.nd with
      strayInPath := s.nd.strayInPath || s.nd.gauge.any (·.stray)
      pick := none, arrivalDue := none, gauge := none, stopping := false } }

/-- CLEARING is entered: 2,000 ms run and the pick side is purged (R77, R102). -/
def State.startClearing (s : State) : State :=
  let s := s.stopPath
  ({ s with nd := { s.nd with state := .clearing, clearingDue := some (s.now + Config.clearing) } } : State).purgeForClearing

/-- The clearing's end with the path sensors read (R77); its PATH_JAM carries no snapshot, the model's choice
(notes/assumptions/16.md). -/
def State.endClearing (s : State) (pathClear : Bool) : State :=
  if pathClear then
    ({ s with nd := { s.nd with state := .idle, clearingDue := none } } : State).chargePath
  else ({ s with nd := { s.nd with state := .fault, clearingDue := none } } : State).raiseBare .pathJam

/-- What the start-up purge finds in the shuttle belongs to the delivery side's count, which it is kept in (R102): both
sides are emptied into the reject box and the shuttle is HOME. -/
def State.purgeStacker (s : State) : State :=
  let s := s.purgePick.purgeDelivery
  { s with ss := { s.ss with shuttle := .home } }

end Sys2Proof.Machine
end

