-- ==== Sys2Proof/Machine/StartOps.lean ====
section
/-! DEFINITION. Start-up's steps after the journal scan's programs (R205), in the order from the last to the first, so that
each can begin the next: the AU's evaluation and START (R183, R206), the refresh run (R58), the note path (R67, R77), the
carrier locations (R24), the enrolments (R5), the POWER record (R165). -/

namespace Sys2Proof.Machine

/-! ## Step 7: the zones (R183) -/

/-- A supervised TAMPER zone's evaluation: IDLE, then ALARM where its level is active, or LATCHED where the store holds it,
which reports TAMPER to the LI. An unsupervised zone drops a held LATCHED. -/
def State.evaluateTamper (s : State) (l : Lane) : State :=
  let z := ZoneId.tamper l
  let held := (s.zone z).heldLatched
  let s := s.modZone z fun r => { r with heldLatched := false }
  if (s.zone z).supervised then
    let s := s.zoneTo z .idle
    if (s.zone z).cause then s.zoneTo z .alarm
    else if held then (s.zoneTo z .latched).setReasons l fun r => { r with tamper := true }
    else s
  else s

/-- A zone's evaluation against its cause as found. -/
def State.evaluateZone (s : State) (z : ZoneId) : State :=
  match z with
  | .holdupA => if (s.zone z).state = .idle ∧ (s.zone z).cause then s.zoneTo z .locked else s
  | .holdupB => if (s.zone z).state = .idle ∧ (s.zone z).cause then s.zoneTo z .locked else s
  | .safeDoor => if (s.zone z).cause then s.doorOpens .safe else s
  | .binDoor => if (s.zone z).cause then s.doorOpens .bin else s
  | .tamper l => s.evaluateTamper l
  | _ => if (s.zone z).cause then s.causeRises z else s

/-- Start-up ends: the zones are evaluated in zone order, frames are handed to their owners from here on, and the START
notice joins the notice list (R183, R205, R206). -/
def State.endStartUp (s : State) : State :=
  let s := ZoneId.all.foldl State.evaluateZone s
  { s with phase := .running, lc := { s.lc with notices := s.lc.notices ++ [.start], startEnded := s.now } }

/-! ## Step 6: the air (R58) -/

/-- One refresh run of the duty blower begins. -/
def State.beginAir (s : State) : State :=
  { s with phase := .startUp .air, as := s.as.enterRefresh s.now }

/-- A refresh run that ends start-up's step ends start-up with it. -/
def State.airStepEnds (s : State) : State :=
  match s.phase with
  | .startUp .air => s.endStartUp
  | _ => s

/-! ## Steps 4 and 5: locations and the note path -/

/-- A carrier's derived location (R24). -/
def State.derivedLocation (s : State) (l : Lane) : Location :=
  if (s.bay l).present then .atBay else if (s.laneRec l).carrier = .yes then .atLane else .unknown

/-- A carrier's location is set as derived; one found UNKNOWN is reported to the LI (R24). -/
def State.deriveLocation (s : State) (l : Lane) : State :=
  let loc := s.derivedLocation l
  let s := s.modCarrier l fun c => { c with location := loc }
  if loc = .unknown then s.setReasons l fun r => { r with carrierUnknown := true } else s

/-- Each carrier's location is derived (R24). -/
def State.deriveLocations (s : State) : State := Ix4.all.foldl State.deriveLocation s

/-- The ND's step: the slot check, the stacker purge, and a clearing, or HALTED with the door open (R67, R77). -/
def State.beginNotePath (s : State) : State :=
  let s := s.slotCheck.purgeStacker
  if s.nd.safeDoorOpen then ({ s with nd := { s.nd with state := .halted } } : State).beginAir
  else ({ s with phase := .startUp .notePath } : State).startClearing

/-- The ND's step ends once the ND has entered IDLE, FAULT or HALTED (R77). -/
def State.notePathStepEnds (s : State) : State :=
  match s.phase with
  | .startUp .notePath => s.beginAir
  | _ => s

/-! ## Step 3: the enrolments -/

/-- Lanes 1 to 4 are enrolled in order (R5). -/
def State.beginEnrolment (s : State) : State :=
  { s with phase := .startUp .enrolment, li := { s.li with enrolWaiting := Ix4.all.map fun l => .enrol l .startUp } }

/-- The start-up enrolment of lane 4 has ended: steps 4 and 5 follow. -/
def State.enrolmentStepEnds (s : State) : State :=
  match s.phase with
  | .startUp .enrolment => s.deriveLocations.beginNotePath
  | _ => s

/-! ## Step 2's end: the POWER record (R165) -/

/-- The POWER record's body (R165, section 11.5). -/
def powerBody (s : State) : List Byte :=
  u8 s.lc.lastStart.code ++ yesNo s.lc.checkFailed ++ u16 s.jn.interrupted ++ u16 s.jn.voids

/-- The POWER record is lost (R165): start-up goes on. -/
def State.powerRecordLost (s : State) : State :=
  ({ s with jn := { s.jn with powerLost := true } } : State).beginEnrolment

/-- The POWER record is handed to the JN by the reserve rule. -/
def State.beginPowerRecord (s : State) : State :=
  let r := s.append .power .power 0 (powerBody s) false true
  if r.2 then { r.1 with phase := .startUp .powerRecord } else r.1.powerRecordLost

/-- An erase run over the interrupted segments of a bank, its window open (R164). -/
def runFor (bank : AB) (segments : List Nat) (now : Nat) : EraseRun :=
  { bank := bank, waiting := segments, windowDue := some (now + Config.eraseWindow), erasing := none, spent := Count.zero,
    ended := [] }

/-- The PENDING_ERASE segments in ring order. -/
def JN.pendingErase (jn : JN) : List Nat :=
  (List.range Config.segments).filter fun i => (jn.seg i).state == .pendingErase

/-- Where segments wait for erase without a run, a run is formed for the bank of the first of them in ring order (R164). -/
def State.formRun (s : State) : State :=
  match s.jn.run, s.jn.pendingErase with
  | none, i :: is =>
    let mine := (i :: is).filter fun k => bankOf k == bankOf i
    { s with jn := { s.jn with run := some (runFor (bankOf i) mine s.now) } }
  | _, _ => s

/-- The bin's state changes: BIN_CHANGE rises with the new state and the count (R124). -/
def State.binTo (s : State) (st : BinState) : State :=
  if s.cu.bin.state = st then s
  else ({ s with cu := { s.cu with bin := { s.cu.bin with state := st } } } : State).raise .binChange
    (u8 st.code ++ u16 s.cu.bin.count)

/-- The bin state is checked against the bin sensors after the scan (R135). -/
def State.binCheck (s : State) : State :=
  if s.cu.binPresent = false then s.binTo .removed
  else if s.cu.binDoorClosed = false then s.binTo .doorOpen
  else match s.cu.bin.state with
    | .doorOpen => s.binTo .unconfirmed
    | .removed => s.binTo .unconfirmed
    | _ => s

/-- The bin check has been made, so the bin's sensors act from here on. -/
def State.scanned (s : State) : Bool := s.powered && s.phase != .startUp .scan

/-- The scan has ended (R135, R164, R165). -/
def State.scanEnds (s : State) : State := s.binCheck.formRun.beginPowerRecord

/-- The scan ends when its programs have been made or ended (R165). -/
def State.scanStepEnds (s : State) : State :=
  match s.phase with
  | .startUp .scan => if s.jn.queue.isEmpty then s.scanEnds else s
  | _ => s

end Sys2Proof.Machine
end

