-- ==== Sys2Proof/Machine/Drive.lean ====
section
/-! DEFINITION. The Tube Drive's shared operations: a move from its grant to its end (R27 to R36), a purge (R40, R41), and
what an edge of carrier present at the bay or at the station means (R30 to R33, R37 to R39, R41). -/

namespace Sys2Proof.Machine

/-- The carrier locations have been derived: edges are taken by section 2.5 and no longer absorbed (R24). -/
def State.derived (s : State) : Bool :=
  match s.phase with
  | .running => true
  | .restarting _ => true
  | .startUp .notePath => true
  | .startUp .air => true
  | _ => false

def State.setLocation (s : State) (l : Lane) (loc : Location) : State := s.modCarrier l fun c => { c with location := loc }

def State.setPhase (s : State) (p : MovePhase) : State :=
  { s with td := { s.td with move := s.td.move.map fun m => { m with phase := p } } }

/-- Where a move comes from and goes to (section 2.4). -/
def Dir.origin : Dir → Location
  | .up => .atBay
  | .down => .atLane

def Dir.destination : Dir → Location
  | .up => .atLane
  | .down => .atBay

def Dir.moving : Dir → Location
  | .up => .movingUp
  | .down => .movingDown

/-- The destination's carrier present is yes. -/
def State.atDestination (s : State) (l : Lane) : Dir → Bool
  | .up => (s.laneRec l).carrier == .yes
  | .down => (s.bay l).present

/-- The origin's carrier present is no or unsensed. -/
def State.leftOrigin (s : State) (l : Lane) : Dir → Bool
  | .up => !(s.bay l).present
  | .down => (s.laneRec l).carrier != .yes

/-- The TD releases the pressure (R50). -/
def State.releasePressure (s : State) : State := s.modAS fun as => as.release s.now

/-- The move ends: the reservation returns to NONE, the move record is discarded, the drive is idle (R27, R50). -/
def State.endMove (s : State) : State :=
  match s.td.move with
  | none => s
  | some m =>
    let s := s.modCarrier m.lane fun c => { c with reservation := .none }
    ({ s with td := { s.td with move := none } } : State).modAS fun as => as.driveIdle s.now

/-- A diverter or valve setting abandoned in the middle of its settle leaves its position not known (R29). -/
def TD.abandonDivert (td : TD) : TD :=
  match td.move with
  | some { phase := .divert _, lane := l, dir := d, .. } =>
    { td with diverter := if td.diverter = some l then td.diverter else none
              valve := if td.valve = some d then td.valve else none }
  | _ => td

/-- A failure before launch, or a purge's failure: the pressure is released, MOVE_FAILED rises and the move ends (R31,
R41). -/
def State.failMove (s : State) (result : MoveResult) : State :=
  match s.td.move with
  | none => s
  | some m =>
    let s : State := { s with td := s.td.abandonDivert }
    (s.releasePressure.raiseLane m.lane .moveFailed (u8 result.code ++ u8 m.origin.code)).endMove

/-- The arrival: the location is the destination, the pressure is released and SETTLE runs (R34). -/
def State.arrive (s : State) : State :=
  match s.td.move with
  | none => s
  | some m => ((s.setLocation m.lane m.dir.destination).releasePressure).setPhase (.settle (s.now + Config.settle) .arrival)

/-- A fall-back to the origin (R33). -/
def State.fallBack (s : State) : State :=
  match s.td.move with
  | none => s
  | some m =>
    ((s.releasePressure.setLocation m.lane m.dir.origin).raiseLane m.lane .moveFailed
      (u8 MoveResult.fellBack.code ++ u8 m.origin.code)).setPhase (.settle (s.now + Config.settle) .fallBack)

/-- The carrier is seen to leave (R30); where the destination has it already, the arrival is taken in the same step. -/
def State.launch (s : State) : State :=
  match s.td.move with
  | none => s
  | some m =>
    let s := (s.setLocation m.lane m.dir.moving).setPhase (.transit (s.now + (s.laneRec m.lane).set.segTimeout))
    let s := if m.dir = .up then s.reportLaunch m.lane else s
    if s.atDestination m.lane m.dir then s.arrive else s

/-- LAUNCH begins; a carrier that has left already, or is at the destination, is taken at once (R30). -/
def State.enterLaunch (s : State) : State :=
  match s.td.move with
  | none => s
  | some m =>
    let s := s.setPhase (.launch (s.now + Config.launchLimit))
    if s.leftOrigin m.lane m.dir ∨ s.atDestination m.lane m.dir then s.launch else s

/-- DIVERT ends: the positions are recorded; a move goes to LAUNCH, a purge starts its timer (R29, R30, R41). -/
def State.diverted (s : State) : State :=
  match s.td.move with
  | none => s
  | some m =>
    let s : State := { s with td := { s.td with diverter := some m.lane, valve := some m.dir } }
    if m.isPurge then s.setPhase (.purging (s.now + Config.purgeLimit)) else s.enterLaunch

/-- DIVERT begins, and ends at once where diverter and valve stand right (R29). -/
def State.enterDivert (s : State) : State :=
  match s.td.move with
  | none => s
  | some m =>
    if s.td.diverter = some m.lane ∧ s.td.valve = some m.dir then s.diverted
    else s.setPhase (.divert (s.now + Config.divertSettle))

/-- A move or purge takes the drive: the reservation is MOVING and AIR begins (R27, R28, R40, R49). -/
def State.grant (s : State) (l : Lane) (dir : Dir) (origin : Origin) (isPurge : Bool) : State :=
  let s := s.modCarrier l fun c => { c with reservation := .moving }
  let s : State := { s with td := { s.td with
    move := some { lane := l, dir := dir, origin := origin, isPurge := isPurge, phase := .air } } }
  let r := s.as.request s.now
  let s : State := { s with as := r.1 }
  match r.2 with
  | .ready => s.enterDivert
  | .fault => s.failMove .airFault
  | .later => s

/-- An overdue move (R36). -/
def State.overdue (s : State) : State :=
  match s.td.move with
  | none => s
  | some m =>
    let s := s.releasePressure.setLocation m.lane .unknown
    let s := (s.setReasons m.lane fun r => { r with jam := true, carrierUnknown := true }).tellJam
    (s.raiseLaneBare m.lane .overdue).endMove

/-- The AS tells the TD FAULT; what follows goes by the phase (R35, R41). -/
def State.toldAirFault (s : State) : State :=
  match s.td.move with
  | none => s
  | some m =>
    match m.phase with
    | .settle _ _ => s
    | .transit _ => s.overdue
    | _ => s.failMove .airFault

/-- The AS answers READY to a request that waited (R28). -/
def State.toldReady (s : State) : State :=
  match s.td.move with
  | some { phase := .air, .. } => s.enterDivert
  | _ => s

/-! ## Carriers found -/

/-- A purge's find: the location is the end where the rise was seen, the pressure is released and SETTLE runs (R41). -/
def State.purgeFind (s : State) (l : Lane) (loc : Location) : State :=
  let s : State := { s with td := s.td.abandonDivert }
  ((s.setLocation l loc).releasePressure).setPhase (.settle (s.now + Config.settle) .find)

/-- The bay sensor's reading for a carrier at the bay. -/
def State.readBay (s : State) (l : Lane) : Content :=
  if (s.bay l).present then sensedContent (s.bay l) else .unsensed

/-- A report to the SS of a carrier at one end: an arrival, or a find (R115, R116). -/
def State.reportAt (s : State) (l : Lane) (loc : Location) (find : Bool) : State :=
  if loc = .atBay then s.reportAtBay l (s.readBay l) find else s.reportAtLane l

/-- CARRIER_AT_BAY or CARRIER_AT_LANE rises. -/
def State.raiseAt (s : State) (l : Lane) (loc : Location) : State :=
  if loc = .atBay then s.raiseLaneBare l .carrierAtBay else s.raiseLaneBare l .carrierAtLane

/-- The location has become known: the LI removes CARRIER_UNKNOWN (R2, R37). -/
def State.tellKnown (s : State) (l : Lane) : State := s.setReasons l fun r => { r with carrierUnknown := false }

/-- A late arrival (R37). -/
def State.lateArrival (s : State) (l : Lane) (loc : Location) : State :=
  (((s.setLocation l loc).tellKnown l).raiseLaneBare l .lateArrival).reportAt l loc true

/-- A relocation by hand (R38). -/
def State.relocate (s : State) (l : Lane) (loc : Location) : State :=
  let s := (s.setLocation l loc).dropQueued l .locationChanged
  if loc = .atBay then (s.reportAt l .atBay false).raiseAt l .atBay
  else ((s.reportLaunch l).reportAtLane l).raiseAt l .atLane

/-- The location becomes UNKNOWN at a carrier-missing departure: a queued entry is dropped, a move in AIR or DIVERT fails
(R31, R39). -/
def State.loseCarrier (s : State) (l : Lane) : State :=
  let s := (s.setLocation l .unknown).dropQueued l .locationLost
  match s.td.move with
  | some m =>
    if m.lane = l ∧ m.isPurge = false then
      match m.phase with
      | .air => s.failMove .locationLost
      | .divert _ => s.failMove .locationLost
      | _ => s
    else s
  | none => s

/-- A rise of carrier present at one end of a lane with no move for the lane in flight (R37, R38). -/
def State.presentRisesFree (s : State) (l : Lane) (loc : Location) : State :=
  match (s.carrier l).location with
  | .unknown => s.lateArrival l loc
  | .atBay => if loc = .atLane then s.relocate l .atLane else s
  | .atLane => if loc = .atBay then s.relocate l .atBay else s
  | _ => s

/-- A rise of carrier present at one end of a lane, the level standing already (R30, R32, R33, R37, R38, R41). In a purge of
the lane, a rise before the purge's SETTLE is its find. A rise in the SETTLE of that find is followed as a level alone, also
where a departure has made the location UNKNOWN again in that SETTLE; R41's 'rises during the purge' could be read to take it as
a find (DESIGN CHOICE, log entry 14). -/
def State.presentRises (s : State) (l : Lane) (loc : Location) : State :=
  if !s.derived then s
  else match s.td.move with
    | some m =>
      if m.lane = l then
        match m.isPurge, m.phase with
        | true, .settle _ _ => s
        | true, _ => s.purgeFind l loc
        | false, .launch _ => if loc = m.dir.destination then s.launch else s
        | false, .transit _ => if loc = m.dir.destination then s.arrive else s.fallBack
        | false, _ => if (s.carrier l).location = .unknown then s.lateArrival l loc else s
      else s.presentRisesFree l loc
    | none => s.presentRisesFree l loc

/-- A fall of carrier present at an end, or its becoming unsensed there: in LAUNCH at the origin it is the launch (R30,
R39). -/
def State.presentFalls (s : State) (l : Lane) (loc : Location) : State :=
  if !s.derived then s
  else match s.td.move with
    | some m =>
      match m.phase with
      | .launch _ => if m.lane = l ∧ m.isPurge = false ∧ loc = m.dir.origin then s.launch else s
      | _ => s
    | none => s

/-- A door opens at the origin of a move before its launch: the bay door of an UP move, the carrier door of a DOWN move
(R31). -/
def State.originDoorOpens (s : State) (l : Lane) (dir : Dir) : State :=
  match s.td.move with
  | none => s
  | some m =>
    if m.lane = l ∧ m.isPurge = false ∧ m.dir = dir then
      match m.phase with
      | .air => s.failMove .doorOpened
      | .divert _ => s.failMove .doorOpened
      | .launch _ => s.failMove .doorOpened
      | _ => s
    else s

/-- The LI reports the station's carrier present to the TD as an edge (R6, R23): a change to yes is a rise, yes to no a
fall, yes to unsensed no edge, though a DOWN launch takes it (R30). -/
def State.reportStation (s : State) (l : Lane) (level : Sense) : State :=
  let before := (s.laneRec l).carrier
  let s := s.modLane l fun r => { r with carrier := level }
  if before = level then s
  else if level = .yes then s.presentRises l .atLane
  else if before = .yes then s.presentFalls l .atLane
  else s

/-- The LI reports the carrier door to the TD (R6); a fall from yes to no is its opening. -/
def State.reportDoor (s : State) (l : Lane) (level : Sense) : State :=
  let before := (s.laneRec l).door
  let s := s.modLane l fun r => { r with door := level }
  if before = .yes ∧ level = .no then s.originDoorOpens l .down else s

end Sys2Proof.Machine
end

