-- ==== Sys2Proof/Machine/TubeDrive.lean ====
section
/-! DEFINITION. The meanings of the Tube Drive's commands (chapter 2): its requests SEND, RECALL and PURGE, the arbiter, and
the events of the drive and of the bay sensors. An event whose timer does not run, or whose mechanism is not at work,
changes nothing (notes/assumptions/6.md). -/

namespace Sys2Proof.Machine

/-- The TD's answer as the host's reply: QUEUED (1) or ALREADY_QUEUED (2), coded so by the model's choice
(notes/assumptions/8.md), with the position, or the refusal (R45, R46). -/
def State.answerMove (s : State) (kind tag : Nat) : SendAnswer → State
  | .queued p => s.ok kind tag (u8 1 ++ u8 p)
  | .alreadyQueued p => s.ok kind tag (u8 2 ++ u8 p)
  | .refused c => s.refuse kind tag c []

/-- SEND at its owner (R45). -/
def State.ownSend (tag lane : Nat) (s : State) : State :=
  match Ix4.ofNum lane with
  | none => s.refuse 0x18 tag .malformed []
  | some l =>
    let r := s.askUp l .host
    r.1.answerMove 0x18 tag r.2

/-- RECALL at its owner (R46). -/
def State.ownRecall (tag lane : Nat) (s : State) : State :=
  match Ix4.ofNum lane with
  | none => s.refuse 0x19 tag .malformed []
  | some l =>
    let r := s.askDown l .host
    r.1.answerMove 0x19 tag r.2

/-- The end a PURGE names, BAY (1) or LANE (2), as the direction the valve takes (R29, R40). -/
def purgeDir : Nat → Option Dir
  | 1 => some .down
  | 2 => some .up
  | _ => none

/-- PURGE at its owner (R40): granted at once, its reply before its outcome. -/
def State.ownPurge (tag lane towards : Nat) (s : State) : State :=
  match Ix4.ofNum lane, purgeDir towards with
  | some l, some d =>
    if s.td.move.isSome then s.refuse 0x1A tag .busy []
    else if (s.carrier l).location ≠ .unknown then s.refuse 0x1A tag .wrongState []
    else (s.ok 0x1A tag []).grant l d .host true
  | _, _ => s.refuse 0x1A tag .malformed []

def execSend (tag lane : Nat) (s : State) : Host.Outcome State Fault Refusal :=
  s.request 0x18 tag (State.ownSend tag lane)

def execRecall (tag lane : Nat) (s : State) : Host.Outcome State Fault Refusal :=
  s.request 0x19 tag (State.ownRecall tag lane)

def execPurge (tag lane towards : Nat) (s : State) : Host.Outcome State Fault Refusal :=
  s.request 0x1A tag (State.ownPurge tag lane towards)

/-- An entry's launch conditions (R27). -/
def State.canLaunch (s : State) (e : Entry) : Bool :=
  match e.dir with
  | .up => (s.carrier e.lane).location == .atBay && (s.bay e.lane).present && (s.bay e.lane).doorClosed
      && (s.laneRec e.lane).state == .opened
  | .down => (s.carrier e.lane).location == .atLane && (s.laneRec e.lane).carrier == .yes && (s.laneRec e.lane).door != .no

/-- The arbiter grants the oldest entry whose launch conditions hold, the drive being idle (R27). -/
def State.arbitrate (s : State) : State :=
  if s.started ∧ s.td.move = none then
    match s.td.queue.find? s.canLaunch with
    | none => s
    | some e =>
      ({ s with td := { s.td with queue := s.td.queue.filter fun q => q.lane != e.lane } } : State).grant e.lane e.dir e.origin false
  else s

def execArbiterGrant (s : State) : Host.Outcome State Fault Refusal := s.poweredStep State.arbitrate

/-- The 300 ms settle of diverter and valve ends (R29). -/
def State.onDivertSettleDone (s : State) : State :=
  match s.td.move with
  | some { phase := .divert due, .. } => (s.reach due).diverted
  | _ => s

def execDivertSettleDone (s : State) : Host.Outcome State Fault Refusal := s.poweredStep State.onDivertSettleDone

/-- The launch timer expires (R31). -/
def State.onLaunchTimeout (s : State) : State :=
  match s.td.move with
  | some { phase := .launch due, .. } => (s.reach due).failMove .launchFailed
  | _ => s

def execLaunchTimeout (s : State) : Host.Outcome State Fault Refusal := s.poweredStep State.onLaunchTimeout

/-- The bay carrier present sensor's level changes: the level always, the edge as sections 2.4 to 2.6 take it (R23, R30 to
R33, R37 to R39, R41). -/
def State.bayPresent (s : State) (l : Lane) (present : Bool) : State :=
  if (s.bay l).present = present then s
  else
    let s := s.modBay l fun b => { b with present := present }
    if present then s.presentRises l .atBay else (s.presentFalls l .atBay).disturbBay l

/-- The sensors' levels are followed whether the part is powered or not; what a change means needs a powered part. -/
def execBayCarrierPresentChange (lane : Lane) (present : Bool) (s : State) : Host.Outcome State Fault Refusal :=
  if s.powered then .next ((s.bayPresent lane present).finish)
  else .next (s.modBay lane fun r => { r with present := present })

/-- A presentation's success (R108) and its auto-send (R109). The SS releases its own reservation; one that a RECALL has
taken over stays (notes/assumptions/14.md). -/
def State.presentSucceeds (s : State) (l : Lane) (id : Nat) : State :=
  let s := s.modCarrier l fun c =>
    { c with outstanding := some id, reservation := if c.reservation = .presenting then .none else c.reservation }
  let s := s.modLoad id fun ld => { ld with state := .presented, holdDue := none, expiryMarked := false }
  let s : State := { s with ss := { s.ss with delivery := .empty, shuttle := .returning l (s.now + Config.shuttleReturn) } }
  let s := s.raiseLane l .loadPresented (u8 id)
  match s.load id with
  | some ld =>
    if ld.autoSend then
      let r := s.askUp l .autoSend
      r.1.modLoad id fun ld => { ld with autoSendResult := some r.2 }
    else s
  | none => s

/-- The bay content sensor's level changes; where the field then reads CONTENT at the bay of a push, the push has succeeded
(R23, R108). A CONTENT report during a withdrawal changes nothing (R110, R111). -/
def State.bayContentLevel (s : State) (l : Lane) (reads : Bool) : State :=
  let s := s.modBay l fun b => { b with content := reads }
  match s.ss.shuttle, s.ss.delivery.loadId with
  | .pushing at_ _, some id => if at_ = l ∧ s.bayContent l = .content then s.presentSucceeds l id else s
  | _, _ => s

def execBayContentChange (lane : Lane) (content : Bool) (s : State) : Host.Outcome State Fault Refusal :=
  if s.powered then .next ((s.bayContentLevel lane content).finish)
  else .next (s.modBay lane fun r => { r with content := content })

/-- The bay door sensor's level changes; an opening fails an UP move before its launch (R31) and aborts a push (R110) or a
lift (R130) at the bay. -/
def State.bayDoor (s : State) (l : Lane) (closed : Bool) : State :=
  if (s.bay l).doorClosed = closed then s
  else
    let s := s.modBay l fun b => { b with doorClosed := closed }
    if closed then s else (s.originDoorOpens l .up).disturbBay l

def execBayDoorChange (lane : Lane) (closed : Bool) (s : State) : Host.Outcome State Fault Refusal :=
  if s.powered then .next ((s.bayDoor lane closed).finish)
  else .next (s.modBay lane fun r => { r with doorClosed := closed })

/-- A counted waypoint sensor of the moving lane is passed: the transit timer restarts with the segment timeout as it
stands (R32), or the purge timer with 30,000 ms (R41). -/
def State.passWaypoint (s : State) (l : Lane) (k : Nat) : State :=
  match s.td.move with
  | none => s
  | some m =>
    if m.lane = l ∧ 1 ≤ k ∧ k ≤ (s.laneRec l).set.waypoints then
      match m.phase with
      | .transit _ => s.setPhase (.transit (s.now + (s.laneRec l).set.segTimeout))
      | .purging _ => s.setPhase (.purging (s.now + Config.purgeLimit))
      | _ => s
    else s

def State.onWaypointPass (lane : Lane) (waypoint : Nat) (s : State) : State :=
  s.passWaypoint lane waypoint

def execWaypointPass (lane : Lane) (waypoint : Nat) (s : State) : Host.Outcome State Fault Refusal :=
  s.poweredStep (State.onWaypointPass lane waypoint)

/-- The transit timer expires: the move is OVERDUE (R32, R36). -/
def State.onTransitTimeout (s : State) : State :=
  match s.td.move with
  | some { phase := .transit due, .. } => (s.reach due).overdue
  | _ => s

def execTransitTimeout (s : State) : Host.Outcome State Fault Refusal := s.poweredStep State.onTransitTimeout

/-- What the end of SETTLE reports: an arrival at the move's destination (R34), a fall-back to its origin, which raises no
CARRIER condition (R33), or a purge's find at the end where the carrier was found (R41). A location that a departure has
made UNKNOWN since a find counts as the lane's end, the only one a carrier departs from: the model's choice
(notes/assumptions/14.md). -/
def State.settled (s : State) (m : Move) (after : SettleOf) : State :=
  let l := m.lane
  let s := match after with
    | .arrival => (s.reportAt l m.dir.destination false).raiseAt l m.dir.destination
    | .fallBack => s.reportAt l m.dir.origin true
    | .find => ((s.tellKnown l).reportAt l (s.carrier l).location true).raiseAt l (s.carrier l).location
  s.endMove

def State.onSettleEnd (s : State) : State :=
  match s.td.move with
  | some m =>
    match m.phase with
    | .settle due after => (s.reach due).settled m after
    | _ => s
  | none => s

def execSettleEnd (s : State) : Host.Outcome State Fault Refusal := s.poweredStep State.onSettleEnd

/-- The purge timer expires (R41). -/
def State.onPurgeTimeout (s : State) : State :=
  match s.td.move with
  | some { phase := .purging due, .. } => (s.reach due).failMove .purgeExpired
  | _ => s

def execPurgeTimeout (s : State) : Host.Outcome State Fault Refusal := s.poweredStep State.onPurgeTimeout

/-- A queued entry has waited its 60 s (R26). -/
def State.onQueueWaitExpiry (lane : Lane) (s : State) : State :=
  match s.td.entry lane with
  | some e => (s.reach (e.time + Config.queueWait)).dropQueued lane .waitExpired
  | none => s

def execQueueWaitExpiry (lane : Lane) (s : State) : Host.Outcome State Fault Refusal :=
  s.poweredStep (State.onQueueWaitExpiry lane)

end Sys2Proof.Machine
end

