-- ==== Sys2Proof/Machine/Air.lean ====
section
/-! DEFINITION. The meanings of the Air Supply's commands (chapter 3): the pressure switches, the spin-up limit, the idle
and refresh counts, and the five AIR requests. -/

namespace Sys2Proof.Machine

/-- A spin-up whose switch is found CLOSED ends at once, and a TD that waits is answered READY (R51). -/
def State.spinUpFound (s : State) : State :=
  let r := s.airFoundClosed
  if r.2 then r.1.toldReady else r.1

/-- The duty blower has been marked FAILED: the roles swap and the new duty blower is started for the state (R51, R53, R57),
AIR_CHANGE's snapshot giving the state after the swap (R47). In DRIVING a new duty blower whose switch reads CLOSED already
counts as proved, the model's choice (notes/assumptions/15.md). Or the AS enters FAULT and a TD that waits for or holds
pressure is told (R35, R52). -/
def State.airAfterFailure (s : State) : State :=
  let r := s.airSwapOrFault
  if r.2.2 then
    match r.1.as.state with
    | .driving => r.1.modAS fun as => { as with started := if as.duty.switchClosed then none else some r.1.now }
    | .refresh => r.1.modAS fun as => as.enterRefresh r.1.now
    | _ => (r.1.modAS fun as => as.enterSpinUp r.1.now).airChange.spinUpFound
  else (if r.2.1 then r.1.toldAirFault else r.1).airStepEnds

/-- A blower's pressure switch closes: the duty blower's ends a spin-up, or proves it in a refresh run or after a swap in
DRIVING (R51, R53, R57); the standby's is only followed (R47). -/
def State.switchCloses (s : State) (which : AB) : State :=
  let s := s.modAS fun as => as.modBlower which fun r => { r with switchClosed := true }
  if s.as.set.duty = which then
    match s.as.state with
    | .spinUp => s.spinUpFound
    | .refresh => s.modAS fun as => { as with closedInRun := true }
    | .ready => s.modAS fun as => { as with started := none }
    | .driving => s.modAS fun as => { as with started := none }
    | _ => s
  else s

def execPressureSwitchClose (blower : AB) (s : State) : Host.Outcome State Fault Refusal :=
  if s.powered then .next ((s.switchCloses blower).finish)
  else .next (s.modAS fun as => as.modBlower blower fun r => { r with switchClosed := true })

/-- A blower's pressure switch opens: the duty blower's in READY or DRIVING is a loss of pressure (R53). -/
def State.switchOpens (s : State) (which : AB) : State :=
  let before := (s.as.blower which).switchClosed
  let s := s.modAS fun as => as.modBlower which fun r => { r with switchClosed := false }
  if before ∧ s.as.set.duty = which ∧ (s.as.state = .ready ∨ s.as.state = .driving) then s.dutyFails.airAfterFailure else s

def execPressureSwitchOpen (blower : AB) (s : State) : Host.Outcome State Fault Refusal :=
  if s.powered then .next ((s.switchOpens blower).finish)
  else .next (s.modAS fun as => as.modBlower blower fun r => { r with switchClosed := false })

/-- 3,000 ms have passed since a start that the switch has not proved: of a spin-up (R51), or of the new duty blower after
a swap in DRIVING (R53). -/
def State.onSpinUpLimit (s : State) : State :=
  match s.as.started with
  | some t =>
    if s.as.state = .spinUp ∨ s.as.state = .driving ∨ s.as.state = .ready then
      ((s.reach (t + Config.spinUpLimit)).dutyFails).airAfterFailure
    else s
  | none => s

def execSpinUpLimit (s : State) : Host.Outcome State Fault Refusal := s.poweredStep State.onSpinUpLimit

/-- The idle count reaches the idle threshold under AUTO (R55). -/
def State.onIdleThresholdReached (s : State) : State :=
  match s.as.idle.reaches (s.as.set.idleThreshold * 1000) with
  | some due =>
    if s.as.state = .ready ∧ s.as.set.directed = false then
      let s := s.reach due
      s.modAS fun as => as.enterEconomy s.now
    else s
  | none => s

def execIdleThresholdReached (s : State) : Host.Outcome State Fault Refusal :=
  s.poweredStep State.onIdleThresholdReached

/-- The refresh count reaches the refresh interval in ECONOMY (R57). -/
def State.onRefreshDue (s : State) : State :=
  match s.as.refresh.reaches (s.as.set.refreshInterval * 1000) with
  | some due =>
    if s.as.state = .economy then
      let s := s.reach due
      s.modAS fun as => as.enterRefresh s.now
    else s
  | none => s

def execRefreshDue (s : State) : Host.Outcome State Fault Refusal := s.poweredStep State.onRefreshDue

/-- A refresh run is judged by the duty blower's switch (R57). -/
def State.judgeRefresh (s : State) : State :=
  if s.as.closedInRun ∧ s.as.duty.switchClosed then (s.modAS fun as => as.enterEconomy s.now).airStepEnds
  else s.dutyFails.airAfterFailure

def State.onRefreshRunEnd (s : State) : State :=
  match s.as.started with
  | some t => if s.as.state = .refresh then (s.reach (t + Config.refreshRun)).judgeRefresh else s
  | none => s

def execRefreshRunEnd (s : State) : Host.Outcome State Fault Refusal := s.poweredStep State.onRefreshRunEnd

/-! ## Requests -/

/-- A blower's number on the line: A (1), B (2). -/
def blowerOf : Nat → Option AB
  | 1 => some .a
  | 2 => some .b
  | _ => none

/-- Clamping to a range (scope, "Units and notation"). -/
def clamp (lo hi n : Nat) : Nat := max lo (min hi n)

/-- A setting's on/off value on the line. -/
def onOff : Nat → Option Bool
  | 0 => some false
  | 1 => some true
  | _ => none

/-- The counts are compared with the settings in force at every moment (R48, R55, R57). -/
def State.airCompare (s : State) : State :=
  if s.as.state = .ready ∧ s.as.set.directed = false ∧ s.as.idle.since.isSome
      ∧ s.as.set.idleThreshold * 1000 ≤ s.as.idle.value s.now then
    s.modAS fun as => as.enterEconomy s.now
  else if s.as.state = .economy ∧ s.as.refresh.since.isSome
      ∧ s.as.set.refreshInterval * 1000 ≤ s.as.refresh.value s.now then
    s.modAS fun as => as.enterRefresh s.now
  else s

/-- The mode, the two times and auto-switch are applied with the effects of R55 to R57 (R59). -/
def State.airApply (s : State) (directed : Bool) (idle refresh : Nat) (auto : Bool) : State :=
  let was := s.as.set.directed
  let s := s.modAS fun as =>
    { as with set := { as.set with directed := directed, idleThreshold := clamp 10 600 idle,
                                   refreshInterval := clamp 60 3600 refresh, autoSwitch := auto } }
  let s := if directed then s.modAS fun as => { as with idle := Count.zero }
    else if was ∧ s.as.state = .ready ∧ s.as.driveHeld = false then s.modAS fun as => { as with idle := Count.start s.now }
    else s
  s.airCompare

/-- The duty choice, applied in ECONOMY and FAULT alone, and the re-examination of FAULT (R52, R59). In ECONOMY the choice
swaps the roles without regard to health, and a FAILED new duty blower leaves the AS in ECONOMY: R59 names no check and R52
no entry into FAULT for it (DESIGN CHOICE, log entry 15). -/
def State.airChoose (s : State) (duty : AB) : State :=
  let s := if (s.as.state = .economy ∨ s.as.state = .fault) ∧ s.as.set.duty ≠ duty then s.airSwap else s
  s.airReexamine

/-- AUTO is coded 1 and DIRECTED 2. -/
def modeCode (directed : Bool) : Nat := if directed then 2 else 1

/-- The economy mode of a value on the line. -/
def modeOf : Nat → Option Bool
  | 1 => some false
  | 2 => some true
  | _ => none

/-- AIR_SETTINGS at its owner (R59). -/
def State.ownAirSettings (tag mode idle refresh autoSwitch duty : Nat) (s : State) : State :=
  match modeOf mode, onOff autoSwitch, blowerOf duty with
  | some m, some a, some d =>
    let s := (s.airApply m idle refresh a).airChoose d
    s.ok 0x20 tag (u8 (modeCode s.as.set.directed) ++ u16 s.as.set.idleThreshold ++ u16 s.as.set.refreshInterval
      ++ yesNo s.as.set.autoSwitch ++ u8 (abCode s.as.set.duty))
  | _, _, _ => s.refuse 0x20 tag .malformed []

def execAirSettings (tag mode idle refresh autoSwitch duty : Nat) (s : State) : Host.Outcome State Fault Refusal :=
  s.request 0x20 tag (State.ownAirSettings tag mode idle refresh autoSwitch duty)

/-- OK with the air state. -/
def State.okAir (s : State) (kind tag : Nat) : State := s.ok kind tag (u8 s.as.state.code)

/-- AIR_ECONOMY at its owner (R60). -/
def State.ownAirEconomy (tag : Nat) (s : State) : State :=
  match s.as.state with
  | .ready =>
    if s.as.driveHeld then s.refuse 0x21 tag .busy [] else (s.modAS fun as => as.enterEconomy s.now).okAir 0x21 tag
  | .spinUp =>
    if s.as.demand then s.refuse 0x21 tag .busy [] else (s.modAS fun as => as.enterEconomy s.now).okAir 0x21 tag
  | .driving => s.refuse 0x21 tag .busy []
  | .economy => s.okAir 0x21 tag
  | .refresh => s.okAir 0x21 tag
  | .fault => s.refuse 0x21 tag .wrongState []

def execAirEconomy (tag : Nat) (s : State) : Host.Outcome State Fault Refusal :=
  s.request 0x21 tag (State.ownAirEconomy tag)

/-- AIR_WAKE at its owner (R61); a spin-up whose switch is CLOSED already ends after the reply is decided. -/
def State.ownAirWake (tag : Nat) (s : State) : State :=
  match s.as.state with
  | .economy => ((s.modAS fun as => as.enterSpinUp s.now).okAir 0x22 tag).spinUpFound
  | .refresh => ((s.modAS fun as => { as with state := .spinUp, closedInRun := false }).okAir 0x22 tag).spinUpFound
  | .fault => s.refuse 0x22 tag .wrongState []
  | _ => s.okAir 0x22 tag

def execAirWake (tag : Nat) (s : State) : Host.Outcome State Fault Refusal := s.request 0x22 tag (State.ownAirWake tag)

/-- A FAILED blower returns to GOOD (R62). -/
def State.airResets (s : State) (which : AB) : State :=
  if (s.as.blower which).failed then
    ((s.modAS fun as => as.modBlower which fun r => { r with failed := false }).airChange).airReexamine
  else s

/-- AIR_RESET at its owner (R62). -/
def State.ownAirReset (tag blower : Nat) (s : State) : State :=
  match blowerOf blower with
  | some w =>
    let s := s.airResets w
    s.ok 0x23 tag (u8 s.as.blowerA.healthCode ++ u8 s.as.blowerB.healthCode ++ u8 (abCode s.as.set.duty) ++ u8 s.as.state.code)
  | none => s.refuse 0x23 tag .malformed []

def execAirReset (tag blower : Nat) (s : State) : Host.Outcome State Fault Refusal :=
  s.request 0x23 tag (State.ownAirReset tag blower)

/-- A blower in AIR_STATUS: role, health, pressure switch (R63). -/
def AS.blowerBytes (as : AS) (which : AB) : List Byte :=
  u8 (if as.set.duty = which then 1 else 2) ++ u8 (as.blower which).healthCode ++ u8 (if (as.blower which).switchClosed then 1 else 2)

/-- A count in whole seconds (R63), in two bytes that saturate at 65,535, as no range is stated for it (DESIGN CHOICE, log
entry 8). -/
def countBytes (c : Count) (now : Nat) : List Byte := u16 (min 65535 (seconds (c.value now)))

/-- AIR_STATUS's values (R63). -/
def State.airStatusBytes (s : State) : List Byte :=
  u8 s.as.state.code ++ yesNo s.as.demand ++ yesNo s.as.driveHeld ++ s.as.blowerBytes .a ++ s.as.blowerBytes .b
    ++ u8 (modeCode s.as.set.directed) ++ u16 s.as.set.idleThreshold ++ u16 s.as.set.refreshInterval ++ yesNo s.as.set.autoSwitch
    ++ countBytes s.as.idle s.now ++ countBytes s.as.refresh s.now ++ s.lc.groupFlags .air .i1

/-- AIR_STATUS at its owner (R63). -/
def State.ownAirStatus (tag : Nat) (s : State) : State := (s.ok 0x24 tag s.airStatusBytes).autoClear .air .i1

def execAirStatus (tag : Nat) (s : State) : Host.Outcome State Fault Refusal :=
  s.request 0x24 tag (State.ownAirStatus tag)

end Sys2Proof.Machine
end

