-- ==== Sys2Proof/Machine/Lanes.lean ====
section
/-! DEFINITION. The meanings of the Lane Interface's commands (chapter 1): the lane bus (R4), enrolment (R5, R6), polling
(R7 to R10), the BASIC inputs (R9), the vehicle loop (R11, R12) and the lane requests (R15 to R21). -/

namespace Sys2Proof.Machine

/-! ## The lane bus (R4) -/

def State.modLI (s : State) (f : LI → LI) : State := { s with li := f s.li }

/-- The polls are held back from the bus reset to the end of lane 4's enrolment (R21). -/
def LI.resetting (li : LI) : Bool := li.rescan.any fun r => r.all && r.resetDone

/-- A poll goes out: it carries a changed displayed text where LANE_DISPLAY is resolved and the station is not lost (R7,
R13), and its answer window runs 20 ms. The text counts as received when the poll is sent, also where the answer is then
missed, on which the manual is silent (DESIGN CHOICE, log entry 10). -/
def State.sendPoll (s : State) (l : Lane) : State :=
  let s := s.modLane l fun r =>
    if r.resolved.laneDisplay ∧ r.reasons.stationLost = false then { r with shown := some r.displayed } else r
  s.modLI fun li => { li with bus := .poll l (s.now + Config.pollWindow) }

/-- The oldest waiting poll of a station that is still FULL goes out; the bus stays free without one. -/
def State.sendWaiting (s : State) : State :=
  match s.li.pollsWaiting.filter fun l => (s.laneRec l).kind == .full with
  | [] => s.modLI fun li => { li with bus := .free, pollsWaiting := [] }
  | l :: ls => (s.modLI fun li => { li with pollsWaiting := ls }).sendPoll l

/-- The bus is released by a poll: a waiting enrolment has the next turn, then a waiting poll (R4). -/
def State.releaseByPoll (s : State) : State :=
  if s.li.enrolWaiting.isEmpty then s.sendWaiting else s.modLI fun li => { li with bus := .free }

/-- The bus is released by an enrolment: a waiting poll has the next turn, but during a RESCAN of all lanes none (R4,
R21). -/
def State.releaseByEnrolment (s : State) : State :=
  if s.li.resetting then s.modLI fun li => { li with bus := .free } else s.sendWaiting

/-! ## Enrolment (R5, R6) -/

/-- The IDENT query of a lane goes out, its answer window running 50 ms (R5). -/
def State.sendIdent (s : State) (l : Lane) (why : EnrolWhy) (query : Nat) : State :=
  s.modLI fun li => { li with bus := .ident l why query (s.now + Config.identWindow) }

/-- The lane-bus reset is pulsed: every FULL station drops its shown text (R21). -/
def State.pulseReset (s : State) : State :=
  s.modLI fun li =>
    { li with lanes := li.lanes.map fun r => { r with shown := none },
              rescan := li.rescan.map fun r => { r with resetDone := true } }

/-- A waiting enrolment takes the free bus; a RESCAN of all lanes pulses the bus reset first (R4, R5, R21). -/
def State.startEnrolment (s : State) : State :=
  if s.li.bus = .free then
    match s.li.enrolWaiting with
    | .enrol l why :: rest => (s.modLI fun li => { li with enrolWaiting := rest }).sendIdent l why 1
    | .busReset :: .enrol l why :: rest =>
      ((s.modLI fun li => { li with enrolWaiting := rest }).pulseReset).sendIdent l why 1
    | .busReset :: rest => (s.modLI fun li => { li with enrolWaiting := rest }).pulseReset
    | [] => s
  else s

def execEnrolmentStart (s : State) : Host.Outcome State Fault Refusal := s.poweredStep State.startEnrolment

/-- A loop activation, or a clear report (R11). -/
def State.takeLoop (s : State) (l : Lane) (latch level : Bool) : State :=
  if latch ∨ level then
    let was := (s.laneRec l).vehicle
    let s := s.modLane l fun r =>
      { r with vehicle := true, clearDue := if level then none else some (s.now + Config.vehicleClear) }
    if was then s else s.raiseLaneBare l .vehicle
  else
    s.modLane l fun r =>
      if r.vehicle ∧ r.clearDue = none then { r with clearDue := some (s.now + Config.vehicleClear) } else r

/-- The loop at the end of an enrolment (R6). -/
def State.takeLoopAtEnrolment (s : State) (l : Lane) (level : Bool) : State :=
  if (s.laneRec l).resolved.vehicleLoop then
    if level then s.takeLoop l false true
    else s.modLane l fun r => if r.vehicle then { r with clearDue := some (s.now + Config.vehicleClear) } else r
  else s.modLane l fun r => { r with vehicle := false, clearDue := none }

/-- What an enrolment finds. -/
structure Found where
  kind : StationKind
  advertised : Features
  carrier : Sense
  door : Sense
  loop : Bool
  tamper : Bool
  deriving DecidableEq, Repr

/-- Yes or no as a level. -/
def sense (b : Bool) : Sense := if b then .yes else .no

/-- A FULL station's report (R5). -/
def identFound (r : IdentReport) : Found :=
  { kind := .full, advertised := Features.ofNat r.features.toNat, carrier := sense r.carrier, door := sense r.door,
    loop := r.loop, tamper := r.tamper }

/-- The updates at the end of an enrolment, in the order of R6. -/
def State.enrolled (s : State) (l : Lane) (f : Found) : State :=
  let s := s.modLane l fun r =>
    { r with kind := f.kind, advertised := f.advertised, missed := 0, tamperLevel := f.tamper, shown := none }
  let s := s.supervise l (s.laneRec l).resolved.tamperSwitch
  let s := s.setReasons l fun r => { r with stationLost := f.kind == .absent }
  let s := s.reportStation l f.carrier
  let s := s.reportDoor l (if (s.laneRec l).resolved.carrierDoor then f.door else .unsensed)
  let s := s.takeLoopAtEnrolment l f.loop
  (s.tellTamperLevel l).raiseLaneBare l .station

/-- A lane in a RESCAN reply: kind, advertised and resolved features, reasons (R20, R21). -/
def LaneRec.rescanBytes (r : LaneRec) : List Byte :=
  u8 r.kind.code ++ u8 r.advertised.code ++ u8 r.resolved.code ++ u8 r.reasons.code

/-- The RESCAN's reply, and its end (R20, R21). -/
def State.answerRescan (s : State) (values : List Byte) : State :=
  match s.li.rescan with
  | none => s
  | some r => (s.modLI fun li => { li with rescan := none }).ok 0x15 r.tag values

/-- What follows the end of an enrolment, by why it ran (R5, R20, R21, R205). -/
def State.afterEnrolment (s : State) (l : Lane) (why : EnrolWhy) : State :=
  match why with
  | .startUp => if l = .i4 then s.releaseByEnrolment.enrolmentStepEnds else s.releaseByEnrolment
  | .rescanOne => (s.answerRescan (s.laneRec l).rescanBytes).releaseByEnrolment
  | .rescanAll =>
    (if l = .i4 then s.answerRescan (s.li.lanes.toList.flatMap LaneRec.rescanBytes) else s).releaseByEnrolment
  | .lost => s.releaseByEnrolment

def State.endEnrolment (s : State) (l : Lane) (why : EnrolWhy) (f : Found) : State :=
  (s.enrolled l f).afterEnrolment l why

/-- A good IDENT answer ends the enrolment with kind FULL (R5). -/
def State.onIdentAnswer (report : IdentReport) (s : State) : State :=
  match s.li.bus with
  | .ident l why _ _ => s.endEnrolment l why (identFound report)
  | _ => s

def execIdentAnswer (report : IdentReport) (s : State) : Host.Outcome State Fault Refusal :=
  s.poweredStep (State.onIdentAnswer report)

/-- A window passes with no good answer: the next query, or after three the select-return loop test (R5). -/
def State.onIdentTimeout (loopClosed : Bool) (s : State) : State :=
  match s.li.bus with
  | .ident l why query due =>
    let s := s.reach due
    if query < Config.identQueries then s.sendIdent l why (query + 1)
    else if loopClosed then
      s.endEnrolment l why { kind := .basic, advertised := Features.none, carrier := sense (s.laneRec l).carrierInput,
                             door := .unsensed, loop := false, tamper := false }
    else
      s.endEnrolment l why { kind := .absent, advertised := Features.none, carrier := .unsensed, door := .unsensed,
                             loop := false, tamper := false }
  | _ => s

def execIdentTimeout (loopClosed : Bool) (s : State) : Host.Outcome State Fault Refusal :=
  s.poweredStep (State.onIdentTimeout loopClosed)

/-! ## Polling (R7 to R10) -/

/-- A FULL station's poll falls due: sent on a free bus without a waiting enrolment, else when the bus is free (R4, R7). -/
def State.pollFallsDue (s : State) (l : Lane) : State :=
  if (s.laneRec l).kind = .full then
    if s.li.bus = .free ∧ s.li.enrolWaiting = [] ∧ s.li.resetting = false then s.sendPoll l
    else if s.li.pollsWaiting.contains l then s
    else s.modLI fun li => { li with pollsWaiting := li.pollsWaiting ++ [l] }
  else s

def State.onPollDue (lane : Lane) (s : State) : State :=
  s.pollFallsDue lane

def execPollDue (lane : Lane) (s : State) : Host.Outcome State Fault Refusal := s.poweredStep (State.onPollDue lane)

/-- A SEND press (R9). -/
def State.sendPress (s : State) (l : Lane) : State :=
  if (s.carrier l).location = .atLane ∧ (s.laneRec l).reasons.jam = false ∧ (s.laneRec l).reasons.carrierUnknown = false then
    (s.askDown l .station).1
  else s

/-- A good poll answer, in the order of R8. -/
def State.takeAnswer (s : State) (l : Lane) (p : PollReport) : State :=
  let s := s.modLane l fun r => { r with missed := 0, answerReceived := true }
  let s := s.reportStation l (sense p.carrier)
  let s := if (s.laneRec l).resolved.carrierDoor then s.reportDoor l (sense p.door) else s
  let s := (s.modLane l fun r => { r with tamperLevel := p.tamper }).tellTamperLevel l
  let s := if (s.laneRec l).resolved.vehicleLoop then s.takeLoop l p.loopLatch p.loop else s
  let s := if p.send then s.sendPress l else s
  if p.call then s.raiseLaneBare l .call else s

/-- The lane's enrolment waits for the bus already. -/
def LI.enrolWaits (li : LI) (l : Lane) : Bool :=
  li.enrolWaiting.any fun j => match j with
    | .enrol k _ => k == l
    | .busReset => false

/-- A lost station's answer is discarded, and its enrolment waits for the bus (R10). -/
def State.lostAnswers (s : State) (l : Lane) : State :=
  let s := s.modLane l fun r => { r with answerReceived := false }
  if s.li.enrolWaits l then s else s.modLI fun li => { li with enrolWaiting := li.enrolWaiting ++ [.enrol l .lost] }

def State.onPollAnswer (report : PollReport) (s : State) : State :=
  match s.li.bus with
  | .poll l _ =>
    (if (s.laneRec l).reasons.stationLost then s.lostAnswers l else s.takeAnswer l report).releaseByPoll
  | _ => s

def execPollAnswer (report : PollReport) (s : State) : Host.Outcome State Fault Refusal :=
  s.poweredStep (State.onPollAnswer report)

/-- The third miss loses the station (R10). -/
def State.loseStation (s : State) (l : Lane) : State :=
  let s := s.setReasons l fun r => { r with stationLost := true }
  let s := (s.reportStation l .unsensed).reportDoor l .unsensed
  (s.modLane l fun r => { r with vehicle := false, clearDue := none }).raiseLaneBare l .station

/-- A missed poll (R7, R10). -/
def State.missPoll (s : State) (l : Lane) : State :=
  let s := s.modLane l fun r => { r with answerReceived := false, missed := min Config.missesToLose (r.missed + 1) }
  if (s.laneRec l).missed = Config.missesToLose ∧ (s.laneRec l).reasons.stationLost = false then s.loseStation l else s

def State.onPollAnswerTimeout (s : State) : State :=
  match s.li.bus with
  | .poll l due => ((s.reach due).missPoll l).releaseByPoll
  | _ => s

def execPollAnswerTimeout (s : State) : Host.Outcome State Fault Refusal := s.poweredStep State.onPollAnswerTimeout

/-! ## The BASIC inputs (R9) -/

def State.onBasicSendEdge (lane : Lane) (s : State) : State :=
  if (s.laneRec lane).kind = .basic then s.sendPress lane else s

def execBasicSendEdge (lane : Lane) (s : State) : Host.Outcome State Fault Refusal :=
  s.poweredStep (State.onBasicSendEdge lane)

def State.onBasicCallEdge (lane : Lane) (s : State) : State :=
  if (s.laneRec lane).kind = .basic then s.raiseLaneBare lane .call else s

def execBasicCallEdge (lane : Lane) (s : State) : Host.Outcome State Fault Refusal :=
  s.poweredStep (State.onBasicCallEdge lane)

/-- The discrete carrier input's level is followed always; a BASIC station's change goes to the TD as an edge at once. -/
def State.basicCarrier (s : State) (l : Lane) (present : Bool) : State :=
  let s := s.modLane l fun r => { r with carrierInput := present }
  if (s.laneRec l).kind = .basic then s.reportStation l (sense present) else s

def execBasicCarrierPresentChange (lane : Lane) (present : Bool) (s : State) : Host.Outcome State Fault Refusal :=
  if s.powered then .next ((s.basicCarrier lane present).finish)
  else .next (s.modLane lane fun r => { r with carrierInput := present })

/-! ## The vehicle loop (R12) -/

/-- A carrier-missing departure (R12, R39, R179). -/
def State.carrierMissing (s : State) (l : Lane) : State :=
  let s := s.loseCarrier l
  let s := s.setReasons l fun r => { r with carrierUnknown := true }
  let s : State := { s with au := { s.au with missing := s.au.missing.set l true } }
  s.setCause .carrierMissing true

/-- A drive-off (R12). -/
def State.driveOff (s : State) (l : Lane) : State :=
  let s := s.raiseLaneBare l .driveOff
  if (s.laneRec l).set.autoRecall then (s.askDown l .autoRecall).1 else s

/-- The departure at the clear timer's expiry (R12). -/
def State.depart (s : State) (l : Lane) : State :=
  let s := s.modLane l fun r => { r with vehicle := false, clearDue := none }
  if (s.carrier l).location = .atLane then
    match (s.laneRec l).carrier with
    | .no => s.carrierMissing l
    | .yes => if s.outstandingState l = some .delivered then s.driveOff l else s
    | .unsensed => s
  else s

def State.onVehicleClearExpiry (lane : Lane) (s : State) : State :=
  match (s.laneRec lane).clearDue with
  | some due => (s.reach due).depart lane
  | none => s

def execVehicleClearExpiry (lane : Lane) (s : State) : Host.Outcome State Fault Refusal :=
  s.poweredStep (State.onVehicleClearExpiry lane)

/-! ## Requests (R15 to R21) -/

/-- The resolved set is recomputed with the effects of R3. -/
def State.reresolve (s : State) (l : Lane) : State :=
  let f := (s.laneRec l).resolved
  let s := if f.vehicleLoop then s else s.modLane l fun r => { r with vehicle := false, clearDue := none }
  let s := s.supervise l f.tamperSwitch
  if f.carrierDoor then s else s.reportDoor l .unsensed

/-- LANE_SETTINGS at its owner (R15). -/
def State.ownLaneSettings (tag lane features waypoints timeout autoRecall : Nat) (s : State) : State :=
  match Ix4.ofNum lane, onOff autoRecall with
  | some l, some a =>
    let s := s.modLane l fun r =>
      { r with set := { r.set with enabled := Features.ofNat features, waypoints := clamp 0 3 waypoints,
                                   segTimeout := clamp 1000 30000 timeout, autoRecall := a } }
    let s := s.reresolve l
    let r := s.laneRec l
    s.ok 0x10 tag (u8 r.set.enabled.code ++ u8 r.set.waypoints ++ u16 r.set.segTimeout ++ yesNo r.set.autoRecall
      ++ u8 r.resolved.code)
  | _, _ => s.refuse 0x10 tag .malformed []

def execLaneSettings (tag lane features waypoints timeout autoRecall : Nat) (s : State) : Host.Outcome State Fault Refusal :=
  s.request 0x10 tag (State.ownLaneSettings tag lane features waypoints timeout autoRecall)

/-- OK with the lane's state and reason set. -/
def State.okLane (s : State) (kind tag : Nat) (l : Lane) : State :=
  s.ok kind tag (u8 (s.laneRec l).state.code ++ u8 (s.laneRec l).reasons.code)

/-- OPEN at its owner (R16): JAM goes where the location is known. -/
def State.ownOpen (tag lane : Nat) (s : State) : State :=
  match Ix4.ofNum lane with
  | none => s.refuse 0x11 tag .malformed []
  | some l =>
    let s := s.modLane l fun r => { r with set := { r.set with isOpen := true } }
    let known := (s.carrier l).location = .atBay ∨ (s.carrier l).location = .atLane
    let s := if (s.laneRec l).reasons.jam ∧ known then (s.setReasons l fun r => { r with jam := false }).tellJam else s
    s.okLane 0x11 tag l

def execOpenLane (tag lane : Nat) (s : State) : Host.Outcome State Fault Refusal :=
  s.request 0x11 tag (State.ownOpen tag lane)

/-- CLOSE at its owner (R17). -/
def State.ownClose (tag lane : Nat) (s : State) : State :=
  match Ix4.ofNum lane with
  | none => s.refuse 0x12 tag .malformed []
  | some l => (s.modLane l fun r => { r with set := { r.set with isOpen := false } }).okLane 0x12 tag l

def execCloseLane (tag lane : Nat) (s : State) : Host.Outcome State Fault Refusal :=
  s.request 0x12 tag (State.ownClose tag lane)

/-- A text as the LI keeps it: its first 20 characters, a space for each that is not 20h to 7Eh (R18). -/
def keptText (text : List Byte) : List Byte :=
  (text.take Config.textLimit).map fun c => if 0x20 ≤ c.toNat ∧ c.toNat ≤ 0x7E then c else 0x20#8

/-- LANE_TEXT at its owner (R18). -/
def State.ownLaneText (tag lane : Nat) (text : List Byte) (s : State) : State :=
  match Ix4.ofNum lane with
  | none => s.refuse 0x13 tag .malformed []
  | some l =>
    let t := keptText text
    (s.modLane l fun r => { r with text := if t.isEmpty then none else some t }).ok 0x13 tag (textBytes t)

def execLaneText (tag lane : Nat) (text : List Byte) (s : State) : Host.Outcome State Fault Refusal :=
  s.request 0x13 tag (State.ownLaneText tag lane text)

/-- LANE_STATUS's values (R19). One byte says whether the lane has a queue entry, the direction follows it, and an absent
display text is its presence byte 00h alone, with no count byte and no FFh bytes, as R208 fixes no number of them for a text:
both are the model's choices (DESIGN CHOICE, log entry 8). -/
def State.laneStatusBytes (s : State) (l : Lane) : List Byte :=
  let r := s.laneRec l
  let c := s.carrier l
  u8 r.kind.code ++ u8 r.advertised.code ++ u8 r.set.enabled.code ++ u8 r.resolved.code
    ++ u8 (if r.set.isOpen then 1 else 2) ++ u8 r.state.code ++ u8 r.reasons.code
    ++ u8 r.carrier.code ++ u8 r.door.code ++ yesNo r.vehicle ++ u8 r.missed
    ++ optional 0 (r.text.map textBytes) ++ textBytes r.displayed
    ++ yesNo r.set.autoRecall ++ u8 r.set.waypoints ++ u16 r.set.segTimeout
    ++ u8 c.location.code ++ u8 (s.bayContent l).code ++ u8 c.reservation.code ++ optional 1 (c.outstanding.map u8)
    ++ optional 1 ((s.td.entry l).map fun e => u8 e.dir.code)
    ++ s.lc.groupFlags .lane l ++ s.lc.groupFlags .carrier l

/-- LANE_STATUS at its owner (R19). -/
def State.ownLaneStatus (tag lane : Nat) (s : State) : State :=
  match Ix4.ofNum lane with
  | none => s.refuse 0x14 tag .malformed []
  | some l => ((s.ok 0x14 tag (s.laneStatusBytes l)).autoClear .lane l).autoClear .carrier l

def execLaneStatus (tag lane : Nat) (s : State) : Host.Outcome State Fault Refusal :=
  s.request 0x14 tag (State.ownLaneStatus tag lane)

/-- A RESCAN of one lane joins the waiting enrolments; an automatic re-enrolment of the lane that waits serves both (R20). -/
def LI.rescanLane (li : LI) (l : Lane) : List EnrolJob :=
  if li.enrolWaiting.contains (.enrol l .lost) then
    li.enrolWaiting.map fun j => if j = .enrol l .lost then .enrol l .rescanOne else j
  else li.enrolWaiting ++ [.enrol l .rescanOne]

/-- RESCAN of one lane at its owner (R20). -/
def State.ownRescan (tag lane : Nat) (s : State) : State :=
  match Ix4.ofNum lane with
  | none => s.refuse 0x15 tag .malformed []
  | some l =>
    if s.td.moves l ∨ s.li.rescan.isSome then s.refuse 0x15 tag .busy []
    else s.modLI fun li =>
      { li with rescan := some { tag := tag, all := false, resetDone := false }, enrolWaiting := li.rescanLane l }

def execRescan (tag lane : Nat) (s : State) : Host.Outcome State Fault Refusal :=
  s.request 0x15 tag (State.ownRescan tag lane)

/-- RESCAN of all lanes at its owner (R21). -/
def State.ownRescanAll (tag : Nat) (s : State) : State :=
  if s.td.move.isSome ∨ s.li.rescan.isSome then s.refuse 0x15 tag .busy []
  else s.modLI fun li =>
    { li with rescan := some { tag := tag, all := true, resetDone := false },
              enrolWaiting := li.enrolWaiting ++ .busReset :: Ix4.all.map fun l => .enrol l .rescanAll }

def execRescanAllLanes (tag : Nat) (s : State) : Host.Outcome State Fault Refusal :=
  s.request 0x15 tag (State.ownRescanAll tag)

end Sys2Proof.Machine
end

