-- ==== Sys2Proof/Machine/Dispenser.lean ====
section
/-! DEFINITION. The meanings of the Note Dispenser's commands (chapter 4): hand-over and picking (R69 to R74), the gauge
(R71, R72), jams, the safe door and clearings (R75 to R77), the slots (R65) and the cassette requests (R78 to R82). -/

namespace Sys2Proof.Machine

def State.modND (s : State) (f : ND → ND) : State := { s with nd := f s.nd }

/-- The causes of DISPENSE_FAILED: those of R73, then PRESENT_FAILED (R96) and HOLD_EXPIRED (R113). -/
inductive FailCause where
  | pickFailed
  | rejectCeiling
  | pathJam
  | halted
  | presentFailed
  | holdExpired
  deriving DecidableEq, Repr

def FailCause.code : FailCause → Nat
  | .pickFailed => 1
  | .rejectCeiling => 2
  | .pathJam => 3
  | .halted => 4
  | .presentFailed => 5
  | .holdExpired => 6

/-! ## The end of a load's picking -/

/-- A load fails in picking: committed falls, the load closes FAILED, the pick side is purged, its request's PLANNED loads
close CANCELLED, DISPENSE_FAILED rises (R96). -/
def State.failLoad (s : State) (id : Nat) (cause : FailCause) : State :=
  match s.load id with
  | none => s
  | some ld =>
    let mates := s.dp.mates id
    let s := ((s.releaseCommitted ld).freeLoad id .failed).purgePick.cancelPlanned mates
    s.raiseLane ld.lane .dispenseFailed (u8 id ++ u8 cause.code)

/-- The ND drops its current load and takes a state. -/
def State.ndTo (s : State) (st : NDState) : State :=
  s.modND fun nd => { nd with state := st, current := none, pick := none, arrivalDue := none, stopping := false }

/-- The current load fails, the ND taking the state that the cause leaves it in (R73). -/
def State.pickFails (s : State) (cause : FailCause) (st : NDState) : State :=
  match s.nd.current with
  | none => s.ndTo st
  | some id => (s.ndTo st).failLoad id cause

/-- The ND has stopped for a cancel: the load closes PURGED, committed falls, the pick side is purged (R74, R97). -/
def State.loadStopped (s : State) : State :=
  match s.nd.current.bind s.load with
  | none => s.ndTo .idle
  | some ld => (((s.ndTo .idle).releaseCommitted ld).freeLoad ld.id .purged).purgePick

/-- The current load is complete: pick side FULL, load STAGED, ND IDLE (R73, R101). -/
def State.loadComplete (s : State) (id : Nat) : State :=
  let s := (s.ndTo .idle).modLoad id fun ld => { ld with state := .staged }
  ({ s with ss := { s.ss with pick := .full id s.ss.pick.notes } } : State).pruneQueue

/-! ## Picking (R69, R70) -/

/-- The next planned note of a load, in its order. -/
def Load.nextCass (ld : Load) : Option Cass := ld.order.find? fun c => ld.accepted.get c < ld.planned.get c

/-- A pick is made (R70). -/
def State.pickFrom (s : State) (c : Cass) : State :=
  let s := s.modLedger c fun k => { k with inPath := 1, estimate := k.estimate - 1 }
  s.modND fun nd => { nd with pick := some c, lastPick := some c, arrivalDue := some (s.now + Config.arrivalLimit) }

/-- The next pick of the current load, or its completion, or its failure at a cassette that is not PRESENT or LOW (R70,
R73). -/
def State.nextPick (s : State) : State :=
  match s.nd.current.bind s.load with
  | none => s
  | some ld =>
    match ld.nextCass with
    | none => s.loadComplete ld.id
    | some c => if (s.cass c).usable then s.pickFrom c else s.pickFails .pickFailed .idle

/-- Picking starts: the ceiling in force is fixed, the rejected count is 0, the load is PICKING (R69, R95). -/
def State.startPicking (s : State) (id : Nat) : State :=
  let s := s.modLoad id fun ld => { ld with state := .picking }
  (s.modND fun nd => { nd with state := .picking, current := some id, ceiling := s.dp.set.rejectCeiling, rejects := 0 }).nextPick

/-- The headroom test for a live load, over both stacker sides (R68). -/
def State.loadFits (s : State) (id : Nat) : Bool :=
  match s.load id with
  | some ld => s.headroom s.ss.notes ld.planned.sum
  | none => false

/-- The load due for hand-over: the PLANNED load of the head request with the lowest index (R95). -/
def DP.nextLoad (dp : DP) : Option Nat :=
  match dp.queue with
  | [] => none
  | r :: _ => r.loads.find? fun id => dp.loads.any fun ld => ld.id == id && ld.state == .planned

/-- The DP hands the next load to an IDLE ND with an EMPTY pick side and an empty path; the ND picks it or waits (R69,
R95). -/
def State.handOverLoad (s : State) : State :=
  if s.started ∧ s.nd.state = .idle ∧ s.nd.gauge = none ∧ s.ss.pick = .empty then
    match s.dp.nextLoad with
    | none => s
    | some id =>
      if s.loadFits id then s.startPicking id
      else s.modND fun nd => { nd with state := .waiting, current := some id }
  else s

def execLoadHandOver (s : State) : Host.Outcome State Fault Refusal := s.poweredStep State.handOverLoad

/-- A WAITING load passes the repeated headroom test (R69). -/
def State.pickWaiting (s : State) : State :=
  match s.nd.current with
  | some id => if s.started ∧ s.nd.state = .waiting ∧ s.nd.gauge = none ∧ s.loadFits id then s.startPicking id else s
  | none => s

def execPickingStart (s : State) : Host.Outcome State Fault Refusal := s.poweredStep State.pickWaiting

/-- A miss (R70, R74). -/
def State.missed (s : State) (c : Cass) : State :=
  let s := s.modLedger c fun k => { k with inPath := 0, estimate := k.estimate + 1, misses := k.misses + 1 }
  let s := s.modND fun nd => { nd with pick := none, arrivalDue := none }
  if Config.missLimit ≤ (s.cass c).kept.misses then (s.cassTo c .empty).pickFails .pickFailed .idle
  else if s.nd.stopping then s.loadStopped
  else s.nextPick

def State.onPickMiss (s : State) : State :=
  match s.nd.pick, s.nd.arrivalDue with
  | some c, some due => (s.reach due).missed c
  | _, _ => s

def execPickMiss (s : State) : Host.Outcome State Fault Refusal := s.poweredStep State.onPickMiss

/-! ## The gauge (R71, R72) -/

/-- A reading's class against a reference and the double threshold, in sixteenths of a micrometre (R72). -/
def classify (reading reference threshold : Nat) : NoteClass :=
  if reading < reference * 50 / 100 then .thin
  else if reference * threshold / 100 ≤ reading then .double
  else .single

/-- The reference learned from a SINGLE (R72). -/
def learn (reference reading : Nat) : Nat :=
  let next : Int := (reference : Int) + Int.tdiv ((reading : Int) - (reference : Int)) 8
  clamp 16 16383 next.toNat

/-- The path carries notes to the gauge. In HALTED, CLEARING and FAULT a note there is not taken up, the model's choice
(notes/assumptions/16.md). -/
def ND.pathOpen (nd : ND) : Bool := nd.state == .idle || nd.state == .waiting || nd.state == .picking

/-- A note reaches the gauge: of the pick in flight, or a stray note charged to the cassette of the last pick, which leaves
that cassette's misses as they are (R71, R72, notes/assumptions/16.md). -/
def State.noteReaches (s : State) (t : Nat) : State :=
  if s.nd.pathOpen ∧ s.nd.gauge = none then
    let reading := 16 * t
    let due := s.now + Config.gaugeLimit
    match s.nd.pick with
    | some c =>
      let s := s.modLedger c fun k => { k with misses := 0 }
      let note : Gauge := { cassette := some c, stray := false, reading := reading, due := due,
                            outcome := classify reading (s.cass c).kept.thickness s.dp.set.doubleThreshold }
      s.modND fun nd => { nd with arrivalDue := none, gauge := some note }
    | none =>
      let note : Gauge := { cassette := s.nd.lastPick, stray := true, reading := reading, due := due, outcome := .thin }
      s.modND fun nd => { nd with gauge := some note }
  else s

def State.onNoteAtGauge (reading : Nat) (s : State) : State :=
  s.noteReaches reading

def execNoteAtGauge (reading : Nat) (s : State) : Host.Outcome State Fault Refusal :=
  s.poweredStep (State.onNoteAtGauge reading)

/-- A SINGLE joins the pick side (R101). -/
def PickSide.add (p : PickSide) (load : Nat) : PickSide := .filling load (p.notes + 1)

/-- A SINGLE is applied (R71, R101). -/
def State.applySingle (s : State) (c : Cass) (reading : Nat) : State :=
  let s := s.modLedger c fun k =>
    { k with accepted := k.accepted + 1, inPath := 0, doubles := 0, thickness := learn k.thickness reading }
  let s := s.modCass c fun r => { r with committed := r.committed - 1 }
  match s.nd.current with
  | none => s
  | some id =>
    let s := s.modLoad id fun ld => { ld with accepted := ld.accepted.modify c (· + 1) }
    { s with ss := { s.ss with pick := s.ss.pick.add id } }

/-- A DOUBLE is applied: ledger, cassette state, then the box (R71, R73). -/
def State.applyDouble (s : State) (c : Cass) : State :=
  let s := s.modLedger c fun k =>
    { k with estimate := k.estimate - 1, rejected := k.rejected + 2, inPath := 0, doubles := k.doubles + 1 }
  let s := if Config.doubleLimit ≤ (s.cass c).kept.doubles then s.cassTo c .fault else s
  (s.boxAdd 2).modND fun nd => { nd with rejects := nd.rejects + 2 }

/-- A THIN is applied (R71). -/
def State.applyThin (s : State) (c : Cass) : State :=
  let s := s.modLedger c fun k => { k with rejected := k.rejected + 1, inPath := 0, doubles := 0 }
  (s.boxAdd 1).modND fun nd => { nd with rejects := nd.rejects + 1 }

/-- A note's outcome, by its class. -/
def State.applyOutcome (s : State) (c : Cass) (g : Gauge) : State :=
  match g.outcome with
  | .single => s.applySingle c g.reading
  | .double => s.applyDouble c
  | .thin => s.applyThin c

/-- What follows an outcome: failure at a fifth double or past the ceiling, the stop a cancel waits for, or the next note
(R71, R73, R74). -/
def State.afterOutcome (s : State) (c : Cass) : State :=
  if Config.doubleLimit ≤ (s.cass c).kept.doubles then s.pickFails .pickFailed .idle
  else if s.nd.ceiling < s.nd.rejects then s.pickFails .rejectCeiling .idle
  else if s.nd.stopping then s.loadStopped
  else s.nextPick

/-- The note leaves the gauge (R71). -/
def State.noteLeaves (s : State) (g : Gauge) : State :=
  let s := s.modND fun nd => { nd with gauge := none }
  if g.stray then s.chargeStray g.cassette
  else match g.cassette with
    | none => s
    | some c => ((s.modND fun nd => { nd with pick := none }).applyOutcome c g).afterOutcome c

def State.onNoteLeavesGauge (s : State) : State :=
  match s.nd.gauge with
  | some g => s.noteLeaves g
  | none => s

def execNoteLeavesGauge (s : State) : Host.Outcome State Fault Refusal := s.poweredStep State.onNoteLeavesGauge

/-- The path jams (R75). -/
def State.jam (s : State) (g : Gauge) : State :=
  let picking := s.nd.state == .picking
  let s := s.stopPath
  let s := match g.cassette with
    | some c => s.raise .pathJam (u8 c.num)
    | none => s.raiseBare .pathJam
  if picking then s.pickFails .pathJam .fault else s.ndTo .fault

def State.onGaugeTimeout (s : State) : State :=
  match s.nd.gauge with
  | some g => (s.reach g.due).jam g
  | none => s

def execGaugeTimeout (s : State) : Host.Outcome State Fault Refusal := s.poweredStep State.onGaugeTimeout

/-! ## Safe door, clearing, slots (R65, R76, R77) -/

/-- The safe door opens: the ND is HALTED from every state (R76). -/
def State.halt (s : State) : State :=
  let st := s.nd.state
  let s := s.stopPath.modND fun nd => { nd with clearingDue := none }
  match st with
  | .picking => s.pickFails .halted .halted
  | _ => (s.ndTo .halted).notePathStepEnds

/-- The safe door's level changes: the ND acts once its start-up step has begun, and zone 3 takes its cause (R76, R169). -/
def State.safeDoor (s : State) (opened : Bool) : State :=
  if s.nd.safeDoorOpen = opened then s
  else
    let s := s.modND fun nd => { nd with safeDoorOpen := opened }
    let s := if s.derived then (if opened then s.halt else s.startClearing) else s
    s.setCause .safeDoor opened

def execSafeDoorChange (opened : Bool) (s : State) : Host.Outcome State Fault Refusal :=
  if s.powered then .next ((s.safeDoor opened).finish)
  else .next ((s.modND fun nd => { nd with safeDoorOpen := opened }).modZone .safeDoor fun z => { z with cause := opened })

/-- The 2,000 ms of a clearing end (R77). -/
def State.onClearingEnd (pathClear : Bool) (s : State) : State :=
  match s.nd.clearingDue with
  | some due => ((s.reach due).endClearing pathClear).notePathStepEnds
  | none => s

def execClearingEnd (pathClear : Bool) (s : State) : Host.Outcome State Fault Refusal :=
  s.poweredStep (State.onClearingEnd pathClear)

/-- A slot's sensor changes; before the start-up slot check the level alone is followed (R65, R67). -/
def State.slotSensor (s : State) (c : Cass) (present : Bool) : State :=
  if (s.cass c).slot = present then s
  else if s.derived then s.slotChange c present
  else s.modCass c fun r => { r with slot := present }

def execCassetteSensorChange (cassette : Cass) (present : Bool) (s : State) : Host.Outcome State Fault Refusal :=
  if s.powered then .next ((s.slotSensor cassette present).finish)
  else .next (s.modCass cassette fun r => { r with slot := present })

/-! ## Requests (R78 to R82) -/

/-- The current load plans notes from the cassette (R78). -/
def State.currentUses (s : State) (c : Cass) : Bool :=
  match s.nd.current.bind s.load with
  | some ld => decide (0 < ld.planned.get c)
  | none => false

/-- The REPLENISH record's body (section 11.5). -/
def replenishBody (c : Cass) (denomination count nominal : Nat) (estimate : Int) : List Byte :=
  u8 c.num ++ u32 denomination ++ u16 count ++ u16 nominal ++ i16 estimate

/-- REPLENISH at its owner (R78). -/
def State.ownReplenish (tag cassette denomination count nominal low : Nat) (s : State) : State :=
  match Ix4.ofNum cassette with
  | none => s.refuse 0x28 tag .malformed []
  | some c =>
    if denomination < 100 ∨ 100000 < denomination ∨ Config.cassetteMax < count then s.refuse 0x28 tag .malformed []
    else if (s.cass c).kept.state = .absent then s.refuse 0x28 tag .wrongState []
    else if (s.cass c).kept.inPath ≠ 0 ∨ (s.cass c).committed ≠ 0 ∨ (s.cass c).pending ≠ none ∨ s.currentUses c then
      s.refuse 0x28 tag .busy []
    else if s.jn.takesOrdinary = false then s.refuse 0x28 tag .journalUnavailable []
    else
      let r := s.append (.replenish c) .replenish 0 (replenishBody c denomination count nominal (s.cass c).kept.estimate) false true
      if r.2 then
        r.1.modCass c fun k => { k with pending := some { tag := tag, denomination := denomination, count := count,
                                                          nominal := nominal, low := clamp 0 Config.cassetteMax low } }
      else r.1.refuse 0x28 tag .journalUnavailable []

def execReplenish (tag cassette denomination count nominal low : Nat) (s : State) : Host.Outcome State Fault Refusal :=
  s.request 0x28 tag (State.ownReplenish tag cassette denomination count nominal low)

/-- The REPLENISH record's end: programmed, the ledger is set, and the reply gives the values applied, the thickness as the
reference R that was set (scope, "Units and notation"); not programmed, nothing is (R78). That the cassette stands first in the
reply, and R in its sixteenths of a micrometre, are the model's choices (notes/assumptions/8.md). -/
def State.replenishEnds (s : State) (c : Cass) (programmed : Bool) : State :=
  match (s.cass c).pending with
  | none => s
  | some p =>
    let s := s.modCass c fun r => { r with pending := none }
    if programmed then
      let s := s.modCass c fun r => { r with kept := { r.kept with
        denomination := some p.denomination, loaded := p.count, estimate := p.count, inPath := 0, accepted := 0,
        rejected := 0, misses := 0, doubles := 0, thickness := clamp 16 16383 (p.nominal * 16), low := p.low } }
      let s := if (s.cass c).kept.state = .absent then s else s.cassTo c (s.cass c).kept.level
      s.ok 0x28 p.tag (u8 c.num ++ u24 p.denomination ++ u16 p.count
        ++ u16 (s.cass c).kept.thickness ++ u16 p.low ++ u8 (s.cass c).kept.state.code)
    else s.refuse 0x28 p.tag .journalUnavailable []

/-- A cassette's ledger as replies give it: loaded, estimate, in-path, accepted, rejected, committed (scope, "Terms"). -/
def Cassette.ledgerBytes (r : Cassette) : List Byte :=
  u16 r.kept.loaded ++ i16 r.kept.estimate ++ u8 r.kept.inPath ++ u32 r.kept.accepted ++ u32 r.kept.rejected ++ u16 r.committed

/-- CONFIRM at its owner (R79). -/
def State.ownConfirm (tag cassette : Nat) (s : State) : State :=
  match Ix4.ofNum cassette with
  | none => s.refuse 0x29 tag .malformed []
  | some c =>
    if (s.cass c).kept.state = .absent ∨ (s.cass c).kept.denomination = none then s.refuse 0x29 tag .wrongState []
    else if (s.cass c).pending ≠ none then s.refuse 0x29 tag .busy []
    else
      let s := if (s.cass c).usable then s
        else
          let s := s.modCass c fun r => { r with kept := { r.kept with misses := 0, doubles := 0 } }
          s.cassTo c (s.cass c).kept.level
      s.ok 0x29 tag (u8 (s.cass c).kept.state.code ++ (s.cass c).ledgerBytes)

def execConfirm (tag cassette : Nat) (s : State) : Host.Outcome State Fault Refusal :=
  s.request 0x29 tag (State.ownConfirm tag cassette)

/-- A cassette in CASSETTE_STATUS (R80). -/
def Cassette.statusBytes (r : Cassette) : List Byte :=
  optional 3 (r.kept.denomination.map u24) ++ u8 r.kept.state.code ++ r.ledgerBytes ++ u16 r.available ++ u16 r.kept.low
    ++ u16 r.kept.thickness ++ u8 r.kept.misses ++ u8 r.kept.doubles ++ yesNo r.pending.isSome

/-- CASSETTE_STATUS's values (R80). -/
def State.cassetteStatusBytes (s : State) : List Byte :=
  s.nd.cassettes.toList.flatMap Cassette.statusBytes
    ++ u8 s.nd.state.code ++ optional 1 (s.nd.current.map u8) ++ optional 1 (s.nd.pick.map fun c => u8 c.num)
    ++ u8 (if s.nd.safeDoorOpen then 1 else 2) ++ u16 s.nd.box ++ u16 Config.boxCapacity
    ++ s.lc.groupFlags .dispenser .i1

/-- CASSETTE_STATUS at its owner (R80). -/
def State.ownCassetteStatus (tag : Nat) (s : State) : State :=
  (s.ok 0x2A tag s.cassetteStatusBytes).autoClear .dispenser .i1

def execCassetteStatus (tag : Nat) (s : State) : Host.Outcome State Fault Refusal :=
  s.request 0x2A tag (State.ownCassetteStatus tag)

/-- CLEAR_PATH at its owner (R81). -/
def State.ownClearPath (tag : Nat) (s : State) : State :=
  match s.nd.state with
  | .fault => s.startClearing.ok 0x2B tag (u8 NDState.clearing.code)
  | .idle => s.startClearing.ok 0x2B tag (u8 NDState.clearing.code)
  | .clearing => s.ok 0x2B tag (u8 NDState.clearing.code)
  | .picking => s.refuse 0x2B tag .busy []
  | .waiting => s.refuse 0x2B tag .busy []
  | .halted => s.refuse 0x2B tag .dispenserHalted []

def execClearPath (tag : Nat) (s : State) : Host.Outcome State Fault Refusal :=
  s.request 0x2B tag (State.ownClearPath tag)

/-- BOX_EMPTIED at its owner (R82). -/
def State.ownBoxEmptied (tag : Nat) (s : State) : State :=
  if s.nd.safeDoorOpen = false then s.refuse 0x2C tag .wrongState []
  else if s.nd.emptying.isSome then s.refuse 0x2C tag .busy []
  else if s.jn.takesOrdinary = false then s.refuse 0x2C tag .journalUnavailable []
  else
    let r := s.append .boxEmptied .boxEmptied 0 (u16 s.nd.box) false true
    if r.2 then r.1.modND fun nd => { nd with emptying := some { tag := tag, count := nd.box, added := 0 } }
    else r.1.refuse 0x2C tag .journalUnavailable []

def execBoxEmptied (tag : Nat) (s : State) : Host.Outcome State Fault Refusal :=
  s.request 0x2C tag (State.ownBoxEmptied tag)

/-- The BOX_EMPTIED record's end (R82). -/
def State.boxEmptiedEnds (s : State) (programmed : Bool) : State :=
  match s.nd.emptying with
  | none => s
  | some e =>
    if programmed then (s.modND fun nd => { nd with box := min Config.boxCapacity e.added, emptying := none }).ok 0x2C e.tag (u16 e.count)
    else (s.modND fun nd => { nd with emptying := none }).refuse 0x2C e.tag .journalUnavailable []

end Sys2Proof.Machine
end

