-- ==== Sys2Proof/Machine/Planner.lean ====
section
/-! DEFINITION. The meanings of the Dispense Planner's commands (chapter 5): the settings (R84), the note mix (R90 to R93),
DISPENSE (R87 to R89) and CANCEL_DISPENSE, at once or deferred to the end of an append (R97, R98, R105). -/

namespace Sys2Proof.Machine

def State.modDP (s : State) (f : DP → DP) : State := { s with dp := f s.dp }

/-- DISPENSE_SETTINGS at its owner (R84). -/
def State.ownDispenseSettings (tag capacity noteCeiling duressCeiling rejectCeiling doubleThreshold : Nat) (s : State) : State :=
  let set : DispenseSettings :=
    { capacity := clamp 1 60 capacity, noteCeiling := clamp 1 200 noteCeiling,
      duressCeiling := clamp 0 10000000 duressCeiling, rejectCeiling := clamp 0 30 rejectCeiling,
      doubleThreshold := clamp 140 190 doubleThreshold }
  (s.modDP fun dp => { dp with set := set }).ok 0x30 tag
    (u8 set.capacity ++ u8 set.noteCeiling ++ u24 set.duressCeiling ++ u8 set.rejectCeiling ++ u8 set.doubleThreshold)

def execDispenseSettings (tag capacity noteCeiling duressCeiling rejectCeiling doubleThreshold : Nat) (s : State) :
    Host.Outcome State Fault Refusal :=
  s.request 0x30 tag (State.ownDispenseSettings tag capacity noteCeiling duressCeiling rejectCeiling doubleThreshold)

/-! ## The note mix (R90 to R93) -/

/-- A pool: one denomination, its cassettes with their availabilities in draw order (R90, R92). -/
structure Pool where
  denomination : Nat
  members : List (Cass × Nat)
  deriving DecidableEq, Repr

/-- The sum of the cassettes' availabilities. -/
def Pool.available (p : Pool) : Nat := (p.members.map (·.2)).sum

/-- A cassette takes its place in the draw order: larger availability first, between equals the lower number (R92). -/
def drawInsert (m : Cass × Nat) : List (Cass × Nat) → List (Cass × Nat)
  | [] => [m]
  | x :: xs => if x.2 < m.2 then m :: x :: xs else x :: drawInsert m xs

/-- A cassette joins the pool of its denomination, pools standing by falling denomination (R90). -/
def poolInsert (d : Nat) (m : Cass × Nat) : List Pool → List Pool
  | [] => [{ denomination := d, members := [m] }]
  | p :: ps =>
    if p.denomination = d then { p with members := drawInsert m p.members } :: ps
    else if p.denomination < d then { denomination := d, members := [m] } :: p :: ps
    else p :: poolInsert d m ps

/-- The pools as they stand (R90). -/
def State.pools (s : State) : List Pool :=
  Ix4.all.foldl (fun ps c =>
    match (s.cass c).kept.denomination with
    | none => ps
    | some d => if (s.cass c).available = 0 then ps else poolInsert d (c, (s.cass c).available) ps) []

/-- The bounded search (R91): the first accepted counts, and whether an exact combination above the ceiling was seen.
`total` is the notes of the levels above. -/
def search (ceiling : Nat) : List Pool → Nat → Nat → Option (List Nat) × Bool
  | [], _, _ => (none, false)
  | p :: ps, rem, total =>
    if ps.isEmpty then
      if rem % p.denomination = 0 ∧ rem / p.denomination ≤ p.available then
        let all := total + rem / p.denomination
        if 1 ≤ all ∧ all ≤ ceiling then (some [rem / p.denomination], false) else (none, decide (ceiling < all))
      else (none, false)
    else
      let g := min p.available (rem / p.denomination)
      ((List.range (min (Config.searchSpan + 1) (g + 1))).map (g - ·)).foldl (fun acc x =>
        if acc.1.isSome then acc
        else
          let r := search ceiling ps (rem - p.denomination * x) (total + x)
          (r.1.map (x :: ·), acc.2 || r.2)) (none, false)

/-- A pool's count drawn from its cassettes in draw order (R92). -/
def draw : List (Cass × Nat) → Nat → List (Cass × Nat)
  | [], _ => []
  | (c, a) :: ms, n => (c, min a n) :: draw ms (n - min a n)

/-- The line of planned notes: by falling denomination, then draw order (R93). -/
def planLine (ps : List Pool) (counts : List Nat) : List (Cass × Nat) :=
  (ps.zip counts).flatMap fun x => draw x.1.members x.2

/-- Notes per cassette of a run of notes. -/
def countNotes (notes : List Cass) : Four Nat :=
  notes.foldl (fun f c => f.modify c (· + 1)) (Four.const 0)

/-- A line cut every K notes, into at most `fuel` loads (R93). -/
def cutLine : Nat → Nat → List Cass → List (Four Nat)
  | 0, _, _ => []
  | fuel + 1, k, notes => if notes.isEmpty then [] else countNotes (notes.take k) :: cutLine fuel k (notes.drop k)

/-- A plan: notes per cassette, cassette order of the line, and the loads' notes. -/
structure Plan where
  notes : Four Nat
  order : List Cass
  loads : List (Four Nat)
  deriving DecidableEq, Repr

/-- The plan for an amount, or NO_MIX or NOTE_CEILING (R91 to R93). -/
def State.plan (s : State) (amount : Nat) : Except Code Plan :=
  let ps := s.pools
  let r := search s.dp.set.noteCeiling ps amount 0
  match r.1 with
  | none => .error (if r.2 then .noteCeiling else .noMix)
  | some counts =>
    let line := planLine ps counts
    let notes := line.flatMap fun x => List.replicate x.2 x.1
    if Config.loadsPerRequest * s.dp.set.capacity < notes.length then .error .noteCeiling
    else .ok { notes := countNotes notes, order := line.map (·.1),
               loads := cutLine Config.loadsPerRequest s.dp.set.capacity notes }

/-! ## DISPENSE (R87 to R89) -/

/-- The amount planned: under duress no more than the duress ceiling (R89). -/
def State.clampedAmount (s : State) (amount : Nat) : Nat :=
  if s.au.duress then min amount s.dp.set.duressCeiling else amount

/-- The first id from the counter that no live load holds (R86). -/
def DP.freeId (dp : DP) : Nat → Nat → Nat
  | 0, id => id
  | fuel + 1, id => if dp.loads.any (·.id == id) then DP.freeId dp fuel (if 255 ≤ id then 1 else id + 1) else id

/-- The money of notes per cassette. -/
def State.worth (s : State) (notes : Four Nat) : Nat :=
  (Ix4.all.map fun c => notes.get c * ((s.cass c).kept.denomination.getD 0)).sum

/-- One load record is created (R86, R88). -/
def State.createLoad (s : State) (l : Lane) (reference : Nat) (autoSend : Bool) (order : List Cass) (count : Nat)
    (index : Nat) (notes : Four Nat) : State × Nat :=
  let id := s.dp.freeId (Config.loadTableMax + 1) s.dp.nextId
  let ld : Load :=
    { id := id, lane := l, reference := reference, autoSend := autoSend, index := index, count := count, planned := notes,
      accepted := Four.const 0, order := order, amount := s.worth notes, state := .planned, outcome := none, seq := none,
      holdDue := none, expiryMarked := false, autoSendResult := none, lastRefusal := none }
  (s.modDP fun dp => { dp with loads := dp.loads ++ [ld], nextId := if 255 ≤ id then 1 else id + 1 }, id)

/-- The load records of a plan, in index order; the ids given. -/
def State.createLoads (s : State) (l : Lane) (reference : Nat) (autoSend : Bool) (order : List Cass) (count : Nat) :
    Nat → List (Four Nat) → State × List Nat
  | _, [] => (s, [])
  | index, notes :: rest =>
    let r := s.createLoad l reference autoSend order count index notes
    let t := State.createLoads r.1 l reference autoSend order count (index + 1) rest
    (t.1, r.2 :: t.2)

/-- A load in the DISPENSE reply: id, note count, amount (section 11.2). -/
def State.dispenseEntry (s : State) (id : Nat) : List Byte :=
  match s.load id with
  | some ld => u8 id ++ u8 ld.planned.sum ++ u32 ld.amount
  | none => []

/-- The flags byte: CLAMPED in bit 0. -/
def clampedByte (clamped : Bool) : List Byte := u8 (if clamped then 1 else 0)

/-- Committed rises by the planned notes (R88, R94). -/
def State.commit (s : State) (notes : Four Nat) : State :=
  Ix4.all.foldl (fun s c => s.modCass c fun r => { r with committed := r.committed + notes.get c }) s

/-- An accepted DISPENSE (R88). -/
def State.acceptDispense (s : State) (tag : Nat) (l : Lane) (asked planned reference : Nat) (autoSend : Bool) (p : Plan) : State :=
  let first := s.dp.queue.isEmpty
  let s := s.commit p.notes
  let r := s.createLoads l reference autoSend p.order p.loads.length 1 p.loads
  let clamped := decide (planned < asked)
  let entry : Request := { lane := l, reference := reference, autoSend := autoSend, asked := asked, planned := planned,
                           clamped := clamped, loads := r.2 }
  let s := r.1.modDP fun dp => { dp with queue := dp.queue ++ [entry] }
  let s := s.ok 0x31 tag (u32 planned ++ clampedByte clamped ++ p.notes.toList.flatMap u8 ++ u8 r.2.length
    ++ r.2.flatMap s.dispenseEntry ++ u8 0)
  if first then s.handOverLoad else s

/-- DISPENSE at its owner, checked in the order of R87. -/
def State.ownDispense (tag lane amount autoSend reference : Nat) (s : State) : State :=
  match Ix4.ofNum lane, onOff autoSend with
  | some l, some a =>
    if (s.carrier l).location = .unknown then s.refuse 0x31 tag .carrierElsewhere []
    else if (s.laneRec l).state = .closed then s.refuse 0x31 tag .laneNotOpen []
    else if (s.laneRec l).state = .outOfService then s.refuse 0x31 tag .laneBlocked []
    else if s.nd.state = .halted ∨ s.nd.state = .fault then s.refuse 0x31 tag .dispenserHalted []
    else if s.jn.takesOrdinary = false then s.refuse 0x31 tag .journalUnavailable []
    else if amount < 1 ∨ Config.amountMax < amount then s.refuse 0x31 tag .malformed []
    else
      let planned := s.clampedAmount amount
      match s.plan planned with
      | .error code => s.refuse 0x31 tag code (u32 planned ++ clampedByte (decide (planned < amount)))
      | .ok p =>
        if s.headroom 0 ((p.loads.map Four.sum).foldl max 0) = false then s.refuse 0x31 tag .boxFull []
        else if Config.dispenseQueueMax ≤ s.dp.queue.length then s.refuse 0x31 tag .queueFull []
        else if Config.loadTableMax < s.dp.loads.length + p.loads.length then s.refuse 0x31 tag .tableFull []
        else s.acceptDispense tag l amount planned reference a p
  | _, _ => s.refuse 0x31 tag .malformed []

def execDispense (tag lane amount autoSend reference : Nat) (s : State) : Host.Outcome State Fault Refusal :=
  s.request 0x31 tag (State.ownDispense tag lane amount autoSend reference)

/-! ## CANCEL_DISPENSE (R97, R98, R105) -/

/-- The words of R98. -/
inductive CancelWord where
  | cancelled
  | purged
  | returned
  | stopping
  | withdrawing
  | left
  deriving DecidableEq, Repr

def CancelWord.code : CancelWord → Nat
  | .cancelled => 1
  | .purged => 2
  | .returned => 3
  | .stopping => 4
  | .withdrawing => 5
  | .left => 6

/-- What a cancel does with a load, by its state (R97). -/
def State.cancelWord (s : State) (ld : Load) : CancelWord :=
  match ld.state with
  | .planned => .cancelled
  | .picking => if s.nd.pick.isSome then .stopping else .purged
  | .staged => .purged
  | .held => .purged
  | .presenting => .withdrawing
  | .presented => if (s.carrier ld.lane).reservation = .none then .returned else .left
  | _ => .left

/-- A cancel of a PRESENTING load acts on the push or on the withdrawal after a door abort (R112). -/
def State.withdraw (s : State) : State :=
  let due := s.now + Config.shuttleReturn
  match s.ss.shuttle with
  | .pushing l _ => { s with ss := { s.ss with shuttle := .withdrawing l due .cancelled } }
  | .withdrawing l due .aborted => { s with ss := { s.ss with shuttle := .withdrawing l due .cancelled } }
  | _ => s

/-- One live load cancelled (R97). -/
def State.cancelOne (s : State) (ld : Load) : State :=
  match s.cancelWord ld, ld.state with
  | .cancelled, _ => s.cancelLoad ld
  | .stopping, _ => s.modND fun nd => { nd with stopping := true }
  | .purged, .picking => s.loadStopped
  | .purged, .staged => s.purgePick.freeLoad ld.id .purged
  | .purged, _ => s.purgeDelivery.closeHeld ld.id .purged
  | .withdrawing, _ => (s.modLoad ld.id fun ld => { ld with expiryMarked := false }).withdraw
  | .returned, _ => s.closeHeld ld.id .returned
  | .left, _ => s

/-- Loads cancelled in order (R97). -/
def State.cancelEach (s : State) (lds : List Load) : State := lds.foldl State.cancelOne s

/-- A cancel taken for a lane: its live loads in the order of their creation, and its reply (R97, R98). -/
def State.takeCancel (s : State) (tag : Nat) (l : Lane) : State :=
  let lives := s.dp.loads.filter fun ld => ld.lane == l
  let words := lives.map fun ld => u8 ld.id ++ u8 (s.cancelWord ld).code
  if lives.isEmpty then s.refuse 0x32 tag .noSuchLoad []
  else if lives.all fun ld => s.cancelWord ld == .left then s.refuse 0x32 tag .tooLate []
  else (s.cancelEach lives).reply 0x32 tag (listBody [0x00#8] words [])

/-- The lane of the load in the transfer in progress. -/
def State.transferLane (s : State) : Option Lane := (s.ss.transfer.bind s.load).map (·.lane)

/-- CANCEL_DISPENSE at its owner: deferred for a lane whose load is in the transfer in progress (R97, R105). -/
def State.ownCancelDispense (tag lane : Nat) (s : State) : State :=
  match Ix4.ofNum lane with
  | none => s.refuse 0x32 tag .malformed []
  | some l =>
    if s.transferLane = some l then { s with ss := { s.ss with deferred := s.ss.deferred ++ [(tag, l)] } }
    else s.takeCancel tag l

def execCancelDispense (tag lane : Nat) (s : State) : Host.Outcome State Fault Refusal :=
  s.request 0x32 tag (State.ownCancelDispense tag lane)

/-- The oldest deferred cancel is taken once no append is in progress (R105). -/
def State.takeDeferred (s : State) : State :=
  match s.ss.deferred with
  | [] => s
  | (tag, l) :: rest =>
    if s.ss.transfer.isSome then s
    else ({ s with ss := { s.ss with deferred := rest } } : State).takeCancel tag l

def execDeferredCancelDispense (s : State) : Host.Outcome State Fault Refusal := s.poweredStep State.takeDeferred

end Sys2Proof.Machine
end

