-- ==== Sys2Proof/Machine/Stacker.lean ====
section
/-! DEFINITION. The meanings of the Stacker and Shuttle's commands (chapter 6): the transfer (R103 to R105), the presentation
(R107 to R112), the stage hold (R113) and the load requests (R120 to R122). A push's success is a bay content change
(R108, TubeDrive.lean). -/

namespace Sys2Proof.Machine

def State.modSS (s : State) (f : SS → SS) : State := { s with ss := f s.ss }

/-! ## The transfer (R103, R104) -/

/-- The LOAD record's body (R103, section 11.5). -/
def loadBody (ld : Load) : List Byte :=
  u8 ld.id ++ u16 ld.reference ++ u8 (ld.index * 16 + ld.count) ++ u32 ld.amount ++ ld.planned.toList.flatMap u8

/-- The load whose transfer can start: all of R103's conditions hold, and no cancel waits for an append's end (R105). -/
def State.transferable (s : State) : Option Load :=
  match s.ss.pick with
  | .full id _ =>
    if s.started ∧ s.ss.delivery = .empty ∧ s.ss.transfer = none ∧ s.ss.owed = [] ∧ s.jn.takesOrdinary ∧ s.ss.deferred = [] then
      s.load id
    else none
  | _ => none

/-- The transfer starts with the append of the LOAD record; one not admitted leaves the load STAGED (R103, R104, R145). -/
def State.startTransfer (s : State) : State :=
  match s.transferable with
  | none => s
  | some ld =>
    let r := s.append (.transfer ld.id) .load ld.lane.num (loadBody ld) false false
    if r.2 then r.1.modSS fun ss => { ss with transfer := some ld.id } else r.1

def execTransferStart (s : State) : Host.Outcome State Fault Refusal := s.poweredStep State.startTransfer

/-- The append ends: programmed, the bundle moves and the load is HELD under its stage hold; else the load stays STAGED
(R103, R104). -/
def State.transferEnds (s : State) (id seq : Nat) (programmed : Bool) : State :=
  let s := s.modSS fun ss => { ss with transfer := none }
  if programmed then
    match s.load id with
    | none => s
    | some ld =>
      let n := s.ss.pick.notes
      let s := s.modSS fun ss => { ss with pick := .empty, delivery := .holding id n }
      let s := s.modLoad id fun ld =>
        { ld with state := .held, seq := some seq, holdDue := some (s.now + s.ss.stageHold * 1000) }
      s.raiseLane ld.lane .loadHeld (u8 id)
  else s

/-! ## The presentation (R107 to R112) -/

/-- The TD's refusal of the PRESENTING reservation, the first that fails of R42's table; absent at a grant. -/
def State.presentingRefusal (s : State) (l : Lane) : Option Code :=
  if (s.carrier l).location ≠ .atBay ∨ (s.bay l).present = false then some .carrierElsewhere
  else if (s.carrier l).reservation ≠ .none then some .carrierBusy
  else if (s.carrier l).outstanding ≠ none then some .loadOutstanding
  else if s.bayContent l ≠ .empty then some .contentPresent
  else if (s.bay l).doorClosed = false then some .bayDoorOpen
  else none

/-- The SS asks for the reservation of the HELD load's carrier; a grant starts the push (R42, R107, R108). -/
def State.askPresenting (s : State) : State :=
  match s.ss.delivery with
  | .holding id n =>
    match s.load id with
    | none => s
    | some ld =>
      if s.started ∧ s.ss.shuttle = .home ∧ ld.expiryMarked = false
          ∧ ¬ (s.ss.transfer = none ∧ s.ss.deferred.any fun d => d.2 == ld.lane) then
        match s.presentingRefusal ld.lane with
        | some code => s.modLoad id fun ld => { ld with lastRefusal := some code }
        | none =>
          let s := s.modCarrier ld.lane fun c => { c with reservation := .presenting }
          let s := s.modLoad id fun ld => { ld with state := .presenting }
          s.modSS fun ss => { ss with delivery := .presenting id n, shuttle := .pushing ld.lane (s.now + Config.pushLimit) }
      else s
  | _ => s

def execPresentingReservationRequest (s : State) : Host.Outcome State Fault Refusal := s.poweredStep State.askPresenting

/-- The push timer expires: the withdrawal of a failed presentation starts (R111). The load keeps its expiry mark until it is
freed at the withdrawal's end, as R112 names no step at which a failed push drops it (DESIGN CHOICE, log entry 17). -/
def State.onPushTimeout (s : State) : State :=
  match s.ss.shuttle with
  | .pushing l due =>
    if s.live then
      let s := s.reach due
      s.modSS fun ss => { ss with shuttle := .withdrawing l (s.now + Config.shuttleReturn) .pushFailed }
    else s
  | _ => s

def execPushTimeout (s : State) : Host.Outcome State Fault Refusal := s.poweredStep State.onPushTimeout

/-- The stage hold of a HELD load has expired: delivery side purged, load PURGED, its request's PLANNED loads CANCELLED,
DISPENSE_FAILED (R113). -/
def State.holdExpires (s : State) (ld : Load) : State :=
  ((s.purgeDelivery.closeHeld ld.id .purged).cancelPlanned (s.dp.mates ld.id)).raiseLane ld.lane .dispenseFailed
    (u8 ld.id ++ u8 FailCause.holdExpired.code)

/-- A failed presentation: the bundle purged, the load FAILED, its request's PLANNED loads CANCELLED, DISPENSE_FAILED (R96,
R111). -/
def State.presentFails (s : State) (ld : Load) : State :=
  ((s.purgeDelivery.closeHeld ld.id .failed).cancelPlanned (s.dp.mates ld.id)).raiseLane ld.lane .dispenseFailed
    (u8 ld.id ++ u8 FailCause.presentFailed.code)

/-- The withdrawal ends: the reservation is released, unless a RECALL has taken it over (notes/assumptions/14.md), the
shuttle is HOME, and the bundle goes back to HOLDING, its mark applied at once, or is purged (R110 to R112). -/
def State.withdrawn (s : State) (l : Lane) (why : WithdrawWhy) : State :=
  let s := s.modCarrier l fun c => if c.reservation = .presenting then { c with reservation := .none } else c
  let s := s.modSS fun ss => { ss with shuttle := .home }
  match s.ss.delivery.loadId.bind s.load with
  | none => s
  | some ld =>
    match why with
    | .aborted =>
      let s := s.modSS fun ss => { ss with delivery := .holding ld.id ss.delivery.notes }
      let s := s.modLoad ld.id fun ld => { ld with state := .held }
      if ld.expiryMarked then s.holdExpires ld else s
    | .pushFailed => s.presentFails ld
    | .cancelled => s.purgeDelivery.closeHeld ld.id .purged

def State.onWithdrawalEnd (s : State) : State :=
  match s.ss.shuttle with
  | .withdrawing l due why => if s.live then (s.reach due).withdrawn l why else s
  | _ => s

def execWithdrawalEnd (s : State) : Host.Outcome State Fault Refusal := s.poweredStep State.onWithdrawalEnd

/-- The shuttle is HOME again (R108). -/
def State.onShuttleHome (s : State) : State :=
  match s.ss.shuttle with
  | .returning _ due => if s.live then (s.reach due).modSS fun ss => { ss with shuttle := .home } else s
  | _ => s

def execShuttleHome (s : State) : Host.Outcome State Fault Refusal := s.poweredStep State.onShuttleHome

/-! ## The stage hold (R112, R113) -/

/-- The stage hold timer of the delivery side's load expires. -/
def State.onStageHoldExpiry (s : State) : State :=
  match s.ss.delivery.loadId.bind s.load with
  | none => s
  | some ld =>
    match ld.holdDue with
    | none => s
    | some due =>
      let s := (s.reach due).modLoad ld.id fun ld => { ld with holdDue := none }
      match ld.state with
      | .held => s.holdExpires ld
      | .presenting => s.modLoad ld.id fun ld => { ld with expiryMarked := true }
      | _ => s

def execStageHoldExpiry (s : State) : Host.Outcome State Fault Refusal := s.poweredStep State.onStageHoldExpiry

/-! ## Requests (R120 to R122) -/

/-- The auto-send result in two bytes: the result code, and QUEUED (1) or ALREADY_QUEUED (2) (notes/assumptions/8.md). -/
def SendAnswer.bytes : SendAnswer → List Byte
  | .queued _ => u8 0 ++ u8 1
  | .alreadyQueued _ => u8 0 ++ u8 2
  | .refused c => u8 c.num ++ u8 0

/-- A live load in LOAD_STATUS (R120). Its amount takes four bytes, as in the DISPENSE reply and the LOAD record, as no range
is stated for it (DESIGN CHOICE, log entry 8). -/
def Load.statusBytes (ld : Load) (now : Nat) : List Byte :=
  u8 ld.id ++ u16 ld.reference ++ u8 ld.index ++ u8 ld.count ++ yesNo ld.autoSend ++ u8 ld.state.code
    ++ ld.planned.toList.flatMap u8 ++ ld.accepted.toList.flatMap u8 ++ u32 ld.amount
    ++ optional 2 (ld.holdDue.map fun due => u16 (seconds (due - now))) ++ yesNo ld.expiryMarked
    ++ optional 2 (ld.autoSendResult.map SendAnswer.bytes) ++ optional 1 (ld.lastRefusal.map fun c => u8 c.num)

/-- A stacker side: its state, with load id and note count when not EMPTY (R120), one presence byte for the pair, the
model's choice (notes/assumptions/8.md). -/
def sideBytes (code : Nat) (id : Option Nat) (notes : Nat) : List Byte :=
  u8 code ++ optional 2 (id.map fun i => u8 i ++ u8 notes)

def PickSide.code : PickSide → Nat
  | .empty => 1
  | .filling _ _ => 2
  | .full _ _ => 3

def DeliverySide.code : DeliverySide → Nat
  | .empty => 1
  | .holding _ _ => 2
  | .presenting _ _ => 3

/-- The shuttle position: HOME is coded 1, bay n is coded n + 1. -/
def Shuttle.code : Shuttle → Nat
  | .home => 1
  | .pushing b _ => b.num + 1
  | .withdrawing b _ _ => b.num + 1
  | .returning b _ => b.num + 1

/-- LOAD_STATUS's body, result byte first (R120): the lane's live loads, as many as fit, then the stacker. -/
def State.loadStatusBody (s : State) (l : Lane) : List Byte :=
  let entries := (s.dp.loads.filter fun ld => ld.lane == l).map fun ld => ld.statusBytes s.now
  let tail := sideBytes s.ss.pick.code s.ss.pick.loadId s.ss.pick.notes
    ++ sideBytes s.ss.delivery.code s.ss.delivery.loadId s.ss.delivery.notes
    ++ optional 1 (s.ss.transfer.map u8) ++ u8 s.ss.shuttle.code ++ u16 s.ss.stageHold ++ u8 s.ss.owed.length
    ++ optional 1 ((s.carrier l).outstanding.map u8) ++ s.lc.groupFlags .load l
  listBody [0x00#8] entries tail

/-- LOAD_STATUS at its owner (R120). -/
def State.ownLoadStatus (tag lane : Nat) (s : State) : State :=
  match Ix4.ofNum lane with
  | none => s.refuse 0x34 tag .malformed []
  | some l => (s.reply 0x34 tag (s.loadStatusBody l)).autoClear .load l

def execLoadStatus (tag lane : Nat) (s : State) : Host.Outcome State Fault Refusal :=
  s.request 0x34 tag (State.ownLoadStatus tag lane)

/-- The outcome LOAD_CLOSE names (R121). -/
def closeOutcome : Nat → Option LoadOutcome
  | 1 => some .taken
  | 2 => some .returned
  | _ => none

/-- LOAD_CLOSE at its owner (R121). -/
def State.ownLoadClose (tag load outcome : Nat) (s : State) : State :=
  match closeOutcome outcome with
  | none => s.refuse 0x35 tag .malformed []
  | some o =>
    if load = 0 then s.refuse 0x35 tag .malformed []
    else match s.load load with
      | none => s.refuse 0x35 tag .noSuchLoad []
      | some ld =>
        if ld.state = .awaitingClose then (s.closeHeld load o).ok 0x35 tag (u8 load ++ u8 o.code)
        else s.refuse 0x35 tag .wrongState (u8 ld.state.code)

def execLoadClose (tag load outcome : Nat) (s : State) : Host.Outcome State Fault Refusal :=
  s.request 0x35 tag (State.ownLoadClose tag load outcome)

/-- STACKER_SETTINGS at its owner (R122). -/
def State.ownStackerSettings (tag hold : Nat) (s : State) : State :=
  let s := s.modSS fun ss => { ss with stageHold := clamp 30 600 hold }
  s.ok 0x36 tag (u16 s.ss.stageHold)

def execStackerSettings (tag hold : Nat) (s : State) : Host.Outcome State Fault Refusal :=
  s.request 0x36 tag (State.ownStackerSettings tag hold)

end Sys2Proof.Machine
end

