-- ==== Sys2Proof/Machine/CaptureUnit.lean ====
section
/-! DEFINITION. The meanings of the Capture Unit's commands (chapter 7): the capture sequence (R127 to R133), changes of its
record and what is owed (R134), the bin (R124, R125, R139, R140) and the other requests (R136 to R138). -/

namespace Sys2Proof.Machine

def State.modCU (s : State) (f : CU → CU) : State := { s with cu := f s.cu }

/-! ## Record changes (R134) -/

/-- Two changes to one record as one. -/
def CaptureChange.merge (a b : CaptureChange) : CaptureChange :=
  { seq := a.seq, flags := a.flags.union b.flags, closes := a.closes || b.closes, late := b.late.or a.late }

/-- The bin count after the drop as late bytes 28 and 29 (section 11.5). -/
def captureLate (count : Nat) : List (Nat × Byte) := [(28, BitVec.ofNat 8 (count / 256)), (29, BitVec.ofNat 8 count)]

/-- A change of a capture's record as the JN's program. -/
def CaptureChange.work (c : CaptureChange) : Work :=
  .change { seq := c.seq, late := (c.late.map captureLate).getD [], flags := c.flags, closes := c.closes }

/-- A change becomes owed, merged into what is owed already. -/
def State.oweChange (s : State) (c : CaptureChange) : State :=
  s.modCU fun cu => { cu with owed := some (match cu.owed with
    | some o => o.merge c
    | none => c) }

/-- The owed change is handed to the JN (R134, R167). -/
def State.handOwedChange (s : State) : State :=
  match s.cu.owed with
  | none => s
  | some c =>
    if s.cu.owedHanded then s
    else
      let r := s.hand (.captureOwed c) c.work
      if r.2 then r.1.modCU fun cu => { cu with owedHanded := true } else r.1

/-- A change of the capture's record is handed to the JN, or owed while the journal is FAILED or a change is owed. -/
def State.changeRecord (s : State) (c : CaptureChange) : State :=
  if s.cu.owed.isSome then s.oweChange c
  else
    let r := s.hand (.captureChange c) c.work
    if r.2 then r.1 else r.1.oweChange c

/-- A handed change ends: not programmed, it is owed (R134). -/
def State.changeEnds (s : State) (c : CaptureChange) (programmed : Bool) : State :=
  if programmed then s else s.oweChange c

/-- The handed owed change ends: programmed, it is cleared, and what was merged into it since is handed in its turn. -/
def State.owedEnds (s : State) (c : CaptureChange) (programmed : Bool) : State :=
  let s := s.modCU fun cu => { cu with owedHanded := false }
  if programmed then
    if s.cu.owed = some c then s.modCU fun cu => { cu with owed := none } else s.handOwedChange
  else s

/-! ## The capture's end -/

/-- The outcomes and causes of CAPTURE_DONE and CAPTURE_FAULT: DROPPED (1) and ABORTED (2), LIFT_FAILED (1) and DROP_FAULT
(2) (R129, R132, R133). -/
def captureSnapshot (h : Capture) (code : Nat) : List Byte := u8 h.bay.num ++ u32 h.number ++ u8 code

/-- The CU releases the reservation (R44), unless a RECALL has taken it over (notes/assumptions/14.md). -/
def State.releaseCapturing (s : State) (l : Lane) : State :=
  s.modCarrier l fun c => if c.reservation = .capturing then { c with reservation := .none } else c

/-- The capture record is emptied and the unit is IDLE. -/
def State.captureOver (s : State) (h : Capture) : State :=
  (s.releaseCapturing h.bay).modCU fun cu => { cu with hand := none, state := .idle }

/-- The NO_STAMP flag where it applies. -/
def Capture.stampFlag (h : Capture) : RecFlags := { RecFlags.none with noStamp := h.stamp == some false }

/-- The record is closed with a flag set, and no late field. -/
def Capture.closeWith (h : Capture) (flags : RecFlags) : CaptureChange :=
  { seq := h.seq.getD 0, flags := flags, closes := true, late := none }

/-- A capture without an envelope ends: the record closed ABORTED, the reservation released, the unit IDLE (R129, R130). -/
def State.captureAborted (s : State) (h : Capture) : State :=
  (s.changeRecord (h.closeWith { RecFlags.none with aborted := true })).captureOver h

/-! ## CAPTURE (R127, R128) -/

/-- The TD's refusal of the CAPTURING reservation, the first that fails of R43's table; absent at a grant. -/
def State.capturingRefusal (s : State) (l : Lane) : Option Code :=
  if (s.carrier l).location ≠ .atBay ∨ (s.bay l).present = false then some .carrierElsewhere
  else if (s.carrier l).reservation ≠ .none then some .carrierBusy
  else if (s.carrier l).outstanding ≠ none then some .loadOutstanding
  else if s.bayContent l ≠ .content then some .contentAbsent
  else none

/-- A capture is opening. -/
def CU.opening (cu : CU) : Bool := cu.hand.any fun h => h.opening.isSome

/-- An opening ends without a record: the reservation is released, the record emptied, the number stays used (R128). -/
def State.captureNotOpened (s : State) : State :=
  match s.cu.hand with
  | none => s
  | some h => (s.captureOver h).refuse 0x38 (h.opening.getD 0) .journalUnavailable []

/-- The opening at the grant of the reservation (R128). -/
def State.openCapture (s : State) (tag : Nat) (l : Lane) : State :=
  let n := s.cu.set.next
  let s := s.modCarrier l fun c => { c with reservation := .capturing }
  let s := s.modCU fun cu =>
    { cu with
      set := { cu.set with next := if n = Config.max32 then n else n + 1, exhausted := n = Config.max32 }
      hand := some { bay := l, number := n, seq := none, opening := some tag, returning := none, duress := s.au.duress,
                     stamp := none, uncounted := true, due := none } }
  let r := s.append .captureOpening .capture l.num (u32 n) s.au.duress false
  if r.2 then r.1 else r.1.captureNotOpened

/-- CAPTURE at its owner, checked in the order of R127. -/
def State.ownCapture (tag bay : Nat) (s : State) : State :=
  match Ix4.ofNum bay with
  | none => s.refuse 0x38 tag .malformed []
  | some l =>
    if s.cu.state ≠ .idle ∨ s.cu.opening then s.refuse 0x38 tag .busy []
    else if s.cu.set.exhausted then s.refuse 0x38 tag .wrongState []
    else if s.cu.bin.state ≠ .confirmed ∨ s.cu.exchange.isSome then s.refuse 0x38 tag .binUnconfirmed []
    else if s.cu.bin.capacity ≤ s.cu.bin.count then s.refuse 0x38 tag .binFull []
    else if s.jn.takesOrdinary = false ∨ s.cu.owed.isSome then s.refuse 0x38 tag .journalUnavailable []
    else if s.cu.printerReady = false ∧ s.cu.set.stampRequired then s.refuse 0x38 tag .stampOut []
    else match s.capturingRefusal l with
      | some code => s.refuse 0x38 tag code []
      | none => s.openCapture tag l

def execCapture (tag bay : Nat) (s : State) : Host.Outcome State Fault Refusal :=
  s.request 0x38 tag (State.ownCapture tag bay)

/-- The opening's append ends: the reply, and the lift, or an abort before the arm moves (R128, R129). -/
def State.captureOpened (s : State) (seq : Nat) (programmed : Bool) : State :=
  match s.cu.hand with
  | none => s
  | some h =>
    if programmed then
      let h : Capture := { h with seq := some seq, opening := none }
      let s := s.ok 0x38 ((s.cu.hand.bind (·.opening)).getD 0) (u32 h.number ++ u32 seq)
      if (s.bay h.bay).doorClosed = false ∨ (s.bay h.bay).present = false then
        (s.captureAborted h).raise .captureDone (captureSnapshot h 2)
      else s.modCU fun cu =>
        { cu with state := .lifting, hand := some { h with due := some (s.now + Config.liftLimit) } }
    else s.captureNotOpened

/-! ## Lift, stamp, drop (R129 to R133) -/

/-- DROPPING begins when the stamp is set; a NO_STAMP flag is handed to the JN (R131). -/
def State.stamped (s : State) (h : Capture) (printed : Bool) : State :=
  let s := s.modCU fun cu =>
    { cu with state := .dropping, print := none,
              hand := some { h with stamp := some printed, due := some (s.now + Config.dropLimit) } }
  if printed then s
  else s.changeRecord { seq := h.seq.getD 0, flags := { RecFlags.none with noStamp := true }, closes := false, late := none }

/-- The arm reports the release (R129): STAMPING begins, and where the printer is READY the print of the capture number,
the lane and the device clock, under the print timer (R131, R201). -/
def State.released (s : State) (h : Capture) : State :=
  if s.cu.printerReady then
    s.modCU fun cu =>
      { cu with state := .stamping, print := some { number := h.number, lane := h.bay, clock := s.lc.clock },
                hand := some { h with due := some (s.now + Config.printLimit) } }
  else s.stamped h false

def State.onArmRelease (s : State) : State :=
  match s.cu.state, s.cu.hand with
  | .lifting, some h => if h.returning = none then s.released h else s
  | _, _ => s

def execArmRelease (s : State) : Host.Outcome State Fault Refusal := s.poweredStep State.onArmRelease

/-- The lift timer expires: the arm carries the envelope back (R129). -/
def State.onLiftTimeout (s : State) : State :=
  match s.cu.state, s.cu.hand with
  | .lifting, some h =>
    match h.returning, h.due with
    | none, some due =>
      let s := s.reach due
      s.modCU fun cu => { cu with hand := some { h with returning := some .liftFailed, due := some (s.now + Config.armReturn) } }
    | _, _ => s
  | _, _ => s

def execLiftTimeout (s : State) : Host.Outcome State Fault Refusal := s.poweredStep State.onLiftTimeout

/-- The return ends (R129, R130). -/
def State.returned (s : State) (h : Capture) (why : ReturnWhy) : State :=
  let s := s.captureAborted h
  match why with
  | .liftFailed => s.raise .captureFault (captureSnapshot h 1)
  | .aborted => s.raise .captureDone (captureSnapshot h 2)

def State.onArmReturnEnd (s : State) : State :=
  match s.cu.state, s.cu.hand with
  | .lifting, some h =>
    match h.returning, h.due with
    | some why, some due => (s.reach due).returned h why
    | _, _ => s
  | _, _ => s

def execArmReturnEnd (s : State) : Host.Outcome State Fault Refusal := s.poweredStep State.onArmReturnEnd

/-- The printer reports the print completed or failed (R131). -/
def State.onPrintReport (completed : Bool) (s : State) : State :=
  match s.cu.state, s.cu.hand with
  | .stamping, some h => s.stamped h completed
  | _, _ => s

def execPrintReport (completed : Bool) (s : State) : Host.Outcome State Fault Refusal :=
  s.poweredStep (State.onPrintReport completed)

/-- The print timer expires with no report (R131). -/
def State.onPrintTimeout (s : State) : State :=
  match s.cu.state, s.cu.hand with
  | .stamping, some h =>
    match h.due with
    | some due => (s.reach due).stamped h false
    | none => s
  | _, _ => s

def execPrintTimeout (s : State) : Host.Outcome State Fault Refusal := s.poweredStep State.onPrintTimeout

/-- The printer reports READY or OUT (R123); the report is followed whether the part is powered or not. -/
def execPrinterStateChange (ready : Bool) (s : State) : Host.Outcome State Fault Refusal :=
  if s.powered then .next ((s.modCU fun cu => { cu with printerReady := ready }).finish)
  else .next (s.modCU fun cu => { cu with printerReady := ready })

/-- BIN_HIGH rises where the count is at or above nine tenths of the capacity (R125). -/
def State.noteBin (s : State) : State :=
  if s.cu.bin.capacity * 9 / 10 ≤ s.cu.bin.count then
    s.raise .binHigh (u16 s.cu.bin.count ++ u16 s.cu.bin.capacity)
  else s

/-- An envelope is counted into the bin (R125). -/
def State.countEnvelope (s : State) : State :=
  s.modCU fun cu => { cu with bin := { cu.bin with count := cu.bin.count + 1 } }

/-- The drop is confirmed (R132). -/
def State.dropped (s : State) (h : Capture) : State :=
  let s := s.countEnvelope
  let s := s.changeRecord { h.closeWith h.stampFlag with late := some s.cu.bin.count }
  let s := (s.captureOver h).raise .captureDone (captureSnapshot h 1 ++ u16 s.cu.bin.count)
  s.noteBin

/-- A late drop in FAULT (R133). -/
def State.droppedLate (s : State) (h : Capture) : State :=
  (s.countEnvelope.modCU fun cu => { cu with hand := some { h with uncounted := false }, lateDrop := true }).noteBin

def State.onDropSensed (s : State) : State :=
  match s.cu.state, s.cu.hand with
  | .dropping, some h => s.dropped h
  | .fault, some h => if h.uncounted then s.droppedLate h else s
  | _, _ => s

def execDropSensed (s : State) : Host.Outcome State Fault Refusal := s.poweredStep State.onDropSensed

/-- The drop timer expires: a drop fault (R133). -/
def State.dropFails (s : State) (h : Capture) : State :=
  let s := s.changeRecord (h.closeWith { h.stampFlag with dropFault := true })
  let s := (s.releaseCapturing h.bay).modCU fun cu => { cu with state := .fault, hand := some { h with due := none } }
  (s.setCause .envelopeJam true).raise .captureFault (captureSnapshot h 2)

def State.onDropTimeout (s : State) : State :=
  match s.cu.state, s.cu.hand with
  | .dropping, some h =>
    match h.due with
    | some due => (s.reach due).dropFails h
    | none => s
  | _, _ => s

def execDropTimeout (s : State) : Host.Outcome State Fault Refusal := s.poweredStep State.onDropTimeout

/-! ## The bin (R124) -/

/-- The bin door's level changes: the bin state, zone 4's cause, and an opening noted in a pending exchange (R139). Before
the start-up check the bin state waits. -/
def State.binDoor (s : State) (closed : Bool) : State :=
  if s.cu.binDoorClosed = closed then s
  else
    let s := s.modCU fun cu =>
      { cu with binDoorClosed := closed, exchange := cu.exchange.map fun e => { e with doorOpened := e.doorOpened || !closed } }
    let s := if s.scanned then
        match s.cu.bin.state with
        | .confirmed => if closed then s else s.binTo .doorOpen
        | .unconfirmed => if closed then s else s.binTo .doorOpen
        | .doorOpen => if closed ∧ s.cu.binPresent then s.binTo .unconfirmed else s
        | .removed => s
      else s
    s.setCause .binDoor (!closed)

def execBinDoorChange (closed : Bool) (s : State) : Host.Outcome State Fault Refusal :=
  if s.powered then .next ((s.binDoor closed).finish)
  else .next ((s.modCU fun cu => { cu with binDoorClosed := closed }).modZone .binDoor fun z => { z with cause := !closed })

/-- The bin present sensor falls or rises behind an open door (R124). -/
def State.binSensor (s : State) (present : Bool) : State :=
  let s := s.modCU fun cu => { cu with binPresent := present }
  if s.scanned then
    match s.cu.bin.state, present with
    | .doorOpen, false => s.binTo .removed
    | .removed, true => s.binTo .doorOpen
    | _, _ => s
  else s

def execBinPresentChange (present : Bool) (s : State) : Host.Outcome State Fault Refusal :=
  if s.powered then .next ((s.binSensor present).finish)
  else .next (s.modCU fun cu => { cu with binPresent := present })

/-! ## Requests (R136 to R140) -/

/-- The disposition CAPTURE_CLEAR names: IN_BIN (1), true, or REMOVED (2). -/
def dispositionOf : Nat → Option Bool
  | 1 => some true
  | 2 => some false
  | _ => none

/-- CAPTURE_CLEAR in FAULT; the reply's disposition is 3 where it is ignored (R136). -/
def State.clearFault (s : State) (tag : Nat) (h : Capture) (inBin : Bool) : State :=
  let s := if h.uncounted ∧ inBin then s.countEnvelope.noteBin else s
  let s := s.modCU fun cu => { cu with hand := none, lateDrop := false, state := .idle }
  (s.setCause .envelopeJam false).ok 0x39 tag
    (u8 (if h.uncounted then (if inBin then 1 else 2) else 3) ++ u16 s.cu.bin.count)

/-- CAPTURE_CLEAR at its owner (R136). -/
def State.ownCaptureClear (tag disposition : Nat) (s : State) : State :=
  match dispositionOf disposition with
  | none => s.refuse 0x39 tag .malformed []
  | some inBin =>
    match s.cu.state, s.cu.hand with
    | .fault, some h => s.clearFault tag h inBin
    | .idle, none => s.ok 0x39 tag (u8 3 ++ u16 s.cu.bin.count)
    | _, _ => s.refuse 0x39 tag .busy []

def execCaptureClear (tag disposition : Nat) (s : State) : Host.Outcome State Fault Refusal :=
  s.request 0x39 tag (State.ownCaptureClear tag disposition)

/-- The capture record in CAPTURE_STATUS (R137). -/
def Capture.statusBytes (h : Capture) : List Byte :=
  u8 h.bay.num ++ u32 h.number ++ optional 4 (h.seq.map u32) ++ yesNo h.opening.isSome ++ yesNo h.returning.isSome
    ++ yesNo h.duress ++ optional 1 (h.stamp.map fun p => u8 (if p then 1 else 2)) ++ yesNo h.uncounted

/-- CAPTURE_STATUS's values (R137). 'Whether a record change is owed, with the record's sequence' is one presence byte, which
serves as the yes/no value, and the sequence (DESIGN CHOICE, log entry 8). -/
def State.captureStatusBytes (s : State) : List Byte :=
  u8 s.cu.state.code ++ optional 16 (s.cu.hand.map Capture.statusBytes) ++ yesNo s.cu.lateDrop
    ++ optional 4 (s.cu.owed.map fun c => u32 c.seq) ++ u8 (if s.cu.printerReady then 1 else 2)
    ++ u8 (if s.cu.set.stampRequired then 1 else 2)
    ++ optional 4 (if s.cu.set.exhausted then none else some (u32 s.cu.set.next))
    ++ u8 s.cu.bin.state.code ++ u16 s.cu.bin.count ++ u16 s.cu.bin.capacity ++ yesNo s.cu.exchange.isSome
    ++ yesNo s.cu.binPresent ++ yesNo s.cu.binDoorClosed ++ s.lc.groupFlags .capture .i1

/-- CAPTURE_STATUS at its owner (R137). -/
def State.ownCaptureStatus (tag : Nat) (s : State) : State :=
  (s.ok 0x3A tag s.captureStatusBytes).autoClear .capture .i1

def execCaptureStatus (tag : Nat) (s : State) : Host.Outcome State Fault Refusal :=
  s.request 0x3A tag (State.ownCaptureStatus tag)

/-- The stamp setting of a value on the line: REQUIRED (1), true, or OPTIONAL (2). -/
def stampOf : Nat → Option Bool
  | 1 => some true
  | 2 => some false
  | _ => none

/-- The capacity as applied: in range, and with room for the count and an uncounted envelope (R125, R138). -/
def CU.applied (cu : CU) (capacity : Nat) : Nat :=
  max (clamp 100 1200 capacity) (cu.bin.count + if cu.hand.any (·.uncounted) then 1 else 0)

/-- CAPTURE_SETTINGS at its owner (R138). -/
def State.ownCaptureSettings (tag stamp capacity : Nat) (s : State) : State :=
  match stampOf stamp with
  | none => s.refuse 0x3B tag .malformed []
  | some required =>
    let before := s.cu.bin.capacity
    let s := s.modCU fun cu =>
      { cu with set := { cu.set with stampRequired := required }, bin := { cu.bin with capacity := cu.applied capacity } }
    let s := if s.cu.bin.capacity = before then s else s.noteBin
    s.ok 0x3B tag (u8 (if required then 1 else 2) ++ u16 s.cu.bin.capacity)

def execCaptureSettings (tag stamp capacity : Nat) (s : State) : Host.Outcome State Fault Refusal :=
  s.request 0x3B tag (State.ownCaptureSettings tag stamp capacity)

/-- A capture's envelope is in hand or in the chute, or a capture is opening (R139). -/
def CU.engaged (cu : CU) : Bool :=
  cu.opening || cu.state == .lifting || cu.state == .stamping || cu.state == .dropping

/-- The last capture number given (R139). -/
def CaptureSettings.lastGiven (c : CaptureSettings) : Nat := if c.exhausted then Config.max32 else c.next - 1

/-- BIN_EXCHANGED at its owner (R139). -/
def State.ownBinExchanged (tag : Nat) (s : State) : State :=
  if s.cu.engaged then s.refuse 0x3C tag .busy []
  else if s.cu.bin.state ≠ .unconfirmed ∨ s.cu.exchange.isSome then s.refuse 0x3C tag .wrongState []
  else if s.jn.takesOrdinary = false then s.refuse 0x3C tag .journalUnavailable []
  else
    let r := s.append .binExchange .binExchange 0 (u16 s.cu.bin.count ++ u32 s.cu.set.lastGiven) false true
    if r.2 then r.1.modCU fun cu => { cu with exchange := some { tag := tag, outgoing := cu.bin.count, doorOpened := false } }
    else r.1.refuse 0x3C tag .journalUnavailable []

def execBinExchanged (tag : Nat) (s : State) : Host.Outcome State Fault Refusal :=
  s.request 0x3C tag (State.ownBinExchanged tag)

/-- The BIN_EXCHANGE record's end (R139): the count is 0, and the bin is CONFIRMED unless its door has opened meanwhile. -/
def State.binExchangeEnds (s : State) (programmed : Bool) : State :=
  match s.cu.exchange with
  | none => s
  | some e =>
    let s := s.modCU fun cu => { cu with exchange := none }
    if programmed then
      let s := s.modCU fun cu => { cu with bin := { cu.bin with count := 0 } }
      let s := if s.cu.bin.state = .unconfirmed ∧ e.doorOpened = false then s.binTo .confirmed else s
      s.ok 0x3C e.tag (u16 e.outgoing)
    else s.refuse 0x3C e.tag .journalUnavailable []

/-- BIN_CONFIRM at its owner (R140). -/
def State.ownBinConfirm (tag : Nat) (s : State) : State :=
  if s.cu.exchange.isSome then s.refuse 0x3D tag .wrongState []
  else match s.cu.bin.state with
    | .doorOpen => s.refuse 0x3D tag .wrongState []
    | .removed => s.refuse 0x3D tag .wrongState []
    | _ =>
      let s := s.binTo .confirmed
      s.ok 0x3D tag (u8 s.cu.bin.state.code ++ u16 s.cu.bin.count)

def execBinConfirm (tag : Nat) (s : State) : Host.Outcome State Fault Refusal :=
  s.request 0x3D tag (State.ownBinConfirm tag)

end Sys2Proof.Machine
end

