-- ==== Sys2Proof/Machine/JournalPrograms.lean ====
section
/-! DEFINITION. The meanings of the Journal's commands (chapter 8): the end of a program with its retries and the entry into
FAILED (R149 to R151), what each owner does then, reads (R153, R154), the reconcile walk (R155), the erase (R156 to R159) and
the other requests (R166, R167). -/

namespace Sys2Proof.Machine

def State.modJN (s : State) (f : JN → JN) : State := { s with jn := f s.jn }

/-! ## The reconcile walk (R155) -/

/-- What the walk does next over the records still ahead, in sequence order. -/
inductive WalkNext where
  | ran (reached : Option Nat)
  | mark (seq : Nat) (reached : Option Nat)
  | stopped (seq : Nat) (reached : Option Nat)
  deriving DecidableEq, Repr

/-- The walk's table (R155), record by record. -/
def JN.walkNext (jn : JN) : List (Nat × Nat × Nat) → Option Nat → WalkNext
  | [], reached => .ran reached
  | (seq, i, k) :: rest, reached =>
    if (jn.seg i).state = .erasing then jn.walkNext rest (some seq)
    else match jn.status i k with
      | some .closed => .mark seq reached
      | some .written => .stopped seq reached
      | _ => jn.walkNext rest (some seq)

/-- The records still ahead of a walk. -/
def JN.ahead (jn : JN) (w : Walk) : List (Nat × Nat × Nat) :=
  jn.bySeq.filter fun e => decide (e.1 ≤ w.through) && (match w.reached with
    | some r => decide (r < e.1)
    | none => true)

/-- What stopped a walk: a WRITTEN record (1) with its sequence, JOURNAL_FAILED (2), nothing (3). -/
inductive WalkStop where
  | written (seq : Nat)
  | failed
  | nothing
  deriving DecidableEq, Repr

def WalkStop.bytes : WalkStop → List Byte
  | .written seq => u8 1 ++ optional 4 (some (u32 seq))
  | .failed => u8 2 ++ optional 4 none
  | .nothing => u8 3 ++ optional 4 none

/-- The walk's end and its reply (R155). -/
def State.endWalk (s : State) (w : Walk) (reached : Option Nat) (why : WalkStop) : State :=
  (s.modJN fun jn => { jn with walk := none }).ok 0x42 w.tag (optional 4 (reached.map u32) ++ u16 w.marked ++ why.bytes)

/-- The walk goes on to its next mark, or ends. -/
def State.walkOn (s : State) (w : Walk) : State :=
  match s.jn.walkNext (s.jn.ahead w) w.reached with
  | .ran reached => s.endWalk w reached .nothing
  | .stopped seq reached => s.endWalk w reached (.written seq)
  | .mark seq reached =>
    let s := s.modJN fun jn => { jn with walk := some { w with reached := reached } }
    let r := s.hand .walk (.mark seq)
    if r.2 then r.1 else r.1.endWalk w reached .failed

/-- A mark ends: verified, the walk takes the next record; at an entry into FAILED it ends (R155). -/
def State.markEnds (s : State) (seq : Nat) (programmed : Bool) : State :=
  match s.jn.walk with
  | none => s
  | some w =>
    if programmed then
      let w : Walk := { w with reached := some seq, marked := w.marked + 1 }
      (s.modJN fun jn => { jn with walk := some w }).walkOn w
    else s.endWalk w w.reached .failed

/-! ## The owners (R149, R151) -/

/-- The sequence a program is about. -/
def Work.seq : Work → Nat
  | .append r => r.seq
  | .change c => c.seq
  | .mark seq => seq
  | .voidSlot _ _ => 0

/-- A load's record close ends (R118, R119). -/
def State.closeEnds (s : State) (programmed : Bool) : State :=
  let s := s.modSS fun ss => { ss with closeHanded := false }
  if programmed then (s.modSS fun ss => { ss with owed := ss.owed.tail }).handOwedClose else s

/-- The POWER record ends (R165). -/
def State.powerEnds (s : State) (programmed : Bool) : State :=
  match s.phase with
  | .startUp .powerRecord => if programmed then s.beginEnrolment else s.powerRecordLost
  | _ => s

/-- A scan close that was not programmed is kept (R163); a VOID mark is not. What the scan programs during start-up is
counted for the POWER record (R165). -/
def State.scanEndsOne (s : State) (p : Program) (programmed : Bool) : State :=
  match programmed, p.work with
  | false, .change _ => s.modJN fun jn => { jn with scanCloses := jn.scanCloses ++ [{ p with redo := none }] }
  | true, .change _ => if s.started then s else s.modJN fun jn => { jn with interrupted := jn.interrupted + 1 }
  | true, .voidSlot _ _ => if s.started then s else s.modJN fun jn => { jn with voids := jn.voids + 1 }
  | _, _ => s

/-- The owner of a program is told how it ended. -/
def State.tellOwner (s : State) (p : Program) (programmed : Bool) : State :=
  match p.owner with
  | .transfer id => s.transferEnds id p.work.seq programmed
  | .loadClose => s.closeEnds programmed
  | .captureOpening => s.captureOpened p.work.seq programmed
  | .captureChange c => s.changeEnds c programmed
  | .captureOwed c => s.owedEnds c programmed
  | .binExchange => s.binExchangeEnds programmed
  | .replenish c => s.replenishEnds c programmed
  | .boxEmptied => s.boxEmptiedEnds programmed
  | .alarm => if programmed then s else s.countLost
  | .power => s.powerEnds programmed
  | .scan => s.scanEndsOne p programmed
  | .walk => s.markEnds p.work.seq programmed

/-! ## The end of a program (R149 to R151) -/

/-- JOURNAL_FAILED rises with the sequence of the record whose program failed (R151). A VOID mark of the scan has no sequence
to trust, and the manual does not say what snapshot it leaves: the condition then carries none (DESIGN CHOICE, log entry
21). -/
def State.raiseFailed (s : State) (w : Work) : State :=
  match w with
  | .voidSlot _ _ => s.raiseBare .journalFailed
  | _ => s.raise .journalFailed (u32 w.seq)

/-- A program ends unprogrammed: its owner is told (R151). -/
def State.endUnmade (s : State) (p : Program) : State := s.tellOwner p false

/-- Programs end unprogrammed, oldest first (R151). -/
def State.endAllUnmade (s : State) (ps : List Program) : State := ps.foldl State.endUnmade s

/-- The journal enters FAILED: the failed program and every queued one end unprogrammed, oldest first, their appends'
claims given back, their owners told; JOURNAL_FAILED rises (R151). -/
def State.enterFailed (s : State) (failed : Work) : State :=
  let ended := s.jn.queue
  let s := s.modJN fun jn =>
    { jn with failed := true, queue := [], busy := false,
              claims := jn.claims - (ended.filter fun p => p.work.isAppend).length }
  ((s.endAllUnmade ended).raiseFailed failed).jnRun

/-- The head program leaves the queue; an append gives its claim back. -/
def JN.pop (jn : JN) : JN :=
  match jn.queue with
  | [] => jn
  | p :: rest => { jn with queue := rest, busy := false, claims := if p.work.isAppend then jn.claims - 1 else jn.claims }

/-- The head program ends: its owner is told, and the next may start. -/
def State.programEnds (s : State) (p : Program) (programmed : Bool) : State :=
  ((s.modJN JN.pop).tellOwner p programmed).jnRun

/-- The head append is made again at once in the next unused slot, the ring advanced if it must be: before a read that waits
for the engine, but after one that the slot's bank serves (R149, R153; DEDUCED, log entry 21). It is made at once also when RESTART's reply has
been sent, as part of the program in progress that R207 finishes, though R207 gives that program at most 5 ms (DESIGN CHOICE,
log entry 21). -/
def JN.retry (jn : JN) : JN := ({ jn with busy := false } : JN).startProgram

/-- An append's program at slot k of segment i has been made (R149). -/
def State.appendMade (s : State) (p : Program) (r : Record) (i k : Nat) (missed : List Byte) : State :=
  let writing := r.writing
  let first := programBytes s.jn.mem i k writing missed
  let second := programBytes first.1 i k (if first.2 then r.closing else []) (missed.drop writing.length)
  let before := s.jn.free
  let s := s.modJN fun jn => { jn with mem := second.1, filling := some (i, k + 1) }
  if first.2 ∧ second.2 then
    let s := s.modJN fun jn =>
      { (jn.modSeg i fun g => { g with records := g.records ++ [(k, r.seq)] }) with failures := 0 }
    s.programEnds p true
  else
    let s := s.modJN fun jn =>
      { jn with mem := jn.mem.program (slotAddress i k 0) 0xF7#8, failures := jn.failures + 1 }
    if Config.programFailures ≤ s.jn.failures then s.enterFailed p.work
    else if ({ s.jn with claims := s.jn.claims - 1 } : JN).roomFor r.kind then
      ((s.modJN JN.retry).jnRun).noteFree before
    else s.programEnds p false

/-- A change in place has been made (R148, R150). One that programs no byte, as a close of a record that is not WRITTEN or a
change of a sequence the directory lacks, counts as a verified program and sets the consecutive failures to 0, on which the
manual is silent; and one whose verify fails is made again at once also when RESTART's reply has been sent, as `JN.retry` (both
DESIGN CHOICE, log entry 21). -/
def State.changeMade (s : State) (p : Program) (missed : List Byte) : State :=
  match s.jn.target p.work with
  | none => (s.modJN fun jn => { jn with failures := 0 }).programEnds p true
  | some (i, k) =>
    let steps := s.jn.stepsOf p
    let made := programBytes s.jn.mem i k steps missed
    let s := s.modJN fun jn => { jn with mem := made.1 }
    if made.2 then (s.modJN fun jn => { jn with failures := 0 }).programEnds p true
    else
      let s := s.modJN fun jn => { jn with failures := jn.failures + 1 }
      if Config.programFailures ≤ s.jn.failures then s.enterFailed p.work
      else s.modJN fun jn => { jn with queue := { p with redo := some steps } :: jn.queue.tail }

/-- The program in progress ends (R149). -/
def State.programMade (s : State) (missed : List Byte) : State :=
  match s.jn.busy, s.jn.queue with
  | true, p :: _ =>
    match p.work, s.jn.filling with
    | .append r, some (i, k) => (s.appendMade p r i k missed).scanStepEnds
    | .append _, none => s.programEnds p false
    | _, _ => (s.changeMade p missed).scanStepEnds
  | _, _ => s

def State.onJournalProgramDone (missed : List Byte) (s : State) : State :=
  s.programMade missed

def execJournalProgramDone (missed : List Byte) (s : State) : Host.Outcome State Fault Refusal :=
  s.poweredStep (State.onJournalProgramDone missed)

/-! ## Reads (R153, R154) -/

/-- The lowest sequence held, absent where none is. -/
def JN.lowest (jn : JN) : Option Nat := jn.bySeq.head?.map (·.1)

/-- A record as read: its slot, or the placeholder of one whose segment is ERASING (R153, section 11.2). -/
def JN.entry (jn : JN) (f : Nat × Nat × Nat × Bool) : List Byte :=
  if f.2.2.2 ∨ (jn.seg f.2.1).state = .erasing then
    [0xEE#8, 0xFF#8, 0xFF#8, 0xFF#8] ++ u32 f.1 ++ List.replicate 24 0xFF#8
  else slotRead jn.mem f.2.1 f.2.2.1 0 Config.slotBytes

/-- The JOURNAL_READ reply (R154, section 11.2). -/
def State.answerRead (s : State) (r : ReadJob) : State :=
  let jn := s.jn
  s.ok 0x41 r.tag (u8 (bitSet [jn.lowest.isSome, jn.exhausted]) ++ u32 (jn.lowest.getD Config.max32) ++ u32 jn.counter
    ++ u8 r.found.length ++ r.found.flatMap jn.entry ++ u8 0)

/-- JOURNAL_READ at its owner (R154): a read that needs no memory is answered at once. -/
def State.ownJournalRead (tag start count : Nat) (s : State) : State :=
  if count < 1 ∨ Config.readMax < count then s.refuse 0x41 tag .malformed []
  else
    let found := (s.jn.bySeq.filter fun e => decide (start ≤ e.1)).take count
    let job : ReadJob :=
      { tag := tag, found := found.map fun e => (e.1, e.2.1, e.2.2, (s.jn.seg e.2.1).state == .erasing) }
    if job.uses .a ∨ job.uses .b then (s.modJN fun jn => { jn with reads := jn.reads ++ [job] }).jnRun
    else s.answerRead job

def execJournalRead (tag start count : Nat) (s : State) : Host.Outcome State Fault Refusal :=
  s.request 0x41 tag (State.ownJournalRead tag start count)

/-- A read of journal memory ends (R153, R159). -/
def State.readEnds (s : State) : State :=
  match s.jn.reading, s.jn.reads with
  | true, r :: rest => ((s.answerRead r).modJN fun jn => { jn with reads := rest, reading := false }).jnRun
  | _, _ => s

def execJournalReadDone (s : State) : Host.Outcome State Fault Refusal := s.poweredStep State.readEnds

/-! ## The erase (R157 to R159) -/

/-- The run's lowest waiting segment becomes ERASING, and waiting reads report its records by placeholders from then on
(R153, R159); with none left the run is removed, ERASE_DONE rises with its segments each marked, and segments of the scan
that still wait get their run (R157, R158, R164). The marks are coded ERASED 1 and BAD 2, by the pair in which R158 names
them, where R142's list of segment states could be read as their owner (DESIGN CHOICE, log entry 8). -/
def State.eraseNext (s : State) : State :=
  match s.jn.run with
  | none => s
  | some run =>
    match run.waiting with
    | i :: rest =>
      (s.modJN fun jn =>
        { (jn.modSeg i fun g => { g with state := .erasing, torn := true }) with
          run := some { run with waiting := rest, windowDue := none, erasing := some i, spent := Count.zero }
          reads := jn.reads.map (ReadJob.withErasing i) }).jnRun
    | [] =>
      let s := s.modJN fun jn => { jn with run := none }
      let marks := run.ended.flatMap fun e => u8 (e.1 + 1) ++ u8 (if e.2 then 1 else 2)
      (s.raise .eraseDone (u8 run.ended.length ++ marks)).formRun

def State.onEraseWindowExpiry (s : State) : State :=
  match s.jn.run with
  | some run =>
    match run.windowDue with
    | some due => (s.reach due).eraseNext
    | none => s
  | none => s

def execEraseWindowExpiry (s : State) : Host.Outcome State Fault Refusal := s.poweredStep State.onEraseWindowExpiry

/-- The erasing segment ends, ERASED or BAD; its directory list is emptied (R153, R158). -/
def State.segmentEnds (s : State) (run : EraseRun) (i : Nat) (good : Bool) : State :=
  (s.modJN fun jn =>
    let jn : JN := { jn with mem := if good then jn.mem.eraseRange (segmentAddress i) segmentBytes else jn.mem }
    { (jn.modSeg i fun g => { state := if good then .erased else .bad, records := [], torn := if good then false else g.torn }) with
      run := some { run with erasing := none, spent := Count.zero, ended := run.ended ++ [(i, good)] } }).eraseNext

def State.onEraseVerify (s : State) : State :=
  match s.jn.run with
  | some run =>
    match run.erasing with
    | some i => if s.jn.suspended run.bank then s else s.segmentEnds run i true
    | none => s
  | none => s

def execEraseVerify (s : State) : Host.Outcome State Fault Refusal := s.poweredStep State.onEraseVerify

def State.onEraseLimit (s : State) : State :=
  match s.jn.run with
  | some run =>
    match run.erasing, run.spent.reaches Config.eraseLimit with
    | some i, some due => if s.jn.suspended run.bank then s else (s.reach due).segmentEnds run i false
    | _, _ => s
  | none => s

def execEraseLimit (s : State) : Host.Outcome State Fault Refusal := s.poweredStep State.onEraseLimit

/-! ## Requests -/

/-- A record of a segment that is WRITTEN or CLOSED; the lowest sequence of them (R156). -/
def JN.unsettled (jn : JN) (i : Nat) : Option Nat :=
  (((jn.seg i).records.filter fun r => jn.status i r.1 == some .written || jn.status i r.1 == some .closed).map (·.2)).min?

/-- A segment number takes its place in ascending order. -/
def insertAscending (i : Nat) : List Nat → List Nat
  | [] => [i]
  | j :: js => if i ≤ j then i :: j :: js else j :: insertAscending i js

/-- OK for JOURNAL_ERASE: JOINED (1) or PENDING (2), the segment, its state, the window's time left (R156). -/
def State.okErase (s : State) (tag word i : Nat) : State :=
  s.ok 0x43 tag (u8 word ++ u8 (i + 1) ++ u8 (s.jn.seg i).state.code ++ u16 Config.eraseWindow)

/-- JOURNAL_ERASE of segment i, checked in the order of R156. -/
def State.eraseSegment (s : State) (tag i : Nat) : State :=
  let bank := bankOf i
  let due := some (s.now + Config.eraseWindow)
  let joins := s.jn.run.any fun run => run.bank == bank && run.windowDue.isSome
  if (s.jn.seg i).state = .filling then s.refuse 0x43 tag .segmentInUse []
  else if joins ∧ s.jn.run.any fun run => run.waiting.contains i then
    (s.modJN fun jn => { jn with run := jn.run.map fun run => { run with windowDue := due } }).okErase tag 1 i
  else if (s.jn.seg i).state ≠ .full then s.refuse 0x43 tag .wrongState []
  else if s.jn.run.isSome ∧ joins = false then s.refuse 0x43 tag .busy []
  else match s.jn.unsettled i with
    | some seq => s.refuse 0x43 tag .unreconciled (u32 seq)
    | none =>
      let s := s.modJN fun jn => jn.modSeg i fun g => { g with state := .pendingErase }
      match s.jn.run with
      | some run =>
        (s.modJN fun jn =>
          { jn with run := some { run with waiting := insertAscending i run.waiting, windowDue := due } }).okErase tag 1 i
      | none => (s.modJN fun jn => { jn with run := some (runFor bank [i] s.now) }).okErase tag 2 i

/-- JOURNAL_ERASE at its owner: A0 to A7 are coded 1 to 8, B0 to B7 9 to 16 (R156). -/
def State.ownJournalErase (tag segment : Nat) (s : State) : State :=
  if segment < 1 ∨ Config.segments < segment then s.refuse 0x43 tag .malformed [] else s.eraseSegment tag (segment - 1)

def execJournalErase (tag segment : Nat) (s : State) : Host.Outcome State Fault Refusal :=
  s.request 0x43 tag (State.ownJournalErase tag segment)

/-- JOURNAL_RECONCILE at its owner (R155). -/
def State.ownJournalReconcile (tag through : Nat) (s : State) : State :=
  if s.jn.failed then s.refuse 0x42 tag .journalUnavailable []
  else if s.jn.walk.isSome then s.refuse 0x42 tag .busy []
  else s.walkOn { tag := tag, through := through, reached := none, marked := 0 }

def execJournalReconcile (tag through : Nat) (s : State) : Host.Outcome State Fault Refusal :=
  s.request 0x42 tag (State.ownJournalReconcile tag through)

/-- The records of a status, segments ERASING left out. -/
def JN.countOf (jn : JN) (st : SlotState) : Nat :=
  (jn.bySeq.filter fun e => (jn.seg e.2.1).state != .erasing && jn.status e.2.1 e.2.2 == some st).length

/-- A segment within its bank. -/
def inBank (i : Nat) : Nat := i % 8

/-- The erase run in JOURNAL_STATUS: bank, the set of its segments, the window's time left, the segment erasing with its
erase time spent (R166). -/
def EraseRun.statusBytes (run : EraseRun) (now : Nat) : List Byte :=
  let mine := run.waiting ++ run.erasing.toList ++ run.ended.map (·.1)
  u8 (abCode run.bank) ++ u8 (bitSet ((List.range 8).map fun k => mine.any fun i => inBank i == k))
    ++ optional 2 (run.windowDue.map fun due => u16 (due - now))
    ++ optional 3 (run.erasing.map fun i => u8 (i + 1) ++ u16 (min 65535 (run.spent.value now)))

/-- The journal state: OPERATING (1), FAILED (2). -/
def JN.stateCode (jn : JN) : Nat := if jn.failed then 2 else 1

/-- JOURNAL_STATUS's values (R166). The claims, the queue and the scan closes take two bytes each, as no range is stated for
them, and the program in progress, the head of the queue, counts among the programs in the queue, which R149, R151 and R154
leave open (DESIGN CHOICE, log entry 8, both). -/
def State.journalStatusBytes (s : State) : List Byte :=
  let jn := s.jn
  u8 jn.stateCode ++ u8 jn.failures ++ jn.segs.flatMap (fun g => u8 g.state.code)
    ++ optional 2 (jn.filling.map fun f => u8 (f.1 + 1) ++ u8 f.2) ++ u16 jn.free ++ u16 jn.claims
    ++ optional 4 (if jn.exhausted then none else some (u32 jn.counter)) ++ optional 4 (jn.lowest.map u32)
    ++ u16 (jn.countOf .written) ++ u16 (jn.countOf .closed) ++ u16 (jn.countOf .reconciled)
    ++ u16 jn.queue.length ++ u16 jn.scanCloses.length ++ yesNo jn.walk.isSome
    ++ optional 9 (jn.run.map fun run => run.statusBytes s.now) ++ yesNo jn.powerLost ++ s.lc.groupFlags .journal .i1

/-- JOURNAL_STATUS at its owner (R166). -/
def State.ownJournalStatus (tag : Nat) (s : State) : State :=
  (s.ok 0x40 tag s.journalStatusBytes).autoClear .journal .i1

def execJournalStatus (tag : Nat) (s : State) : Host.Outcome State Fault Refusal :=
  s.request 0x40 tag (State.ownJournalStatus tag)

/-- A journal without a FILLING segment takes the first ERASED one in ring order (R167). -/
def JN.findFilling (jn : JN) : JN :=
  match jn.filling, jn.firstErased (List.range Config.segments) with
  | none, some i => { (jn.modSeg i fun g => { g with state := .filling }) with filling := some (i, 0) }
  | _, _ => jn

/-- A program is handed to the JN again. -/
def State.handAgain (s : State) (p : Program) : State := (s.hand p.owner p.work).1

/-- Programs are handed to the JN again, in order. -/
def State.handAllAgain (s : State) (ps : List Program) : State := ps.foldl State.handAgain s

/-- The kept scan closes are queued again, ahead of any later change (R163, R167). -/
def State.handScanCloses (s : State) : State :=
  (s.modJN fun jn => { jn with scanCloses := [] }).handAllAgain s.jn.scanCloses

/-- The journal returns to OPERATING where it has a FILLING segment (R167). -/
def State.recover (s : State) (tag : Nat) : State :=
  let s := s.modJN JN.findFilling
  if s.jn.filling.isSome then
    let s := (s.modJN fun jn => { jn with failed := false, failures := 0 }).ok 0x44 tag (u8 1)
    (s.handScanCloses.handOwedClose).handOwedChange
  else s.ok 0x44 tag (u8 2)

/-- JOURNAL_RECOVER at its owner (R167). -/
def State.ownJournalRecover (tag : Nat) (s : State) : State :=
  if s.jn.failed then s.recover tag else s.ok 0x44 tag (u8 1)

def execJournalRecover (tag : Nat) (s : State) : Host.Outcome State Fault Refusal :=
  s.request 0x44 tag (State.ownJournalRecover tag)

end Sys2Proof.Machine
end

