-- ==== Sys2Proof/Machine/AlarmUnit.lean ====
section
/-! DEFINITION. The meanings of the Alarm Unit's commands (chapter 9): the hold-up inputs and the key switch (R170), delays and
windows (R173, R174), the sounder run (R181) and the zone requests (R184 to R189). -/

namespace Sys2Proof.Machine

def State.modAU (s : State) (f : AU → AU) : State := { s with au := f s.au }

/-- The zone of a hold-up input. -/
def holdupZone : AB → ZoneId
  | .a => .holdupA
  | .b => .holdupB

/-- A hold-up input's level changes (R169, R170, R171). -/
def execHoldupInputChange (input : AB) (active : Bool) (s : State) : Host.Outcome State Fault Refusal :=
  if s.powered then .next ((s.setCause (holdupZone input) active).finish)
  else .next (s.modZone (holdupZone input) fun z => { z with cause := active })

/-- A LOCKED HOLDUP zone whose input is normal returns to IDLE (R170). -/
def State.keyReleases (s : State) (z : ZoneId) : State :=
  if (s.zone z).state = .locked ∧ (s.zone z).cause = false then s.zoneTo z .idle else s

/-- The key switch's level changes; a rising edge releases in zone order (R170). -/
def State.keyEdge (s : State) (rising : Bool) : State :=
  let s := s.modAU fun au => { au with keySwitch := rising }
  if rising ∧ s.live then (s.keyReleases .holdupA).keyReleases .holdupB else s

def execKeySwitchEdge (rising : Bool) (s : State) : Host.Outcome State Fault Refusal :=
  if s.powered then .next ((s.keyEdge rising).finish)
  else .next (s.modAU fun au => { au with keySwitch := rising })

/-- A door zone's entry delay expires: ALARM, whatever the door (R173). -/
def State.onEntryDelayExpiry (door : Door) (s : State) : State :=
  match (s.zone (doorZone door)).state, (s.zone (doorZone door)).delayDue with
  | .delay, some due => (s.reach due).zoneTo (doorZone door) .alarm
  | _, _ => s

def execEntryDelayExpiry (door : Door) (s : State) : Host.Outcome State Fault Refusal :=
  s.poweredStep (State.onEntryDelayExpiry door)

/-- An authorization window closes at its time (R174). -/
def State.onWindowExpiry (door : Door) (s : State) : State :=
  match (s.zone (doorZone door)).windowUntil with
  | some due => (s.reach due).closeWindow door
  | none => s

def execWindowExpiry (door : Door) (s : State) : Host.Outcome State Fault Refusal :=
  s.poweredStep (State.onWindowExpiry door)

/-- A phase of a PULSING run ends: the output switches, the next phase taking the period in force (R181). -/
def State.onSounderPhaseEnd (s : State) : State :=
  match s.au.run with
  | .pulsing on due cutoff =>
    let s := s.reach due
    s.modAU fun au => { au with run := .pulsing (!on) (s.now + phaseLength au.period (!on)) cutoff }
  | _ => s

def execSounderPhaseEnd (s : State) : Host.Outcome State Fault Refusal := s.poweredStep State.onSounderPhaseEnd

/-- The sounder cutoff expires (R181). -/
def State.onSounderCutoff (s : State) : State :=
  match s.au.run with
  | .pulsing _ _ cutoff => (s.reach cutoff).modAU fun au => { au with run := .stopped }
  | _ => s

def execSounderCutoff (s : State) : Host.Outcome State Fault Refusal := s.poweredStep State.onSounderCutoff

/-! ## Requests -/

/-- The door zone of a number on the line: 3 or 4 (R184, R185). -/
def doorOf : Nat → Option Door
  | 3 => some .safe
  | 4 => some .bin
  | _ => none

/-- ZONE_SETTINGS at its owner (R184). -/
def State.ownZoneSettings (tag zone delay : Nat) (s : State) : State :=
  match doorOf zone with
  | none => s.refuse 0x48 tag .malformed []
  | some d =>
    let v := clamp 0 120 delay
    (s.modAU fun au => match d with
      | .safe => { au with safeDelay := v }
      | .bin => { au with binDelay := v }).ok 0x48 tag (u8 zone ++ u8 v)

def execZoneSettings (tag zone delay : Nat) (s : State) : Host.Outcome State Fault Refusal :=
  s.request 0x48 tag (State.ownZoneSettings tag zone delay)

/-- Whole seconds left to a time, 0 when absent. -/
def secondsLeft (due : Option Nat) (now : Nat) : Nat := (due.map fun d => seconds (d - now)).getD 0

/-- A window opens, ending a running delay (R185). -/
def State.openWindow (s : State) (d : Door) (minutes : Nat) : State :=
  let s := if (s.zone (doorZone d)).state = .delay then s.zoneTo (doorZone d) .idle else s
  s.modZone (doorZone d) fun z => { z with windowUntil := some (s.now + clamp 1 120 minutes * 60000) }

/-- AUTHORIZE at its owner (R185). -/
def State.ownAuthorize (tag zone minutes : Nat) (s : State) : State :=
  match doorOf zone with
  | none => s.refuse 0x49 tag .malformed []
  | some d =>
    if s.au.duress then s.refuse 0x49 tag .duressLock []
    else
      let s := if minutes = 0 then s.closeWindow d else s.openWindow d minutes
      s.ok 0x49 tag (u8 zone ++ u8 (s.zone (doorZone d)).state.code ++ u16 (secondsLeft (s.zone (doorZone d)).windowUntil s.now))

def execAuthorize (tag zone minutes : Nat) (s : State) : Host.Outcome State Fault Refusal :=
  s.request 0x49 tag (State.ownAuthorize tag zone minutes)

/-- A zone is acknowledged; zone 12's missing lanes are emptied and its cause made normal first (R179, R186). -/
def State.acknowledge (s : State) (z : ZoneId) : State :=
  let s := match z with
    | .carrierMissing =>
      (s.modAU fun au => { au with missing := Four.const false }).modZone .carrierMissing fun r => { r with cause := false }
    | _ => s
  match (s.zone z).state with
  | .alarm => if (s.zone z).cause then s.modZone z fun r => { r with acked := true } else s.zoneIdle z
  | .latched => s.zoneIdle z
  | _ => s

/-- ACK_ZONE at its owner (R186). -/
def State.ownAckZone (tag zone : Nat) (s : State) : State :=
  match ZoneId.ofNum zone with
  | none => s.refuse 0x4A tag .malformed []
  | some z =>
    if (s.zone z).state = .locked then s.refuse 0x4A tag .wrongState []
    else
      let s := s.acknowledge z
      s.ok 0x4A tag (u8 (s.zone z).state.code)

def execAckZone (tag zone : Nat) (s : State) : Host.Outcome State Fault Refusal :=
  s.request 0x4A tag (State.ownAckZone tag zone)

/-- SOUNDER_SILENCE at its owner (R187). -/
def State.ownSounderSilence (tag : Nat) (s : State) : State :=
  let s := s.modAU fun au => match au.run with
    | .pulsing _ _ _ => { au with run := .stopped }
    | _ => au
  s.ok 0x4B tag (u8 s.au.run.code)

def execSounderSilence (tag : Nat) (s : State) : Host.Outcome State Fault Refusal :=
  s.request 0x4B tag (State.ownSounderSilence tag)

/-- SOUNDER_SETTINGS at its owner (R188). -/
def State.ownSounderSettings (tag period : Nat) (s : State) : State :=
  (s.modAU fun au => { au with period := clamp 2 40 period }).ok 0x4C tag (u8 (clamp 2 40 period))

def execSounderSettings (tag period : Nat) (s : State) : Host.Outcome State Fault Refusal :=
  s.request 0x4C tag (State.ownSounderSettings tag period)

/-- What a zone adds in ALARM_STATUS beside the four common fields (R189). -/
def State.zoneExtra (s : State) (z : ZoneId) : List Byte :=
  let door (d : Door) : List Byte :=
    u8 (s.au.entryDelay d) ++ optional 1 ((s.zone z).delayDue.map fun t => u8 (seconds (t - s.now)))
      ++ optional 2 ((s.zone z).windowUntil.map fun t => u16 (seconds (t - s.now)))
  match z with
  | .safeDoor => door .safe
  | .binDoor => door .bin
  | .tamper _ => yesNo (s.zone z).supervised
  | .carrierMissing => u8 (bitSet s.au.missing.toList)
  | _ => []

/-- A zone in ALARM_STATUS (R189). -/
def State.zoneBytes (s : State) (z : ZoneId) : List Byte :=
  u8 z.cls.code ++ u8 (s.zone z).state.code ++ yesNo (s.zone z).cause ++ yesNo (s.zone z).acked ++ s.zoneExtra z

/-- The cutoff time left while PULSING. -/
def AU.cutoff (au : AU) : Option Nat :=
  match au.run with
  | .pulsing _ _ c => some c
  | _ => none

/-- ALARM_STATUS's values (R189). -/
def State.alarmStatusBytes (s : State) : List Byte :=
  ZoneId.all.flatMap s.zoneBytes ++ yesNo s.au.duress ++ yesNo s.au.keySwitch ++ yesNo s.au.silent
    ++ yesNo s.au.trouble ++ yesNo s.au.sounderOn ++ u8 s.au.run.code ++ u8 s.au.period
    ++ optional 1 (s.au.cutoff.map fun t => u8 (seconds (t - s.now))) ++ Ix4.all.flatMap (fun l => yesNo (s.au.lampDrive l))
    ++ yesNo (s.au.lost != 0) ++ u8 s.au.lost ++ s.lc.groupFlags .alarm .i1

/-- ALARM_STATUS at its owner (R189). -/
def State.ownAlarmStatus (tag : Nat) (s : State) : State :=
  (s.ok 0x4D tag s.alarmStatusBytes).autoClear .alarm .i1

def execAlarmStatus (tag : Nat) (s : State) : Host.Outcome State Fault Refusal :=
  s.request 0x4D tag (State.ownAlarmStatus tag)

end Sys2Proof.Machine
end

