-- ==== Sys2Proof/Machine/StartUp.lean ====
section
/-! DEFINITION. Power and start: the retained store check (R204), the journal scan (R160 to R163), the beginning of start-up
at power-on and at RESTART (R205, R207), the loss of power (R159, R204, R209) and the device clock's tick (R201). -/

namespace Sys2Proof.Machine

/-! ## The scan (R160 to R163) -/

/-- The listed bytes of a segment. -/
def segmentCells (m : Memory) (i : Nat) : Memory :=
  m.filter fun c => decide (segmentAddress i ≤ c.1 ∧ c.1 < segmentAddress i + segmentBytes)

/-- A slot is programmed when any of its bits reads 0 (R160). -/
def slotProgrammed (cells : Memory) (i k : Nat) : Bool :=
  cells.any fun c => decide (slotAddress i k 0 ≤ c.1 ∧ c.1 < slotAddress i k 0 + Config.slotBytes) && c.2 != Memory.erasedByte

/-- A segment's class; a well-formed one has the length of its run (R160). -/
inductive SegClass where
  | erased
  | formed (run : Nat)
  | interrupted
  deriving DecidableEq, Repr

/-- A segment is classified from its slots; one whose erase was begun and not verified is in neither clean form (R159,
R160). -/
def JN.classify (jn : JN) (i : Nat) : SegClass :=
  if (jn.seg i).torn then .interrupted
  else
    let cells := segmentCells jn.mem i
    if cells.isEmpty then .erased
    else
      let marks := (List.range Config.slotsPerSegment).map fun k => (k, slotProgrammed cells i k)
      let run := (marks.takeWhile (·.2)).length
      if run = 0 ∧ marks.all (fun m => !m.2) then .erased
      else if (marks.drop run).any (·.2) then .interrupted
      else if (List.range run).all fun k => (slotState (cells.read (slotAddress i k 0))).isSome then .formed run
      else .interrupted

/-- What the scan finds in a slot of a run: a record (sequence, kind, body), or a slot whose check fails (R161). -/
inductive SlotFound where
  | record (seq kind : Nat) (capture : Nat) (written : Bool)
  | bad
  | nothing
  deriving DecidableEq, Repr

/-- The early fields' check (R161): bytes 26 and 27 are the CRC-16 of bytes 2 to 25. -/
def readSlot (m : Memory) (i k : Nat) : SlotFound :=
  match slotState (m.read (slotAddress i k 0)) with
  | some .void => .nothing
  | some .erased => .nothing
  | none => .nothing
  | some st =>
    if slotRead m i k 26 2 = crcBytes (slotRead m i k 2 24) then
      .record (number (slotRead m i k 4 4)) (m.read (slotAddress i k 2)).toNat (number (slotRead m i k 12 4)) (st == .written)
    else .bad

/-- A record found: sequence, kind byte, capture number, segment, slot, whether it is WRITTEN. -/
structure FoundRecord where
  seq : Nat
  kind : Nat
  capture : Nat
  segment : Nat
  slot : Nat
  written : Bool
  deriving DecidableEq, Repr

/-- What the scan finds in a segment: its class, its records in slot order, the slots to program VOID. -/
structure SegFound where
  cls : SegClass
  records : List FoundRecord
  bad : List Nat
  deriving DecidableEq, Repr

def JN.scanSegment (jn : JN) (i : Nat) : SegFound :=
  match jn.classify i with
  | .formed run =>
    let cells := segmentCells jn.mem i
    let slots := (List.range run).map fun k => (k, readSlot cells i k)
    { cls := .formed run
      records := slots.filterMap fun x => match x.2 with
        | .record seq kind capture written =>
          some { seq := seq, kind := kind, capture := capture, segment := i, slot := x.1, written := written }
        | _ => none
      bad := slots.filterMap fun x => if x.2 = .bad then some x.1 else none }
  | c => { cls := c, records := [], bad := [] }

/-- The record with the highest sequence. -/
def highest (rs : List FoundRecord) : Option FoundRecord :=
  rs.foldl (fun best r => match best with
    | some b => if b.seq < r.seq then some r else some b
    | none => some r) none

/-- The unused slot a run leaves next. -/
def SegClass.next : SegClass → Nat
  | .formed run => run
  | _ => 0

/-- The append point the scan sets (R162). -/
def scanFilling (found : List (Nat × SegFound)) : Option (Nat × Nat) :=
  match highest (found.flatMap fun f => f.2.records) with
  | some r => (found.find? fun f => f.1 = r.segment).map fun f => (f.1, f.2.cls.next)
  | none => (found.find? fun f => f.2.cls != .interrupted).map fun f => (f.1, f.2.cls.next)

/-- A segment's state after the scan (R162). -/
def scanState (filling : Option (Nat × Nat)) (i : Nat) (c : SegClass) : SegState :=
  if filling.any fun f => f.1 = i then .filling
  else match c with
    | .erased => .erased
    | .formed _ => .full
    | .interrupted => .pendingErase

/-- A record found takes its place by rising sequence. -/
def insertFound (e : FoundRecord) : List FoundRecord → List FoundRecord
  | [] => [e]
  | f :: fs => if e.seq ≤ f.seq then e :: f :: fs else f :: insertFound e fs

/-- The close the scan gives a WRITTEN record: INTERRUPTED, with the outcome of a LOAD record (R163, section 11.5). -/
def scanClose (r : FoundRecord) : Program :=
  { owner := .scan,
    work := .change { seq := r.seq, late := if r.kind = 2 then [(28, 0x06#8)] else [],
                      flags := { RecFlags.none with interrupted := true }, closes := true } }

/-- The highest capture number of the CAPTURE records found (R135, R163). -/
def highestCapture (rs : List FoundRecord) : Option Nat := ((rs.filter fun r => r.kind = 1).map (·.capture)).max?

/-- The CU's counter after the scan (R126, R135). -/
def CaptureSettings.raisedBy (c : CaptureSettings) : Option Nat → CaptureSettings
  | none => c
  | some n =>
    if n = Config.max32 then { c with next := Config.max32, exhausted := true } else { c with next := max c.next (n + 1) }

/-- Each WRITTEN CAPTURE record makes the bin UNCONFIRMED where it is present with its door closed (R135). -/
def State.scanBin (s : State) (rs : List FoundRecord) : State :=
  if (rs.any fun r => r.kind = 1 ∧ r.written) ∧ s.cu.binPresent ∧ s.cu.binDoorClosed then s.binTo .unconfirmed else s

/-- The scan sets the journal's volatile state and queues its programs: VOID marks, then closes in sequence order (R160 to
R163). -/
def State.scan (s : State) : State :=
  let found := (List.range Config.segments).map fun i => (i, s.jn.scanSegment i)
  let records := found.flatMap fun f => f.2.records
  let filling := scanFilling found
  let top := highest records
  let segs := found.map fun f =>
    { state := scanState filling f.1 f.2.cls, records := f.2.records.map fun r => (r.slot, r.seq), torn := (s.jn.seg f.1).torn }
  let voids : List Program := found.flatMap fun f => f.2.bad.map fun k => { owner := .scan, work := .voidSlot f.1 k }
  let closes := ((records.filter (·.written)).foldr insertFound []).map scanClose
  let jn : JN := { s.jn with
    segs := segs, filling := filling, queue := voids ++ closes, failed := filling.isNone
    counter := match top with
      | some r => if r.seq = Config.max32 then Config.max32 else r.seq + 1
      | none => 1
    exhausted := top.any fun r => r.seq = Config.max32 }
  let s : State := { s with jn := jn, cu := { s.cu with set := s.cu.set.raisedBy (highestCapture records) } }
  let s := s.scanBin records
  let s := if s.jn.free ≤ Config.journalLow then s.raise .journalLow (u16 s.jn.free) else s
  let s := if s.jn.failed then s.raiseBare .journalFailed else s
  s.jnRun.scanStepEnds

/-! ## Start-up (R205) -/

/-- Every block at its start-up value over the retained items, the sensors' levels as they stand and the notes in the
stacker kept where they are; then the scan (R205). -/
def State.beginStartUp (s : State) (kind : StartKind) (kept : Retained) (storeFailed : Bool) : State :=
  let s : State := { s with
    phase := .startUp .scan
    li := LI.initial kept.lanes (s.li.lanes.map (·.carrierInput))
    td := TD.initial s.td.bays
    as := AS.initial kept.air s.as.blowerA.switchClosed s.as.blowerB.switchClosed
    nd := ND.initial kept.ledgers kept.box (s.nd.cassettes.map (·.slot)) s.nd.safeDoorOpen
    dp := DP.initial kept.dispense
    ss := SS.initial kept.stageHold s.ss.pick s.ss.delivery s.ss.shuttle
    cu := CU.initial kept.capture kept.bin s.cu.printerReady s.cu.binPresent s.cu.binDoorClosed
    jn := JN.initial s.jn.mem (s.jn.segs.map (·.torn))
    au := AU.initial kept.alarm s.au.zones.holdupA.cause s.au.zones.holdupB.cause s.nd.safeDoorOpen (!s.cu.binDoorClosed)
      s.au.keySwitch
    lc := LC.initial kept.clock kept.clockSet kind storeFailed }
  s

/-- What the store check finds: the first copy where its CRC-16 matches, else the second, else nothing (R204). -/
def Store.check (st : Store) (firstReads secondReads : Bool) : Option Retained :=
  if st.first.sound ∧ firstReads then some st.first.content
  else if st.second.sound ∧ secondReads then some st.second.content
  else none

/-- Both copies holding one content. -/
def Store.both (r : Retained) : Store :=
  { first := { content := r, sound := true }, second := { content := r, sound := true }, before := r }

/-- Power is applied (R204, R205): the operands say which copies of the store read as they were written. -/
def State.powersOn (s : State) (firstReads secondReads : Bool) : State :=
  match s.store.check firstReads secondReads with
  | some kept => (({ s with store := Store.both kept } : State).beginStartUp .powerOn kept false).scan
  | none =>
    let s : State := { s with store := Store.both Retained.default }
    ((s.beginStartUp .powerOn Retained.default true).raiseBare .retainedLost).scan

def execPowerOn (firstReads secondReads : Bool) (s : State) : Host.Outcome State Fault Refusal :=
  .next ((s.powersOn firstReads secondReads).finish)

/-- RESTART's start-up: the store as it stands, the clock unchanged; a frame on the line goes on to its end (R194, R207). -/
def State.restarts (s : State) : State :=
  let line := s.lc.sending.map fun f => { f with what := .orphan }
  let s := s.beginStartUp .restart s.retained s.lc.storeFailed
  ({ s with lc := { s.lc with sending := line } } : State).scan

/-- RESTART's start-up begins once its reply has been sent and no program is in progress (R207). -/
def State.onRestartStartUp (s : State) : State :=
  if s.phase = .restarting true ∧ s.jn.busy = false then s.restarts else s

def execRestartStartUp (s : State) : Host.Outcome State Fault Refusal := s.poweredStep State.onRestartStartUp

/-- The device clock after a second: it stops at its greatest value (R201). -/
def clockNext (clock : Nat) : Nat := min Config.max32 (clock + 1)

/-- The device clock of a content of the store, counted on by the backup supply (R201). -/
def Retained.tick (r : Retained) : Retained := { r with clock := clockNext r.clock }

/-- Each copy's device clock is counted on; its CRC-16 matches or not as before (R201, notes/assumptions/25.md). -/
def Store.tick (st : Store) : Store :=
  { first := { st.first with content := st.first.content.tick }, second := { st.second with content := st.second.content.tick },
    before := st.before.tick }

/-- The device clock counts a second, on the backup supply too (R201, R204). -/
def execDeviceClockTick (s : State) : Host.Outcome State Fault Refusal :=
  .next { s with lc := { s.lc with clock := clockNext s.lc.clock }, store := s.store.tick }

/-! ## Power loss (R159, R204, R209) -/

/-- The program in progress is cut off after `programmed` whole byte programs, the bits of `left` of the next one not yet
programmed. -/
def JN.cut (jn : JN) (programmed : Nat) (left : Byte) : JN :=
  match jn.busy, jn.queue with
  | true, p :: _ =>
    match p.work, jn.target p.work with
    | .append r, some (i, k) => { jn with mem := cutBytes jn.mem i k (r.writing ++ r.closing) programmed left }
    | _, some (i, k) => { jn with mem := cutBytes jn.mem i k (jn.stepsOf p) programmed left }
    | _, none => jn
  | _, _ => jn

/-- The write of the last change to the store is cut off in its first or its second copy: that copy's CRC-16 does not match,
and before the second is programmed it holds what stood before (R204). -/
def Store.cut (st : Store) : StoreCut → Store
  | .done => st
  | .inFirst => { st with first := { st.first with sound := false }, second := { content := st.before, sound := true } }
  | .inSecond => { st with second := { st.second with sound := false } }

/-- The supply fails. -/
def execPowerLoss (cut : StoreCut) (programmed : Nat) (partialBits : Byte) (s : State) : Host.Outcome State Fault Refusal :=
  .next (if s.powered then { s with phase := .off, store := s.store.cut cut, jn := s.jn.cut programmed partialBits } else s)

end Sys2Proof.Machine
end

