-- ==== Sys2Proof/Machine/Link.lean ====
section
/-! DEFINITION. The meanings of the Link Controller's commands (chapter 10): its own requests (R198 to R203, R207), a frame's
way from the line to its owner (R190, R191) and the end of an outgoing frame (R194). -/

namespace Sys2Proof.Machine

def State.modLC (s : State) (f : LC → LC) : State := { s with lc := f s.lc }

/-! ## The condition requests (R198 to R200) -/

/-- The instance numbers, 1 to 69. -/
def instanceNumbers : List Nat := (List.range Config.conditions).map (· + 1)

/-- The pending instances and the enabled ones, in number order. -/
def LC.pendingSet (lc : LC) : List Nat := instanceNumbers.filter lc.isPending
def LC.enabledSet (lc : LC) : List Nat := instanceNumbers.filter lc.isEnabled

/-- The auto-clear groups of a list of codes 1 to 8 (R208). -/
def groupsOf (codes : List Nat) : Groups :=
  { lane := codes.contains 1, carrier := codes.contains 2, load := codes.contains 3, dispenser := codes.contains 4,
    capture := codes.contains 5, journal := codes.contains 6, alarm := codes.contains 7, air := codes.contains 8 }

/-- The codes of the groups set to auto-clear, in order (R208). -/
def Groups.codes (g : Groups) : List Nat :=
  ([(1, g.lane), (2, g.carrier), (3, g.load), (4, g.dispenser), (5, g.capture), (6, g.journal), (7, g.alarm), (8, g.air)].filter
    (·.2)).map (·.1)

/-- One instance's enable set: turned off its entry goes, turned on while pending an entry is added (R198). -/
def LC.setEnable (lc : LC) (n : Nat) (on : Bool) : LC :=
  if lc.isEnabled n = on then lc
  else
    let lc : LC := { lc with conds := modifyAt (fun c => { c with enabled := on }) (n - 1) lc.conds }
    if on then
      if lc.isPending n ∧ lc.notices.contains (.cond n) = false then { lc with notices := lc.notices ++ [.cond n] } else lc
    else lc.dropEntry n

/-- The two sets replaced, in instance number order (R198). -/
def LC.enableAll (lc : LC) (enabled autoClear : List Nat) : LC :=
  { instanceNumbers.foldl (fun lc n => lc.setEnable n (enabled.contains n)) lc with auto := groupsOf autoClear }

/-- The entries CONDITIONS_ENABLE adds: instances it turns on that are pending. -/
def LC.entriesAdded (lc : LC) (enabled : List Nat) : Nat :=
  (instanceNumbers.filter fun n => enabled.contains n && !lc.isEnabled n && lc.isPending n && !lc.notices.contains (.cond n)).length

/-- Every number lies in 1 to a bound. -/
def within (hi : Nat) (ns : List Nat) : Bool := ns.all fun n => decide (1 ≤ n ∧ n ≤ hi)

/-- CONDITIONS_ENABLE at its owner (R198). -/
def State.ownConditionsEnable (tag : Nat) (enabled autoClear : List Nat) (s : State) : State :=
  if within Config.conditions enabled ∧ within 8 autoClear then
    let added := s.lc.entriesAdded enabled
    let s := s.modLC fun lc => lc.enableAll enabled autoClear
    s.ok 0x50 tag (numberSet s.lc.enabledSet ++ numberSet s.lc.auto.codes ++ u8 added)
  else s.refuse 0x50 tag .malformed []

def execConditionsEnable (tag : Nat) (enabled autoClear : List Nat) (s : State) : Host.Outcome State Fault Refusal :=
  s.request 0x50 tag (State.ownConditionsEnable tag enabled autoClear)

/-- CONDITIONS_READ at its owner (R199). -/
def State.ownConditionsRead (tag : Nat) (s : State) : State :=
  s.ok 0x51 tag (numberSet s.lc.pendingSet ++ numberSet s.lc.enabledSet ++ numberSet s.lc.auto.codes
    ++ u8 (s.lc.notices.filter (· != .start)).length ++ yesNo (s.lc.notices.contains .start) ++ u8 s.lc.outstanding)

def execConditionsRead (tag : Nat) (s : State) : Host.Outcome State Fault Refusal :=
  s.request 0x51 tag (State.ownConditionsRead tag)

/-- CONDITIONS_CLEAR at its owner (R197, R200). -/
def State.ownConditionsClear (tag : Nat) (cleared : List Nat) (s : State) : State :=
  if within Config.conditions cleared then
    let were := instanceNumbers.filter fun n => cleared.contains n && s.lc.isPending n
    (s.modLC fun lc => were.foldl LC.clear lc).ok 0x52 tag (numberSet were)
  else s.refuse 0x52 tag .malformed []

def execConditionsClear (tag : Nat) (cleared : List Nat) (s : State) : Host.Outcome State Fault Refusal :=
  s.request 0x52 tag (State.ownConditionsClear tag cleared)

/-! ## Clock, identity, RESTART (R202, R203, R207) -/

/-- SET_TIME at its owner (R202). -/
def State.ownSetTime (tag seconds : Nat) (s : State) : State :=
  (s.modLC fun lc => { lc with clock := seconds, clockSet := true }).ok 0x53 tag (u32 seconds)

def execSetTime (tag seconds : Nat) (s : State) : Host.Outcome State Fault Refusal :=
  s.request 0x53 tag (State.ownSetTime tag seconds)

/-- The part's name, CATHEK DT-4 (R203). -/
def partName : List Byte :=
  [0x43#8, 0x41#8, 0x54#8, 0x48#8, 0x45#8, 0x4B#8, 0x20#8, 0x44#8, 0x54#8, 0x2D#8, 0x34#8]

/-- IDENTIFY at its owner (R203). -/
def State.ownIdentify (tag : Nat) (s : State) : State :=
  s.ok 0x54 tag (textBytes partName ++ [Config.messageSet] ++ u32 s.lc.clock ++ yesNo s.lc.clockSet ++ u8 s.lc.lastStart.code
    ++ yesNo s.lc.storeFailed ++ u32 (min Config.max32 (seconds (s.now - s.lc.startEnded))) ++ u16 s.lc.dropped
    ++ u8 s.lc.outstanding)

def execIdentify (tag : Nat) (s : State) : Host.Outcome State Fault Refusal :=
  s.request 0x54 tag (State.ownIdentify tag)

/-- Nothing is at work that a RESTART would disturb (R207). -/
def State.quiet (s : State) : Bool :=
  s.td.move.isNone && s.nd.state == .idle && s.cu.state == .idle && s.cu.hand.isNone && s.ss.transfer.isNone
    && s.ss.shuttle == .home && s.jn.run.isNone && s.li.rescan.isNone
    && s.nd.cassettes.toList.all (·.pending.isNone) && s.nd.emptying.isNone && s.cu.exchange.isNone

/-- RESTART at its owner (R207): answered at once; start-up counts as begun from here. -/
def State.ownRestart (tag : Nat) (s : State) : State :=
  if s.quiet then
    { s with phase := .restarting false,
             lc := { s.lc with replies := s.lc.replies ++
               [{ kind := replyKind 0x55, tag := tag, body := [0x00#8], refusal := false, restart := true }] } }
  else s.refuse 0x55 tag .busy []

def execRestart (tag : Nat) (s : State) : Host.Outcome State Fault Refusal := s.request 0x55 tag (State.ownRestart tag)

/-! ## From the line to the owner (R190, R191) -/

/-- A request at its owner. An event is no request and changes nothing here. -/
def State.serve (s : State) (i : Instr) : State :=
  match i with
  | .laneSettings tag lane features waypoints timeout autoRecall =>
    State.ownLaneSettings tag lane features waypoints timeout autoRecall s
  | .openLane tag lane => State.ownOpen tag lane s
  | .closeLane tag lane => State.ownClose tag lane s
  | .laneText tag lane text => State.ownLaneText tag lane text s
  | .laneStatus tag lane => State.ownLaneStatus tag lane s
  | .rescan tag lane => State.ownRescan tag lane s
  | .rescanAllLanes tag => State.ownRescanAll tag s
  | .send tag lane => State.ownSend tag lane s
  | .recall tag lane => State.ownRecall tag lane s
  | .purge tag lane towards => State.ownPurge tag lane towards s
  | .airSettings tag mode idle refresh autoSwitch duty => State.ownAirSettings tag mode idle refresh autoSwitch duty s
  | .airEconomy tag => State.ownAirEconomy tag s
  | .airWake tag => State.ownAirWake tag s
  | .airReset tag blower => State.ownAirReset tag blower s
  | .airStatus tag => State.ownAirStatus tag s
  | .replenish tag cassette denomination count nominal low =>
    State.ownReplenish tag cassette denomination count nominal low s
  | .confirm tag cassette => State.ownConfirm tag cassette s
  | .cassetteStatus tag => State.ownCassetteStatus tag s
  | .clearPath tag => State.ownClearPath tag s
  | .boxEmptied tag => State.ownBoxEmptied tag s
  | .dispenseSettings tag capacity noteCeiling duressCeiling rejectCeiling doubleThreshold =>
    State.ownDispenseSettings tag capacity noteCeiling duressCeiling rejectCeiling doubleThreshold s
  | .dispense tag lane amount autoSend reference => State.ownDispense tag lane amount autoSend reference s
  | .cancelDispense tag lane => State.ownCancelDispense tag lane s
  | .loadStatus tag lane => State.ownLoadStatus tag lane s
  | .loadClose tag load outcome => State.ownLoadClose tag load outcome s
  | .stackerSettings tag hold => State.ownStackerSettings tag hold s
  | .capture tag bay => State.ownCapture tag bay s
  | .captureClear tag disposition => State.ownCaptureClear tag disposition s
  | .captureStatus tag => State.ownCaptureStatus tag s
  | .captureSettings tag stamp capacity => State.ownCaptureSettings tag stamp capacity s
  | .binExchanged tag => State.ownBinExchanged tag s
  | .binConfirm tag => State.ownBinConfirm tag s
  | .journalStatus tag => State.ownJournalStatus tag s
  | .journalRead tag start count => State.ownJournalRead tag start count s
  | .journalReconcile tag through => State.ownJournalReconcile tag through s
  | .journalErase tag segment => State.ownJournalErase tag segment s
  | .journalRecover tag => State.ownJournalRecover tag s
  | .zoneSettings tag zone delay => State.ownZoneSettings tag zone delay s
  | .authorize tag zone minutes => State.ownAuthorize tag zone minutes s
  | .ackZone tag zone => State.ownAckZone tag zone s
  | .sounderSilence tag => State.ownSounderSilence tag s
  | .sounderSettings tag period => State.ownSounderSettings tag period s
  | .alarmStatus tag => State.ownAlarmStatus tag s
  | .conditionsEnable tag enabled autoClear => State.ownConditionsEnable tag enabled autoClear s
  | .conditionsRead tag => State.ownConditionsRead tag s
  | .conditionsClear tag cleared => State.ownConditionsClear tag cleared s
  | .setTime tag seconds => State.ownSetTime tag seconds s
  | .identify tag => State.ownIdentify tag s
  | .restart tag => State.ownRestart tag s
  | .powerOn .. | .restartStartUp | .deviceClockTick | .frameTaken .. | .frameDropped .. | .interByteTimeout
  | .frameSent | .enrolmentStart | .identAnswer .. | .identTimeout .. | .pollDue .. | .pollAnswer ..
  | .pollAnswerTimeout | .basicSendEdge .. | .basicCallEdge .. | .basicCarrierPresentChange ..
  | .vehicleClearExpiry .. | .arbiterGrant | .divertSettleDone | .launchTimeout | .bayCarrierPresentChange ..
  | .bayContentChange .. | .bayDoorChange .. | .waypointPass .. | .transitTimeout | .settleEnd | .purgeTimeout
  | .queueWaitExpiry .. | .pressureSwitchClose .. | .pressureSwitchOpen .. | .spinUpLimit | .idleThresholdReached
  | .refreshDue | .refreshRunEnd | .cassetteSensorChange .. | .loadHandOver | .pickingStart | .pickMiss
  | .noteAtGauge .. | .noteLeavesGauge | .gaugeTimeout | .safeDoorChange .. | .clearingEnd ..
  | .deferredCancelDispense | .transferStart | .presentingReservationRequest | .pushTimeout | .withdrawalEnd
  | .shuttleHome | .stageHoldExpiry | .armRelease | .liftTimeout | .armReturnEnd | .printReport .. | .printTimeout
  | .printerStateChange .. | .dropSensed | .dropTimeout | .binDoorChange .. | .binPresentChange ..
  | .journalProgramDone .. | .eraseWindowExpiry | .eraseVerify | .eraseLimit | .journalReadDone
  | .holdupInputChange .. | .keySwitchEdge .. | .entryDelayExpiry .. | .windowExpiry .. | .sounderPhaseEnd
  | .sounderCutoff | .powerLoss .. => s

/-- A frame whose check matches is taken (R191). -/
def State.frameArrives (s : State) (kind tag : Nat) (body : List Byte) : State :=
  s.takeFrame kind tag fun s =>
    match requestOf kind tag body with
    | some i => s.serve i
    | none => s.refuse kind tag .malformed []

/-- The receiver returns to HUNT with the frame dropped and counted (R190). -/
def State.dropFrame (s : State) : State :=
  s.modLC fun lc => { lc with rx := { state := .hunt, buffer := [] } }.countDrop

/-- The receiver with its buffer in a state. -/
def State.receive (s : State) (st : RxState) (buffer : List Byte) : State :=
  s.modLC fun lc => { lc with rx := { state := st, buffer := buffer } }

/-- The length a frame's first two bytes give (R190). -/
def frameLength (buffer : List Byte) : Nat := number (buffer.take 2)

/-- A whole frame is taken where its check matches, else dropped (R190, R191). -/
def State.checkFrame (s : State) (buffer : List Byte) : State :=
  let inner := buffer.take (2 + frameLength buffer)
  if buffer.drop (2 + frameLength buffer) = crcBytes inner then
    (s.receive .hunt []).frameArrives (nat (inner.getD 2 0x00#8)) (nat (inner.getD 3 0x00#8)) (inner.drop 4)
  else s.dropFrame

/-- One byte from the line, by the receiver's state (R190). -/
def State.takeByte (s : State) (v : Byte) : State :=
  let buffer := s.lc.rx.buffer ++ [v]
  match s.lc.rx.state with
  | .hunt => if v = Config.startByte then s.receive .length [] else s
  | .length =>
    if buffer.length < 2 then s.receive .length buffer
    else if frameLength buffer < 2 ∨ 2 + Config.bodyMax < frameLength buffer then s.dropFrame
    else s.receive .body buffer
  | .body => s.receive (if buffer.length < 2 + frameLength buffer then .body else .check) buffer
  | .check => if buffer.length < 4 + frameLength buffer then s.receive .check buffer else s.checkFrame buffer

/-- Bytes from the line, in order. -/
def State.takeBytes (s : State) (bytes : List Byte) : State := bytes.foldl State.takeByte s

/-- A frame being read is dropped; outside a frame there is none (R190). -/
def State.breakFrame (s : State) : State := if s.lc.rx.state = .hunt then s else s.dropFrame

/-- Bytes arrive, the last of them completing a frame (R190, R191). -/
def State.onFrameTaken (bytes : List Byte) (s : State) : State :=
  s.takeBytes bytes

def execFrameTaken (bytes : List Byte) (s : State) : Host.Outcome State Fault Refusal :=
  s.poweredStep (State.onFrameTaken bytes)

/-- Bytes arrive whose frame the receiver drops by itself, or by a framing error of the byte after them (R190). -/
def State.onFrameDropped (bytes : List Byte) (framingError : Bool) (s : State) : State :=
  if framingError then (s.takeBytes bytes).breakFrame else s.takeBytes bytes

def execFrameDropped (bytes : List Byte) (framingError : Bool) (s : State) : Host.Outcome State Fault Refusal :=
  s.poweredStep (State.onFrameDropped bytes framingError)

/-- More than 20 ms pass between two bytes of a frame (R190). -/
def execInterByteTimeout (s : State) : Host.Outcome State Fault Refusal := s.poweredStep State.breakFrame

/-! ## The transmitter (R194) -/

/-- The reply on the line has been sent: it leaves the reply list, its request is outstanding no more, and RESTART's lets
start-up begin (R192, R194, R207). -/
def State.replySent (s : State) : State :=
  match s.lc.replies with
  | [] => s
  | r :: rest =>
    { s with lc := { s.lc with replies := rest, outstanding := if r.refusal then s.lc.outstanding else s.lc.outstanding - 1 },
             phase := if r.restart then .restarting true else s.phase }

/-- The last byte of the frame on the line is sent (R194). -/
def State.sent (s : State) (f : Sending) : State :=
  let s := s.modLC fun lc => { lc with sending := none }
  match f.what with
  | .reply => s.replySent
  | .notice e => s.modLC fun lc => { lc with notices := lc.notices.erase e }
  | .orphan => s

def State.onFrameSent (s : State) : State :=
  match s.lc.sending with
  | some f => s.sent f
  | none => s

def execFrameSent (s : State) : Host.Outcome State Fault Refusal := s.poweredStep State.onFrameSent

end Sys2Proof.Machine
end

