-- ==== Sys2Proof/Machine/Dispatch.lean ====
section
/-! DEFINITION. The dispatch of a command to its meaning: one arm for each row of spec/opcode_table.json. -/

namespace Sys2Proof.Machine

/-- The effect of a command on everything but the queue. -/
def exec (i : Instr) (s : State) : Host.Outcome State Fault Refusal :=
  match i with
  | .powerOn firstReads secondReads => Sys2Proof.Machine.execPowerOn firstReads secondReads s
  | .restartStartUp => Sys2Proof.Machine.execRestartStartUp s
  | .deviceClockTick => Sys2Proof.Machine.execDeviceClockTick s
  | .frameTaken bytes => Sys2Proof.Machine.execFrameTaken bytes s
  | .frameDropped bytes framingError => Sys2Proof.Machine.execFrameDropped bytes framingError s
  | .interByteTimeout => Sys2Proof.Machine.execInterByteTimeout s
  | .frameSent => Sys2Proof.Machine.execFrameSent s
  | .laneSettings tag lane features waypoints timeout autoRecall => Sys2Proof.Machine.execLaneSettings tag lane features waypoints timeout autoRecall s
  | .openLane tag lane => Sys2Proof.Machine.execOpenLane tag lane s
  | .closeLane tag lane => Sys2Proof.Machine.execCloseLane tag lane s
  | .laneText tag lane text => Sys2Proof.Machine.execLaneText tag lane text s
  | .laneStatus tag lane => Sys2Proof.Machine.execLaneStatus tag lane s
  | .rescan tag lane => Sys2Proof.Machine.execRescan tag lane s
  | .rescanAllLanes tag => Sys2Proof.Machine.execRescanAllLanes tag s
  | .enrolmentStart => Sys2Proof.Machine.execEnrolmentStart s
  | .identAnswer report => Sys2Proof.Machine.execIdentAnswer report s
  | .identTimeout loopClosed => Sys2Proof.Machine.execIdentTimeout loopClosed s
  | .pollDue lane => Sys2Proof.Machine.execPollDue lane s
  | .pollAnswer report => Sys2Proof.Machine.execPollAnswer report s
  | .pollAnswerTimeout => Sys2Proof.Machine.execPollAnswerTimeout s
  | .basicSendEdge lane => Sys2Proof.Machine.execBasicSendEdge lane s
  | .basicCallEdge lane => Sys2Proof.Machine.execBasicCallEdge lane s
  | .basicCarrierPresentChange lane present => Sys2Proof.Machine.execBasicCarrierPresentChange lane present s
  | .vehicleClearExpiry lane => Sys2Proof.Machine.execVehicleClearExpiry lane s
  | .send tag lane => Sys2Proof.Machine.execSend tag lane s
  | .recall tag lane => Sys2Proof.Machine.execRecall tag lane s
  | .purge tag lane towards => Sys2Proof.Machine.execPurge tag lane towards s
  | .arbiterGrant => Sys2Proof.Machine.execArbiterGrant s
  | .divertSettleDone => Sys2Proof.Machine.execDivertSettleDone s
  | .launchTimeout => Sys2Proof.Machine.execLaunchTimeout s
  | .bayCarrierPresentChange lane present => Sys2Proof.Machine.execBayCarrierPresentChange lane present s
  | .bayContentChange lane content => Sys2Proof.Machine.execBayContentChange lane content s
  | .bayDoorChange lane closed => Sys2Proof.Machine.execBayDoorChange lane closed s
  | .waypointPass lane waypoint => Sys2Proof.Machine.execWaypointPass lane waypoint s
  | .transitTimeout => Sys2Proof.Machine.execTransitTimeout s
  | .settleEnd => Sys2Proof.Machine.execSettleEnd s
  | .purgeTimeout => Sys2Proof.Machine.execPurgeTimeout s
  | .queueWaitExpiry lane => Sys2Proof.Machine.execQueueWaitExpiry lane s
  | .pressureSwitchClose blower => Sys2Proof.Machine.execPressureSwitchClose blower s
  | .pressureSwitchOpen blower => Sys2Proof.Machine.execPressureSwitchOpen blower s
  | .spinUpLimit => Sys2Proof.Machine.execSpinUpLimit s
  | .idleThresholdReached => Sys2Proof.Machine.execIdleThresholdReached s
  | .refreshDue => Sys2Proof.Machine.execRefreshDue s
  | .refreshRunEnd => Sys2Proof.Machine.execRefreshRunEnd s
  | .airSettings tag mode idle refresh autoSwitch duty => Sys2Proof.Machine.execAirSettings tag mode idle refresh autoSwitch duty s
  | .airEconomy tag => Sys2Proof.Machine.execAirEconomy tag s
  | .airWake tag => Sys2Proof.Machine.execAirWake tag s
  | .airReset tag blower => Sys2Proof.Machine.execAirReset tag blower s
  | .airStatus tag => Sys2Proof.Machine.execAirStatus tag s
  | .cassetteSensorChange cassette present => Sys2Proof.Machine.execCassetteSensorChange cassette present s
  | .loadHandOver => Sys2Proof.Machine.execLoadHandOver s
  | .pickingStart => Sys2Proof.Machine.execPickingStart s
  | .pickMiss => Sys2Proof.Machine.execPickMiss s
  | .noteAtGauge reading => Sys2Proof.Machine.execNoteAtGauge reading s
  | .noteLeavesGauge => Sys2Proof.Machine.execNoteLeavesGauge s
  | .gaugeTimeout => Sys2Proof.Machine.execGaugeTimeout s
  | .safeDoorChange opened => Sys2Proof.Machine.execSafeDoorChange opened s
  | .clearingEnd pathClear => Sys2Proof.Machine.execClearingEnd pathClear s
  | .replenish tag cassette denomination count nominal low => Sys2Proof.Machine.execReplenish tag cassette denomination count nominal low s
  | .confirm tag cassette => Sys2Proof.Machine.execConfirm tag cassette s
  | .cassetteStatus tag => Sys2Proof.Machine.execCassetteStatus tag s
  | .clearPath tag => Sys2Proof.Machine.execClearPath tag s
  | .boxEmptied tag => Sys2Proof.Machine.execBoxEmptied tag s
  | .dispenseSettings tag capacity noteCeiling duressCeiling rejectCeiling doubleThreshold => Sys2Proof.Machine.execDispenseSettings tag capacity noteCeiling duressCeiling rejectCeiling doubleThreshold s
  | .dispense tag lane amount autoSend reference => Sys2Proof.Machine.execDispense tag lane amount autoSend reference s
  | .cancelDispense tag lane => Sys2Proof.Machine.execCancelDispense tag lane s
  | .deferredCancelDispense => Sys2Proof.Machine.execDeferredCancelDispense s
  | .transferStart => Sys2Proof.Machine.execTransferStart s
  | .presentingReservationRequest => Sys2Proof.Machine.execPresentingReservationRequest s
  | .pushTimeout => Sys2Proof.Machine.execPushTimeout s
  | .withdrawalEnd => Sys2Proof.Machine.execWithdrawalEnd s
  | .shuttleHome => Sys2Proof.Machine.execShuttleHome s
  | .stageHoldExpiry => Sys2Proof.Machine.execStageHoldExpiry s
  | .loadStatus tag lane => Sys2Proof.Machine.execLoadStatus tag lane s
  | .loadClose tag load outcome => Sys2Proof.Machine.execLoadClose tag load outcome s
  | .stackerSettings tag hold => Sys2Proof.Machine.execStackerSettings tag hold s
  | .capture tag bay => Sys2Proof.Machine.execCapture tag bay s
  | .armRelease => Sys2Proof.Machine.execArmRelease s
  | .liftTimeout => Sys2Proof.Machine.execLiftTimeout s
  | .armReturnEnd => Sys2Proof.Machine.execArmReturnEnd s
  | .printReport completed => Sys2Proof.Machine.execPrintReport completed s
  | .printTimeout => Sys2Proof.Machine.execPrintTimeout s
  | .printerStateChange ready => Sys2Proof.Machine.execPrinterStateChange ready s
  | .dropSensed => Sys2Proof.Machine.execDropSensed s
  | .dropTimeout => Sys2Proof.Machine.execDropTimeout s
  | .binDoorChange closed => Sys2Proof.Machine.execBinDoorChange closed s
  | .binPresentChange present => Sys2Proof.Machine.execBinPresentChange present s
  | .captureClear tag disposition => Sys2Proof.Machine.execCaptureClear tag disposition s
  | .captureStatus tag => Sys2Proof.Machine.execCaptureStatus tag s
  | .captureSettings tag stamp capacity => Sys2Proof.Machine.execCaptureSettings tag stamp capacity s
  | .binExchanged tag => Sys2Proof.Machine.execBinExchanged tag s
  | .binConfirm tag => Sys2Proof.Machine.execBinConfirm tag s
  | .journalProgramDone missed => Sys2Proof.Machine.execJournalProgramDone missed s
  | .eraseWindowExpiry => Sys2Proof.Machine.execEraseWindowExpiry s
  | .eraseVerify => Sys2Proof.Machine.execEraseVerify s
  | .eraseLimit => Sys2Proof.Machine.execEraseLimit s
  | .journalStatus tag => Sys2Proof.Machine.execJournalStatus tag s
  | .journalRead tag start count => Sys2Proof.Machine.execJournalRead tag start count s
  | .journalReconcile tag through => Sys2Proof.Machine.execJournalReconcile tag through s
  | .journalErase tag segment => Sys2Proof.Machine.execJournalErase tag segment s
  | .journalRecover tag => Sys2Proof.Machine.execJournalRecover tag s
  | .journalReadDone => Sys2Proof.Machine.execJournalReadDone s
  | .holdupInputChange input active => Sys2Proof.Machine.execHoldupInputChange input active s
  | .keySwitchEdge rising => Sys2Proof.Machine.execKeySwitchEdge rising s
  | .entryDelayExpiry door => Sys2Proof.Machine.execEntryDelayExpiry door s
  | .windowExpiry door => Sys2Proof.Machine.execWindowExpiry door s
  | .sounderPhaseEnd => Sys2Proof.Machine.execSounderPhaseEnd s
  | .sounderCutoff => Sys2Proof.Machine.execSounderCutoff s
  | .zoneSettings tag zone delay => Sys2Proof.Machine.execZoneSettings tag zone delay s
  | .authorize tag zone minutes => Sys2Proof.Machine.execAuthorize tag zone minutes s
  | .ackZone tag zone => Sys2Proof.Machine.execAckZone tag zone s
  | .sounderSilence tag => Sys2Proof.Machine.execSounderSilence tag s
  | .sounderSettings tag period => Sys2Proof.Machine.execSounderSettings tag period s
  | .alarmStatus tag => Sys2Proof.Machine.execAlarmStatus tag s
  | .conditionsEnable tag enabled autoClear => Sys2Proof.Machine.execConditionsEnable tag enabled autoClear s
  | .conditionsRead tag => Sys2Proof.Machine.execConditionsRead tag s
  | .conditionsClear tag cleared => Sys2Proof.Machine.execConditionsClear tag cleared s
  | .setTime tag seconds => Sys2Proof.Machine.execSetTime tag seconds s
  | .identify tag => Sys2Proof.Machine.execIdentify tag s
  | .restart tag => Sys2Proof.Machine.execRestart tag s
  | .powerLoss cut programmed partialBits => Sys2Proof.Machine.execPowerLoss cut programmed partialBits s

end Sys2Proof.Machine
end

