-- ==== Sys2Proof/Machine/Step.lean ====
section
/-! DEFINITION. One step: the command at the front of the queue, or, on an empty queue, one millisecond that passes
(notes/assumptions/1.md and 3.md). -/

namespace Sys2Proof.Machine

/-- The block idles: 1 ms passes and nothing else happens. -/
def State.idle (s : State) : State := { s with now := s.now + 1 }

/-- The command at the front of the queue is taken off and carried out. -/
def step (s : State) : Host.Outcome State Fault Refusal :=
  match s.pending with
  | [] => .next s.idle
  | c :: rest => exec c { s with pending := rest }

/-- The state with the command that a word spells at the front of its queue; unchanged where the word spells none. -/
def State.withFetchWord (s : State) (nbits w : Nat) : State :=
  match decodeTableWord nbits w with
  | some c => { s with pending := c :: s.pending }
  | none => s

end Sys2Proof.Machine
end

