-- ==== Sys2Proof/WellFormed.lean ====
section
/-! DEFINITION. Which commands can come to the block: a request's fields fit the bytes their places in the body have
(sections 11.1 and 11.2), its lists fit the body, and an event names what the part has. A value outside its stated set is
well formed where it can be sent: the owner answers it MALFORMED (R191, R208). -/

namespace Sys2Proof

/-- The number fits so many bytes. -/
def fits (bytes n : Nat) : Bool := decide (n < 256 ^ bytes)

/-- Every member of a set fits a byte. -/
def allFit (ns : List Nat) : Bool := ns.all (fits 1)

/-- The command can come to the block. -/
def Instr.wf (i : Instr) : Bool :=
  match i with
  -- power, clock and line
  | .powerOn _ _ => true
  | .restartStartUp => true
  | .deviceClockTick => true
  | .frameTaken bytes => !bytes.isEmpty
  | .frameDropped bytes _ => !bytes.isEmpty
  | .interByteTimeout => true
  | .frameSent => true
  | .powerLoss _ _ _ => true
  -- lanes
  | .laneSettings tag lane features waypoints timeout auto =>
    fits 1 tag && fits 1 lane && fits 1 features && fits 1 waypoints && fits 2 timeout && fits 1 auto
  | .openLane tag lane => fits 1 tag && fits 1 lane
  | .closeLane tag lane => fits 1 tag && fits 1 lane
  | .laneText tag lane text => fits 1 tag && fits 1 lane && decide (text.length + 2 ≤ Config.bodyMax)
  | .laneStatus tag lane => fits 1 tag && fits 1 lane
  | .rescan tag lane => fits 1 tag && fits 1 lane
  | .rescanAllLanes tag => fits 1 tag
  | .enrolmentStart => true
  | .identAnswer _ => true
  | .identTimeout _ => true
  | .pollDue _ => true
  | .pollAnswer _ => true
  | .pollAnswerTimeout => true
  | .basicSendEdge _ => true
  | .basicCallEdge _ => true
  | .basicCarrierPresentChange _ _ => true
  | .vehicleClearExpiry _ => true
  -- carriers and the tube drive: a tube has three waypoint sensors (R15, R32)
  | .send tag lane => fits 1 tag && fits 1 lane
  | .recall tag lane => fits 1 tag && fits 1 lane
  | .purge tag lane towards => fits 1 tag && fits 1 lane && fits 1 towards
  | .arbiterGrant => true
  | .divertSettleDone => true
  | .launchTimeout => true
  | .bayCarrierPresentChange _ _ => true
  | .bayContentChange _ _ => true
  | .bayDoorChange _ _ => true
  | .waypointPass _ waypoint => decide (1 ≤ waypoint ∧ waypoint ≤ 3)
  | .transitTimeout => true
  | .settleEnd => true
  | .purgeTimeout => true
  | .queueWaitExpiry _ => true
  -- air supply
  | .pressureSwitchClose _ => true
  | .pressureSwitchOpen _ => true
  | .spinUpLimit => true
  | .idleThresholdReached => true
  | .refreshDue => true
  | .refreshRunEnd => true
  | .airSettings tag mode idle refresh auto duty =>
    fits 1 tag && fits 1 mode && fits 2 idle && fits 2 refresh && fits 1 auto && fits 1 duty
  | .airEconomy tag => fits 1 tag
  | .airWake tag => fits 1 tag
  | .airReset tag blower => fits 1 tag && fits 1 blower
  | .airStatus tag => fits 1 tag
  -- cassettes and the note path: the gauge reads 0 to 1,023 micrometres (R72)
  | .cassetteSensorChange _ _ => true
  | .loadHandOver => true
  | .pickingStart => true
  | .pickMiss => true
  | .noteAtGauge reading => decide (reading ≤ 1023)
  | .noteLeavesGauge => true
  | .gaugeTimeout => true
  | .safeDoorChange _ => true
  | .clearingEnd _ => true
  | .replenish tag cassette denomination count nominal low =>
    fits 1 tag && fits 1 cassette && fits 3 denomination && fits 2 count && fits 2 nominal && fits 2 low
  | .confirm tag cassette => fits 1 tag && fits 1 cassette
  | .cassetteStatus tag => fits 1 tag
  | .clearPath tag => fits 1 tag
  | .boxEmptied tag => fits 1 tag
  -- dispense planning
  | .dispenseSettings tag capacity noteCeiling duressCeiling rejectCeiling threshold =>
    fits 1 tag && fits 1 capacity && fits 1 noteCeiling && fits 3 duressCeiling && fits 1 rejectCeiling && fits 1 threshold
  | .dispense tag lane amount autoSend reference =>
    fits 1 tag && fits 1 lane && fits 4 amount && fits 1 autoSend && fits 2 reference
  | .cancelDispense tag lane => fits 1 tag && fits 1 lane
  | .deferredCancelDispense => true
  -- stacker, shuttle and loads
  | .transferStart => true
  | .presentingReservationRequest => true
  | .pushTimeout => true
  | .withdrawalEnd => true
  | .shuttleHome => true
  | .stageHoldExpiry => true
  | .loadStatus tag lane => fits 1 tag && fits 1 lane
  | .loadClose tag load outcome => fits 1 tag && fits 1 load && fits 1 outcome
  | .stackerSettings tag hold => fits 1 tag && fits 2 hold
  -- envelope capture
  | .capture tag bay => fits 1 tag && fits 1 bay
  | .armRelease => true
  | .liftTimeout => true
  | .armReturnEnd => true
  | .printReport _ => true
  | .printTimeout => true
  | .printerStateChange _ => true
  | .dropSensed => true
  | .dropTimeout => true
  | .binDoorChange _ => true
  | .binPresentChange _ => true
  | .captureClear tag disposition => fits 1 tag && fits 1 disposition
  | .captureStatus tag => fits 1 tag
  | .captureSettings tag stamp capacity => fits 1 tag && fits 1 stamp && fits 2 capacity
  | .binExchanged tag => fits 1 tag
  | .binConfirm tag => fits 1 tag
  -- the journal
  | .journalProgramDone _ => true
  | .eraseWindowExpiry => true
  | .eraseVerify => true
  | .eraseLimit => true
  | .journalStatus tag => fits 1 tag
  | .journalRead tag start count => fits 1 tag && fits 4 start && fits 1 count
  | .journalReconcile tag through => fits 1 tag && fits 4 through
  | .journalErase tag segment => fits 1 tag && fits 1 segment
  | .journalRecover tag => fits 1 tag
  | .journalReadDone => true
  -- alarm zones and outputs
  | .holdupInputChange _ _ => true
  | .keySwitchEdge _ => true
  | .entryDelayExpiry _ => true
  | .windowExpiry _ => true
  | .sounderPhaseEnd => true
  | .sounderCutoff => true
  | .zoneSettings tag zone delay => fits 1 tag && fits 1 zone && fits 1 delay
  | .authorize tag zone minutes => fits 1 tag && fits 1 zone && fits 1 minutes
  | .ackZone tag zone => fits 1 tag && fits 1 zone
  | .sounderSilence tag => fits 1 tag
  | .sounderSettings tag period => fits 1 tag && fits 1 period
  | .alarmStatus tag => fits 1 tag
  -- conditions, clock, identity and RESTART
  | .conditionsEnable tag enabled autoClear =>
    fits 1 tag && allFit enabled && allFit autoClear && decide (enabled.length + autoClear.length + 2 ≤ Config.bodyMax)
  | .conditionsRead tag => fits 1 tag
  | .conditionsClear tag cleared => fits 1 tag && allFit cleared && decide (cleared.length + 1 ≤ Config.bodyMax)
  | .setTime tag seconds => fits 1 tag && fits 4 seconds
  | .identify tag => fits 1 tag
  | .restart tag => fits 1 tag

end Sys2Proof
end

