-- ==== Sys2Proof/Safety.lean ====
section
/-! DEFINITION. The terms in which claims about the DT-4 are stated: a part that serves requests, a request counted and
answered, the store that is current, what a start-up keeps, an append in progress, and the invariants of a run (the journal memory in its canonical form, the outstanding
count within its limit, the bin count within its capacity, no authorization window under duress), and the blocks each
command may touch. -/

namespace Sys2Proof.Machine

/-! ## Requests and replies -/

/-- The LC hands a request with this tag to its owner: start-up has ended, fewer than four requests are outstanding, and
the tag is not 0 (R191, R192). -/
abbrev State.Serves (s : State) (tag : Nat) : Prop :=
  s.phase = .running ∧ s.lc.outstanding < Config.outstandingMax ∧ tag ≠ 0

/-- One request more is outstanding (R192). -/
def State.counted (s : State) : State := { s with lc := { s.lc with outstanding := s.lc.outstanding + 1 } }

/-- A decided reply: the request's kind plus 80h, its tag, and a body (R193, section 11.3). -/
def answer (kind tag : Nat) (body : List Byte) : Reply :=
  { kind := kind + 0x80, tag := tag, body := body, refusal := false, restart := false }

/-- A reply has joined the tail of the reply list (R193). -/
def State.replied (s : State) (kind tag : Nat) (body : List Byte) : State :=
  { s with lc := { s.lc with replies := s.lc.replies ++ [answer kind tag body] } }

/-- A request was refused and changed nothing: it is counted, and its reply is the refusal code (R192, R208). -/
def State.refused (s : State) (kind tag : Nat) (code : Code) : State := s.counted.replied kind tag (u8 code.num)

/-! ## The retained store -/

/-- Both copies hold every retained item as it stands, and match their CRC-16 (R204). -/
abbrev State.storeCurrent (s : State) : Prop :=
  s.store.first.content = s.retained ∧ s.store.first.sound = true ∧ s.store.second.content = s.retained ∧
    s.store.second.sound = true

/-! ## Events that only follow a level while the part is unpowered -/

/-- The command is the change of a sensor's or an input's level, which stands whether the part is powered or not. -/
def isLevelChange : Instr → Bool
  | .basicCarrierPresentChange _ _ | .bayCarrierPresentChange _ _ | .bayContentChange _ _ | .bayDoorChange _ _ => true
  | .pressureSwitchClose _ | .pressureSwitchOpen _ | .cassetteSensorChange _ _ | .safeDoorChange _ => true
  | .printerStateChange _ | .binDoorChange _ | .binPresentChange _ | .holdupInputChange _ _ | .keySwitchEdge _ => true
  | _ => false

/-! ## Invariants -/

/-- The journal memory is in its canonical form. -/
abbrev State.memoryFormed (s : State) : Prop := s.jn.mem.wf = true

/-- At most four requests are outstanding (R192). -/
abbrev State.withinLimit (s : State) : Prop := s.lc.outstanding ≤ Config.outstandingMax

/-- No bit of the journal memory reads 1 after a step that read 0 before it (R141). -/
def State.onlyProgrammed (s t : State) : Prop :=
  ∀ address bit, ((s.jn.mem.read address).getLsbD bit) = false → ((t.jn.mem.read address).getLsbD bit) = false

/-- No authorization window is open under duress, nor before start-up has ended (R171, R174, R183). -/
def State.windowsFormed (s : State) : Prop :=
  (s.au.duress = true ∨ (∃ step, s.phase = .startUp step)) →
    s.au.zones.safeDoor.windowUntil = none ∧ s.au.zones.binDoor.windowUntil = none

/-- A bin record whose count, with one envelope more, is within its capacity. -/
abbrev Bin.hasRoom (b : Bin) (more : Nat) : Prop := b.count + more ≤ b.capacity

/-- The bin count is at or below its capacity, with room for an envelope that is in hand and not yet counted; so is the
count of each copy of the store (R125, R138). -/
abbrev State.binFormed (s : State) : Prop :=
  s.cu.bin.hasRoom (if s.cu.hand.any (·.uncounted) then 1 else 0) ∧ s.store.first.content.bin.hasRoom 0 ∧
    s.store.second.content.bin.hasRoom 0 ∧ s.store.before.bin.hasRoom 0

/-- The drive's bookkeeping (R22, R25, R27): at most one entry per lane and so at most four; a reservation is QUEUED exactly
while the lane has an entry, and MOVING exactly while its move or purge holds the drive; a queued entry's carrier stands at
the entry's origin; and before the locations are derived they are UNKNOWN and the drive is idle (R24). -/
def State.tubeFormed (s : State) : Prop :=
  (s.td.queue.map (·.lane)).Nodup ∧ s.td.queue.length ≤ 4 ∧
    (∀ l, (s.carrier l).reservation = .queued ↔ ∃ e ∈ s.td.queue, e.lane = l) ∧
    (∀ l, (s.carrier l).reservation = .moving ↔ ∃ m, s.td.move = some m ∧ m.lane = l) ∧
    (∀ e ∈ s.td.queue, (s.carrier e.lane).location = e.dir.origin) ∧
    (s.phase ∈ [.startUp .scan, .startUp .powerRecord, .startUp .enrolment] →
      s.td.move = none ∧ ∀ l, (s.carrier l).location = .unknown)

/-- The dispense queue and the load table are within their capacities, and no two live loads share an id, 1 to 255 (R85,
R86). -/
def State.loadsFormed (s : State) : Prop :=
  s.dp.queue.length ≤ 3 ∧ s.dp.loads.length ≤ 8 ∧ (s.dp.loads.map (·.id)).Nodup ∧
    (∀ ld ∈ s.dp.loads, 1 ≤ ld.id ∧ ld.id ≤ 255) ∧ 1 ≤ s.dp.nextId ∧ s.dp.nextId ≤ 255

/-- The reject box holds at most 300 notes, in the dispenser and in every content of the store (R68). -/
def State.boxFormed (s : State) : Prop :=
  s.nd.box ≤ 300 ∧ s.store.first.content.box ≤ 300 ∧ s.store.second.content.box ≤ 300 ∧ s.store.before.box ≤ 300

/-- The cassettes' ledgers account for every note (R66): each loaded count is the sum of the four other counts, an in-path
count is 0 or 1, and at most one cassette has in-path 1. -/
def ledgersBalance (ledger : Cass → Ledger) : Prop :=
  (∀ c, ((ledger c).loaded : Int) =
      (ledger c).estimate + (ledger c).inPath + (ledger c).accepted + (ledger c).rejected ∧ (ledger c).inPath ≤ 1) ∧
    ∀ c d, (ledger c).inPath = 1 → (ledger d).inPath = 1 → c = d

/-- The ledgers balance, in the dispenser and in every content of the store (R66). -/
def State.ledgersFormed (s : State) : Prop :=
  ledgersBalance (fun c => (s.cass c).kept) ∧ ledgersBalance s.store.first.content.ledgers.get ∧
    ledgersBalance s.store.second.content.ledgers.get ∧ ledgersBalance s.store.before.ledgers.get

/-- The note path (R69 to R71, R76 to R78): a pick is in flight only while PICKING, from a cassette whose in-path is 1 and
which no REPLENISH awaits; a note is at the gauge only while IDLE, WAITING or PICKING, and one that is no stray is that
pick's, its arrival timer stopped; a load is PICKING only as the current load of a dispenser that is; a clearing runs only
while CLEARING; and once the carriers' locations are derived, a dispenser whose safe door is open is HALTED, and one that is
IDLE, WAITING or PICKING has no other note in its path. -/
def State.pathFormed (s : State) : Prop :=
  s.phase ≠ .off →
    (∀ c, s.nd.pick = some c → s.nd.state = .picking ∧ (s.cass c).kept.inPath = 1 ∧ (s.cass c).pending = none) ∧
    (∀ g, s.nd.gauge = some g → s.nd.state ∈ [.idle, .waiting, .picking] ∧
      (g.stray = false → g.cassette = s.nd.pick ∧ s.nd.pick ≠ none ∧ s.nd.arrivalDue = none)) ∧
    (∀ ld ∈ s.dp.loads, ld.state = .picking → s.nd.state = .picking ∧ s.nd.current = some ld.id) ∧
    (s.nd.clearingDue ≠ none → s.nd.state = .clearing) ∧
    (s.derived = true → s.nd.safeDoorOpen = true → s.nd.state = .halted) ∧
    (s.derived = true → s.nd.state ∈ [.idle, .waiting, .picking] → ∀ c, (s.cass c).kept.inPath = 1 → s.nd.pick = some c)

/-- No load that is still to be picked needs a note of a cassette whose REPLENISH is pending: REPLENISH is refused while notes
of the cassette are committed (R78), and a cassette with a REPLENISH pending is planned from by no load (R66, R90). -/
def State.noneAwaitsReplenish (s : State) : Prop :=
  ∀ ld ∈ s.dp.loads, ld.state ∈ [.planned, .picking] → ∀ c, (s.cass c).pending ≠ none → ld.planned.get c ≤ ld.accepted.get c

/-! ## Start-up -/

/-- A record of the journal is a CAPTURE record that carries capture number n; `status` picks records by their status
(section 11.5). -/
def State.holdsCapture (s : State) (status : Option SlotState → Prop) (n : Nat) : Prop :=
  ∃ i k q, i < Config.segments ∧ (k, q) ∈ (s.jn.seg i).records ∧ status (s.jn.status i k) ∧
    s.jn.mem.read (slotAddress i k 2) = 0x01#8 ∧ number (slotRead s.jn.mem i k 12 4) = n

/-- The retained items of a start-up that began in `s` with those of `kept`: all as they stood, but for what the journal's
scan does to the CU (R126, R135). The bin's state follows its sensors once the scan has ended, and before that becomes
UNCONFIRMED for a WRITTEN CAPTURE record where the bin is present with its door closed; the capture counter is raised above
every capture number the journal holds, and no further, or exhausted. -/
def State.startsFrom (t s : State) (kept : Retained) : Prop :=
  t.retained = { kept with bin := { kept.bin with state := t.cu.bin.state }, capture := t.cu.set } ∧
    (t.phase ≠ .startUp .scan → t.cu.bin.state =
      if s.cu.binPresent = false then .removed else if s.cu.binDoorClosed = false then .doorOpen
      else if kept.bin.state = .doorOpen ∨ kept.bin.state = .removed then .unconfirmed else kept.bin.state) ∧
    (s.memoryFormed → s.jn.segs.length = Config.segments →
      (t.phase = .startUp .scan →
        ((∃ n, t.holdsCapture (· = some .written) n) → s.cu.binPresent = true → s.cu.binDoorClosed = true →
          t.cu.bin.state = .unconfirmed) ∧
        ((¬ ∃ n, t.holdsCapture (· = some .written) n) ∨ s.cu.binPresent = false ∨ s.cu.binDoorClosed = false →
          t.cu.bin.state = kept.bin.state)) ∧
      ((¬ ∃ n, t.holdsCapture (fun _ => True) n) → t.cu.set = kept.capture) ∧
      ∀ n, t.holdsCapture (fun _ => True) n → (∀ m, t.holdsCapture (fun _ => True) m → m ≤ n) →
        t.cu.set = (if n = Config.max32 then { kept.capture with next := Config.max32, exhausted := true }
          else { kept.capture with next := max kept.capture.next (n + 1) }))

/-! ## The append in progress -/

/-- The program in progress is the append of record r for an owner (R149). -/
abbrev State.appending (s : State) (owner : Owner) (r : Record) : Prop :=
  s.jn.busy = true ∧ s.jn.filling.isSome = true ∧ s.jn.queue.head?.map (fun p => (p.owner, p.work)) = some (owner, .append r)

/-- The append in progress is the last chance before FAILED, and the queue's one program: two failures stand, and its slot is
erased, so its status not being programmed is the third (R149, R151). -/
abbrev State.lastChance (s : State) : Prop :=
  s.jn.failures = 2 ∧ s.jn.queue.length = 1 ∧
    s.jn.filling.map (fun f => s.jn.mem.read (slotAddress f.1 f.2 0)) = some 0xFF#8

/-! ## The search of R91 -/

/-- The combinations that the bounded search tries and finds exact, one count per pool, without regard to their notes'
number: at each pool but the last a count within the pool and the remainder, no more than four below the greatest; at the
last the exact quotient (R91). -/
def searched : List Pool → Nat → List Nat → Prop
  | [], _, _ => False
  | [_], _, [] => False
  | [p], rem, x :: xs => xs = [] ∧ rem % p.denomination = 0 ∧ x = rem / p.denomination ∧ x ≤ p.available
  | _ :: _ :: _, _, [] => False
  | p :: q :: ps, rem, x :: xs =>
    x ≤ min p.available (rem / p.denomination) ∧ min p.available (rem / p.denomination) ≤ x + 4 ∧
      searched (q :: ps) (rem - p.denomination * x) xs

/-! ## What a command may touch -/

/-- The parts of the state a command may touch beside the link and the retained store: the elapsed time, the phase, and the
blocks. -/
inductive Block where
  | elapsed
  | phase
  | lanes
  | tube
  | air
  | dispenser
  | planner
  | stacker
  | capture
  | journal
  | alarm
  deriving DecidableEq, Repr

/-- A part of the state is the same in both. -/
def Block.same : Block → State → State → Prop
  | .elapsed, s, t => t.now = s.now
  | .phase, s, t => t.phase = s.phase
  | .lanes, s, t => t.li = s.li
  | .tube, s, t => t.td = s.td
  | .air, s, t => t.as = s.as
  | .dispenser, s, t => t.nd = s.nd
  | .planner, s, t => t.dp = s.dp
  | .stacker, s, t => t.ss = s.ss
  | .capture, s, t => t.cu = s.cu
  | .journal, s, t => t.jn = s.jn
  | .alarm, s, t => t.au = s.au

/-- The blocks a command's own rules, and the reports between blocks that they call for, may touch. -/
def reach : Instr → List Block
  | .powerOn _ _ | .restartStartUp | .frameTaken _ | .frameDropped _ _ =>
    [.phase, .lanes, .tube, .air, .dispenser, .planner, .stacker, .capture, .journal, .alarm]
  | .deviceClockTick | .interByteTimeout | .laneStatus _ _ | .basicCallEdge _ | .airStatus _ | .cassetteStatus _
  | .loadStatus _ _ | .captureStatus _ | .journalStatus _ | .alarmStatus _ | .conditionsEnable _ _ _
  | .conditionsRead _ | .conditionsClear _ _ | .setTime _ _ | .identify _ =>
    []
  | .frameSent | .restart _ =>
    [.phase]
  | .laneSettings _ _ _ _ _ _ | .openLane _ _ | .ackZone _ _ =>
    [.lanes, .tube, .journal, .alarm]
  | .closeLane _ _ | .laneText _ _ _ | .rescan _ _ | .rescanAllLanes _ | .enrolmentStart | .pollDue _ =>
    [.lanes]
  | .identAnswer _ | .safeDoorChange _ =>
    [.phase, .lanes, .tube, .air, .dispenser, .planner, .stacker, .journal, .alarm]
  | .identTimeout _ =>
    [.elapsed, .phase, .lanes, .tube, .air, .dispenser, .planner, .stacker, .journal, .alarm]
  | .pollAnswer _ =>
    [.lanes, .tube, .air, .planner, .stacker, .journal, .alarm]
  | .pollAnswerTimeout =>
    [.elapsed, .lanes, .tube, .air]
  | .basicSendEdge _ | .send _ _ | .recall _ _ | .waypointPass _ _ =>
    [.tube]
  | .basicCarrierPresentChange _ _ =>
    [.lanes, .tube, .air, .planner, .stacker, .journal]
  | .vehicleClearExpiry _ | .transitTimeout =>
    [.elapsed, .lanes, .tube, .air, .journal, .alarm]
  | .purge _ _ _ | .arbiterGrant | .pressureSwitchClose _ | .airWake _ =>
    [.tube, .air, .planner]
  | .divertSettleDone =>
    [.elapsed, .tube, .air, .planner]
  | .launchTimeout | .purgeTimeout =>
    [.elapsed, .tube, .air]
  | .bayCarrierPresentChange _ _ =>
    [.lanes, .tube, .air, .planner, .stacker, .capture, .journal]
  | .bayContentChange _ _ | .presentingReservationRequest =>
    [.tube, .planner, .stacker]
  | .bayDoorChange _ _ =>
    [.tube, .air, .stacker, .capture]
  | .settleEnd =>
    [.elapsed, .lanes, .tube, .air, .planner, .stacker, .journal]
  | .queueWaitExpiry _ =>
    [.elapsed, .tube]
  | .pressureSwitchOpen _ =>
    [.phase, .lanes, .tube, .air, .planner, .journal, .alarm]
  | .spinUpLimit | .refreshRunEnd =>
    [.elapsed, .phase, .lanes, .tube, .air, .planner, .journal, .alarm]
  | .idleThresholdReached | .refreshDue =>
    [.elapsed, .air]
  | .airSettings _ _ _ _ _ _ | .airReset _ _ =>
    [.air, .journal, .alarm]
  | .airEconomy _ =>
    [.air]
  | .cassetteSensorChange _ _ | .noteAtGauge _ | .confirm _ _ =>
    [.dispenser]
  | .loadHandOver | .pickingStart | .noteLeavesGauge | .dispense _ _ _ _ _ =>
    [.dispenser, .planner, .stacker]
  | .pickMiss | .gaugeTimeout =>
    [.elapsed, .dispenser, .planner, .stacker]
  | .clearingEnd _ =>
    [.elapsed, .phase, .air, .dispenser]
  | .replenish _ _ _ _ _ _ | .boxEmptied _ =>
    [.dispenser, .journal]
  | .clearPath _ =>
    [.dispenser, .stacker]
  | .dispenseSettings _ _ _ _ _ _ =>
    [.planner]
  | .cancelDispense _ _ | .deferredCancelDispense =>
    [.tube, .dispenser, .planner, .stacker, .journal]
  | .transferStart =>
    [.stacker, .journal]
  | .pushTimeout | .shuttleHome =>
    [.elapsed, .stacker]
  | .withdrawalEnd | .stageHoldExpiry =>
    [.elapsed, .tube, .dispenser, .planner, .stacker, .journal]
  | .loadClose _ _ _ =>
    [.tube, .planner, .stacker, .journal]
  | .stackerSettings _ _ =>
    [.stacker]
  | .capture _ _ | .dropSensed =>
    [.tube, .capture, .journal]
  | .armRelease | .printReport _ | .binExchanged _ =>
    [.capture, .journal]
  | .liftTimeout =>
    [.elapsed, .capture]
  | .armReturnEnd =>
    [.elapsed, .tube, .capture, .journal]
  | .printTimeout =>
    [.elapsed, .capture, .journal]
  | .printerStateChange _ | .binPresentChange _ | .captureSettings _ _ _ | .binConfirm _ =>
    [.capture]
  | .dropTimeout =>
    [.elapsed, .tube, .capture, .journal, .alarm]
  | .binDoorChange _ | .captureClear _ _ =>
    [.capture, .journal, .alarm]
  | .journalProgramDone _ =>
    [.phase, .lanes, .tube, .dispenser, .planner, .stacker, .capture, .journal, .alarm]
  | .eraseWindowExpiry | .eraseLimit =>
    [.elapsed, .journal]
  | .eraseVerify | .journalRead _ _ _ | .journalReconcile _ _ | .journalErase _ _ | .journalReadDone =>
    [.journal]
  | .journalRecover _ =>
    [.stacker, .capture, .journal]
  | .holdupInputChange _ _ | .keySwitchEdge _ | .authorize _ _ _ =>
    [.journal, .alarm]
  | .entryDelayExpiry _ | .windowExpiry _ =>
    [.elapsed, .journal, .alarm]
  | .sounderPhaseEnd | .sounderCutoff =>
    [.elapsed, .alarm]
  | .zoneSettings _ _ _ | .sounderSilence _ | .sounderSettings _ _ =>
    [.alarm]
  | .powerLoss _ _ _ =>
    [.phase, .journal]

end Sys2Proof.Machine
end

