-- ==== Sys2Proof/Certificates/Slice0/Obligations.lean ====
section
/-! DEFINITION. The statements for the provers. `s.finish`, at the end of a next state, is the store's write and the
transmitter's choice that end every step of the powered part; `FinishWritesTheStoreAndSends` says what it does and what it
leaves. -/

open Sys2Proof Sys2Proof.Machine

/-! ## The queue, the line and the store (chapter 10) -/

/-- One step takes the command at the front of the queue and carries it out on the state with the queue's rest. On an empty
queue the block idles, 1 ms passing: the model's choice (notes/assumptions/1.md). -/
def Obligations.StepTakesTheFront : Prop :=
  (∀ (c : Instr) (rest : List Instr) (s : State), s.pending = c :: rest → step s = exec c { s with pending := rest }) ∧
    ∀ s : State, s.pending = [] → step s = .next { s with now := s.now + 1 }

/-- No command stops the part, and none changes the queue of the commands that wait: whatever the state and the operands,
the answer is a next state with the same queue. That the queue is no part of a command's effect, that a command to an
unpowered part changes nothing but a level, and that an event whose timer or mechanism is not at work changes nothing are the
model's choices (notes/assumptions/1.md, 5.md and 6.md). -/
def Obligations.EveryCommandCompletes : Prop :=
  ∀ (c : Instr) (s : State), ∃ t, exec c s = .next t ∧ t.pending = s.pending

/-- How every step of the powered part ends (R194, R204): the retained items stand in both copies of the store, and a free
line takes the oldest reply, else the oldest notice entry, else nothing. A busy line keeps its frame. Nothing else
changes. The START notice's body gives the kind of start, whether the store check failed, the device clock with its mark,
the journal's state and what the scan found (R206). That the write and the choice of the frame stand at the end of the step,
and that the START notice gives 'check failed' as no after a RESTART, are the model's choices (notes/assumptions/12.md and
24.md). -/
def Obligations.FinishWritesTheStoreAndSends : Prop :=
  ∀ s : State,
    s.finish.storeCurrent ∧ s.finish.retained = s.retained ∧
    s.finish = { s with store := s.finish.store, lc := { s.lc with sending := s.finish.lc.sending } } ∧
    (∀ f, s.lc.sending = some f → s.finish.lc.sending = some f) ∧
    (∀ r rest, s.lc.sending = none → s.lc.replies = r :: rest →
      s.finish.lc.sending = some { what := .reply, kind := r.kind, tag := r.tag, body := r.body }) ∧
    (∀ n rest, s.lc.sending = none → s.lc.replies = [] → s.lc.notices = .cond n :: rest →
      s.finish.lc.sending = some { what := .notice (.cond n), kind := 0xE0, tag := 0, body := noticeBody s.lc n }) ∧
    (∀ rest, s.lc.sending = none → s.lc.replies = [] → s.lc.notices = .start :: rest →
      s.finish.lc.sending = some { what := .notice .start, kind := 0xE1, tag := 0, body := (u8 s.lc.lastStart.code ++
        yesNo (s.lc.storeFailed && s.lc.lastStart == .powerOn) ++ u32 s.lc.clock ++ yesNo s.lc.clockSet ++
        u8 (if s.jn.failed then 2 else 1) ++ yesNo s.jn.powerLost ++ u16 s.jn.interrupted) }) ∧
    (s.lc.sending = none → s.lc.replies = [] → s.lc.notices = [] → s.finish.lc.sending = none)

/-- Every write to the retained store takes place in the step of the change it records (R204): after every command of the
powered part, and after POWER_ON, both copies hold every retained item as it stands, the device clock with its mark
included, and match their CRC. DEVICE_CLOCK_TICK keeps copies that are current so, the backup supply counting the clock of
each copy on: the model's choice (notes/assumptions/25.md). POWER_LOSS, which may cut a write off, is left out. -/
def Obligations.StoreCurrentAfterEveryStep : Prop :=
  (∀ (c : Instr) (s t : State), exec c s = .next t → c ≠ .deviceClockTick → (∀ cut n b, c ≠ .powerLoss cut n b) →
    (s.phase ≠ .off ∨ ∃ a b, c = .powerOn a b) → t.storeCurrent) ∧
  ∀ s t : State, s.storeCurrent → exec .deviceClockTick s = .next t → t.storeCurrent

/-- Requests read back: the frame body written for a well-formed request is read as that request, whatever its operands
(sections 11.1 to 11.3). -/
def Obligations.RequestFramesReadBack : Prop :=
  ∀ (i : Instr) (kind tag : Nat) (body : List Byte), i.wf = true → requestFrame i = some (kind, tag, body) →
    requestOf kind tag body = some i ∧ requestKinds.contains kind = true ∧ body.length ≤ Config.bodyMax

/-- A request's frame does what the request does: FRAME_TAKEN of the frame of any well-formed request, start byte, length,
kind, tag, body and CRC-16 read byte by byte from HUNT, is the request itself on the same state (R190, R191). -/
def Obligations.RequestFramesDoWhatTheySpell : Prop :=
  ∀ (i : Instr) (kind tag : Nat) (body : List Byte) (s : State), i.wf = true → requestFrame i = some (kind, tag, body) →
    s.lc.rx = { state := .hunt, buffer := [] } →
    ∃ t, exec (.frameTaken (frameBytes kind tag body)) s = .next t ∧ exec i s = .next t

/-- What the LC answers itself, in the order of R191: before start-up's end STARTING, then MALFORMED at tag 0, each counted
outstanding; and at four outstanding LINK_BUSY, which is not counted, or, with a LINK_BUSY waiting, nothing but a count
of the dropped frame (R192). -/
def Obligations.RequestsTheLinkAnswers : Prop :=
  ∀ (i : Instr) (kind tag : Nat) (body : List Byte) (s : State), requestFrame i = some (kind, tag, body) → s.phase ≠ .off →
    (s.lc.outstanding < 4 → s.phase ≠ .running → exec i s = .next (s.refused kind tag .starting).finish) ∧
    (s.lc.outstanding < 4 → s.phase = .running → tag = 0 → exec i s = .next (s.refused kind tag .malformed).finish) ∧
    (4 ≤ s.lc.outstanding → s.lc.replies.any (·.refusal) = false →
      exec i s = .next (({ s with lc := { s.lc with replies := s.lc.replies ++
        [{ kind := kind + 0x80, tag := tag, body := [0x01#8], refusal := true, restart := false }] } } : State).finish)) ∧
    (4 ≤ s.lc.outstanding → s.lc.replies.any (·.refusal) = true →
      exec i s = .next (({ s with lc := { s.lc with dropped := min 65535 (s.lc.dropped + 1) } } : State).finish))

/-- A frame of a kind that is no request's is answered UNKNOWN_KIND with the kind FFh, and one whose body does not fit its
kind MALFORMED (R191, R208). The receiver drops a frame and counts it, up to 65,535 (R190): one whose length is below 2 or
above 234, one whose check does not match, one broken by a framing error inside it, and one broken by a gap of more than
20 ms. A gap outside a frame is no drop. -/
def Obligations.FramesThatAreNoRequest : Prop :=
  (∀ (kind tag : Nat) (body : List Byte) (s : State), kind < 256 → tag < 256 → body.length ≤ 232 → s.phase = .running →
    s.lc.outstanding < 4 → s.lc.rx = { state := .hunt, buffer := [] } →
    (requestKinds.contains kind = false →
      exec (.frameTaken (frameBytes kind tag body)) s = .next (({ s with lc := { s.lc with
        outstanding := s.lc.outstanding + 1, replies := s.lc.replies ++
          [{ kind := 0xFF, tag := tag, body := [0x03#8], refusal := false, restart := false }] } } : State).finish)) ∧
    (requestKinds.contains kind = true → tag ≠ 0 → requestOf kind tag body = none →
      exec (.frameTaken (frameBytes kind tag body)) s = .next (s.refused kind tag .malformed).finish)) ∧
  (∀ (high low : Byte) (s : State), s.phase ≠ .off → s.lc.rx = { state := .hunt, buffer := [] } →
    (high.toNat * 256 + low.toNat < 2 ∨ 234 < high.toNat * 256 + low.toNat) →
    exec (.frameDropped [0xC3#8, high, low] false) s =
      .next (({ s with lc := { s.lc with dropped := min 65535 (s.lc.dropped + 1) } } : State).finish)) ∧
  (∀ (kind tag : Nat) (body : List Byte) (c1 c0 : Byte) (s : State), body.length ≤ 232 → s.phase ≠ .off →
    s.lc.rx = { state := .hunt, buffer := [] } → [c1, c0] ≠ crcBytes (u16 (2 + body.length) ++ u8 kind ++ u8 tag ++ body) →
    exec (.frameDropped (0xC3#8 :: (u16 (2 + body.length) ++ u8 kind ++ u8 tag ++ body) ++ [c1, c0]) false) s =
      .next (({ s with lc := { s.lc with dropped := min 65535 (s.lc.dropped + 1) } } : State).finish)) ∧
  (∀ (high : Byte) (s : State), s.phase ≠ .off → s.lc.rx = { state := .hunt, buffer := [] } →
    exec (.frameDropped [0xC3#8, high] true) s =
      .next (({ s with lc := { s.lc with dropped := min 65535 (s.lc.dropped + 1) } } : State).finish)) ∧
  ∀ s : State, s.phase ≠ .off →
    exec .interByteTimeout s = .next ((if s.lc.rx.state = .hunt then s else
      { s with lc := { s.lc with rx := { state := .hunt, buffer := [] }, dropped := min 65535 (s.lc.dropped + 1) } }).finish)

/-- The end of the frame on the line (R192, R194, R207): a reply leaves the reply list and its request is outstanding no
more (a LINK_BUSY was not), and RESTART's lets its start-up begin; a notice's entry leaves the notice list, its instance
staying as it is. A frame whose entry is gone frees the line alone: that a notice cleared while it is on the line, or a frame
begun before a RESTART's start-up, goes on to its end without its entry is the model's choice (notes/assumptions/11.md and
24.md). -/
def Obligations.FrameSentFreesTheLine : Prop :=
  ∀ s : State, s.phase ≠ .off →
    (∀ f r rest, s.lc.sending = some f → f.what = .reply → s.lc.replies = r :: rest →
      exec .frameSent s = .next (({ s with
        phase := if r.restart then .restarting true else s.phase
        lc := { s.lc with sending := none, replies := rest,
                          outstanding := if r.refusal then s.lc.outstanding else s.lc.outstanding - 1 } } : State).finish)) ∧
    (∀ f e, s.lc.sending = some f → f.what = .notice e →
      exec .frameSent s = .next (({ s with lc := { s.lc with sending := none, notices := s.lc.notices.erase e } } : State).finish)) ∧
    (∀ f, s.lc.sending = some f → f.what = .orphan →
      exec .frameSent s = .next (({ s with lc := { s.lc with sending := none } } : State).finish))

/-! ## The condition set -/

/-- A rise sets pending and makes its snapshot the instance's, whether the instance was pending or not; it adds an entry at
the tail of the notice list exactly where an enabled instance goes from not pending to pending and has no entry. No other
instance, and nothing else of the link, changes (R195, R196). -/
def Obligations.RisesSetPendingAndAnnounce : Prop :=
  ∀ (lc : LC) (n : Nat) (snapshot : Option (List Byte)) (c : CondRec), lc.conds[n - 1]? = some c →
    (lc.raise n snapshot).conds[n - 1]? = some { c with isPending := true, snapshot := snapshot } ∧
    (∀ k, k ≠ n - 1 → (lc.raise n snapshot).conds[k]? = lc.conds[k]?) ∧
    (lc.raise n snapshot).notices =
      (if c.isPending = false ∧ c.enabled = true ∧ .cond n ∉ lc.notices then lc.notices ++ [.cond n] else lc.notices) ∧
    lc.raise n snapshot =
      { lc with conds := (lc.raise n snapshot).conds, notices := (lc.raise n snapshot).notices }

/-- CONDITIONS_ENABLE replaces the enables and the auto-clear groups in one step (R198). A number outside its range changes
nothing. Else each of the 69 instances is enabled exactly where the request names it, keeps its pending flag and its
snapshot, and an instance has an entry afterwards where it was turned on while pending, or had one and was not turned
off. The new entries follow in instance number order, and the reply gives the two sets in force and the number of entries
added; that a set in it has no entries-left-out byte, and that a notice on the line loses its entry at once, are the model's
choices (notes/assumptions/8.md and 11.md). -/
def Obligations.ConditionsEnableReplacesTheSets : Prop :=
  ∀ (tag : Nat) (enabled groups : List Nat) (s : State), s.Serves tag → s.lc.conds.length = 69 →
    ((∃ n ∈ enabled, n < 1 ∨ 69 < n) ∨ (∃ n ∈ groups, n < 1 ∨ 8 < n) →
      exec (.conditionsEnable tag enabled groups) s = .next (s.refused 0x50 tag .malformed).finish) ∧
    ((∀ n ∈ enabled, 1 ≤ n ∧ n ≤ 69) → (∀ n ∈ groups, 1 ≤ n ∧ n ≤ 8) →
      ∀ added dropped, added = instanceNumbers.filter (fun n => enabled.contains n && !s.lc.isEnabled n && s.lc.isPending n &&
          !s.lc.notices.contains (.cond n)) →
        dropped = instanceNumbers.filter (fun n => s.lc.isEnabled n && !enabled.contains n) →
      ∃ lc, exec (.conditionsEnable tag enabled groups) s = .next (({ s with lc := lc } : State).finish) ∧
        lc.replies = s.lc.replies ++ [answer 0x50 tag (0x00#8 :: (numberSet (instanceNumbers.filter enabled.contains) ++
          numberSet (([1, 2, 3, 4, 5, 6, 7, 8] : List Nat).filter groups.contains) ++ u8 added.length))] ∧
        lc.notices = s.lc.notices.filter (fun e => !(dropped.map NoticeEntry.cond).contains e) ++ added.map .cond ∧
        lc.outstanding = s.lc.outstanding + 1 ∧ lc.auto = groupsOf groups ∧
        ∀ n, 1 ≤ n → n ≤ 69 →
          lc.conds[n - 1]? = s.lc.conds[n - 1]?.map (fun c => { c with enabled := enabled.contains n }) ∧
          ((.cond n) ∈ lc.notices ↔
            (enabled.contains n = true ∧ s.lc.isEnabled n = false ∧ s.lc.isPending n = true) ∨
            ((.cond n) ∈ s.lc.notices ∧ (enabled.contains n = true ∨ s.lc.isEnabled n = false))))

/-- CONDITIONS_CLEAR clears each named instance that is pending and answers with the set it found so (R197, R200): pending
goes, the entry leaves the notice list, the snapshot and every other instance stay. A number outside 1 to 69 changes
nothing. That the set in the reply has no entries-left-out byte, and that the entry of a notice on the line goes at once, are
the model's choices (notes/assumptions/8.md and 11.md). -/
def Obligations.ConditionsClearClears : Prop :=
  ∀ (tag : Nat) (cleared : List Nat) (s : State), s.Serves tag → s.lc.conds.length = 69 →
    ((∃ n ∈ cleared, n < 1 ∨ 69 < n) →
      exec (.conditionsClear tag cleared) s = .next (s.refused 0x52 tag .malformed).finish) ∧
    ((∀ n ∈ cleared, 1 ≤ n ∧ n ≤ 69) →
      ∃ lc, exec (.conditionsClear tag cleared) s = .next (({ s with lc := lc } : State).finish) ∧
        lc.replies = s.lc.replies ++ [answer 0x52 tag (0x00#8 :: numberSet (instanceNumbers.filter fun n =>
          cleared.contains n && s.lc.isPending n))] ∧
        lc.outstanding = s.lc.outstanding + 1 ∧
        ∀ n, 1 ≤ n → n ≤ 69 →
          lc.conds[n - 1]? = s.lc.conds[n - 1]?.map (fun c => { c with isPending := c.isPending && !cleared.contains n }) ∧
          ((.cond n) ∈ lc.notices ↔ (.cond n) ∈ s.lc.notices ∧ ¬ (cleared.contains n = true ∧ s.lc.isPending n = true)))

/-- SET_TIME sets the device clock and its mark and answers OK with the clock's value (R202); the clock counts seconds and
stops at its greatest value, on the backup supply too (R201), the clock in each copy of the store with it, which is the
model's choice (notes/assumptions/25.md). CONDITIONS_READ and IDENTIFY change nothing but the link's counts: each is counted
outstanding, its reply joins the reply list with the values R199 and R203 list, and nothing else of the state changes. That a
set in a reply has no entries-left-out byte is the model's choice (notes/assumptions/8.md), and the message set number that
IDENTIFY gives stays open (notes/assumptions/2.md). -/
def Obligations.ClockAndLinkReads : Prop :=
  ((∀ (tag seconds : Nat) (s : State), s.Serves tag →
    exec (.setTime tag seconds) s = .next ((({ s.counted with lc := { s.counted.lc with clock := seconds, clockSet := true } } :
      State).replied 0x53 tag (0x00#8 :: u32 seconds)).finish)) ∧
  ∀ s : State, ∃ t, exec .deviceClockTick s = .next t ∧
    t = { s with lc := { s.lc with clock := min 4294967295 (s.lc.clock + 1) }, store := t.store } ∧
    t.store.first = { s.store.first with content := { s.store.first.content with
      clock := min 4294967295 (s.store.first.content.clock + 1) } } ∧
    t.store.second = { s.store.second with content := { s.store.second.content with
      clock := min 4294967295 (s.store.second.content.clock + 1) } }) ∧
  ∀ (tag : Nat) (s : State), s.Serves tag →
    exec (.conditionsRead tag) s = .next ((s.counted.replied 0x51 tag (0x00#8 :: (numberSet s.lc.pendingSet ++
      numberSet s.lc.enabledSet ++ numberSet s.lc.auto.codes ++ u8 (s.lc.notices.filter (· != .start)).length ++
      yesNo (s.lc.notices.contains .start) ++ u8 (s.lc.outstanding + 1)))).finish) ∧
    exec (.identify tag) s = .next ((s.counted.replied 0x54 tag (0x00#8 :: (textBytes partName ++ [Config.messageSet] ++
      u32 s.lc.clock ++ yesNo s.lc.clockSet ++ u8 s.lc.lastStart.code ++ yesNo s.lc.storeFailed ++
      u32 (min 4294967295 ((s.now - s.lc.startEnded) / 1000)) ++ u16 s.lc.dropped ++ u8 (s.lc.outstanding + 1)))).finish)

/-! ## Power and start -/

/-- RESTART is answered OK at once where nothing is at work that it would disturb, start-up counting as begun from that
step; else it is refused BUSY (R207). Its start-up begins once the reply has been sent and no program is in progress: the
link's state, the load table, the queues and the reservations are emptied, the retained items are read as they stand, the
bin's state and the capture counter as the journal's scan leaves them (R126, R135), the clock runs on and the journal memory
stays (R22, R86, R192, R205). -/
def Obligations.RestartIsTakenWhenQuietAndStartsAfresh : Prop :=
  (∀ (tag : Nat) (s : State), s.Serves tag →
    (s.td.move = none → s.nd.state = .idle → s.cu.state = .idle → s.cu.hand = none → s.ss.transfer = none →
      s.ss.shuttle = .home → s.jn.run = none → s.li.rescan = none → (∀ c, (s.cass c).pending = none) →
      s.nd.emptying = none → s.cu.exchange = none →
      exec (.restart tag) s = .next (({ s.counted with
        phase := .restarting false
        lc := { s.counted.lc with replies := s.lc.replies ++
          [{ kind := 0xD5, tag := tag, body := [0x00#8], refusal := false, restart := true }] } } : State).finish)) ∧
    (s.td.move ≠ none ∨ s.nd.state ≠ .idle ∨ s.cu.state ≠ .idle ∨ s.cu.hand ≠ none ∨ s.ss.transfer ≠ none ∨
      s.ss.shuttle ≠ .home ∨ s.jn.run ≠ none ∨ s.li.rescan ≠ none ∨ (∃ c, (s.cass c).pending ≠ none) ∨
      s.nd.emptying ≠ none ∨ s.cu.exchange ≠ none →
      exec (.restart tag) s = .next (s.refused 0x55 tag .busy).finish)) ∧
  ∀ s : State, s.phase = .restarting true → s.jn.busy = false →
    ∃ t, exec .restartStartUp s = .next t ∧ (∃ step, t.phase = .startUp step) ∧ t.startsFrom s s.retained ∧
      t.lc.outstanding = 0 ∧ t.lc.replies = [] ∧ t.lc.notices = [] ∧ t.lc.auto = Groups.none ∧ t.lc.dropped = 0 ∧
      t.lc.rx = { state := .hunt, buffer := [] } ∧ t.lc.clock = s.lc.clock ∧ t.lc.lastStart = .restart ∧
      t.td = TD.initial s.td.bays ∧ t.dp.loads = [] ∧ t.dp.queue = [] ∧ t.jn.mem = s.jn.mem ∧ t.nd.current = none ∧
      t.ss.owed = [] ∧ t.cu.hand = none

/-- POWER_ON starts the part from the first copy of the store that reads sound, and from the defaults, with the clock at 0 and
RETAINED_LOST pending, where neither does (R204, R205). Every retained item is that of the copy read, the clock with its mark
included, but for the bin's state and the capture counter, which the scan sets (R126, R135). The journal memory and the bay
sensors stay. It is stated of every state, a powered one included: the model's choice (notes/assumptions/5.md). The scan (R160
to R163): a segment whose erase was begun and not verified is PENDING_ERASE with no records; each record found has a status
that is neither erased nor VOID, early fields that match their CRC-16 and the sequence that its bytes spell, and the sequence
counter stands above it, or is exhausted; one WRITTEN is to be closed INTERRUPTED, a LOAD record with the outcome INTERRUPTED.
An erased memory has no records, its first segment takes the appends, and the POWER record, sequence 1, is handed to the JN
(R162, R165). -/
def Obligations.PowerOnStartsFromTheStore : Prop :=
  ∀ (firstReads secondReads : Bool) (s : State) (kept : Retained),
    kept = (if s.store.first.sound = true ∧ firstReads = true then s.store.first.content
      else if s.store.second.sound = true ∧ secondReads = true then s.store.second.content else Retained.default) →
    ∃ t, exec (.powerOn firstReads secondReads) s = .next t ∧ (∃ step, t.phase = .startUp step) ∧
      t.startsFrom s kept ∧ t.lc.clock = kept.clock ∧ t.lc.clockSet = kept.clockSet ∧
      t.lc.outstanding = 0 ∧ t.lc.replies = [] ∧ t.lc.notices = [] ∧ t.lc.sending = none ∧ t.lc.lastStart = .powerOn ∧
      t.td = TD.initial s.td.bays ∧ t.dp.loads = [] ∧ t.dp.queue = [] ∧ t.jn.mem = s.jn.mem ∧
      (¬ (s.store.first.sound = true ∧ firstReads = true) → ¬ (s.store.second.sound = true ∧ secondReads = true) →
        t.lc.clock = 0 ∧ t.lc.isPending 69 = true ∧ t.lc.storeFailed = true) ∧
      (s.memoryFormed → s.jn.segs.length = 16 →
        (∀ i, i < 16 → (s.jn.seg i).torn = true → (t.jn.seg i).state = .pendingErase ∧ (t.jn.seg i).records = []) ∧
        (∀ i k q, (k, q) ∈ (t.jn.seg i).records → k < 128 ∧
          (s.jn.status i k = some .written ∨ s.jn.status i k = some .closed ∨ s.jn.status i k = some .reconciled) ∧
          slotRead s.jn.mem i k 26 2 = crcBytes (slotRead s.jn.mem i k 2 24) ∧ number (slotRead s.jn.mem i k 4 4) = q ∧
          (q < t.jn.counter ∨ t.jn.exhausted = true) ∧
          (s.jn.status i k = some .written → ∃ p ∈ t.jn.queue, p.owner = .scan ∧ p.work = .change ⟨q,
            if s.jn.mem.read (slotAddress i k 2) = 0x02#8 then [(28, 0x06#8)] else [],
            { RecFlags.none with interrupted := true }, true⟩)) ∧
        (s.jn.mem = [] → (∀ i, i < 16 → (s.jn.seg i).torn = false) → t.phase = .startUp .powerRecord ∧
          t.jn.filling = some (0, 0) ∧ t.jn.failed = false ∧ (t.jn.seg 0).state = .filling ∧
          (∀ i, 0 < i → i < 16 → (t.jn.seg i).state = .erased) ∧ (∀ i, i < 16 → (t.jn.seg i).records = []) ∧
          t.jn.queue = [{ owner := .power, work := .append ⟨.power, 0, 1, kept.clock,
            u8 1 ++ yesNo t.lc.storeFailed ++ u16 0 ++ u16 0, false, true⟩ }]))

/-- A power loss leaves the part unpowered; what is cut off is the write to the store and the program in progress, and nothing
else changes (R204). A write cut off in the first copy leaves the second with what stood before; one cut off in the second
leaves the first. Of the journal only the memory changes, and only where a program is in progress: an append cut off touches
no byte outside its slot's first 28, a mark none but its record's status (R209). That an append's programs are cut as one
sequence, and that a loss while an erase runs leaves the erasing segment's bytes as they were, are the model's choices
(notes/assumptions/21.md and 22.md). An unpowered part is at rest, the model's reading of a part without supply
(notes/assumptions/5.md): a command other than POWER_ON, a tick of the clock on its backup supply and the change of a level
leaves the state as it is. -/
def Obligations.PowerLossAndTheUnpoweredPart : Prop :=
  (∀ (n : Nat) (b : Byte) (s : State), s.phase ≠ .off →
    (s.jn.busy = false → exec (.powerLoss .done n b) s = .next { s with phase := .off }) ∧
    (s.jn.busy = false → exec (.powerLoss .inFirst n b) s = .next { s with
      phase := .off
      store := { s.store with first := { s.store.first with sound := false },
                              second := { content := s.store.before, sound := true } } }) ∧
    (s.jn.busy = false → exec (.powerLoss .inSecond n b) s = .next { s with
      phase := .off, store := { s.store with second := { s.store.second with sound := false } } }) ∧
    (∀ cut, exec (.powerLoss cut n b) s = .next { s with phase := .off, store := s.store.cut cut, jn := s.jn.cut n b }) ∧
    s.jn.cut n b = { s.jn with mem := (s.jn.cut n b).mem } ∧
    (∀ p rest r i k, s.memoryFormed → s.jn.busy = true → s.jn.queue = p :: rest → p.work = .append r → s.jn.filling = some (i, k) → k < 128 →
      ∀ address, (∀ off, off < 28 → address ≠ slotAddress i k off) →
        (s.jn.cut n b).mem.read address = s.jn.mem.read address) ∧
    (∀ p rest q i k, s.memoryFormed → s.jn.busy = true → s.jn.queue = p :: rest → p.work = .mark q → p.redo = none → s.jn.find q = some (i, k) →
      ∀ address, address ≠ slotAddress i k 0 → (s.jn.cut n b).mem.read address = s.jn.mem.read address)) ∧
  ∀ (c : Instr) (s : State), s.phase = .off → isLevelChange c = false → c ≠ .deviceClockTick →
    (∀ a b, c ≠ .powerOn a b) → exec c s = .next s

/-- What reset leaves where the spec gives a value (R1, R22, R48, R69, R83, R85, R86, R123, R126, R192, R195): no reason
set, no reservation, no move, an empty queue and table, nothing outstanding, every instance neither pending nor enabled. That
the retained items stand at their defaults with the store current, that the part waits for POWER_ON, and that no command
waits are the model's choices (notes/assumptions/4.md, 5.md and 1.md). The invariants stated here hold. -/
def Obligations.ResetLeavesTheStatedValues : Prop :=
  State.reset.pending = [] ∧ State.reset.phase = .off ∧ State.reset.retained = Retained.default ∧
    (∀ l, (State.reset.laneRec l).reasons = Reasons.none ∧ (State.reset.laneRec l).text = none ∧
      (State.reset.carrier l).reservation = .none ∧ (State.reset.carrier l).outstanding = none) ∧
    State.reset.td.queue = [] ∧ State.reset.td.move = none ∧ State.reset.as.state = .economy ∧ State.reset.as.demand = false ∧
    State.reset.nd.state = .idle ∧ State.reset.nd.current = none ∧ State.reset.dp.queue = [] ∧ State.reset.dp.loads = [] ∧
    State.reset.dp.nextId = 1 ∧ State.reset.cu.state = .idle ∧ State.reset.cu.hand = none ∧ State.reset.cu.set.next = 1 ∧
    State.reset.lc.outstanding = 0 ∧ State.reset.lc.replies = [] ∧ State.reset.lc.notices = [] ∧ State.reset.lc.dropped = 0 ∧
    (∀ n, State.reset.lc.isPending n = false ∧ State.reset.lc.isEnabled n = false) ∧
    State.reset.memoryFormed ∧ State.reset.withinLimit ∧ State.reset.binFormed ∧ State.reset.windowsFormed ∧
    State.reset.storeCurrent ∧ State.reset.tubeFormed ∧ State.reset.loadsFormed ∧ State.reset.boxFormed ∧
    State.reset.ledgersFormed ∧ State.reset.pathFormed ∧ State.reset.noneAwaitsReplenish

/-! ## Invariants -/

/-- Every step keeps the journal memory in its canonical form, so that equal memories are equal data. -/
def Obligations.JournalMemoryStaysCanonical : Prop :=
  ∀ s t : State, s.memoryFormed → step s = .next t → t.memoryFormed

/-- A programmed bit stays 0 until its segment is erased: no command but ERASE_VERIFY turns a bit of the journal memory
from 0 to 1, a power loss in the middle of a program included (R141). The memory's canonical form is the premise. That a
power loss in the middle of an erase, and an erase that reaches its limit, leave the bytes as they are, the segment marked as
in neither clean form, is the model's choice (notes/assumptions/22.md). -/
def Obligations.OnlyAnEraseRaisesABit : Prop :=
  ∀ (c : Instr) (s t : State), s.memoryFormed → c ≠ .eraseVerify → exec c s = .next t → s.onlyProgrammed t

/-- What has a capacity stays within it, after any command: no more than four requests are outstanding (R192); the transit
queue holds at most one entry per lane, a carrier being QUEUED exactly while it has one and MOVING exactly while its move or
purge holds the drive (R22, R25, R27); the dispense queue holds at most 3 requests and the load table at most 8 loads, no two
with one id (R85, R86). -/
def Obligations.OutstandingStaysWithinFour : Prop :=
  (∀ (c : Instr) (s t : State), s.withinLimit → exec c s = .next t → t.withinLimit) ∧
  (∀ (c : Instr) (s t : State), s.tubeFormed → exec c s = .next t → t.tubeFormed) ∧
  ∀ (c : Instr) (s t : State), s.loadsFormed → exec c s = .next t → t.loadsFormed

/-- What is counted stays within what there is room for, after any command: the bin count never passes the capacity, and room
for an envelope in hand is kept (R125, R138); the reject box holds at most 300 notes (R68). Every step of the note path keeps
the sum of each cassette's ledger, with an in-path of 0 or 1 and at most one cassette whose in-path is 1 (R66): the picks
and the path are in order before and after, provided that no load still to be picked needs a note of a cassette whose
REPLENISH is pending, which R78 and R90 see to. -/
def Obligations.BinCountStaysWithinCapacity : Prop :=
  (∀ (c : Instr) (s t : State), s.binFormed → exec c s = .next t → t.binFormed) ∧
  (∀ (c : Instr) (s t : State), s.boxFormed → exec c s = .next t → t.boxFormed) ∧
  ∀ (c : Instr) (s t : State), s.ledgersFormed → s.pathFormed → s.noneAwaitsReplenish → exec c s = .next t →
    t.ledgersFormed ∧ t.pathFormed

/-- No authorization window is open under duress or before start-up has ended, after any command (R171, R174). -/
def Obligations.NoWindowUnderDuress : Prop :=
  ∀ (c : Instr) (s t : State), s.windowsFormed → exec c s = .next t → t.windowsFormed

/-- Only a rising edge of the key switch releases a LOCKED hold-up zone (R170): no other command of the powered part does,
RESTART included. POWER_ON, which reads the zone from the store, is left out. -/
def Obligations.OnlyTheKeySwitchReleasesALock : Prop :=
  ∀ (c : Instr) (s t : State) (input : AB), (∀ rising, c ≠ .keySwitchEdge rising) → (∀ a b, c ≠ .powerOn a b) →
    (s.zone (holdupZone input)).state = .locked → exec c s = .next t → (t.zone (holdupZone input)).state = .locked

/-- A command touches no block outside its reach (`reach`): what its own rules give it, and what the reports between blocks
that they call for can reach. The link and the retained store aside, every other block is as it was, whatever the state
and the operands; the journal memory is as it was after every command but the end of a program, an erase's verify and a
power loss. -/
def Obligations.CommandsStayWithinTheirReach : Prop :=
  ∀ (c : Instr) (s t : State), exec c s = .next t →
    (∀ b : Block, b ∉ reach c → b.same s t) ∧
    ((∀ missed, c ≠ .journalProgramDone missed) → c ≠ .eraseVerify → (∀ cut n b, c ≠ .powerLoss cut n b) →
      t.jn.mem = s.jn.mem)


/-! ## Lanes (chapter 1) -/

/-- LANE_SETTINGS applies the enabled set, the waypoint count and the segment timeout clamped to their ranges, and
auto-recall (R15), and answers with the values applied and the resolved set. With VEHICLE_LOOP not resolved the vehicle is
no and its timer stops; with CARRIER_DOOR not resolved the door is unsensed (R3). No other lane's settings or station's
carrier level, and no bay, changes. A lane or a value outside its set changes nothing. -/
def Obligations.LaneSettingsAreApplied : Prop :=
  ∀ (tag lane features waypoints timeout auto : Nat) (s : State), s.Serves tag →
    (lane < 1 ∨ 4 < lane ∨ 1 < auto →
      exec (.laneSettings tag lane features waypoints timeout auto) s = .next (s.refused 0x10 tag .malformed).finish) ∧
    ∀ l : Lane, lane = l.num → auto ≤ 1 →
      ∃ t, exec (.laneSettings tag lane features waypoints timeout auto) s = .next t ∧
        (t.laneRec l).set = ⟨Features.ofNat features, (s.laneRec l).set.isOpen, auto == 1, min 3 waypoints,
          max 1000 (min 30000 timeout)⟩ ∧
        ((t.laneRec l).resolved.vehicleLoop = false → (t.laneRec l).vehicle = false ∧ (t.laneRec l).clearDue = none) ∧
        ((t.laneRec l).resolved.carrierDoor = false → (t.laneRec l).door = .unsensed) ∧
        t.lc.replies = s.lc.replies ++ [answer 0x10 tag (0x00#8 :: (u8 (t.laneRec l).set.enabled.code ++ u8 (t.laneRec l).set.waypoints ++
            u16 (t.laneRec l).set.segTimeout ++ yesNo (t.laneRec l).set.autoRecall ++ u8 (t.laneRec l).resolved.code))] ∧
        (∀ k, k ≠ l → (t.laneRec k).set = (s.laneRec k).set ∧ (t.laneRec k).carrier = (s.laneRec k).carrier) ∧
        t.td.bays = s.td.bays ∧ t.as = s.as ∧ t.nd = s.nd ∧ t.dp = s.dp ∧ t.ss = s.ss ∧ t.cu = s.cu ∧ t.jn.mem = s.jn.mem

/-- CLOSE sets the open choice to CLOSED and touches nothing else; OPEN sets it to OPEN, and where the carrier's location is
known removes JAM, and no other reason, from the reason set (R16, R17); both answer with the lane state and the reason
set. LANE_TEXT keeps the first 20 characters, a space standing for each that is not 20h to 7Eh; no characters make the
text absent. The reply is the text kept, and nothing else changes (R18). A lane outside 1 to 4 is MALFORMED. -/
def Obligations.OpenCloseAndTextAreKept : Prop :=
  (∀ (tag : Nat) (l : Lane) (s : State), s.Serves tag →
    exec (.closeLane tag l.num) s = .next (((s.counted.modLane l fun r => { r with set := { r.set with isOpen := false } }).replied
      0x12 tag (0x00#8 :: (u8 (if (s.laneRec l).reasons.isEmpty then 1 else 3) ++ u8 (s.laneRec l).reasons.code))).finish) ∧
    ((s.laneRec l).reasons.jam = false ∨ ((s.carrier l).location ≠ .atBay ∧ (s.carrier l).location ≠ .atLane) →
      exec (.openLane tag l.num) s = .next (((s.counted.modLane l fun r => { r with set := { r.set with isOpen := true } }).replied
        0x11 tag (0x00#8 :: (u8 (if (s.laneRec l).reasons.isEmpty then 2 else 3) ++ u8 (s.laneRec l).reasons.code))).finish)) ∧
    ((s.laneRec l).reasons.jam = true → ((s.carrier l).location = .atBay ∨ (s.carrier l).location = .atLane) →
      ∃ t, exec (.openLane tag l.num) s = .next t ∧ (t.laneRec l).set = { (s.laneRec l).set with isOpen := true } ∧
        (t.laneRec l).reasons = { (s.laneRec l).reasons with jam := false } ∧
        t.lc.replies = s.lc.replies ++ [answer 0x11 tag (0x00#8 ::
          (u8 (if ({ (s.laneRec l).reasons with jam := false } : Reasons).isEmpty then 2 else 3) ++
            u8 ({ (s.laneRec l).reasons with jam := false } : Reasons).code))] ∧
        (∀ k, k ≠ l → t.laneRec k = s.laneRec k) ∧ t.td.carriers.map (·.location) = s.td.carriers.map (·.location) ∧
        t.as = s.as ∧ t.nd = s.nd ∧ t.dp = s.dp ∧ t.ss = s.ss ∧ t.cu = s.cu)) ∧
  (∀ (tag n : Nat) (text : List Byte) (s : State), s.Serves tag → n = 0 ∨ 4 < n →
    exec (.openLane tag n) s = .next (s.refused 0x11 tag .malformed).finish ∧
    exec (.closeLane tag n) s = .next (s.refused 0x12 tag .malformed).finish ∧
    exec (.laneText tag n text) s = .next (s.refused 0x13 tag .malformed).finish) ∧
  ∀ (tag : Nat) (l : Lane) (text : List Byte) (s : State), s.Serves tag →
    ∃ kept : List Byte, kept.length = min 20 text.length ∧
      (∀ i, i < kept.length → kept[i]? = text[i]?.map fun c => if 0x20 ≤ c.toNat ∧ c.toNat ≤ 0x7E then c else 0x20#8) ∧
      exec (.laneText tag l.num text) s = .next (((s.counted.modLane l fun r =>
        { r with text := if text = [] then none else some kept }).replied 0x13 tag (0x00#8 :: textBytes kept)).finish)

/-- A status read answers with the values its rule lists and changes nothing but, where its group is set to auto-clear, that
group's pending flags and entries, after the reply is built (R19, R63, R80, R120, R137, R166, R189, R197). The bodies are
those of the model, whose layout where the manual gives none is the model's choice (notes/assumptions/8.md). A lane outside
1 to 4 is MALFORMED. -/
def Obligations.StatusReadsChangeNothingElse : Prop :=
  ∀ (tag : Nat) (s : State), s.Serves tag →
    (∀ l : Lane,
      exec (.laneStatus tag l.num) s = .next
        ((((s.counted.replied 0x14 tag (0x00#8 :: s.laneStatusBytes l)).autoClear .lane l).autoClear .carrier l).finish) ∧
      exec (.loadStatus tag l.num) s = .next
        (((s.counted.replied 0x34 tag (s.loadStatusBody l)).autoClear .load l).finish)) ∧
    exec (.airStatus tag) s = .next (((s.counted.replied 0x24 tag (0x00#8 :: s.airStatusBytes)).autoClear .air .i1).finish) ∧
    s.airStatusBytes = u8 s.as.state.code ++ yesNo s.as.demand ++ yesNo s.as.driveHeld ++ s.as.blowerBytes .a ++
      s.as.blowerBytes .b ++ u8 (modeCode s.as.set.directed) ++ u16 s.as.set.idleThreshold ++ u16 s.as.set.refreshInterval ++
      yesNo s.as.set.autoSwitch ++ countBytes s.as.idle s.now ++ countBytes s.as.refresh s.now ++ s.lc.groupFlags .air .i1 ∧
    exec (.cassetteStatus tag) s = .next
      (((s.counted.replied 0x2A tag (0x00#8 :: s.cassetteStatusBytes)).autoClear .dispenser .i1).finish) ∧
    exec (.captureStatus tag) s = .next
      (((s.counted.replied 0x3A tag (0x00#8 :: s.captureStatusBytes)).autoClear .capture .i1).finish) ∧
    exec (.journalStatus tag) s = .next
      (((s.counted.replied 0x40 tag (0x00#8 :: s.journalStatusBytes)).autoClear .journal .i1).finish) ∧
    exec (.alarmStatus tag) s = .next
      (((s.counted.replied 0x4D tag (0x00#8 :: s.alarmStatusBytes)).autoClear .alarm .i1).finish) ∧
    ∀ n, n = 0 ∨ 4 < n → exec (.laneStatus tag n) s = .next (s.refused 0x14 tag .malformed).finish ∧
      exec (.loadStatus tag n) s = .next (s.refused 0x34 tag .malformed).finish

/-- RESCAN waits for the bus: accepted, it is recorded with its tag and its lane's enrolment (for all lanes the bus reset and
the four enrolments) joins the waiting ones, an automatic re-enrolment of the lane that waits serving both; its reply comes
at the end. It is refused BUSY while a move or purge for the lane (for all lanes, any) is in flight and while a RESCAN is in
progress (R20, R21), and a lane outside 1 to 4 is MALFORMED. -/
def Obligations.RescanWaitsForTheBus : Prop :=
  ∀ (tag : Nat) (l : Lane) (s : State), s.Serves tag →
    (∀ n, n = 0 ∨ 4 < n → exec (.rescan tag n) s = .next (s.refused 0x15 tag .malformed).finish) ∧
    ((∀ m, s.td.move = some m → m.lane ≠ l) → s.li.rescan = none → (.enrol l .lost) ∉ s.li.enrolWaiting →
      exec (.rescan tag l.num) s = .next (({ s.counted with li := { s.li with
        rescan := some { tag := tag, all := false, resetDone := false }
        enrolWaiting := s.li.enrolWaiting ++ [.enrol l .rescanOne] } } : State).finish)) ∧
    ((∀ m, s.td.move = some m → m.lane ≠ l) → s.li.rescan = none → (.enrol l .lost) ∈ s.li.enrolWaiting →
      exec (.rescan tag l.num) s = .next (({ s.counted with li := { s.li with
        rescan := some { tag := tag, all := false, resetDone := false }
        enrolWaiting := s.li.enrolWaiting.map fun j => if j = .enrol l .lost then .enrol l .rescanOne else j } } : State).finish)) ∧
    ((∃ m, s.td.move = some m ∧ m.lane = l) ∨ s.li.rescan ≠ none →
      exec (.rescan tag l.num) s = .next (s.refused 0x15 tag .busy).finish) ∧
    (s.td.move = none → s.li.rescan = none →
      exec (.rescanAllLanes tag) s = .next (({ s.counted with li := { s.li with
        rescan := some { tag := tag, all := true, resetDone := false }
        enrolWaiting := s.li.enrolWaiting ++ [.busReset, .enrol .i1 .rescanAll, .enrol .i2 .rescanAll, .enrol .i3 .rescanAll,
          .enrol .i4 .rescanAll] } } : State).finish)) ∧
    (s.td.move ≠ none ∨ s.li.rescan ≠ none →
      exec (.rescanAllLanes tag) s = .next (s.refused 0x15 tag .busy).finish)

/-- Start-up's enrolments of the four lanes, in order, begin when the POWER record has been programmed, or is lost (R165,
R205). The oldest waiting enrolment takes a free bus: the IDENT query goes out with its 50 ms window, the bus reset of a RESCAN
of all lanes being pulsed before the first (R4, R5, R21). A window without an answer brings the next query, up to the
third (R5). That the reset is pulsed in the step that takes the bus is the model's choice (notes/assumptions/10.md). -/
def Obligations.EnrolmentQueriesThreeTimes : Prop :=
  (∀ (r : Record) (s : State), s.phase = .startUp .powerRecord → s.appending .power r →
    (∃ t, exec (.journalProgramDone []) s = .next t ∧ t.phase = .startUp .enrolment ∧ t.li = { s.li with enrolWaiting :=
        [.enrol .i1 .startUp, .enrol .i2 .startUp, .enrol .i3 .startUp, .enrol .i4 .startUp] } ∧
      t.jn.powerLost = s.jn.powerLost ∧ t.td = s.td ∧ t.as = s.as ∧ t.nd = s.nd ∧ t.cu = s.cu ∧ t.au = s.au) ∧
    (s.lastChance → ∃ t, exec (.journalProgramDone [0xFF#8]) s = .next t ∧ t.phase = .startUp .enrolment ∧
      t.li = { s.li with enrolWaiting :=
        [.enrol .i1 .startUp, .enrol .i2 .startUp, .enrol .i3 .startUp, .enrol .i4 .startUp] } ∧
      t.jn.powerLost = true ∧ t.jn.failed = true)) ∧
  (∀ (l : Lane) (why : EnrolWhy) (rest : List EnrolJob) (s : State), s.phase ≠ .off → s.li.bus = .free →
    (s.li.enrolWaiting = .enrol l why :: rest →
      exec .enrolmentStart s = .next (({ s with li := { s.li with
        enrolWaiting := rest, bus := .ident l why 1 (s.now + 50) } } : State).finish)) ∧
    (s.li.enrolWaiting = .busReset :: .enrol l why :: rest →
      exec .enrolmentStart s = .next (({ s with li := { s.li with
        enrolWaiting := rest, bus := .ident l why 1 (s.now + 50), lanes := s.li.lanes.map fun r => { r with shown := none }
        rescan := s.li.rescan.map fun r => { r with resetDone := true } } } : State).finish))) ∧
  ∀ (loopClosed : Bool) (l : Lane) (why : EnrolWhy) (query due : Nat) (s : State), s.phase ≠ .off →
    s.li.bus = .ident l why query due → query < 3 →
      exec (.identTimeout loopClosed) s = .next (({ s with
        now := max s.now due, li := { s.li with bus := .ident l why (query + 1) (max s.now due + 50) } } : State).finish)

/-- An enrolment ends with what it found (R5, R6): a FULL station's report, or after the third window a BASIC station where
the select-return loop is closed, with its discrete carrier input, and none where it is open. Kind, advertised set,
carrier present and tamper level are the report's, the missed count is 0, STATION_LOST is held where no station was found,
and no other lane's settings, kind or station's carrier level changes. STATION of the lane rises, and a RESCAN of the lane, or
of all lanes at lane 4, is answered OK with the lane's, or each lane's, kind, advertised and resolved features and reasons
(R20, R21). In start-up the end of lane 4's enrolment derives each
carrier's location from the sensors, the bay trusted (R24), checks the slots and empties the stacker into the reject box (R67,
R77, R102), and the path is cleared for 2,000 ms, or, the safe door open, the dispenser is HALTED and the air supply's one
refresh run begins (R58, R77). -/
def Obligations.EnrolmentRecordsTheStation : Prop :=
  (∀ (l : Lane) (why : EnrolWhy) (query due : Nat) (s : State), s.phase ≠ .off → s.li.bus = .ident l why query due →
    (∀ report : IdentReport, ∃ t, exec (.identAnswer report) s = .next t ∧ (t.laneRec l).kind = .full ∧
      (t.laneRec l).advertised = Features.ofNat report.features.toNat ∧ (t.laneRec l).missed = 0 ∧
      (t.laneRec l).carrier = sense report.carrier ∧ (t.laneRec l).tamperLevel = report.tamper ∧
      (t.laneRec l).reasons.stationLost = false ∧
      ∀ k, k ≠ l → (t.laneRec k).kind = (s.laneRec k).kind ∧ (t.laneRec k).carrier = (s.laneRec k).carrier ∧
        (t.laneRec k).set = (s.laneRec k).set) ∧
    (3 ≤ query → ∃ t, exec (.identTimeout true) s = .next t ∧ (t.laneRec l).kind = .basic ∧
      (t.laneRec l).advertised = Features.none ∧ (t.laneRec l).carrier = sense (s.laneRec l).carrierInput ∧
      (t.laneRec l).reasons.stationLost = false ∧
      ∀ k, k ≠ l → (t.laneRec k).kind = (s.laneRec k).kind ∧ (t.laneRec k).carrier = (s.laneRec k).carrier ∧
        (t.laneRec k).set = (s.laneRec k).set) ∧
    (3 ≤ query → ∃ t, exec (.identTimeout false) s = .next t ∧ (t.laneRec l).kind = .absent ∧
      (t.laneRec l).advertised = Features.none ∧ (t.laneRec l).carrier = .unsensed ∧
      (t.laneRec l).reasons.stationLost = true ∧
      ∀ k, k ≠ l → (t.laneRec k).kind = (s.laneRec k).kind ∧ (t.laneRec k).carrier = (s.laneRec k).carrier ∧
        (t.laneRec k).set = (s.laneRec k).set)) ∧
  (∀ (c : Instr) (l : Lane) (why : EnrolWhy) (query due : Nat) (s : State), s.phase ≠ .off → s.lc.conds.length = 69 →
    s.li.bus = .ident l why query due →
    (∃ report, c = .identAnswer report) ∨ (3 ≤ query ∧ ∃ loopClosed, c = .identTimeout loopClosed) →
    ∃ t, exec c s = .next t ∧ t.lc.isPending (Cond.lane l .station).num = true ∧
      ∀ found : Lane → List Byte, (∀ k, found k = u8 (t.laneRec k).kind.code ++ u8 (t.laneRec k).advertised.code ++
          u8 (t.laneRec k).resolved.code ++ u8 (t.laneRec k).reasons.code) →
        (∀ r, s.li.rescan = some r → why = .rescanOne →
          t.li.rescan = none ∧ t.lc.replies = s.lc.replies ++ [answer 0x15 r.tag (0x00#8 :: found l)]) ∧
        (∀ r, s.li.rescan = some r → why = .rescanAll →
          (l = .i4 → t.li.rescan = none ∧ t.lc.replies = s.lc.replies ++
            [answer 0x15 r.tag (0x00#8 :: (found .i1 ++ found .i2 ++ found .i3 ++ found .i4))]) ∧
          (l ≠ .i4 → t.li.rescan = some r ∧ t.lc.replies = s.lc.replies)) ∧
        (why = .startUp ∨ why = .lost → t.li.rescan = s.li.rescan ∧ t.lc.replies = s.lc.replies)) ∧
  ∀ (c : Instr) (query due : Nat) (s : State), s.phase = .startUp .enrolment → s.li.bus = .ident .i4 .startUp query due →
    (∃ report, c = .identAnswer report) ∨ (3 ≤ query ∧ ∃ loopClosed, c = .identTimeout loopClosed) →
    ∃ t, exec c s = .next t ∧
      (∀ l, (t.carrier l).location = (if (s.bay l).present = true then .atBay
        else if (t.laneRec l).carrier = .yes then .atLane else .unknown)) ∧
      (∀ l, (t.carrier l).location = .unknown → (t.laneRec l).reasons.carrierUnknown = true) ∧
      (∀ k, (t.cass k).kept = { (s.cass k).kept with state := if (s.cass k).slot = false then .absent
        else if (s.cass k).kept.state = .absent then .unconfirmed else (s.cass k).kept.state }) ∧
      t.ss = { s.ss with pick := .empty, delivery := .empty, shuttle := .home } ∧
      t.nd.box = min 300 (min 300 (s.nd.box + s.ss.pick.notes) + s.ss.delivery.notes) ∧
      (s.nd.safeDoorOpen = false → t.phase = .startUp .notePath ∧ t.nd.state = .clearing ∧
        t.nd.clearingDue = some (t.now + 2000)) ∧
      (s.nd.safeDoorOpen = true → t.phase = .startUp .air ∧ t.nd.state = .halted ∧ t.as.state = .refresh ∧
        t.as.started = some t.now)

/-- Polling (R4, R7 to R11): a FULL station's poll goes out on a free bus with its 20 ms window, or waits its turn, once, the
model's choice (notes/assumptions/10.md); a good answer of a station that is not lost clears the missed count and gives the
carrier and tamper levels, and CALL rises on its CALL bit; an answer that does not come adds a miss, and the third loses the
station. The first good answer of a lost station is discarded, its latches not acknowledged, and its enrolment waits for the
bus; where one of the lane waits already, none is added, the model's choice again. With VEHICLE_LOOP resolved an answer with
the loop active or its latch set is a vehicle, VEHICLE rising where there was none; the clear timer of 1,500 ms runs from an
answer whose loop is clear, and no clear answer restarts it. A SEND latch asks for a DOWN move of a carrier AT_LANE, origin
STATION. -/
def Obligations.PollsFollowTheStation : Prop :=
  (∀ (l : Lane) (s : State), s.phase ≠ .off → (s.laneRec l).kind = .full → s.li.rescan = none →
    (s.li.bus = .free → s.li.enrolWaiting = [] →
      ∃ t, exec (.pollDue l) s = .next t ∧ t.li.bus = .poll l (s.now + 20) ∧
        t = ({ s with li := t.li } : State).finish ∧
        ((s.laneRec l).resolved.laneDisplay = true → (s.laneRec l).reasons.stationLost = false →
          (t.laneRec l).shown = some (s.laneRec l).displayed)) ∧
    (s.li.bus ≠ .free → l ∉ s.li.pollsWaiting →
      exec (.pollDue l) s = .next (({ s with li := { s.li with pollsWaiting := s.li.pollsWaiting ++ [l] } } : State).finish)) ∧
    (s.li.bus ≠ .free → l ∈ s.li.pollsWaiting → exec (.pollDue l) s = .next s.finish)) ∧
  (∀ (l : Lane) (due : Nat) (p : PollReport) (s : State), s.phase ≠ .off → s.li.bus = .poll l due →
    (s.laneRec l).reasons.stationLost = false →
    ∃ t, exec (.pollAnswer p) s = .next t ∧ (t.laneRec l).missed = 0 ∧ (t.laneRec l).answerReceived = true ∧
      (t.laneRec l).carrier = sense p.carrier ∧ (t.laneRec l).tamperLevel = p.tamper ∧
      (p.call = true → s.lc.conds.length = 69 → t.lc.isPending (Cond.lane l .call).num = true) ∧
      (∀ k, k ≠ l → (t.laneRec k).missed = (s.laneRec k).missed ∧ (t.laneRec k).carrier = (s.laneRec k).carrier) ∧
      ((s.laneRec l).resolved.vehicleLoop = false →
        (t.laneRec l).vehicle = (s.laneRec l).vehicle ∧ (t.laneRec l).clearDue = (s.laneRec l).clearDue) ∧
      ((s.laneRec l).resolved.vehicleLoop = true →
        (p.loopLatch = true ∨ p.loop = true → (t.laneRec l).vehicle = true ∧
          (t.laneRec l).clearDue = (if p.loop then none else some (s.now + 1500)) ∧
          ((s.laneRec l).vehicle = false → s.lc.conds.length = 69 → t.lc.isPending (Cond.lane l .vehicle).num = true)) ∧
        (p.loopLatch = false → p.loop = false → (t.laneRec l).vehicle = (s.laneRec l).vehicle ∧
          (t.laneRec l).clearDue = (if (s.laneRec l).vehicle = true ∧ (s.laneRec l).clearDue = none
            then some (s.now + 1500) else (s.laneRec l).clearDue))) ∧
      ((s.laneRec l).carrier = sense p.carrier → (s.laneRec l).door = sense p.door → s.td.entry l = none →
        (p.send = true → (s.carrier l).location = .atLane → (s.laneRec l).reasons.jam = false →
          (s.laneRec l).reasons.carrierUnknown = false → (s.carrier l).reservation = .none →
          t.td.queue = s.td.queue ++ [{ lane := l, dir := .down, origin := .station, time := s.now }] ∧
          (t.carrier l).reservation = .queued) ∧
        (p.send = false ∨ (s.carrier l).location ≠ .atLane ∨ (s.laneRec l).reasons.jam = true ∨
          (s.laneRec l).reasons.carrierUnknown = true → t.td = s.td))) ∧
  (∀ (l : Lane) (due : Nat) (p : PollReport) (s : State), s.phase ≠ .off → s.li.bus = .poll l due →
    (s.laneRec l).reasons.stationLost = true →
    exec (.pollAnswer p) s = .next ((({ s with li := { s.li with
      bus := .free
      enrolWaiting := if s.li.enrolWaits l = true then s.li.enrolWaiting
        else s.li.enrolWaiting ++ [.enrol l .lost] } } : State).modLane l fun r => { r with answerReceived := false }).finish)) ∧
  ∀ (l : Lane) (due : Nat) (s : State), s.phase ≠ .off → s.li.bus = .poll l due →
    ∃ t, exec .pollAnswerTimeout s = .next t ∧ t.now = max s.now due ∧ (t.laneRec l).missed = min 3 ((s.laneRec l).missed + 1) ∧
      (t.laneRec l).answerReceived = false ∧
      ((s.laneRec l).missed = 2 → (s.laneRec l).reasons.stationLost = false →
        (t.laneRec l).reasons.stationLost = true ∧ (t.laneRec l).carrier = .unsensed ∧ (t.laneRec l).door = .unsensed ∧
        (t.laneRec l).vehicle = false)

/-- A BASIC station's discrete inputs (R9): a CALL edge raises CALL; a SEND edge asks for a DOWN move with origin STATION
where the carrier is AT_LANE and neither JAM nor CARRIER_UNKNOWN is held, and does nothing else; a change of carrier
present is the station's carrier present. Each is ignored at a station of another kind, but for the input's own level. -/
def Obligations.BasicInputsAct : Prop :=
  ∀ (l : Lane) (s : State), s.phase ≠ .off →
    ((s.laneRec l).kind = .basic → exec (.basicCallEdge l) s = .next (s.raiseLaneBare l .call).finish) ∧
    ((s.laneRec l).kind = .basic → (s.carrier l).location = .atLane → (s.laneRec l).reasons = Reasons.none →
      (s.carrier l).reservation = .none → s.td.entry l = none →
      exec (.basicSendEdge l) s = .next ((({ s with td := { s.td with queue := s.td.queue ++
        [{ lane := l, dir := .down, origin := .station, time := s.now }] } } : State).modCarrier l fun c =>
          { c with reservation := .queued }).finish)) ∧
    ((s.laneRec l).kind = .basic → ((s.carrier l).location ≠ .atLane ∨ (s.laneRec l).reasons.jam = true ∨
      (s.laneRec l).reasons.carrierUnknown = true) → exec (.basicSendEdge l) s = .next s.finish) ∧
    ((s.laneRec l).kind ≠ .basic → exec (.basicCallEdge l) s = .next s.finish ∧ exec (.basicSendEdge l) s = .next s.finish ∧
      ∀ present, exec (.basicCarrierPresentChange l present) s =
        .next (s.modLane l fun r => { r with carrierInput := present }).finish) ∧
    ∀ present, (s.laneRec l).kind = .basic → ∃ t, exec (.basicCarrierPresentChange l present) s = .next t ∧
      (t.laneRec l).carrierInput = present ∧ (t.laneRec l).carrier = sense present

/-- The vehicle clear timer's expiry ends the vehicle's stay (R12): with the carrier AT_LANE and not present the carrier is
missing, its location UNKNOWN, the lane a missing lane of zone 12; with it present and a DELIVERED load outstanding it is a
drive-off, which with auto-recall on asks for a DOWN move, origin AUTO_RECALL; otherwise nothing else happens. -/
def Obligations.DepartureIsJudged : Prop :=
  ∀ (l : Lane) (due : Nat) (s : State), s.phase ≠ .off → (s.laneRec l).clearDue = some due →
    ((s.carrier l).location ≠ .atLane ∨ (s.laneRec l).carrier = .unsensed ∨
        ((s.laneRec l).carrier = .yes ∧ s.outstandingState l ≠ some .delivered) →
      exec (.vehicleClearExpiry l) s = .next (({ s with now := max s.now due } : State).modLane l fun r =>
        { r with vehicle := false, clearDue := none }).finish) ∧
    ((s.carrier l).location = .atLane → (s.laneRec l).carrier = .no →
      ∃ t, exec (.vehicleClearExpiry l) s = .next t ∧ (t.laneRec l).vehicle = false ∧ (t.laneRec l).clearDue = none ∧
        (t.carrier l).location = .unknown ∧ (t.laneRec l).reasons.carrierUnknown = true ∧ t.au.missing.get l = true ∧
        t.td.entry l = none) ∧
    ((s.carrier l).location = .atLane → (s.laneRec l).carrier = .yes → s.outstandingState l = some .delivered →
      (s.laneRec l).set.autoRecall = false →
      exec (.vehicleClearExpiry l) s = .next ((({ s with now := max s.now due } : State).modLane l fun r =>
        { r with vehicle := false, clearDue := none }).raiseLaneBare l .driveOff).finish) ∧
    ((s.carrier l).location = .atLane → (s.laneRec l).carrier = .yes → s.outstandingState l = some .delivered →
      (s.laneRec l).set.autoRecall = true → (s.laneRec l).reasons.forbid .down = false → s.td.entry l = none →
      (s.carrier l).reservation ≠ .moving →
      exec (.vehicleClearExpiry l) s = .next ((((({ s with
        now := max s.now due
        td := { s.td with queue := s.td.queue ++ [{ lane := l, dir := .down, origin := .autoRecall, time := max s.now due }] } } :
          State).modLane l fun r => { r with vehicle := false, clearDue := none }).modCarrier l fun r =>
            { r with reservation := .queued }).raiseLaneBare l .driveOff)).finish)

/-! ## Carriers and the tube drive (chapter 2) -/

/-- SEND makes its checks in the order of R45 and answers the first that fails; a request that passes them joins the tail of
the transit queue, origin HOST, the reservation becoming QUEUED, and its place is the answer. RECALL does so by R46. No
refusal changes anything but the link; a lane outside 1 to 4 is MALFORMED. An entry of the other direction does not make a
request ALREADY_QUEUED. That an accepted RECALL makes a reservation PRESENTING or CAPTURING into QUEUED,
and that the words QUEUED (1) and ALREADY_QUEUED (2) are coded so, are the model's choices (notes/assumptions/14.md and
8.md). -/
def Obligations.SendAndRecallAreCheckedInOrder : Prop :=
  ∀ (tag : Nat) (l : Lane) (s : State), s.Serves tag →
    (∀ n, n = 0 ∨ 4 < n → exec (.send tag n) s = .next (s.refused 0x18 tag .malformed).finish ∧
      exec (.recall tag n) s = .next (s.refused 0x19 tag .malformed).finish) ∧
    ((s.laneRec l).state = .opened → (∀ e ∈ s.td.queue, e.lane = l → e.dir = .down) → (s.carrier l).location ≠ .atBay →
      exec (.send tag l.num) s = .next (s.refused 0x18 tag .carrierElsewhere).finish) ∧
    ((∀ e ∈ s.td.queue, e.lane = l → e.dir = .up) → (s.carrier l).location ≠ .atLane →
      exec (.recall tag l.num) s = .next (s.refused 0x19 tag .carrierElsewhere).finish) ∧
    ((s.laneRec l).state = .closed → exec (.send tag l.num) s = .next (s.refused 0x18 tag .laneNotOpen).finish) ∧
    ((s.laneRec l).state = .outOfService → exec (.send tag l.num) s = .next (s.refused 0x18 tag .laneBlocked).finish) ∧
    ((s.laneRec l).state = .opened → (∃ e ∈ s.td.queue, e.lane = l ∧ e.dir = .up) →
      exec (.send tag l.num) s = .next (s.counted.replied 0x18 tag [0x00#8, 0x02#8, BitVec.ofNat 8 (s.td.position l)]).finish) ∧
    ((s.laneRec l).state = .opened → (∀ e ∈ s.td.queue, e.lane ≠ l) →
      ((s.carrier l).location ≠ .atBay → exec (.send tag l.num) s = .next (s.refused 0x18 tag .carrierElsewhere).finish) ∧
      ((s.carrier l).location = .atBay →
        ((s.carrier l).reservation ∈ [.presenting, .capturing, .moving] →
          exec (.send tag l.num) s = .next (s.refused 0x18 tag .carrierBusy).finish) ∧
        ((s.carrier l).reservation ∈ [.none, .queued] → (s.carrier l).outstanding ≠ none →
          s.outstandingState l ≠ some .presented →
          exec (.send tag l.num) s = .next (s.refused 0x18 tag .loadOutstanding).finish) ∧
        ((s.carrier l).reservation ∈ [.none, .queued] →
          ((s.carrier l).outstanding = none ∨ s.outstandingState l = some .presented) →
          exec (.send tag l.num) s = .next (((({ s.counted with td := { s.td with queue := s.td.queue ++
            [{ lane := l, dir := .up, origin := .host, time := s.now }] } } : State).modCarrier l fun c =>
              { c with reservation := .queued }).replied 0x18 tag
                [0x00#8, 0x01#8, BitVec.ofNat 8 (s.td.queue.length + 1)]).finish)))) ∧
    ((∃ e ∈ s.td.queue, e.lane = l ∧ e.dir = .down) →
      exec (.recall tag l.num) s = .next (s.counted.replied 0x19 tag [0x00#8, 0x02#8, BitVec.ofNat 8 (s.td.position l)]).finish) ∧
    ((∀ e ∈ s.td.queue, e.lane ≠ l) →
      ((s.carrier l).location ≠ .atLane → exec (.recall tag l.num) s = .next (s.refused 0x19 tag .carrierElsewhere).finish) ∧
      ((s.carrier l).location = .atLane →
        ((s.laneRec l).reasons.stationLost = true ∨ (s.laneRec l).reasons.jam = true ∨
          (s.laneRec l).reasons.carrierUnknown = true →
          exec (.recall tag l.num) s = .next (s.refused 0x19 tag .laneBlocked).finish) ∧
        ((s.laneRec l).reasons.stationLost = false → (s.laneRec l).reasons.jam = false →
          (s.laneRec l).reasons.carrierUnknown = false →
          ((s.carrier l).reservation = .moving → exec (.recall tag l.num) s = .next (s.refused 0x19 tag .carrierBusy).finish) ∧
          ((s.carrier l).reservation ≠ .moving →
            exec (.recall tag l.num) s = .next (((({ s.counted with td := { s.td with queue := s.td.queue ++
              [{ lane := l, dir := .down, origin := .host, time := s.now }] } } : State).modCarrier l fun c =>
                { c with reservation := .queued }).replied 0x19 tag
                  [0x00#8, 0x01#8, BitVec.ofNat 8 (s.td.queue.length + 1)]).finish)))))

/-- The arbiter grants the oldest entry whose launch conditions hold (R27), and PURGE is granted at once for an UNKNOWN
carrier on an idle drive (R40): the carrier's reservation is MOVING, the move in flight is formed, and the pressure is asked
for. The move waits in AIR for a supply that must spin up, and is in DIVERT, its settle running, where the AS is READY and
diverter or valve stands wrong. Where no entry can launch, or a move is in flight, the arbiter does nothing. -/
def Obligations.GrantsTakeTheDrive : Prop :=
  (∀ (before after : List Entry) (e : Entry) (s : State), s.phase = .running → s.td.move = none →
    s.td.queue = before ++ e :: after → (∀ q ∈ before, s.canLaunch q = false) →
    (match e.dir with
      | .up => (s.carrier e.lane).location = .atBay ∧ (s.bay e.lane).present = true ∧ (s.bay e.lane).doorClosed = true ∧
          (s.laneRec e.lane).state = .opened
      | .down => (s.carrier e.lane).location = .atLane ∧ (s.laneRec e.lane).carrier = .yes ∧ (s.laneRec e.lane).door ≠ .no) →
    ∀ p, ((s.as.state = .economy ∧ s.as.duty.switchClosed = false ∨ s.as.state = .spinUp) ∧ p = MovePhase.air) ∨
        (s.as.state = .ready ∧ (s.td.diverter ≠ some e.lane ∨ s.td.valve ≠ some e.dir) ∧ p = .divert (s.now + 300)) →
      ∃ t, exec .arbiterGrant s = .next t ∧ t.td.queue = s.td.queue.filter (fun q => q.lane ≠ e.lane) ∧
        t.td.move = some { lane := e.lane, dir := e.dir, origin := e.origin, isPurge := false, phase := p } ∧
        t.carrier e.lane = { s.carrier e.lane with reservation := .moving } ∧
        (∀ k, k ≠ e.lane → t.carrier k = s.carrier k) ∧ t.as.demand = true ∧ t.as.driveHeld = true ∧
        t.as.state = (if s.as.state = .ready then .driving else .spinUp) ∧ t.li = s.li ∧ t.dp = s.dp ∧ t.jn = s.jn) ∧
  (∀ s : State, s.phase = .running → (s.td.move ≠ none ∨ ∀ q ∈ s.td.queue, s.canLaunch q = false) →
    exec .arbiterGrant s = .next s.finish) ∧
  ∀ (tag towards : Nat) (l : Lane) (s : State), s.Serves tag →
    (∀ n, n = 0 ∨ 4 < n → exec (.purge tag n towards) s = .next (s.refused 0x1A tag .malformed).finish) ∧
    (towards ≠ 1 → towards ≠ 2 → exec (.purge tag l.num towards) s = .next (s.refused 0x1A tag .malformed).finish) ∧
    (towards = 1 ∨ towards = 2 → s.td.move ≠ none → exec (.purge tag l.num towards) s = .next (s.refused 0x1A tag .busy).finish) ∧
    (towards = 1 ∨ towards = 2 → s.td.move = none → (s.carrier l).location ≠ .unknown →
      exec (.purge tag l.num towards) s = .next (s.refused 0x1A tag .wrongState).finish) ∧
    ∀ d, (towards = 1 ∧ d = Dir.down ∨ towards = 2 ∧ d = .up) → s.td.move = none → (s.carrier l).location = .unknown →
      s.as.state = .spinUp ∨ s.as.state = .economy ∧ s.as.duty.switchClosed = false →
      ∃ t, exec (.purge tag l.num towards) s = .next t ∧ t.lc.replies = s.lc.replies ++ [answer 0x1A tag [0x00#8]] ∧
        t.td.move = some { lane := l, dir := d, origin := .host, isPurge := true, phase := .air } ∧
        t.carrier l = { s.carrier l with reservation := .moving } ∧ t.td.queue = s.td.queue ∧ t.as.demand = true

/-- The drive's timers (R26, R29 to R32, R36, R41). The 300 ms settle records both positions and begins the launch, or a
purge's 30 s; a pass of a counted waypoint of the moving lane restarts the transit timer with the segment timeout as it
stands, or the purge's 30 s, and any other pass does nothing. An expired launch or purge timer ends the move with
MOVE_FAILED, its result and origin the snapshot, the location as it was. An expired transit timer is OVERDUE: the
location UNKNOWN, JAM and CARRIER_UNKNOWN held. An entry that has waited its 60 s is dropped, its
reservation NONE, whether the drive is idle or busy. -/
def Obligations.DriveTimersDoTheirWork : Prop :=
  (∀ (e : Entry) (s : State), s.phase ≠ .off → s.td.move = none → s.td.entry e.lane = some e → s.lc.conds.length = 69 →
    ∃ t, exec (.queueWaitExpiry e.lane) s = .next t ∧ t.now = max s.now (e.time + 60000) ∧
      t.td = { s.td with queue := s.td.queue.filter (fun q => q.lane ≠ e.lane), carriers := t.td.carriers } ∧
      t.carrier e.lane = { s.carrier e.lane with reservation := .none } ∧ (∀ k, k ≠ e.lane → t.carrier k = s.carrier k) ∧
      t.lc.conds[(Cond.lane e.lane .moveFailed).num - 1]?.map (·.snapshot) =
        some (some [0x01#8, BitVec.ofNat 8 e.origin.code])) ∧
  ∀ (m : Move) (due : Nat) (s : State), s.phase ≠ .off → s.td.move = some m → s.lc.conds.length = 69 →
    (m.phase = .divert due → m.isPurge = true →
      exec .divertSettleDone s = .next (({ s with
        now := max s.now due
        td := { s.td with diverter := some m.lane, valve := some m.dir,
                          move := some { m with phase := .purging (max s.now due + 30000) } } } : State).finish)) ∧
    (m.phase = .divert due → m.isPurge = false → s.leftOrigin m.lane m.dir = false → s.atDestination m.lane m.dir = false →
      exec .divertSettleDone s = .next (({ s with
        now := max s.now due
        td := { s.td with diverter := some m.lane, valve := some m.dir,
                          move := some { m with phase := .launch (max s.now due + 2000) } } } : State).finish)) ∧
    (∀ k, 1 ≤ k → k ≤ (s.laneRec m.lane).set.waypoints → ∀ p,
      (m.phase = .transit due ∧ p = .transit (s.now + (s.laneRec m.lane).set.segTimeout)) ∨
        (m.phase = .purging due ∧ p = .purging (s.now + 30000)) →
      exec (.waypointPass m.lane k) s =
        .next (({ s with td := { s.td with move := some { m with phase := p } } } : State).finish)) ∧
    (∀ l k, l ≠ m.lane ∨ k = 0 ∨ (s.laneRec m.lane).set.waypoints < k → exec (.waypointPass l k) s = .next s.finish) ∧
    (∀ c result, (c = .launchTimeout ∧ m.phase = .launch due ∧ result = MoveResult.launchFailed) ∨
        (c = .purgeTimeout ∧ m.phase = .purging due ∧ result = .purgeExpired) →
      ∃ t, exec c s = .next t ∧ t.now = max s.now due ∧ t.td.move = none ∧ t.td.queue = s.td.queue ∧
        t.carrier m.lane = { s.carrier m.lane with reservation := .none } ∧ (∀ k, k ≠ m.lane → t.carrier k = s.carrier k) ∧
        t.lc.isPending (Cond.lane m.lane .moveFailed).num = true ∧
        t.lc.conds[(Cond.lane m.lane .moveFailed).num - 1]?.map (·.snapshot) =
          some (some [BitVec.ofNat 8 result.code, BitVec.ofNat 8 m.origin.code]) ∧
        t.as.demand = false ∧ t.as.driveHeld = false ∧ t.li = s.li ∧ t.dp = s.dp) ∧
    (m.phase = .transit due → ∃ t, exec .transitTimeout s = .next t ∧ t.now = max s.now due ∧ t.td.move = none ∧
      t.carrier m.lane = { s.carrier m.lane with location := .unknown, reservation := .none } ∧
      (t.laneRec m.lane).reasons.jam = true ∧ (t.laneRec m.lane).reasons.carrierUnknown = true ∧
      t.lc.isPending (Cond.lane m.lane .overdue).num = true ∧ t.td.entry m.lane = none ∧ t.as.driveHeld = false) ∧
    ∀ e, s.td.entry e.lane = some e → e.lane ≠ m.lane →
      ∃ t, exec (.queueWaitExpiry e.lane) s = .next t ∧ t.now = max s.now (e.time + 60000) ∧ t.td.move = some m ∧
        t.td.queue = s.td.queue.filter (fun q => q.lane ≠ e.lane) ∧
        t.carrier e.lane = { s.carrier e.lane with reservation := .none } ∧
        t.lc.conds[(Cond.lane e.lane .moveFailed).num - 1]?.map (·.snapshot) =
          some (some [0x01#8, BitVec.ofNat 8 e.origin.code])

/-- What the end of SETTLE reports, the drive falling idle (R33, R34, R41, R115, R116). An UP arrival raises CARRIER_AT_LANE,
a DOWN arrival CARRIER_AT_BAY, a purge's find the one of the end where the carrier was found, removing CARRIER_UNKNOWN; a
fall-back raises neither. A carrier at the lane's end makes a SENT load DELIVERED. At the bay a DELIVERED load in an empty
carrier closes TAKEN and one in a carrier with content enters AWAITING_CLOSE, as does a SENT load that a fall-back or a find
brings to the bay. That the end of a find removes CARRIER_UNKNOWN also where the location has become UNKNOWN since, by a
departure in the SETTLE, is the model's choice (notes/assumptions/14.md). -/
def Obligations.SettleEndsTheMove : Prop :=
  ∀ (m : Move) (due : Nat) (after : SettleOf) (s : State), s.phase ≠ .off → s.td.move = some m →
    m.phase = .settle due after → s.lc.conds.length = 69 →
    (∃ t, exec .settleEnd s = .next t ∧ t.now = max s.now due ∧ t.td.move = none ∧
      (t.carrier m.lane).reservation = .none ∧ (t.carrier m.lane).location = (s.carrier m.lane).location ∧
      (∀ k, k ≠ m.lane → (t.carrier k).location = (s.carrier k).location ∧
        (t.carrier k).reservation = (s.carrier k).reservation) ∧ t.as.driveHeld = false ∧
      (after = .find → (t.laneRec m.lane).reasons.carrierUnknown = false) ∧ (after ≠ .find → t.li = s.li) ∧
      ((after = .arrival ∧ m.dir = .down) ∨ (after = .find ∧ (s.carrier m.lane).location = .atBay) →
        t.lc.isPending (Cond.lane m.lane .carrierAtBay).num = true) ∧
      ((after = .arrival ∧ m.dir = .up) ∨ (after = .find ∧ (s.carrier m.lane).location = .atLane) →
        t.lc.isPending (Cond.lane m.lane .carrierAtLane).num = true) ∧
      (after = .fallBack →
        t.lc.isPending (Cond.lane m.lane .carrierAtBay).num = s.lc.isPending (Cond.lane m.lane .carrierAtBay).num ∧
        t.lc.isPending (Cond.lane m.lane .carrierAtLane).num = s.lc.isPending (Cond.lane m.lane .carrierAtLane).num)) ∧
    ((after = .arrival ∧ m.dir = .up) ∨ (after = .fallBack ∧ m.dir = .down) ∨
        (after = .find ∧ (s.carrier m.lane).location = .atLane) → s.outstandingState m.lane = some .sent →
      ∃ t, exec .settleEnd s = .next t ∧ t.outstandingState m.lane = some .delivered) ∧
    ∀ id ld, (after = .arrival ∧ m.dir = .down) ∨ (after = .fallBack ∧ m.dir = .up) ∨
        (after = .find ∧ (s.carrier m.lane).location = .atBay) → (s.bay m.lane).present = true →
      (s.carrier m.lane).outstanding = some id → s.load id = some ld →
      (ld.state = .delivered → (s.bay m.lane).content = false → ∃ t, exec .settleEnd s = .next t ∧ t.load id = none ∧
        t.lc.conds[(Cond.lane ld.lane .loadClosed).num - 1]?.map (·.snapshot) = some (some [BitVec.ofNat 8 id, 0x01#8]) ∧
        t.lc.isPending (Cond.lane ld.lane .loadClosed).num = true ∧
        (ld.lane = m.lane → (t.carrier m.lane).outstanding = none)) ∧
      ((ld.state = .delivered ∧ (s.bay m.lane).content = true) ∨ (ld.state = .sent ∧ after ≠ .arrival) →
        ∃ t, exec .settleEnd s = .next t ∧ t.load id = some { ld with state := .awaitingClose } ∧
          t.lc.isPending (Cond.lane m.lane .loadAwaitingClose).num = true)

/-- The bay's carrier present sensor (R30, R33, R34, R37 to R39, R41): a level that does not change means nothing, the model's
choice (notes/assumptions/6.md); a rise in a DOWN transit is the arrival, SETTLE running 400 ms with the pressure released; in
an UP transit it is a fall-back, MOVE_FAILED with FELL_BACK; in a purge of the lane it is the find; a fall in an UP launch puts
the carrier in the tube, MOVING_UP under the segment timeout; a rise for a carrier UNKNOWN that no purge holds is a late
arrival, the location AT_BAY and CARRIER_UNKNOWN removed, a SENT load entering AWAITING_CLOSE; one for a carrier AT_LANE that
no move holds is a relocation by hand, its queued entry dropped with LOCATION_CHANGED; a fall with nothing at work at the
bay changes the level alone. -/
def Obligations.BayPresenceFollowsTheCarrier : Prop :=
  ∀ (l : Lane) (s : State), s.phase = .running → s.lc.conds.length = 69 →
    (∀ p, (s.bay l).present = p → exec (.bayCarrierPresentChange l p) s = .next s.finish) ∧
    (∀ m due, (s.bay l).present = false → s.td.move = some m → m.lane = l → m.isPurge = false → m.dir = .down →
      m.phase = .transit due →
      ∃ t, exec (.bayCarrierPresentChange l true) s = .next t ∧ (t.bay l).present = true ∧
        (t.carrier l).location = .atBay ∧ t.td.move = some { m with phase := .settle (s.now + 400) .arrival } ∧
        t.as.demand = false ∧ t.lc.conds = s.lc.conds ∧ t.dp = s.dp) ∧
    (∀ m due, (s.bay l).present = false → s.td.move = some m → m.lane = l → m.isPurge = false → m.dir = .up →
      m.phase = .transit due →
      ∃ t, exec (.bayCarrierPresentChange l true) s = .next t ∧ (t.bay l).present = true ∧
        (t.carrier l).location = .atBay ∧ t.td.move = some { m with phase := .settle (s.now + 400) .fallBack } ∧
        t.lc.conds[(Cond.lane l .moveFailed).num - 1]?.map (·.snapshot) = some (some [0x08#8, BitVec.ofNat 8 m.origin.code]) ∧
        t.as.demand = false ∧ t.dp = s.dp) ∧
    (∀ m, (s.bay l).present = false → s.td.move = some m → m.lane = l → m.isPurge = true →
      (∀ due after, m.phase ≠ .settle due after) →
      ∃ t, exec (.bayCarrierPresentChange l true) s = .next t ∧ (t.bay l).present = true ∧
        (t.carrier l).location = .atBay ∧ t.td.move = some { m with phase := .settle (s.now + 400) .find } ∧
        t.as.demand = false ∧ t.lc.conds = s.lc.conds ∧ t.dp = s.dp) ∧
    (∀ m due, (s.bay l).present = true → s.td.move = some m → m.lane = l → m.isPurge = false → m.dir = .up →
      m.phase = .launch due → (s.laneRec l).carrier ≠ .yes → s.ss.shuttle = .home → s.cu.hand = none →
      ∃ t, exec (.bayCarrierPresentChange l false) s = .next t ∧ (t.bay l).present = false ∧
        (t.carrier l).location = .movingUp ∧
        t.td.move = some { m with phase := .transit (s.now + (s.laneRec l).set.segTimeout) } ∧
        (s.outstandingState l = some .presented → t.outstandingState l = some .sent) ∧ t.as = s.as ∧ t.lc.conds = s.lc.conds) ∧
    ((s.bay l).present = false → (s.carrier l).location = .unknown →
      s.td.move = none ∨ (∃ m due after, s.td.move = some m ∧ m.lane = l ∧ m.isPurge = false ∧ m.phase = .settle due after) →
      s.td.entry l = none →
      ∃ t, exec (.bayCarrierPresentChange l true) s = .next t ∧ (t.bay l).present = true ∧ t.td.move = s.td.move ∧
        (t.carrier l).location = .atBay ∧ (t.laneRec l).reasons = { (s.laneRec l).reasons with carrierUnknown := false } ∧
        t.lc.isPending (Cond.lane l .lateArrival).num = true ∧
        ∀ id ld, (s.carrier l).outstanding = some id → s.load id = some ld → ld.state = .sent →
          t.load id = some { ld with state := .awaitingClose } ∧ t.lc.isPending (Cond.lane l .loadAwaitingClose).num = true) ∧
    ((s.bay l).present = false → (s.carrier l).location = .atLane → (∀ m, s.td.move = some m → m.lane ≠ l) →
      ∃ t, exec (.bayCarrierPresentChange l true) s = .next t ∧ (t.bay l).present = true ∧ t.td.move = s.td.move ∧
        (t.carrier l).location = .atBay ∧ t.td.entry l = none ∧ t.lc.isPending (Cond.lane l .carrierAtBay).num = true ∧
        (∀ e, s.td.entry l = some e → (t.carrier l).reservation = .none ∧
          t.lc.conds[(Cond.lane l .moveFailed).num - 1]?.map (·.snapshot) =
            some (some [0x04#8, BitVec.ofNat 8 e.origin.code])) ∧
        ∀ id ld, (s.carrier l).outstanding = some id → s.load id = some ld → ld.state = .delivered →
          ((s.bay l).content = false → t.load id = none) ∧
          ((s.bay l).content = true → t.load id = some { ld with state := .awaitingClose })) ∧
    ((s.bay l).present = true → s.td.move = none → s.ss.shuttle = .home → s.cu.hand = none →
      exec (.bayCarrierPresentChange l false) s = .next (s.modBay l fun b => { b with present := false }).finish)

/-- The bay's content and door (R23, R31, R108, R109, R110, R130): content that a push has brought ends it, the load
PRESENTED in the carrier, the reservation released and the shuttle on its way back, and with auto-send on an UP move is asked
for, origin AUTO_SEND; at a bay with no push the level alone changes. A door that opens before the launch of an UP move, in
AIR, DIVERT or LAUNCH, fails it with DOOR_OPENED, a setting in the middle of its settle becoming not known (R29); it aborts a
push, the withdrawal beginning, and a lift, the arm returning. A door level that does not change means nothing, the model's
choice (notes/assumptions/6.md). -/
def Obligations.BayContentAndDoorAct : Prop :=
  ∀ (l : Lane) (s : State), s.phase = .running →
    (∀ (due id n : Nat) (ld : Load), s.ss.shuttle = .pushing l due → s.ss.delivery = .presenting id n →
      (s.bay l).present = true → (s.carrier l).location = .atBay → s.td.move = none → s.load id = some ld →
      (ld.autoSend = false →
        ∃ t, exec (.bayContentChange l true) s = .next t ∧ (t.carrier l).outstanding = some id ∧
          ((s.carrier l).reservation = .presenting → (t.carrier l).reservation = .none) ∧
          t.load id = some { ld with state := .presented, holdDue := none, expiryMarked := false } ∧
          t.ss = { s.ss with delivery := .empty, shuttle := .returning l (s.now + 1500) } ∧
          (s.lc.conds.length = 69 → t.lc.isPending (Cond.lane l .loadPresented).num = true) ∧ t.td.queue = s.td.queue) ∧
      (ld.autoSend = true → (s.carrier l).reservation = .presenting → (s.laneRec l).state = .opened → s.td.entry l = none →
        ∃ t, exec (.bayContentChange l true) s = .next t ∧ (t.carrier l).outstanding = some id ∧
          (t.carrier l).reservation = .queued ∧
          t.td.queue = s.td.queue ++ [{ lane := l, dir := .up, origin := .autoSend, time := s.now }] ∧
          t.load id = some { ld with state := .presented, holdDue := none, expiryMarked := false,
                                     autoSendResult := some (.queued (s.td.queue.length + 1)) } ∧
          t.ss = { s.ss with delivery := .empty, shuttle := .returning l (s.now + 1500) }) ∧
      (ld.autoSend = true → (s.carrier l).reservation = .presenting → (s.laneRec l).state = .closed →
        ∃ t, exec (.bayContentChange l true) s = .next t ∧ (t.carrier l).reservation = .none ∧ t.td.queue = s.td.queue ∧
          t.load id = some { ld with state := .presented, holdDue := none, expiryMarked := false,
                                     autoSendResult := some (.refused .laneNotOpen) })) ∧
    (∀ content, s.ss.shuttle = .home → exec (.bayContentChange l content) s =
      .next (s.modBay l fun b => { b with content := content }).finish) ∧
    (∀ c, (s.bay l).doorClosed = c → exec (.bayDoorChange l c) s = .next s.finish) ∧
    ((s.bay l).doorClosed = false →
      exec (.bayDoorChange l true) s = .next (s.modBay l fun b => { b with doorClosed := true }).finish) ∧
    ((s.bay l).doorClosed = true → s.td.move = none →
      (s.ss.shuttle = .home → s.cu.hand = none →
        exec (.bayDoorChange l false) s = .next (s.modBay l fun b => { b with doorClosed := false }).finish) ∧
      (∀ due, s.ss.shuttle = .pushing l due → s.cu.hand = none →
        exec (.bayDoorChange l false) s = .next (({ s with ss := { s.ss with
          shuttle := .withdrawing l (s.now + 1500) .aborted } } : State).modBay l fun b => { b with doorClosed := false }).finish) ∧
      (∀ h, s.ss.shuttle = .home → s.cu.hand = some h → s.cu.state = .lifting → h.bay = l → h.returning = none →
        exec (.bayDoorChange l false) s = .next (({ s with cu := { s.cu with hand := some { h with
          returning := some .aborted, due := some (s.now + 1000) } } } : State).modBay l fun b =>
            { b with doorClosed := false }).finish)) ∧
    (∀ m, (s.bay l).doorClosed = true → s.td.move = some m → m.lane = l → m.isPurge = false → m.dir = .up →
      m.phase = .air ∨ (∃ due, m.phase = .divert due) ∨ (∃ due, m.phase = .launch due) → s.lc.conds.length = 69 →
      ∃ t, exec (.bayDoorChange l false) s = .next t ∧ t.td.move = none ∧ (t.bay l).doorClosed = false ∧
        t.carrier l = { s.carrier l with reservation := .none } ∧ t.as.demand = false ∧
        t.lc.conds[(Cond.lane l .moveFailed).num - 1]?.map (·.snapshot) = some (some [0x07#8, BitVec.ofNat 8 m.origin.code]) ∧
        ((∃ due, m.phase = .divert due) → s.td.diverter ≠ some l → t.td.diverter = none) ∧
        ((∃ due, m.phase = .divert due) → s.td.valve ≠ some .up → t.td.valve = none))

/-! ## Air supply (chapter 3) -/

/-- The AIR requests (R59 to R62). AIR_SETTINGS clamps its two times and applies the mode, the times and auto-switch at
once, with their effects: DIRECTED stops the idle count, AUTO begins it anew in READY with the drive-held mark clear, and a
count that stands at its new threshold leads to ECONOMY, or to a refresh run, in the same step. The duty choice is applied in
ECONOMY and FAULT alone; in FAULT a GOOD duty blower, or a GOOD standby under auto-switch, leads to ECONOMY. AIR_ECONOMY
stops a blower that no move needs, AIR_WAKE begins a spin-up without a demand, AIR_RESET makes a FAILED blower GOOD, which
leaves FAULT for ECONOMY where it is the duty blower or auto-switch takes it up. What a state does not allow is refused BUSY or
WRONG_STATE, a value that is none of its set MALFORMED, and nothing changes. That the
counts are compared with the new limits before the duty choice is applied, and that a choice in ECONOMY swaps to a FAILED
blower too, the state staying ECONOMY, are the model's choices (notes/assumptions/15.md). -/
def Obligations.AirRequestsGoByTheState : Prop :=
  ∀ (tag : Nat) (s : State), s.Serves tag →
    (∀ mode idle refresh auto duty, (mode ≠ 1 ∧ mode ≠ 2) ∨ 1 < auto ∨ (duty ≠ 1 ∧ duty ≠ 2) →
      exec (.airSettings tag mode idle refresh auto duty) s = .next (s.refused 0x20 tag .malformed).finish) ∧
    (∀ (mode idle refresh auto threshold interval : Nat) (chosen : AB) (count : Count) (body : AB → List Byte),
      mode = 1 ∨ mode = 2 → auto ≤ 1 → threshold = max 10 (min 600 idle) → interval = max 60 (min 3600 refresh) →
      count = (if mode = 2 then Count.zero
        else if s.as.set.directed = true ∧ s.as.state = .ready ∧ s.as.driveHeld = false then ⟨0, some s.now⟩ else s.as.idle) →
      body = (fun w => 0x00#8 :: (u8 mode ++ u16 threshold ++ u16 interval ++ u8 auto ++ u8 (abCode w))) →
      ∀ set : AirSettings, set = ⟨s.as.set.duty, mode == 2, threshold, interval, auto == 1⟩ →
      (s.as.state ∈ [.driving, .spinUp, .refresh] ∨
          (s.as.state = .ready ∧ (mode = 2 ∨ count.since = none ∨ count.value s.now < threshold * 1000)) ∨
          (s.as.state = .economy ∧ chosen = s.as.set.duty ∧
            (s.as.refresh.since = none ∨ s.as.refresh.value s.now < interval * 1000)) →
        exec (.airSettings tag mode idle refresh auto (abCode chosen)) s = .next ((({ s.counted with
          as := { s.as with idle := count, set := set } } : State).replied 0x20 tag (body s.as.set.duty)).finish)) ∧
      (s.lc.conds.length = 69 →
        (s.as.state = .ready → mode = 1 → count.since ≠ none → threshold * 1000 ≤ count.value s.now →
          ∃ t, exec (.airSettings tag mode idle refresh auto (abCode chosen)) s = .next t ∧ t.as.state = .economy ∧
            t.as.idle = Count.zero ∧ t.as.refresh = ⟨0, some s.now⟩ ∧ t.as.set = { set with duty := chosen } ∧
            t.lc.replies = s.lc.replies ++ [answer 0x20 tag (body chosen)]) ∧
        (s.as.state = .economy → chosen ≠ s.as.set.duty →
          s.as.refresh.since = none ∨ s.as.refresh.value s.now < interval * 1000 →
          ∃ t, exec (.airSettings tag mode idle refresh auto (abCode chosen)) s = .next t ∧
            t.as = { s.as with idle := count, set := { set with duty := chosen } } ∧ t.lc.isPending 68 = true ∧
            t.lc.replies = s.lc.replies ++ [answer 0x20 tag (body chosen)]) ∧
        (s.as.state = .economy → s.as.refresh.since ≠ none → interval * 1000 ≤ s.as.refresh.value s.now →
          ∃ t, exec (.airSettings tag mode idle refresh auto (abCode chosen)) s = .next t ∧ t.as.state = .refresh ∧
            t.as.set = set ∧ t.as.started = some s.now ∧ t.as.refresh.since = none ∧
            t.lc.replies = s.lc.replies ++ [answer 0x20 tag (body s.as.set.duty)]) ∧
        (s.as.state = .fault →
          ((s.as.blower chosen).failed = false ∨ (auto = 1 ∧ (s.as.blower chosen.other).failed = false) →
            ∃ t w, exec (.airSettings tag mode idle refresh auto (abCode chosen)) s = .next t ∧
              w = (if (s.as.blower chosen).failed = false then chosen else chosen.other) ∧ t.as.state = .economy ∧
              t.as.set = { set with duty := w } ∧ t.as.refresh = ⟨0, some s.now⟩ ∧ (t.zone .airFail).cause = false ∧
              t.lc.isPending 68 = true ∧ t.lc.replies = s.lc.replies ++ [answer 0x20 tag (body w)]) ∧
          ((s.as.blower chosen).failed = true → auto = 0 ∨ (s.as.blower chosen.other).failed = true →
            ∃ t, exec (.airSettings tag mode idle refresh auto (abCode chosen)) s = .next t ∧
              t.as = { s.as with idle := count, set := { set with duty := chosen } } ∧
              t.lc.replies = s.lc.replies ++ [answer 0x20 tag (body chosen)])))) ∧
    (∀ c kind, (c = Instr.airEconomy tag ∧ kind = 0x21) ∨ (c = .airWake tag ∧ kind = 0x22) →
      s.as.state = .fault → exec c s = .next (s.refused kind tag .wrongState).finish) ∧
    (s.as.state = .driving ∨ (s.as.state = .ready ∧ s.as.driveHeld = true) ∨ (s.as.state = .spinUp ∧ s.as.demand = true) →
      exec (.airEconomy tag) s = .next (s.refused 0x21 tag .busy).finish) ∧
    (s.as.state ∈ [.economy, .refresh] →
      exec (.airEconomy tag) s = .next (s.counted.replied 0x21 tag [0x00#8, BitVec.ofNat 8 s.as.state.code]).finish) ∧
    ((s.as.state = .ready ∧ s.as.driveHeld = false) ∨ (s.as.state = .spinUp ∧ s.as.demand = false) →
      exec (.airEconomy tag) s = .next ((({ s.counted with as := { s.as with
        state := .economy, started := none, closedInRun := false, idle := Count.zero, refresh := ⟨0, some s.now⟩ } } :
          State).replied 0x21 tag [0x00#8, 0x01#8]).finish)) ∧
    (s.as.state ∈ [.spinUp, .ready, .driving] →
      exec (.airWake tag) s = .next (s.counted.replied 0x22 tag [0x00#8, BitVec.ofNat 8 s.as.state.code]).finish) ∧
    (s.as.state = .economy → s.as.duty.switchClosed = false →
      ∃ t, exec (.airWake tag) s = .next t ∧ t.as.state = .spinUp ∧ t.as.demand = s.as.demand ∧ t.as.started = some s.now ∧
        t.as.refresh.since = none ∧ t.as.set = s.as.set ∧ t.lc.replies = s.lc.replies ++ [answer 0x22 tag [0x00#8, 0x03#8]]) ∧
    (s.as.state = .refresh → s.as.duty.switchClosed = false →
      ∃ t, exec (.airWake tag) s = .next t ∧ t.as = { s.as with state := .spinUp, closedInRun := false }) ∧
    (∀ n, n ≠ 1 → n ≠ 2 → exec (.airReset tag n) s = .next (s.refused 0x23 tag .malformed).finish) ∧
    ∀ which : AB,
      ((s.as.blower which).failed = false → exec (.airReset tag (abCode which)) s = .next (s.counted.replied 0x23 tag
        (0x00#8 :: (u8 s.as.blowerA.healthCode ++ u8 s.as.blowerB.healthCode ++ u8 (abCode s.as.set.duty) ++
          u8 s.as.state.code))).finish) ∧
      ((s.as.blower which).failed = true → s.lc.conds.length = 69 →
        ∃ t, exec (.airReset tag (abCode which)) s = .next t ∧ (t.as.blower which).failed = false ∧
          t.as.blower which.other = s.as.blower which.other ∧ t.lc.isPending 68 = true ∧
          (s.as.state ≠ .fault → t.as.state = s.as.state ∧ t.as.set = s.as.set) ∧
          (s.as.state = .fault → s.as.set.duty = which → t.as.state = .economy ∧ t.as.set = s.as.set ∧
            (t.zone .airFail).cause = false) ∧
          (s.as.state = .fault → s.as.set.duty ≠ which → s.as.duty.failed = true →
            (s.as.set.autoSwitch = true → t.as.state = .economy ∧ t.as.set = { s.as.set with duty := which } ∧
              (t.zone .airFail).cause = false) ∧
            (s.as.set.autoSwitch = false → t.as.state = .fault ∧ t.as.set = s.as.set)) ∧
          t.lc.replies = s.lc.replies ++ [answer 0x23 tag (0x00#8 :: (u8 t.as.blowerA.healthCode ++
            u8 t.as.blowerB.healthCode ++ u8 (abCode t.as.set.duty) ++ u8 t.as.state.code))] ∧
          t.li = s.li ∧ t.td = s.td ∧ t.dp = s.dp)

/-- The air supply's events (R48, R51 to R53, R55, R57, R58). The standby blower is stopped, the duty blower in ECONOMY and
FAULT, at hold speed in READY and at drive speed in DRIVING. The duty blower's switch closing ends a spin-up in DRIVING where
a demand is held, the waiting move going on, else in READY, and counts in a refresh run; the standby's is a level alone. Its
opening in READY or DRIVING, 3,000 ms without closing, or a refresh run that ends without it CLOSED, fails the blower: with
auto-switch on and a GOOD standby the roles swap and the new duty blower is started for the state, AIR_CHANGE's snapshot
giving the state after the swap; else the AS is in FAULT, its idle count 0, and a move in transit is OVERDUE, one before
launch fails. The idle count at its threshold, and a refresh run passed, lead to ECONOMY; the refresh count at its interval
begins a run. The run of start-up ends start-up with it, however it ends. That the opening of a switch that is open already
changes nothing, that a switch CLOSED at a run's start counts as having closed in it, and that a new duty blower whose
switch reads CLOSED is proved at once in DRIVING are the model's choices (notes/assumptions/6.md and 15.md). -/
def Obligations.AirEventsMoveTheSupply : Prop :=
  (∀ (s : State), s.phase = .running →
    (∀ w, s.as.set.duty ≠ w → ∃ t, exec (.pressureSwitchClose w) s = .next t ∧ (t.as.blower w).switchClosed = true ∧
      t.as.state = s.as.state ∧ t.as.duty = s.as.duty ∧ t = ({ s with as := t.as } : State).finish) ∧
    (s.as.state = .spinUp → s.as.demand = false → ∃ t, exec (.pressureSwitchClose s.as.set.duty) s = .next t ∧
      t.as.state = .ready ∧ t.as.started = none ∧ t.as.duty.switchClosed = true ∧
      t.as.idle = (if s.as.set.directed = false ∧ s.as.driveHeld = false then ⟨0, some s.now⟩ else ⟨0, none⟩) ∧
      t.td = s.td ∧ t.lc.conds = s.lc.conds) ∧
    (∀ m, s.as.state = .spinUp → s.as.demand = true → s.td.move = some m → m.phase = .air →
      (s.td.diverter ≠ some m.lane ∨ s.td.valve ≠ some m.dir) →
      ∃ t, exec (.pressureSwitchClose s.as.set.duty) s = .next t ∧ t.as.state = .driving ∧
        t.td.move = some { m with phase := .divert (s.now + 300) } ∧ t.lc.conds = s.lc.conds) ∧
    (s.as.state = .refresh → ∃ t, exec (.pressureSwitchClose s.as.set.duty) s = .next t ∧ t.as.closedInRun = true ∧
      t.as.state = .refresh) ∧
    (∀ w, (s.as.blower w).switchClosed = false ∨ s.as.set.duty ≠ w ∨ (s.as.state ≠ .ready ∧ s.as.state ≠ .driving) →
      ∃ t, exec (.pressureSwitchOpen w) s = .next t ∧ (t.as.blower w).switchClosed = false ∧
        t = ({ s with as := t.as } : State).finish ∧ t.as.state = s.as.state ∧ (t.as.blower w).failed = (s.as.blower w).failed) ∧
    (s.lc.conds.length = 69 → ∀ c,
      ((c = .pressureSwitchOpen s.as.set.duty ∧ s.as.duty.switchClosed = true) ∨ (c = .spinUpLimit ∧ s.as.started ≠ none)) →
      (s.as.set.autoSwitch = true → s.as.standby.failed = false →
        ((s.as.state = .ready ∨ (s.as.state = .spinUp ∧ c = .spinUpLimit)) → s.as.standby.switchClosed = false →
          ∃ t, exec c s = .next t ∧ t.as.set = { s.as.set with duty := s.as.set.duty.other } ∧ t.as.state = .spinUp ∧
            t.as.started = some t.now ∧ t.as.duty.failed = false ∧ t.as.standby.failed = true ∧ t.as.demand = s.as.demand ∧
            t.lc.isPending 68 = true ∧ t.lc.conds[67]?.map (·.snapshot) = some (some (u8 (abCode t.as.set.duty) ++
              u8 t.as.blowerA.healthCode ++ u8 t.as.blowerB.healthCode ++ [0x03#8])) ∧ t.td = s.td) ∧
        (s.as.state = .driving →
          ∃ t, exec c s = .next t ∧ t.as.set = { s.as.set with duty := s.as.set.duty.other } ∧ t.as.state = .driving ∧
            t.as.started = (if s.as.standby.switchClosed then none else some t.now) ∧ t.as.standby.failed = true ∧
            t.as.demand = s.as.demand ∧ t.lc.isPending 68 = true ∧ t.td = s.td)) ∧
      (s.as.set.autoSwitch = false ∨ s.as.standby.failed = true →
        s.as.state ∈ [.ready, .driving] ∨ (s.as.state = .spinUp ∧ c = .spinUpLimit) →
        ∃ t, exec c s = .next t ∧ t.as.state = .fault ∧ t.as.set = s.as.set ∧ t.as.duty.failed = true ∧
          (t.zone .airFail).cause = true ∧ t.as.started = none ∧ t.as.idle = Count.zero ∧ t.as.refresh.since = none ∧
          t.lc.isPending 68 = true ∧ (s.as.demand = false → t.td = s.td) ∧
          ∀ m, s.as.demand = true → s.td.move = some m →
            ((∃ due, m.phase = .transit due) → t.td.move = none ∧ (t.carrier m.lane).location = .unknown ∧
              (t.laneRec m.lane).reasons.jam = true ∧ (t.laneRec m.lane).reasons.carrierUnknown = true ∧
              t.lc.isPending (Cond.lane m.lane .overdue).num = true) ∧
            (m.phase = .air ∨ (∃ due, m.phase = .divert due) ∨ (∃ due, m.phase = .launch due) →
              t.td.move = none ∧ t.carrier m.lane = { s.carrier m.lane with reservation := .none } ∧
              t.lc.conds[(Cond.lane m.lane .moveFailed).num - 1]?.map (·.snapshot) =
                some (some [0x05#8, BitVec.ofNat 8 m.origin.code])) ∧
            (∀ due after, m.phase = .settle due after → t.td = s.td))) ∧
    (∀ since, s.as.state = .ready → s.as.set.directed = false → s.as.idle.since = some since →
      ∃ t, exec .idleThresholdReached s = .next t ∧
        t.now = max s.now (since + (s.as.set.idleThreshold * 1000 - s.as.idle.spent)) ∧ t.as.state = .economy ∧
        t.as.idle = ⟨0, none⟩ ∧ t.as.refresh = ⟨0, some t.now⟩ ∧ t.as.set = s.as.set) ∧
    (∀ since, s.as.state = .economy → s.as.refresh.since = some since →
      ∃ t, exec .refreshDue s = .next t ∧
        t.now = max s.now (since + (s.as.set.refreshInterval * 1000 - s.as.refresh.spent)) ∧ t.as.state = .refresh ∧
        t.as.started = some t.now ∧ t.as.closedInRun = s.as.duty.switchClosed ∧ t.as.refresh.since = none) ∧
    (∀ since, s.as.state = .refresh → s.as.started = some since → s.as.closedInRun = true → s.as.duty.switchClosed = true →
      ∃ t, exec .refreshRunEnd s = .next t ∧ t.now = max s.now (since + 2000) ∧ t.as.state = .economy ∧ t.as.started = none ∧
        t.as.refresh = ⟨0, some t.now⟩ ∧ t.lc.conds = s.lc.conds) ∧
    (∀ since, s.as.state = .refresh → s.as.started = some since →
      s.as.closedInRun = false ∨ s.as.duty.switchClosed = false → s.lc.conds.length = 69 →
      (s.as.set.autoSwitch = true → s.as.standby.failed = false →
        ∃ t, exec .refreshRunEnd s = .next t ∧ t.as.state = .refresh ∧ t.as.started = some t.now ∧
          t.as.set = { s.as.set with duty := s.as.set.duty.other } ∧ t.as.standby.failed = true ∧
          t.as.closedInRun = s.as.standby.switchClosed ∧ t.lc.isPending 68 = true ∧ t.td = s.td) ∧
      (s.as.set.autoSwitch = false ∨ s.as.standby.failed = true → s.as.demand = false →
        ∃ t, exec .refreshRunEnd s = .next t ∧ t.as.state = .fault ∧ t.as.duty.failed = true ∧ t.as.set = s.as.set ∧
          (t.zone .airFail).cause = true ∧ t.lc.isPending 68 = true ∧ t.td = s.td))) ∧
  (∀ s : State, s.as.blowerDrive s.as.set.duty.other = .stopped ∧
    (s.as.blowerDrive s.as.set.duty = .stopped ↔ s.as.state ∈ [.economy, .fault]) ∧
    (s.as.blowerDrive s.as.set.duty = .holdSpeed ↔ s.as.state = .ready) ∧
    (s.as.blowerDrive s.as.set.duty = .driveSpeed ↔ s.as.state = .driving)) ∧
  ∀ (since : Nat) (s : State), s.phase = .startUp .air → s.as.state = .refresh → s.as.started = some since →
    (s.as.closedInRun = true → s.as.duty.switchClosed = true →
      ∃ t, exec .refreshRunEnd s = .next t ∧ t.phase = .running ∧ t.as.state = .economy ∧ t.as.set = s.as.set ∧
        t.lc.notices.getLast? = some .start ∧ t.lc.startEnded = t.now ∧ t.now = max s.now (since + 2000)) ∧
    (s.as.closedInRun = false ∨ s.as.duty.switchClosed = false → s.as.set.autoSwitch = false ∨ s.as.standby.failed = true →
      s.as.demand = false → ∃ t, exec .refreshRunEnd s = .next t ∧ t.phase = .running ∧ t.as.state = .fault ∧
        t.as.duty.failed = true ∧ (t.zone .airFail).cause = true ∧ t.lc.notices.getLast? = some .start) ∧
    (s.as.closedInRun = false ∨ s.as.duty.switchClosed = false → s.as.set.autoSwitch = true → s.as.standby.failed = false →
      ∃ t, exec .refreshRunEnd s = .next t ∧ t.phase = .startUp .air ∧ t.as.state = .refresh ∧
        t.as.set.duty = s.as.set.duty.other)

/-! ## Cassettes and the note path (chapter 4) -/

/-- A load handed over to the idle dispenser, or one that waits, starts picking where the reject box has room for it (R68,
R69): the ceiling in force is fixed, the rejected count is 0, and the first note not yet accepted is picked, its cassette's
in-path 1 and its estimate one less, under the 250 ms arrival timer (R70). Without the room a load handed over waits. A miss
puts the counts back; before the third the same note is picked again, at the third the cassette is EMPTY and the load
fails with PICK_FAILED, the pick side purged (R70, R73, R96); that PICK_FAILED is coded 1 is the model's choice
(notes/assumptions/8.md). -/
def Obligations.PicksAndMisses : Prop :=
  ∀ (id : Nat) (ld : Load) (s : State), s.phase = .running → s.load id = some ld → s.nd.gauge = none →
    (∀ c, (c = .loadHandOver ∧ s.nd.state = .idle ∧ s.ss.pick = .empty ∧ s.dp.nextLoad = some id) ∨
        (c = .pickingStart ∧ s.nd.state = .waiting ∧ s.nd.current = some id) →
      (300 < s.nd.box + s.ss.notes + ld.planned.sum + s.dp.set.rejectCeiling + 2 →
        exec c s = .next (({ s with nd := { s.nd with state := .waiting, current := some id } } : State).finish)) ∧
      (s.nd.box + s.ss.notes + ld.planned.sum + s.dp.set.rejectCeiling + 2 ≤ 300 →
        ∀ (before after : List Cass) (k : Cass), ld.order = before ++ k :: after →
          (∀ b ∈ before, ld.planned.get b ≤ ld.accepted.get b) → ld.accepted.get k < ld.planned.get k →
          (s.cass k).kept.state ∈ [.present, .low] →
          ∃ t, exec c s = .next t ∧ t.load id = some { ld with state := .picking } ∧
            t.nd.state = .picking ∧ t.nd.current = some id ∧ t.nd.ceiling = s.dp.set.rejectCeiling ∧ t.nd.rejects = 0 ∧
            t.nd.pick = some k ∧ t.nd.lastPick = some k ∧ t.nd.arrivalDue = some (s.now + 250) ∧
            (t.cass k).kept.inPath = 1 ∧ (t.cass k).kept.estimate = (s.cass k).kept.estimate - 1 ∧
            (∀ j, j ≠ k → t.cass j = s.cass j) ∧ t.nd.box = s.nd.box ∧ t.ss = s.ss ∧ t.td = s.td)) ∧
    ∀ (k : Cass) (due : Nat), s.nd.pick = some k → s.nd.arrivalDue = some due → s.nd.current = some id →
      s.nd.stopping = false →
      ((s.cass k).kept.misses < 2 → ld.nextCass = some k → (s.cass k).kept.state ∈ [.present, .low] →
        ∃ t, exec .pickMiss s = .next t ∧ t.now = max s.now due ∧ (t.cass k).kept.misses = (s.cass k).kept.misses + 1 ∧
          (t.cass k).kept.estimate = (s.cass k).kept.estimate ∧ (t.cass k).kept.inPath = 1 ∧ t.nd.pick = some k ∧
          t.nd.arrivalDue = some (max s.now due + 250) ∧ t.load id = some ld ∧ t.nd.box = s.nd.box ∧ t.ss = s.ss) ∧
      ((s.cass k).kept.misses = 2 → s.lc.conds.length = 69 →
        ∃ t, exec .pickMiss s = .next t ∧ (t.cass k).kept.state = .empty ∧ (t.cass k).kept.misses = 3 ∧
          (t.cass k).kept.estimate = (s.cass k).kept.estimate + 1 ∧ (t.cass k).kept.inPath = 0 ∧
          t.load id = none ∧ t.ss.pick = .empty ∧ t.nd.box = min 300 (s.nd.box + s.ss.pick.notes) ∧
          t.lc.conds[(Cond.lane ld.lane .dispenseFailed).num - 1]?.map (·.snapshot) = some (some [BitVec.ofNat 8 id, 0x01#8]))

/-- The gauge (R71, R72, R75). A note of the pick in flight is judged by the thin and double limits of its cassette's
reference as they stand at the reading. A SINGLE joins the pick side, is the load's and the cassette's, and teaches the
reference an eighth of the difference, truncated toward zero; the last one planned stages the load, any other leads to the
next pick. A DOUBLE costs the estimate one note more and the box two, a THIN the box one; both count as rejects, and a count
past the ceiling fails the load, as does a fifth DOUBLE in a row, its cassette in FAULT. A stray note costs the last pick's
cassette and the box one. A note still there at 500 ms jams the path. That a stray note leaves the
misses as they are, that a jam on one hands a waiting load back and marks the note in the path, and that the causes are coded
1 to 3 are the model's choices (notes/assumptions/16.md and 8.md). -/
def Obligations.GaugeJudgesNotes : Prop :=
  ∀ (s : State), s.phase = .running →
    (∀ (t : Nat) (k : Cass), s.nd.state = .picking → s.nd.gauge = none → s.nd.pick = some k →
      ∃ u g, exec (.noteAtGauge t) s = .next u ∧ u.nd.gauge = some g ∧ g.cassette = some k ∧ g.stray = false ∧
        g.reading = 16 * t ∧ g.due = s.now + 500 ∧ u.nd.arrivalDue = none ∧ (u.cass k).kept.misses = 0 ∧
        (16 * t < (s.cass k).kept.thickness * 50 / 100 → g.outcome = .thin) ∧
        ((s.cass k).kept.thickness * 50 / 100 ≤ 16 * t →
          (s.cass k).kept.thickness * s.dp.set.doubleThreshold / 100 ≤ 16 * t → g.outcome = .double) ∧
        ((s.cass k).kept.thickness * 50 / 100 ≤ 16 * t →
          16 * t < (s.cass k).kept.thickness * s.dp.set.doubleThreshold / 100 → g.outcome = .single) ∧
        (∀ j, j ≠ k → u.cass j = s.cass j) ∧ u.dp = s.dp ∧ u.ss = s.ss) ∧
    (∀ t, s.nd.state ∈ [.idle, .waiting] → s.nd.gauge = none → s.nd.pick = none →
      exec (.noteAtGauge t) s = .next (({ s with nd := { s.nd with
        gauge := some ⟨s.nd.lastPick, true, .thin, 16 * t, s.now + 500⟩ } } : State).finish)) ∧
    (∀ (g : Gauge) (k : Cass), s.nd.gauge = some g → g.stray = true → g.cassette = some k →
      ∃ u, exec .noteLeavesGauge s = .next u ∧ u.nd.gauge = none ∧ u.nd.box = min 300 (s.nd.box + 1) ∧
        (u.cass k).kept.estimate = (s.cass k).kept.estimate - 1 ∧ (u.cass k).kept.rejected = (s.cass k).kept.rejected + 1 ∧
        (∀ j, j ≠ k → u.cass j = s.cass j) ∧ u.nd.rejects = s.nd.rejects ∧ u.dp = s.dp ∧ u.ss = s.ss) ∧
    (∀ (g : Gauge) (k : Cass) (id : Nat) (ld : Load), s.nd.gauge = some g → g.stray = false → g.cassette = some k →
      s.nd.current = some id → s.load id = some ld → s.nd.stopping = false → (s.cass k).kept.doubles < 4 →
      s.nd.rejects ≤ s.nd.ceiling →
      (g.outcome = .single → (∀ c ∈ ld.order, ld.planned.get c ≤ (ld.accepted.modify k (· + 1)).get c) →
        ∃ u, exec .noteLeavesGauge s = .next u ∧ u.nd.gauge = none ∧ u.nd.pick = none ∧ u.nd.state = .idle ∧
          u.nd.current = none ∧ u.load id = some { ld with accepted := ld.accepted.modify k (· + 1), state := .staged } ∧
          u.ss.pick = .full id (s.ss.pick.notes + 1) ∧ (u.cass k).kept.accepted = (s.cass k).kept.accepted + 1 ∧
          (u.cass k).kept.inPath = 0 ∧ (u.cass k).kept.doubles = 0 ∧ (u.cass k).committed = (s.cass k).committed - 1 ∧
          (u.cass k).kept.estimate = (s.cass k).kept.estimate ∧
          (u.cass k).kept.thickness = max 16 (min 16383 (((s.cass k).kept.thickness : Int) +
            ((g.reading : Int) - ((s.cass k).kept.thickness : Int)).tdiv 8).toNat) ∧ u.nd.box = s.nd.box) ∧
      (∀ n extra : Nat, (g.outcome = .double ∧ n = 2 ∧ extra = 1) ∨ (g.outcome = .thin ∧ n = 1 ∧ extra = 0) →
        (s.nd.rejects + n ≤ s.nd.ceiling → ld.nextCass = some k → (s.cass k).kept.state ∈ [.present, .low] →
          ∃ u, exec .noteLeavesGauge s = .next u ∧ u.nd.gauge = none ∧ u.nd.pick = some k ∧
            u.nd.arrivalDue = some (s.now + 250) ∧ u.nd.rejects = s.nd.rejects + n ∧ u.nd.box = min 300 (s.nd.box + n) ∧
            (u.cass k).kept.rejected = (s.cass k).kept.rejected + n ∧
            (u.cass k).kept.estimate = (s.cass k).kept.estimate - extra - 1 ∧ (u.cass k).kept.inPath = 1 ∧
            (u.cass k).kept.thickness = (s.cass k).kept.thickness ∧
            (u.cass k).kept.doubles = (if n = 2 then (s.cass k).kept.doubles + 1 else 0) ∧
            u.load id = some ld ∧ u.ss = s.ss) ∧
        (s.nd.ceiling < s.nd.rejects + n → s.lc.conds.length = 69 →
          ∃ u, exec .noteLeavesGauge s = .next u ∧ u.nd.state = .idle ∧ u.nd.current = none ∧ u.load id = none ∧
            u.ss.pick = .empty ∧ u.nd.box = min 300 (min 300 (s.nd.box + n) + s.ss.pick.notes) ∧
            u.lc.conds[(Cond.lane ld.lane .dispenseFailed).num - 1]?.map (·.snapshot) =
              some (some [BitVec.ofNat 8 id, 0x02#8])))) ∧
    (∀ (g : Gauge) (k : Cass) (id : Nat) (ld : Load), s.nd.gauge = some g → g.stray = false → g.cassette = some k →
      s.nd.current = some id → s.load id = some ld →
      (∀ j, g.outcome = .single → s.nd.stopping = false → s.nd.rejects ≤ s.nd.ceiling →
        ({ ld with accepted := ld.accepted.modify k (· + 1) } : Load).nextCass = some j →
        (s.cass j).kept.state ∈ [.present, .low] →
        ∃ u, exec .noteLeavesGauge s = .next u ∧ u.nd.gauge = none ∧ u.nd.state = s.nd.state ∧ u.nd.current = some id ∧
          u.nd.pick = some j ∧ u.nd.arrivalDue = some (s.now + 250) ∧
          u.load id = some { ld with accepted := ld.accepted.modify k (· + 1) } ∧
          u.ss.pick = .filling id (s.ss.pick.notes + 1) ∧ (u.cass j).kept.inPath = 1 ∧
          (u.cass j).kept.estimate = (s.cass j).kept.estimate - 1 ∧ (j ≠ k → (u.cass k).kept.inPath = 0) ∧
          (u.cass k).kept.accepted = (s.cass k).kept.accepted + 1 ∧ (u.cass k).kept.doubles = 0 ∧
          (u.cass k).committed = (s.cass k).committed - 1 ∧ u.nd.rejects = s.nd.rejects ∧ u.nd.box = s.nd.box) ∧
      (g.outcome = .double → (s.cass k).kept.doubles = 4 → s.lc.conds.length = 69 →
        ∃ u, exec .noteLeavesGauge s = .next u ∧ (u.cass k).kept.state = .fault ∧ (u.cass k).kept.doubles = 5 ∧
          (u.cass k).kept.estimate = (s.cass k).kept.estimate - 1 ∧
          (u.cass k).kept.rejected = (s.cass k).kept.rejected + 2 ∧ u.nd.state = .idle ∧ u.nd.current = none ∧
          u.load id = none ∧ u.ss.pick = .empty ∧ u.nd.box = min 300 (min 300 (s.nd.box + 2) + s.ss.pick.notes) ∧
          u.lc.conds[(Cond.lane ld.lane .dispenseFailed).num - 1]?.map (·.snapshot) =
            some (some [BitVec.ofNat 8 id, 0x01#8]))) ∧
    ∀ (g : Gauge), s.nd.gauge = some g → s.lc.conds.length = 69 →
      ∃ u, exec .gaugeTimeout s = .next u ∧ u.now = max s.now g.due ∧ u.nd.state = .fault ∧ u.nd.gauge = none ∧
        u.nd.current = none ∧ u.lc.isPending 59 = true ∧ (∀ k, (u.cass k).kept = (s.cass k).kept) ∧
        (g.stray = true → u.nd.strayInPath = true) ∧
        (∀ id ld, s.nd.state = .picking → s.nd.current = some id → s.load id = some ld → u.load id = none ∧
          u.lc.conds[(Cond.lane ld.lane .dispenseFailed).num - 1]?.map (·.snapshot) = some (some [BitVec.ofNat 8 id, 0x03#8]))

/-- The safe door halts the dispenser, failing the load it picks with HALTED, and its closing clears the path (R73, R76, R77,
R169); a clearing that finds the path clear charges each in-path note as a reject and ends IDLE, one that does not ends in
FAULT; start-up's clearing is followed by the refresh run (R58, R205). A cassette drawn out is ABSENT and one put in
UNCONFIRMED (R65). CLEAR_PATH, REPLENISH, CONFIRM and BOX_EMPTIED make their checks in order (R78, R79, R81, R82), a cassette
outside 1 to 4 being MALFORMED: REPLENISH and BOX_EMPTIED hand the JN their record and wait for its end: programmed, it sets
the cassette's ledger afresh, its state PRESENT or LOW unless it was drawn out, or leaves in the box what was added since the
handing; not programmed, nothing changes but the pending mark, and the reply is JOURNAL_UNAVAILABLE; CONFIRM takes up a
cassette that is not in use by its kept estimate. That a level which does not change does nothing, that HALTED is coded 4, and
that REPLENISH's reply gives the cassette first and the applied reference in its sixteenths, are the model's choices
(notes/assumptions/6.md and 8.md). -/
def Obligations.CassettesAndPathAreServed : Prop :=
  (∀ (s : State), s.phase = .running → s.lc.conds.length = 69 →
    (s.nd.safeDoorOpen = false → s.nd.state ∈ [.idle, .waiting, .clearing, .fault] →
      ∃ t, exec (.safeDoorChange true) s = .next t ∧ t.nd.safeDoorOpen = true ∧ t.nd.state = .halted ∧ t.nd.current = none ∧
        t.nd.clearingDue = none ∧ t.nd.cassettes = s.nd.cassettes ∧ (t.zone .safeDoor).cause = true ∧ t.dp = s.dp) ∧
    (∀ id ld, s.nd.safeDoorOpen = false → s.nd.state = .picking → s.nd.current = some id → s.load id = some ld →
      ∃ t, exec (.safeDoorChange true) s = .next t ∧ t.nd.safeDoorOpen = true ∧ t.nd.state = .halted ∧ t.nd.current = none ∧
        t.nd.pick = none ∧ t.nd.arrivalDue = none ∧ t.nd.gauge = none ∧ t.load id = none ∧ t.ss.pick = .empty ∧
        t.nd.box = min 300 (s.nd.box + s.ss.pick.notes) ∧ (∀ k, (t.cass k).kept = (s.cass k).kept) ∧
        (t.zone .safeDoor).cause = true ∧ t.lc.conds[(Cond.lane ld.lane .dispenseFailed).num - 1]?.map (·.snapshot) =
          some (some [BitVec.ofNat 8 id, 0x04#8])) ∧
    (∀ opened, s.nd.safeDoorOpen = opened → exec (.safeDoorChange opened) s = .next s.finish) ∧
    (s.nd.safeDoorOpen = true → s.ss.pick = .empty →
      ∃ t, exec (.safeDoorChange false) s = .next t ∧ t.nd.safeDoorOpen = false ∧ t.nd.state = .clearing ∧
        t.nd.clearingDue = some (s.now + 2000) ∧ t.nd.cassettes = s.nd.cassettes ∧ (t.zone .safeDoor).cause = false) ∧
    (∀ due, s.nd.clearingDue = some due →
      (∃ t, exec (.clearingEnd true) s = .next t ∧ t.now = max s.now due ∧ t.nd.state = .idle ∧ t.nd.clearingDue = none ∧
        t.nd.strayInPath = false ∧ (s.nd.strayInPath = false → ∀ k, (t.cass k).kept.inPath = 0 ∧
          (t.cass k).kept.rejected = (s.cass k).kept.rejected + (if (s.cass k).kept.inPath = 0 then 0 else 1) ∧
          (t.cass k).kept.estimate = (s.cass k).kept.estimate)) ∧
      (∃ t, exec (.clearingEnd false) s = .next t ∧ t.nd.state = .fault ∧ t.nd.clearingDue = none ∧
        t.nd.cassettes = s.nd.cassettes ∧ t.nd.box = s.nd.box ∧ t.lc.isPending 59 = true)) ∧
    ∀ (k : Cass) (b : Bool),
      ((s.cass k).slot = b → exec (.cassetteSensorChange k b) s = .next s.finish) ∧
      ((s.cass k).slot ≠ b → ∃ t, exec (.cassetteSensorChange k b) s = .next t ∧ (t.cass k).slot = b ∧
        (t.cass k).kept = { (s.cass k).kept with state :=
          if b = false then .absent else if (s.cass k).kept.state = .absent then .unconfirmed else (s.cass k).kept.state } ∧
        (∀ j, j ≠ k → t.cass j = s.cass j) ∧
        ((t.cass k).kept.state ≠ (s.cass k).kept.state → t.lc.isPending 57 = true))) ∧
  (∀ (due : Nat) (clear : Bool) (s : State), s.phase = .startUp .notePath → s.nd.clearingDue = some due →
    ∃ t, exec (.clearingEnd clear) s = .next t ∧ t.phase = .startUp .air ∧ t.now = max s.now due ∧
      t.nd.state = (if clear then .idle else .fault) ∧ t.as.state = .refresh ∧ t.as.started = some (max s.now due) ∧
      t.as.set = s.as.set) ∧
  (∀ (r : Record) (s : State), s.phase = .running →
    (∀ (k : Cass) (q : Replenishing), s.appending (.replenish k) r → (s.cass k).pending = some q →
      (∃ t, exec (.journalProgramDone []) s = .next t ∧ (∀ j, j ≠ k → t.cass j = s.cass j) ∧
        t.cass k = { s.cass k with pending := none, kept := { (s.cass k).kept with
          denomination := some q.denomination, loaded := q.count, estimate := q.count, inPath := 0, accepted := 0, rejected := 0,
          misses := 0, doubles := 0, thickness := max 16 (min 16383 (q.nominal * 16)), low := q.low
          state := if (s.cass k).kept.state = .absent then .absent else if q.count ≤ q.low then .low else .present } } ∧
        (s.lc.conds.length = 69 → (t.cass k).kept.state ≠ (s.cass k).kept.state → t.lc.isPending 57 = true) ∧
        t.lc.replies = s.lc.replies ++ [answer 0x28 q.tag (0x00#8 :: (u8 k.num ++ u24 q.denomination ++ u16 q.count ++
          u16 (t.cass k).kept.thickness ++ u16 q.low ++ u8 (t.cass k).kept.state.code))]) ∧
      (s.lastChance → ∃ t, exec (.journalProgramDone [0xFF#8]) s = .next t ∧
        t.cass k = { s.cass k with pending := none } ∧ (∀ j, j ≠ k → t.cass j = s.cass j) ∧
        t.lc.replies = s.lc.replies ++ [answer 0x28 q.tag [0x17#8]])) ∧
    ∀ e, s.appending .boxEmptied r → s.nd.emptying = some e →
      (∃ t, exec (.journalProgramDone []) s = .next t ∧ t.nd = { s.nd with emptying := none, box := min 300 e.added } ∧
        t.lc.replies = s.lc.replies ++ [answer 0x2C e.tag (0x00#8 :: u16 e.count)]) ∧
      (s.lastChance → ∃ t, exec (.journalProgramDone [0xFF#8]) s = .next t ∧ t.nd = { s.nd with emptying := none } ∧
        t.lc.replies = s.lc.replies ++ [answer 0x2C e.tag [0x17#8]])) ∧
  ∀ (tag : Nat) (s : State), s.Serves tag →
    (∀ n, n = 0 ∨ 4 < n → exec (.confirm tag n) s = .next (s.refused 0x29 tag .malformed).finish ∧
      ∀ denomination count nominal low,
        exec (.replenish tag n denomination count nominal low) s = .next (s.refused 0x28 tag .malformed).finish) ∧
    (s.nd.state ∈ [.picking, .waiting] → exec (.clearPath tag) s = .next (s.refused 0x2B tag .busy).finish) ∧
    (s.nd.state = .halted → exec (.clearPath tag) s = .next (s.refused 0x2B tag .dispenserHalted).finish) ∧
    (s.nd.state = .clearing → exec (.clearPath tag) s = .next (s.counted.replied 0x2B tag [0x00#8, 0x05#8]).finish) ∧
    (s.nd.state ∈ [.fault, .idle] → s.ss.pick = .empty →
      ∃ t, exec (.clearPath tag) s = .next t ∧ t.nd.state = .clearing ∧ t.nd.clearingDue = some (s.now + 2000) ∧
        t.lc.replies = s.lc.replies ++ [answer 0x2B tag [0x00#8, 0x05#8]] ∧ t.nd.cassettes = s.nd.cassettes) ∧
    (s.nd.safeDoorOpen = false → exec (.boxEmptied tag) s = .next (s.refused 0x2C tag .wrongState).finish) ∧
    (s.nd.safeDoorOpen = true → s.nd.emptying ≠ none → exec (.boxEmptied tag) s = .next (s.refused 0x2C tag .busy).finish) ∧
    (s.nd.safeDoorOpen = true → s.nd.emptying = none → s.jn.failed = true ∨ s.jn.free ≤ 16 →
      exec (.boxEmptied tag) s = .next (s.refused 0x2C tag .journalUnavailable).finish) ∧
    (s.nd.safeDoorOpen = true → s.nd.emptying = none → s.jn.failed = false → 16 < s.jn.free → s.jn.exhausted = false →
      ∃ t, exec (.boxEmptied tag) s = .next t ∧ t.nd = { s.nd with emptying := some ⟨tag, s.nd.box, 0⟩ } ∧
        t.jn.queue = s.jn.queue ++ [{ owner := .boxEmptied, work := .append ⟨.boxEmptied, 0, s.jn.counter, s.lc.clock,
          u16 s.nd.box, false, true⟩ }] ∧ t.jn.claims = s.jn.claims + 1) ∧
    ∀ (k : Cass),
      ((s.cass k).kept.state = .absent ∨ (s.cass k).kept.denomination = none →
        exec (.confirm tag k.num) s = .next (s.refused 0x29 tag .wrongState).finish) ∧
      ((s.cass k).kept.state ≠ .absent → (s.cass k).kept.denomination ≠ none → (s.cass k).pending ≠ none →
        exec (.confirm tag k.num) s = .next (s.refused 0x29 tag .busy).finish) ∧
      ((s.cass k).kept.state ≠ .absent → (s.cass k).kept.denomination ≠ none → (s.cass k).pending = none →
        ∃ t, exec (.confirm tag k.num) s = .next t ∧ (∀ j, j ≠ k → t.cass j = s.cass j) ∧
          ((s.cass k).kept.state ∈ [.present, .low] → t.cass k = s.cass k) ∧
          ((s.cass k).kept.state ∈ [.unconfirmed, .empty, .fault] → (t.cass k).kept = { (s.cass k).kept with
            misses := 0, doubles := 0,
            state := if (s.cass k).kept.estimate ≤ ((s.cass k).kept.low : Int) then .low else .present })) ∧
      ∀ denomination count nominal low,
        (denomination < 100 ∨ 100000 < denomination ∨ 2500 < count →
          exec (.replenish tag k.num denomination count nominal low) s = .next (s.refused 0x28 tag .malformed).finish) ∧
        (100 ≤ denomination → denomination ≤ 100000 → count ≤ 2500 →
          ((s.cass k).kept.state = .absent →
            exec (.replenish tag k.num denomination count nominal low) s = .next (s.refused 0x28 tag .wrongState).finish) ∧
          ((s.cass k).kept.state ≠ .absent → (s.cass k).kept.inPath ≠ 0 ∨ (s.cass k).committed ≠ 0 ∨ (s.cass k).pending ≠ none →
            exec (.replenish tag k.num denomination count nominal low) s = .next (s.refused 0x28 tag .busy).finish) ∧
          ((s.cass k).kept.state ≠ .absent → (s.cass k).kept.inPath = 0 → (s.cass k).committed = 0 →
            (s.cass k).pending = none → s.nd.current = none →
            (s.jn.failed = true ∨ s.jn.free ≤ 16 → exec (.replenish tag k.num denomination count nominal low) s =
              .next (s.refused 0x28 tag .journalUnavailable).finish) ∧
            (s.jn.failed = false → 16 < s.jn.free → s.jn.exhausted = false →
              ∃ t, exec (.replenish tag k.num denomination count nominal low) s = .next t ∧
                t.cass k = { s.cass k with pending := some ⟨tag, denomination, count, nominal, min 2500 low⟩ } ∧
                (∀ j, j ≠ k → t.cass j = s.cass j) ∧
                t.jn.queue = s.jn.queue ++ [{ owner := .replenish k, work := .append ⟨.replenish, 0, s.jn.counter, s.lc.clock,
                  replenishBody k denomination count nominal (s.cass k).kept.estimate, false, true⟩ }])))

/-! ## Dispense planning (chapter 5) -/

/-- A plan pays the amount exactly (R91 to R93): the notes' denominations sum to it, their number is within the note ceiling
and above none, no cassette gives more than its availability, and the notes are split into at most four loads, each
within the capacity, that hold between them each planned note once. -/
def Obligations.PlansPayTheAmountExactly : Prop :=
  ∀ (amount : Nat) (p : Plan) (s : State), s.plan amount = .ok p →
    (Ix4.all.map fun c => p.notes.get c * ((s.cass c).kept.denomination.getD 0)).sum = amount ∧
    1 ≤ p.notes.sum ∧ p.notes.sum ≤ s.dp.set.noteCeiling ∧ (∀ c, p.notes.get c ≤ (s.cass c).available) ∧
    p.loads.length ≤ 4 ∧ (∀ n ∈ p.loads, n.sum ≤ s.dp.set.capacity) ∧
    ∀ c, (p.loads.map (Four.get · c)).sum = p.notes.get c

/-- DISPENSE makes its checks in the order of R87 and answers the first that fails, a lane outside 1 to 4 or an auto-send
value above 1 being MALFORMED; a refusal at the mix carries the amount tried, clamped under duress (R89), and the CLAMPED
flag, and is made only where the search of R91 holds no plan: NO_MIX where no combination it tries is exact and above none,
NOTE_CEILING where one is exact and above the note ceiling or the four loads' capacity. An accepted request commits its notes,
creates a PLANNED load for each trip, joins the tail of the dispense queue and is answered with them (R88); an idle dispenser
takes the first load in the same step, picking it or, without room in the reject box, holding it WAITING (R69, R95). That it
takes none while a stray note is at the gauge is the model's choice (notes/assumptions/16.md). -/
def Obligations.DispenseIsCheckedAndPlanned : Prop :=
  (∀ (tag n amount auto reference : Nat) (s : State), s.Serves tag → n = 0 ∨ 4 < n ∨ 1 < auto →
    exec (.dispense tag n amount auto reference) s = .next (s.refused 0x31 tag .malformed).finish) ∧
  ∀ (tag amount auto reference planned : Nat) (l : Lane) (s : State), s.Serves tag → auto ≤ 1 →
    planned = (if s.au.zones.holdupA.state = .locked ∨ s.au.zones.holdupB.state = .locked
      then min amount s.dp.set.duressCeiling else amount) →
    ((s.carrier l).location = .unknown →
      exec (.dispense tag l.num amount auto reference) s = .next (s.refused 0x31 tag .carrierElsewhere).finish) ∧
    ((s.carrier l).location ≠ .unknown →
      ((s.laneRec l).state = .closed →
        exec (.dispense tag l.num amount auto reference) s = .next (s.refused 0x31 tag .laneNotOpen).finish) ∧
      ((s.laneRec l).state = .outOfService →
        exec (.dispense tag l.num amount auto reference) s = .next (s.refused 0x31 tag .laneBlocked).finish) ∧
      ((s.laneRec l).state = .opened →
        (s.nd.state ∈ [.halted, .fault] →
          exec (.dispense tag l.num amount auto reference) s = .next (s.refused 0x31 tag .dispenserHalted).finish) ∧
        (s.nd.state ∉ [.halted, .fault] →
          (s.jn.failed = true ∨ s.jn.free ≤ 16 →
            exec (.dispense tag l.num amount auto reference) s = .next (s.refused 0x31 tag .journalUnavailable).finish) ∧
          (s.jn.failed = false → 16 < s.jn.free →
            (amount < 1 ∨ 10000000 < amount →
              exec (.dispense tag l.num amount auto reference) s = .next (s.refused 0x31 tag .malformed).finish) ∧
            (1 ≤ amount → amount ≤ 10000000 →
              (∀ code, s.plan planned = .error code → exec (.dispense tag l.num amount auto reference) s =
                .next (s.counted.replied 0x31 tag (u8 code.num ++ u32 planned ++ yesNo (decide (planned < amount)))).finish ∧
                ((code = .noMix ∧ ∀ xs, searched s.pools planned xs → xs.sum = 0) ∨
                  (code = .noteCeiling ∧ ∃ xs, searched s.pools planned xs ∧
                    (s.dp.set.noteCeiling < xs.sum ∨ 4 * s.dp.set.capacity < xs.sum)))) ∧
              ∀ p, s.plan planned = .ok p →
                ((∃ n ∈ p.loads, 300 < s.nd.box + n.sum + s.dp.set.rejectCeiling + 2) →
                  exec (.dispense tag l.num amount auto reference) s = .next (s.refused 0x31 tag .boxFull).finish) ∧
                ((∀ n ∈ p.loads, s.nd.box + n.sum + s.dp.set.rejectCeiling + 2 ≤ 300) →
                  s.nd.box + s.dp.set.rejectCeiling + 2 ≤ 300 →
                  (3 ≤ s.dp.queue.length →
                    exec (.dispense tag l.num amount auto reference) s = .next (s.refused 0x31 tag .queueFull).finish) ∧
                  (s.dp.queue.length < 3 → 8 < s.dp.loads.length + p.loads.length →
                    exec (.dispense tag l.num amount auto reference) s = .next (s.refused 0x31 tag .tableFull).finish) ∧
                  (s.dp.queue.length < 3 → s.dp.loads.length + p.loads.length ≤ 8 →
                    ∃ t new ids, exec (.dispense tag l.num amount auto reference) s = .next t ∧
                      new.map (·.planned) = p.loads ∧ new.map (·.id) = ids ∧
                      (∀ ld ∈ new, ld.lane = l ∧ ld.state = .planned ∧ ld.reference = reference ∧ ld.amount = s.worth ld.planned ∧
                        ld.accepted = Four.const 0 ∧ ld.count = p.loads.length ∧ ld.autoSend = (auto == 1)) ∧
                      t.dp.queue = s.dp.queue ++ [⟨l, reference, auto == 1, amount, planned, decide (planned < amount), ids⟩] ∧
                      (∀ c, (t.cass c).committed = (s.cass c).committed + p.notes.get c) ∧
                      t.lc.replies = s.lc.replies ++ [answer 0x31 tag (0x00#8 :: (u32 planned ++
                        u8 (if planned < amount then 1 else 0) ++ p.notes.toList.flatMap u8 ++ u8 p.loads.length ++
                        new.flatMap (fun ld => u8 ld.id ++ u8 ld.planned.sum ++ u32 ld.amount) ++ [0x00#8]))] ∧
                      (s.nd.state ≠ .idle ∨ s.dp.queue ≠ [] ∨ s.nd.gauge ≠ none ∨ s.ss.pick ≠ .empty →
                        t.dp.loads = s.dp.loads ++ new ∧ t.nd = { s.nd with cassettes := t.nd.cassettes } ∧
                        (∀ c, (t.cass c).kept = (s.cass c).kept) ∧ t.lc.conds = s.lc.conds) ∧
                      (s.nd.state = .idle → s.dp.queue = [] → s.nd.gauge = none → s.ss.pick = .empty →
                        ∃ first rest, new = first :: rest ∧ t.nd.current = some first.id ∧
                          (s.nd.box + s.ss.notes + first.planned.sum + s.dp.set.rejectCeiling + 2 ≤ 300 →
                            t.nd.state = .picking ∧ t.nd.ceiling = s.dp.set.rejectCeiling ∧ t.nd.rejects = 0 ∧
                            t.load first.id = some { first with state := .picking } ∧
                            t.nd.arrivalDue = some (s.now + 250) ∧ ∃ k, t.nd.pick = some k ∧ 0 < first.planned.get k ∧
                              (t.cass k).kept.inPath = 1 ∧ (t.cass k).kept.estimate = (s.cass k).kept.estimate - 1) ∧
                          (300 < s.nd.box + s.ss.notes + first.planned.sum + s.dp.set.rejectCeiling + 2 →
                            t.nd.state = .waiting ∧ t.dp.loads = s.dp.loads ++ new ∧ t.nd.pick = s.nd.pick)))))))))

/-- CANCEL_DISPENSE takes a lane's live loads by their states (R97, R98), a lane outside 1 to 4 being MALFORMED. Of a lane's
one load: one PLANNED closes CANCELLED and its notes are no longer committed, one STAGED or HELD closes PURGED, its notes in
the reject box, one PRESENTED at the bay closes RETURNED, one whose pick is in flight waits for it, one PRESENTING is
withdrawn in 1,500 ms (R110, R112) and loses its expiry mark in the step in which the cancel is taken, where R112 names no
step; one on its way is left, and TOO_LATE the answer. Of several, each goes by its own state, and the reply names them in the
order of their creation. For a load whose transfer is in progress the cancel waits, and is taken once the append has ended
(R105). That the cancel drops the mark in that step, and the order of the words' codes, are the model's choices
(notes/assumptions/17.md and 8.md). -/
def Obligations.CancelGoesByTheLoadsState : Prop :=
  (∀ (tag : Nat) (l : Lane) (s : State), s.Serves tag →
    (∀ n, n = 0 ∨ 4 < n → exec (.cancelDispense tag n) s = .next (s.refused 0x32 tag .malformed).finish) ∧
    (∀ lives : List Load, s.dp.loads.filter (fun x => x.lane = l) = lives → (s.dp.loads.map (·.id)).Nodup →
      s.dp.loads.length ≤ 8 → (∀ ld ∈ lives, ld.state ∈ [.planned, .sent, .delivered, .awaitingClose]) →
      (∃ ld ∈ lives, ld.state = .planned) → s.transferLane ≠ some l →
      ∃ t, exec (.cancelDispense tag l.num) s = .next t ∧
        t.dp.loads = s.dp.loads.filter (fun ld => ¬ (ld.lane = l ∧ ld.state = .planned)) ∧
        t.lc.replies = s.lc.replies ++ [answer 0x32 tag (0x00#8 :: (u8 lives.length ++
          lives.flatMap (fun ld => u8 ld.id ++ u8 (if ld.state = .planned then 1 else 6)) ++ [0x00#8]))] ∧
        t.ss = s.ss ∧ t.nd.box = s.nd.box ∧ t.jn = s.jn) ∧
    ((∀ ld ∈ s.dp.loads, ld.lane ≠ l) → s.transferLane ≠ some l →
      exec (.cancelDispense tag l.num) s = .next (s.refused 0x32 tag .noSuchLoad).finish) ∧
    (s.transferLane = some l → exec (.cancelDispense tag l.num) s =
      .next (({ s.counted with ss := { s.ss with deferred := s.ss.deferred ++ [(tag, l)] } } : State).finish)) ∧
    ∀ ld : Load, s.dp.loads.filter (fun x => x.lane = l) = [ld] → s.load ld.id = some ld → s.transferLane ≠ some l →
      (ld.state ∈ [.sent, .delivered, .awaitingClose] →
        exec (.cancelDispense tag l.num) s = .next (s.refused 0x32 tag .tooLate).finish) ∧
      (ld.state = .planned → ∃ t, exec (.cancelDispense tag l.num) s = .next t ∧ t.load ld.id = none ∧
        t.lc.replies = s.lc.replies ++ [answer 0x32 tag [0x00#8, 0x01#8, BitVec.ofNat 8 ld.id, 0x01#8, 0x00#8]] ∧
        (∀ c, (t.cass c).committed = (s.cass c).committed - (ld.planned.get c - ld.accepted.get c)) ∧
        t.nd.box = s.nd.box ∧ t.ss = s.ss ∧ t.jn = s.jn) ∧
      (ld.state = .staged → ∃ t, exec (.cancelDispense tag l.num) s = .next t ∧ t.load ld.id = none ∧
        t.lc.replies = s.lc.replies ++ [answer 0x32 tag [0x00#8, 0x01#8, BitVec.ofNat 8 ld.id, 0x02#8, 0x00#8]] ∧
        t.ss = { s.ss with pick := .empty } ∧ t.nd.box = min 300 (s.nd.box + s.ss.pick.notes) ∧ t.jn = s.jn) ∧
      (∀ q, ld.state = .held → ld.seq = some q → ∃ t, exec (.cancelDispense tag l.num) s = .next t ∧ t.load ld.id = none ∧
        t.lc.replies = s.lc.replies ++ [answer 0x32 tag [0x00#8, 0x01#8, BitVec.ofNat 8 ld.id, 0x02#8, 0x00#8]] ∧
        t.ss.delivery = .empty ∧ t.ss.owed = s.ss.owed ++ [⟨q, .purged, ld.planned.sum⟩] ∧
        t.nd.box = min 300 (s.nd.box + s.ss.delivery.notes)) ∧
      (∀ q, ld.state = .presented → (s.carrier l).reservation = .none → (s.carrier l).outstanding = some ld.id →
        ld.seq = some q → ∃ t, exec (.cancelDispense tag l.num) s = .next t ∧ t.load ld.id = none ∧
          t.lc.replies = s.lc.replies ++ [answer 0x32 tag [0x00#8, 0x01#8, BitVec.ofNat 8 ld.id, 0x03#8, 0x00#8]] ∧
          (t.carrier l).outstanding = none ∧ t.ss.owed = s.ss.owed ++ [⟨q, .returned, ld.planned.sum⟩] ∧ t.nd.box = s.nd.box) ∧
      (ld.state = .picking → s.nd.pick ≠ none → exec (.cancelDispense tag l.num) s =
        .next ((({ s.counted with nd := { s.nd with stopping := true } } : State).replied 0x32 tag
          [0x00#8, 0x01#8, BitVec.ofNat 8 ld.id, 0x04#8, 0x00#8]).finish)) ∧
      (∀ due, ld.state = .presenting → s.ss.shuttle = .pushing l due → ∃ t, exec (.cancelDispense tag l.num) s = .next t ∧
        t.ss = { s.ss with shuttle := .withdrawing l (s.now + 1500) .cancelled } ∧
        t.load ld.id = some { ld with expiryMarked := false } ∧
        t.lc.replies = s.lc.replies ++ [answer 0x32 tag [0x00#8, 0x01#8, BitVec.ofNat 8 ld.id, 0x05#8, 0x00#8]])) ∧
  ∀ (tag : Nat) (l : Lane) (rest : List (Nat × Lane)) (s : State), s.phase = .running → s.ss.deferred = (tag, l) :: rest →
    (s.ss.transfer ≠ none → exec .deferredCancelDispense s = .next s.finish) ∧
    ∀ ld : Load, s.ss.transfer = none → s.dp.loads.filter (fun x => x.lane = l) = [ld] → s.load ld.id = some ld →
      ld.state ∈ [.staged, .held] → ∃ t, exec .deferredCancelDispense s = .next t ∧ t.load ld.id = none ∧
        t.ss.deferred = rest ∧
        t.lc.replies = s.lc.replies ++ [answer 0x32 tag [0x00#8, 0x01#8, BitVec.ofNat 8 ld.id, 0x02#8, 0x00#8]] ∧
        (ld.state = .staged → t.ss.pick = .empty) ∧ (ld.state = .held → t.ss.delivery = .empty)

/-! ## Stacker, shuttle and loads (chapter 6) -/

/-- The transfer and the presentation begin as their conditions allow (R42, R103, R107, R108). With the pick side FULL, the
delivery side and the owed closes empty and room in the journal, the LOAD record is handed to the JN and the load is the
transfer in progress; with any of it missing nothing changes. The reservation of the HELD load's carrier is asked for and
refused with the first reason of R42 that holds, which the load keeps, or granted, the shuttle pushing for 4,000 ms. The
programmed LOAD record ends the transfer: the bundle is on the delivery side, the load HELD with its record's sequence and the
stage hold running, LOAD_HELD risen; a transfer that ends without a record leaves the load STAGED (R104). -/
def Obligations.TransferAndPresentationBegin : Prop :=
  ∀ (id n : Nat) (ld : Load) (s : State), s.phase = .running → s.load id = some ld →
    (s.ss.pick = .full id n →
      (s.ss.delivery = .empty → s.ss.transfer = none → s.ss.owed = [] → s.ss.deferred = [] → s.jn.failed = false →
        16 < s.jn.free → s.jn.exhausted = false →
        ∃ t, exec .transferStart s = .next t ∧ t.ss = { s.ss with transfer := some ld.id } ∧
          t.jn.queue = s.jn.queue ++ [{ owner := .transfer ld.id, work := .append ⟨.load, ld.lane.num, s.jn.counter, s.lc.clock,
            u8 ld.id ++ u16 ld.reference ++ u8 (ld.index * 16 + ld.count) ++ u32 ld.amount ++ ld.planned.toList.flatMap u8,
            false, false⟩ }] ∧ t.jn.claims = s.jn.claims + 1 ∧ t.dp = s.dp ∧ t.td = s.td) ∧
      (s.ss.delivery ≠ .empty ∨ s.ss.transfer ≠ none ∨ s.ss.owed ≠ [] ∨ s.jn.failed = true ∨ s.jn.free ≤ 16 →
        exec .transferStart s = .next s.finish)) ∧
    (∀ r, s.ss.pick = .full id n → s.appending (.transfer id) r → s.lc.conds.length = 69 →
      (∃ t, exec (.journalProgramDone []) s = .next t ∧ t.load id = some { ld with
          state := .held, seq := some r.seq, holdDue := some (s.now + s.ss.stageHold * 1000) } ∧
        t.ss = { s.ss with transfer := none, pick := .empty, delivery := .holding id n } ∧
        t.lc.isPending (Cond.lane ld.lane .loadHeld).num = true ∧
        t.lc.conds[(Cond.lane ld.lane .loadHeld).num - 1]?.map (·.snapshot) = some (some [BitVec.ofNat 8 id]) ∧
        t.td = s.td ∧ t.nd = s.nd ∧ t.cu = s.cu) ∧
      (s.lastChance → ∃ t, exec (.journalProgramDone [0xFF#8]) s = .next t ∧ t.ss = { s.ss with transfer := none } ∧
        t.dp = s.dp ∧ t.td = s.td ∧ t.nd = s.nd ∧ t.jn.failed = true)) ∧
    (s.ss.pick = .empty → exec .transferStart s = .next s.finish) ∧
    (s.ss.delivery = .holding id n → s.ss.shuttle = .home → ld.expiryMarked = false → s.ss.deferred = [] →
      (∀ reason,
        (((s.carrier ld.lane).location ≠ .atBay ∨ (s.bay ld.lane).present = false) ∧ reason = Code.carrierElsewhere) ∨
        ((s.carrier ld.lane).location = .atBay ∧ (s.bay ld.lane).present = true ∧
          (((s.carrier ld.lane).reservation ≠ .none ∧ reason = .carrierBusy) ∨
          ((s.carrier ld.lane).reservation = .none ∧
            (((s.carrier ld.lane).outstanding ≠ none ∧ reason = .loadOutstanding) ∨
            ((s.carrier ld.lane).outstanding = none ∧
              ((s.bayContent ld.lane ≠ .empty ∧ reason = .contentPresent) ∨
              (s.bayContent ld.lane = .empty ∧ (s.bay ld.lane).doorClosed = false ∧ reason = .bayDoorOpen))))))) →
        ∃ t, exec .presentingReservationRequest s = .next t ∧ t.load id = some { ld with lastRefusal := some reason } ∧
          t.ss = s.ss ∧ t.td = s.td ∧ t.lc.conds = s.lc.conds) ∧
      ((s.carrier ld.lane).location = .atBay → (s.bay ld.lane).present = true → (s.carrier ld.lane).reservation = .none →
        (s.carrier ld.lane).outstanding = none → s.bayContent ld.lane = .empty → (s.bay ld.lane).doorClosed = true →
        ∃ t, exec .presentingReservationRequest s = .next t ∧ t.load id = some { ld with state := .presenting } ∧
          t.carrier ld.lane = { s.carrier ld.lane with reservation := .presenting } ∧
          t.ss = { s.ss with delivery := .presenting id n, shuttle := .pushing ld.lane (s.now + 4000) } ∧
          t.lc.conds = s.lc.conds))

/-- The shuttle and the stage hold (R110 to R113): a push timer that runs out begins the withdrawal; at a withdrawal's end the
reservation is released and the shuttle HOME, the bundle HOLDING again after an abort, or purged at once where its stage hold
ran out meanwhile, purged and its load FAILED after a failed push, purged and PURGED after a cancel; a return ends HOME. The
stage hold of a HELD load purges it, that of a PRESENTING one marks it. That a load keeps its expiry mark when its push timer
runs out, and that PRESENT_FAILED is coded 5 and HOLD_EXPIRED 6 in DISPENSE_FAILED, are the model's choices
(notes/assumptions/17.md and 8.md). -/
def Obligations.ShuttleAndStageHoldRun : Prop :=
  ∀ (l : Lane) (due id n : Nat) (ld : Load) (s : State), s.phase = .running → s.load id = some ld → ld.lane = l →
    s.lc.conds.length = 69 →
    (s.ss.shuttle = .pushing l due → exec .pushTimeout s = .next (({ s with
      now := max s.now due
      ss := { s.ss with shuttle := .withdrawing l (max s.now due + 1500) .pushFailed } } : State).finish)) ∧
    (s.ss.shuttle = .returning l due →
      exec .shuttleHome s = .next (({ s with now := max s.now due, ss := { s.ss with shuttle := .home } } : State).finish)) ∧
    (s.ss.delivery = .presenting id n → (s.carrier l).reservation = .presenting →
      (s.ss.shuttle = .withdrawing l due .aborted → ld.expiryMarked = false →
        ∃ t, exec .withdrawalEnd s = .next t ∧ t.now = max s.now due ∧ t.carrier l = { s.carrier l with reservation := .none } ∧
          t.ss = { s.ss with shuttle := .home, delivery := .holding id n } ∧ t.load id = some { ld with state := .held } ∧
          t.nd = s.nd) ∧
      (∀ q, s.ss.shuttle = .withdrawing l due .aborted → ld.expiryMarked = true → ld.seq = some q →
        ∃ t, exec .withdrawalEnd s = .next t ∧ (t.carrier l).reservation = .none ∧ t.ss.shuttle = .home ∧
          t.ss.delivery = .empty ∧ t.load id = none ∧ t.nd.box = min 300 (s.nd.box + n) ∧
          t.ss.owed = s.ss.owed ++ [⟨q, .purged, ld.planned.sum⟩] ∧
          t.lc.conds[(Cond.lane l .dispenseFailed).num - 1]?.map (·.snapshot) = some (some [BitVec.ofNat 8 id, 0x06#8])) ∧
      (∀ why outcome, (why = WithdrawWhy.pushFailed ∧ outcome = LoadOutcome.failed) ∨ (why = .cancelled ∧ outcome = .purged) →
        ∀ q, s.ss.shuttle = .withdrawing l due why → ld.seq = some q →
        ∃ t, exec .withdrawalEnd s = .next t ∧ (t.carrier l).reservation = .none ∧ t.ss.shuttle = .home ∧
          t.ss.delivery = .empty ∧ t.load id = none ∧ t.nd.box = min 300 (s.nd.box + n) ∧
          t.ss.owed = s.ss.owed ++ [⟨q, outcome, ld.planned.sum⟩] ∧
          t.lc.isPending (Cond.lane l .loadClosed).num = true ∧
          (why = .pushFailed → t.lc.conds[(Cond.lane l .dispenseFailed).num - 1]?.map (·.snapshot) =
            some (some [BitVec.ofNat 8 id, 0x05#8])))) ∧
    (∀ q, s.ss.delivery = .holding id n → ld.state = .held → ld.holdDue = some due → ld.seq = some q →
      ∃ t, exec .stageHoldExpiry s = .next t ∧ t.now = max s.now due ∧ t.load id = none ∧ t.ss.delivery = .empty ∧
        t.nd.box = min 300 (s.nd.box + n) ∧ t.ss.owed = s.ss.owed ++ [⟨q, .purged, ld.planned.sum⟩] ∧
        t.lc.conds[(Cond.lane l .dispenseFailed).num - 1]?.map (·.snapshot) = some (some [BitVec.ofNat 8 id, 0x06#8])) ∧
    (s.ss.delivery = .presenting id n → ld.state = .presenting → ld.holdDue = some due →
      ∃ t, exec .stageHoldExpiry s = .next t ∧ t.now = max s.now due ∧
        t.load id = some { ld with holdDue := none, expiryMarked := true } ∧ t.ss = s.ss ∧ t.nd = s.nd)

/-- LOAD_CLOSE (R121): an id of 0 or another outcome is MALFORMED, an id that no live load holds NO_SUCH_LOAD, and a live load
in any state but AWAITING_CLOSE is refused WRONG_STATE with its state. An AWAITING_CLOSE load closes with the outcome named
by the steps of R118, and the reply gives the id and the outcome. -/
def Obligations.LoadCloseEndsATrip : Prop :=
  ∀ (tag id outcome : Nat) (s : State), s.Serves tag →
    ((outcome ≠ 1 ∧ outcome ≠ 2) ∨ id = 0 →
      exec (.loadClose tag id outcome) s = .next (s.refused 0x35 tag .malformed).finish) ∧
    (outcome = 1 ∨ outcome = 2 → id ≠ 0 →
      (s.load id = none → exec (.loadClose tag id outcome) s = .next (s.refused 0x35 tag .noSuchLoad).finish) ∧
      ∀ ld, s.load id = some ld →
        (ld.state ≠ .awaitingClose → exec (.loadClose tag id outcome) s =
          .next (s.counted.replied 0x35 tag [0x1D#8, BitVec.ofNat 8 ld.state.code]).finish) ∧
        (∀ q, ld.state = .awaitingClose → ld.seq = some q → (s.carrier ld.lane).outstanding = some id → s.lc.conds.length = 69 →
          ∃ t, exec (.loadClose tag id outcome) s = .next t ∧ t.load id = none ∧ (t.carrier ld.lane).outstanding = none ∧
            t.ss.owed = s.ss.owed ++ [⟨q, if outcome = 1 then .taken else .returned, ld.planned.sum⟩] ∧
            t.lc.conds[(Cond.lane ld.lane .loadClosed).num - 1]?.map (·.snapshot) =
              some (some [BitVec.ofNat 8 id, BitVec.ofNat 8 outcome]) ∧
            t.lc.replies = s.lc.replies ++ [answer 0x35 tag [0x00#8, BitVec.ofNat 8 id, BitVec.ofNat 8 outcome]]))

/-! ## Envelope capture (chapter 7) -/

/-- CAPTURE makes its checks in the order of R127, the carrier's reservation last (R43), and answers the first that fails; a
bay outside 1 to 4 is MALFORMED. A capture that passes is opened (R128): the reservation CAPTURING, the next number taken and
the counter raised, the duress flag read, and the CAPTURE record handed to the JN; the reply waits for its end. Programmed, it
is answered OK with the number and the record's sequence, and the lift starts with its 2,000 ms, or, the bay door open or the
carrier gone, the capture is aborted before the arm moves, its record closed ABORTED, CAPTURE_DONE risen and the unit IDLE
again (R128, R129, R134); not programmed, the opening ends with JOURNAL_UNAVAILABLE. That the outcome ABORTED is coded 2, and
that a reservation which a RECALL has taken over meanwhile is not released, are the model's choices (notes/assumptions/8.md
and 14.md). -/
def Obligations.CaptureIsCheckedAndOpened : Prop :=
  (∀ (h : Capture) (opened : Nat) (r : Record) (s : State) (released : Carrier), s.phase = .running →
    s.lc.conds.length = 69 → s.cu.hand = some h → h.opening = some opened → s.appending .captureOpening r →
    released = (if (s.carrier h.bay).reservation = .capturing then { s.carrier h.bay with reservation := .none }
      else s.carrier h.bay) →
    ((s.bay h.bay).doorClosed = true → (s.bay h.bay).present = true →
      ∃ t, exec (.journalProgramDone []) s = .next t ∧ t.cu = { s.cu with
          state := .lifting, hand := some { h with seq := some r.seq, opening := none, due := some (s.now + 2000) } } ∧
        t.td = s.td ∧ t.lc.replies = s.lc.replies ++ [answer 0x38 opened (0x00#8 :: (u32 h.number ++ u32 r.seq))]) ∧
    ((s.bay h.bay).doorClosed = false ∨ (s.bay h.bay).present = false →
      ∃ t, exec (.journalProgramDone []) s = .next t ∧ t.cu.state = .idle ∧ t.cu.hand = none ∧ t.cu.set = s.cu.set ∧
        t.cu.bin = s.cu.bin ∧ t.carrier h.bay = released ∧ (∀ k, k ≠ h.bay → t.carrier k = s.carrier k) ∧
        t.lc.replies = s.lc.replies ++ [answer 0x38 opened (0x00#8 :: (u32 h.number ++ u32 r.seq))] ∧
        t.lc.isPending (Cond.captureDone).num = true ∧ t.lc.conds[(Cond.captureDone).num - 1]?.map (·.snapshot) =
          some (some (u8 h.bay.num ++ u32 h.number ++ [0x02#8])) ∧
        (s.cu.owed = none → s.jn.failed = false → t.cu.owed = none ∧ ∃ p, t.jn.queue = s.jn.queue.tail ++ [p] ∧
          p.work = .change ⟨r.seq, [], { RecFlags.none with aborted := true }, true⟩)) ∧
    (s.lastChance →
      ∃ t, exec (.journalProgramDone [0xFF#8]) s = .next t ∧ t.cu = { s.cu with state := .idle, hand := none } ∧
        t.carrier h.bay = released ∧ (∀ k, k ≠ h.bay → t.carrier k = s.carrier k) ∧
        t.lc.replies = s.lc.replies ++ [answer 0x38 opened [0x17#8]])) ∧
  ∀ (tag : Nat) (l : Lane) (s : State), s.Serves tag →
    (∀ n, n = 0 ∨ 4 < n → exec (.capture tag n) s = .next (s.refused 0x38 tag .malformed).finish) ∧
    (s.cu.state ≠ .idle ∨ (∃ h t, s.cu.hand = some h ∧ h.opening = some t) →
      exec (.capture tag l.num) s = .next (s.refused 0x38 tag .busy).finish) ∧
    (s.cu.state = .idle → s.cu.hand = none →
      (s.cu.set.exhausted = true → exec (.capture tag l.num) s = .next (s.refused 0x38 tag .wrongState).finish) ∧
      (s.cu.set.exhausted = false →
        (s.cu.bin.state ≠ .confirmed ∨ s.cu.exchange ≠ none →
          exec (.capture tag l.num) s = .next (s.refused 0x38 tag .binUnconfirmed).finish) ∧
        (s.cu.bin.state = .confirmed → s.cu.exchange = none →
          (s.cu.bin.capacity ≤ s.cu.bin.count → exec (.capture tag l.num) s = .next (s.refused 0x38 tag .binFull).finish) ∧
          (s.cu.bin.count < s.cu.bin.capacity →
            (s.jn.failed = true ∨ s.jn.free ≤ 16 ∨ s.cu.owed ≠ none →
              exec (.capture tag l.num) s = .next (s.refused 0x38 tag .journalUnavailable).finish) ∧
            (s.jn.failed = false → 16 < s.jn.free → s.cu.owed = none →
              (s.cu.printerReady = false → s.cu.set.stampRequired = true →
                exec (.capture tag l.num) s = .next (s.refused 0x38 tag .stampOut).finish) ∧
              (s.cu.printerReady = true ∨ s.cu.set.stampRequired = false →
                ((s.carrier l).location ≠ .atBay ∨ (s.bay l).present = false →
                  exec (.capture tag l.num) s = .next (s.refused 0x38 tag .carrierElsewhere).finish) ∧
                ((s.carrier l).location = .atBay → (s.bay l).present = true →
                  ((s.carrier l).reservation ≠ .none →
                    exec (.capture tag l.num) s = .next (s.refused 0x38 tag .carrierBusy).finish) ∧
                  ((s.carrier l).reservation = .none →
                    ((s.carrier l).outstanding ≠ none →
                      exec (.capture tag l.num) s = .next (s.refused 0x38 tag .loadOutstanding).finish) ∧
                    ((s.carrier l).outstanding = none → s.bayContent l ≠ .content →
                      exec (.capture tag l.num) s = .next (s.refused 0x38 tag .contentAbsent).finish) ∧
                    ((s.carrier l).outstanding = none → s.bayContent l = .content → s.jn.exhausted = false →
                      ∃ t, exec (.capture tag l.num) s = .next t ∧
                        t.carrier l = { s.carrier l with reservation := .capturing } ∧
                        (∀ k, k ≠ l → t.carrier k = s.carrier k) ∧ t.cu.state = .idle ∧
                        t.cu.hand = some ⟨l, s.cu.set.next, none, some tag, none, s.au.duress, none, true, none⟩ ∧
                        (s.cu.set.next < 4294967295 → t.cu.set = { s.cu.set with next := s.cu.set.next + 1 }) ∧
                        (s.cu.set.next = 4294967295 → t.cu.set = { s.cu.set with exhausted := true }) ∧
                        t.jn.queue = s.jn.queue ++ [{ owner := .captureOpening, work := .append ⟨.capture, l.num,
                          s.jn.counter, s.lc.clock, u32 s.cu.set.next, s.au.duress, false⟩ }] ∧
                        t.lc.replies = s.lc.replies ∧ t.lc.outstanding = s.lc.outstanding + 1)))))))))

/-- The capture's sequence (R129 to R134). The release begins the stamping, the print of the capture
number, the bay and the device clock, under its 1,000 ms, or, the printer OUT, the drop
with no stamp; the print's end or its timeout begins the drop under its 3,000 ms. A lift that times out is taken back in
1,000 ms, and at its end, as at that of an abort, the record is closed ABORTED. A sensed drop is counted into the bin and
ends the capture; one that is not in time closes the record DROP_FAULT and leaves the unit in FAULT, where the late drop
is still counted once. That DROPPED is coded 1 in CAPTURE_DONE is the model's choice (notes/assumptions/8.md). -/
def Obligations.CaptureRunsToItsEnd : Prop :=
  ∀ (h : Capture) (due q : Nat) (s : State), s.phase = .running → s.cu.hand = some h → h.seq = some q → h.opening = none →
    s.cu.owed = none → s.jn.failed = false → s.lc.conds.length = 69 →
    (s.cu.state = .lifting → h.returning = none →
      (s.cu.printerReady = true → exec .armRelease s = .next (({ s with cu := { s.cu with
        state := .stamping, print := some ⟨h.number, h.bay, s.lc.clock⟩
        hand := some { h with due := some (s.now + 1000) } } } : State).finish)) ∧
      (s.cu.printerReady = false → ∃ t, exec .armRelease s = .next t ∧ t.cu = { s.cu with
        state := .dropping, print := none, hand := some { h with stamp := some false, due := some (s.now + 3000) } } ∧
        t.jn.queue.map (·.work) = s.jn.queue.map (·.work) ++
          [.change ⟨q, [], { RecFlags.none with noStamp := true }, false⟩]) ∧
      (h.due = some due → exec .liftTimeout s = .next (({ s with
        now := max s.now due
        cu := { s.cu with hand := some { h with returning := some .liftFailed, due := some (max s.now due + 1000) } } } :
          State).finish))) ∧
    (∀ why, s.cu.state = .lifting → h.returning = some why → h.due = some due → (s.carrier h.bay).reservation = .capturing →
      ∃ t, exec .armReturnEnd s = .next t ∧ t.now = max s.now due ∧ t.cu = { s.cu with state := .idle, hand := none } ∧
        t.carrier h.bay = { s.carrier h.bay with reservation := .none } ∧
        t.jn.queue.map (·.work) = s.jn.queue.map (·.work) ++
          [.change ⟨q, [], { RecFlags.none with aborted := true }, true⟩] ∧
        (why = .liftFailed → t.lc.isPending 61 = true) ∧ (why = .aborted → t.lc.isPending 60 = true)) ∧
    (s.cu.state = .stamping →
      (exec (.printReport true) s = .next (({ s with cu := { s.cu with
        state := .dropping, print := none
        hand := some { h with stamp := some true, due := some (s.now + 3000) } } } : State).finish)) ∧
      (∀ c now, (c = .printReport false ∧ now = s.now) ∨ (c = .printTimeout ∧ h.due = some due ∧ now = max s.now due) →
        ∃ t, exec c s = .next t ∧ t.now = now ∧ t.cu = { s.cu with
          state := .dropping, print := none, hand := some { h with stamp := some false, due := some (now + 3000) } } ∧
          t.jn.queue.map (·.work) = s.jn.queue.map (·.work) ++
            [.change ⟨q, [], { RecFlags.none with noStamp := true }, false⟩])) ∧
    (s.cu.state = .dropping → (s.carrier h.bay).reservation = .capturing →
      (∃ t, exec .dropSensed s = .next t ∧ t.cu = { s.cu with
          state := .idle, hand := none, bin := { s.cu.bin with count := s.cu.bin.count + 1 } } ∧
        t.carrier h.bay = { s.carrier h.bay with reservation := .none } ∧
        t.jn.queue.map (·.work) = s.jn.queue.map (·.work) ++ [.change ⟨q,
          [(28, BitVec.ofNat 8 ((s.cu.bin.count + 1) / 256)), (29, BitVec.ofNat 8 (s.cu.bin.count + 1))],
          { RecFlags.none with noStamp := h.stamp == some false }, true⟩] ∧
        t.lc.conds[59]?.map (·.snapshot) =
          some (some (u8 h.bay.num ++ u32 h.number ++ u8 1 ++ u16 (s.cu.bin.count + 1))) ∧
        (s.cu.bin.capacity * 9 / 10 ≤ s.cu.bin.count + 1 → t.lc.isPending 62 = true)) ∧
      (h.due = some due → ∃ t, exec .dropTimeout s = .next t ∧ t.now = max s.now due ∧ t.cu.state = .fault ∧
        t.cu.hand = some { h with due := none } ∧ t.cu.bin = s.cu.bin ∧ (t.zone .envelopeJam).cause = true ∧
        t.carrier h.bay = { s.carrier h.bay with reservation := .none } ∧ t.lc.isPending 61 = true ∧
        ∃ more, t.jn.queue.map (·.work) = s.jn.queue.map (·.work) ++ Work.change ⟨q, [],
          { RecFlags.none with noStamp := h.stamp == some false, dropFault := true }, true⟩ :: more)) ∧
    (s.cu.state = .fault →
      (h.uncounted = false → exec .dropSensed s = .next s.finish) ∧
      (h.uncounted = true → ∃ t, exec .dropSensed s = .next t ∧ t.cu = { s.cu with
        lateDrop := true, hand := some { h with uncounted := false }, bin := { s.cu.bin with count := s.cu.bin.count + 1 } } ∧
        t.jn = s.jn ∧ t.td = s.td))

/-- The bin and the other capture requests (R123 to R125, R136, R138 to R140). A door that opens makes the bin DOOR_OPEN,
its closing over a bin UNCONFIRMED, and a bin drawn out behind the open door REMOVED; the printer's report is followed.
CAPTURE_CLEAR ends FAULT and counts an envelope said to be in the bin, BIN_CONFIRM takes the bin up with its count,
BIN_EXCHANGED hands the JN its record, whose end empties the count and confirms a bin whose door has stayed shut,
CAPTURE_SETTINGS keeps the capacity at or above what the bin must hold. That a disposition which is ignored is answered as 3 is
the model's choice (notes/assumptions/8.md). -/
def Obligations.BinAndCaptureRequestsAct : Prop :=
  (∀ (s : State), s.phase = .running → s.lc.conds.length = 69 →
    (∀ ready, exec (.printerStateChange ready) s = .next (({ s with cu := { s.cu with printerReady := ready } } : State).finish)) ∧
    (s.cu.binDoorClosed = true → s.cu.bin.state ∈ [.confirmed, .unconfirmed] →
      ∃ t, exec (.binDoorChange false) s = .next t ∧ t.cu.bin = { s.cu.bin with state := .doorOpen } ∧
        t.cu.exchange = s.cu.exchange.map (fun e => { e with doorOpened := true }) ∧
        t.cu.binDoorClosed = false ∧ (t.zone .binDoor).cause = true ∧ t.lc.isPending 63 = true ∧ t.cu.hand = s.cu.hand) ∧
    (s.cu.binDoorClosed = false → s.cu.bin.state = .doorOpen → s.cu.binPresent = true →
      ∃ t, exec (.binDoorChange true) s = .next t ∧ t.cu.bin = { s.cu.bin with state := .unconfirmed } ∧
        (t.zone .binDoor).cause = false ∧ t.lc.isPending 63 = true) ∧
    (∀ before after present, (before = BinState.doorOpen ∧ present = false ∧ after = BinState.removed) ∨
        (before = .removed ∧ present = true ∧ after = .doorOpen) → s.cu.bin.state = before →
      ∃ t, exec (.binPresentChange present) s = .next t ∧
        t.cu = { s.cu with binPresent := present, bin := { s.cu.bin with state := after } } ∧ t.lc.isPending 63 = true) ∧
    (∀ p rest r place e, s.jn.busy = true → s.jn.queue = p :: rest → p.owner = .binExchange → p.work = .append r →
      s.jn.filling = some place → s.cu.exchange = some e →
      ∃ t, exec (.journalProgramDone []) s = .next t ∧ t.cu = { s.cu with exchange := none, bin := { s.cu.bin with
          count := 0
          state := if s.cu.bin.state = .unconfirmed ∧ e.doorOpened = false then .confirmed else s.cu.bin.state } } ∧
        t.lc.replies = s.lc.replies ++ [answer 0x3C e.tag (0x00#8 :: u16 e.outgoing)])) ∧
  ∀ (tag : Nat) (s : State), s.Serves tag →
    (∀ d, d ≠ 1 → d ≠ 2 → exec (.captureClear tag d) s = .next (s.refused 0x39 tag .malformed).finish) ∧
    (∀ d, d = 1 ∨ d = 2 →
      (s.cu.state = .idle → s.cu.hand = none → exec (.captureClear tag d) s =
        .next (s.counted.replied 0x39 tag (0x00#8 :: 0x03#8 :: u16 s.cu.bin.count)).finish) ∧
      (s.cu.state ∈ [.lifting, .stamping, .dropping] →
        exec (.captureClear tag d) s = .next (s.refused 0x39 tag .busy).finish) ∧
      ∀ h count, s.cu.state = .fault → s.cu.hand = some h →
        count = s.cu.bin.count + (if h.uncounted = true ∧ d = 1 then 1 else 0) →
        ∃ t, exec (.captureClear tag d) s = .next t ∧ t.cu = { s.cu with
            state := .idle, hand := none, lateDrop := false, bin := { s.cu.bin with count := count } } ∧
          (t.zone .envelopeJam).cause = false ∧ t.lc.replies = s.lc.replies ++
            [answer 0x39 tag (0x00#8 :: (u8 (if h.uncounted then d else 3) ++ u16 count))]) ∧
    (∀ stamp capacity, stamp ≠ 1 → stamp ≠ 2 →
      exec (.captureSettings tag stamp capacity) s = .next (s.refused 0x3B tag .malformed).finish) ∧
    (∀ stamp capacity applied, stamp = 1 ∨ stamp = 2 →
      applied = max (max 100 (min 1200 capacity))
        (s.cu.bin.count + if s.cu.hand.any (·.uncounted) then 1 else 0) →
      ∃ t, exec (.captureSettings tag stamp capacity) s = .next t ∧ t.cu = { s.cu with
          set := { s.cu.set with stampRequired := stamp == 1 }, bin := { s.cu.bin with capacity := applied } } ∧
        t.lc.replies = s.lc.replies ++ [answer 0x3B tag (0x00#8 :: (u8 stamp ++ u16 applied))] ∧ t.jn = s.jn) ∧
    (s.cu.exchange ≠ none ∨ s.cu.bin.state ∈ [.doorOpen, .removed] →
      exec (.binConfirm tag) s = .next (s.refused 0x3D tag .wrongState).finish) ∧
    (s.cu.exchange = none → s.cu.bin.state ∈ [.confirmed, .unconfirmed] →
      ∃ t, exec (.binConfirm tag) s = .next t ∧ t.cu = { s.cu with bin := { s.cu.bin with state := .confirmed } } ∧
        t.lc.replies = s.lc.replies ++ [answer 0x3D tag (0x00#8 :: 0x01#8 :: u16 s.cu.bin.count)]) ∧
    (s.cu.state ∈ [.lifting, .stamping, .dropping] → exec (.binExchanged tag) s = .next (s.refused 0x3C tag .busy).finish) ∧
    (s.cu.state ∈ [.idle, .fault] → (∀ h, s.cu.hand = some h → h.opening = none) →
      (s.cu.bin.state ≠ .unconfirmed ∨ s.cu.exchange ≠ none →
        exec (.binExchanged tag) s = .next (s.refused 0x3C tag .wrongState).finish) ∧
      (s.cu.bin.state = .unconfirmed → s.cu.exchange = none → s.jn.failed = true ∨ s.jn.free ≤ 16 →
        exec (.binExchanged tag) s = .next (s.refused 0x3C tag .journalUnavailable).finish) ∧
      (s.cu.bin.state = .unconfirmed → s.cu.exchange = none → s.jn.failed = false → 16 < s.jn.free → s.jn.exhausted = false →
        ∃ t, exec (.binExchanged tag) s = .next t ∧ t.cu = { s.cu with exchange := some ⟨tag, s.cu.bin.count, false⟩ } ∧
          t.jn.queue = s.jn.queue ++ [{ owner := .binExchange, work := .append ⟨.binExchange, 0, s.jn.counter, s.lc.clock,
            u16 s.cu.bin.count ++ u32 (if s.cu.set.exhausted then 4294967295 else s.cu.set.next - 1), false, true⟩ }]))

/-! ## The journal (chapter 8) -/

/-- A verified program leaves its bytes and no other (R148, R149, R209): an append into an erased slot its status, flags,
early fields and their CRC; a close the late fields, its flags and the status CLOSED; a flag change its flags; a reconcile
mark the status RECONCILED. An appended slot is then the record's in the directory, and the consecutive failures are 0. An
append that does not read back leaves its slot VOID and is made again in the next unused slot, a change is made again where it
stands, with one failure more (R149, R150); the third failure in a row ends every program and makes the journal FAILED (R151).
A read that waits starts at the verified end of the program, before the next program of a bank it reads (R153). That the slot
of a failed append reads VOID without a verify of its mark is the model's choice (notes/assumptions/21.md). -/
def Obligations.ProgramsEndAsTheyVerify : Prop :=
  (∀ (p : Program) (rest : List Program) (r : Record) (i k : Nat) (s : State), s.phase = .running → s.memoryFormed →
    s.jn.busy = true → s.jn.queue = p :: rest → p.work = .append r → s.jn.filling = some (i, k) →
    (∀ off, off < 32 → s.jn.mem.read (slotAddress i k off) = 0xFF#8) →
    ∃ t, exec (.journalProgramDone []) s = .next t ∧
      t.jn.mem.read (slotAddress i k 0) = (if r.closed then 0x3F#8 else 0x7F#8) ∧
      t.jn.mem.read (slotAddress i k 1) = (if r.duress then 0xFE#8 else 0xFF#8) ∧
      (∀ off, off < 24 → t.jn.mem.read (slotAddress i k (off + 2)) = (u8 r.kind.code ++ u8 r.lane ++ u32 r.seq ++
        u32 r.clock ++ padBody r.body).getD off 0xFF#8) ∧
      t.jn.mem.read (slotAddress i k 26) = BitVec.ofNat 8 ((crc16 r.early).toNat / 256) ∧
      t.jn.mem.read (slotAddress i k 27) = BitVec.ofNat 8 (crc16 r.early).toNat ∧
      (∀ address, (∀ off, off < 28 → address ≠ slotAddress i k off) → t.jn.mem.read address = s.jn.mem.read address) ∧
      t.jn.failures = 0 ∧ (i < s.jn.segs.length → (k, r.seq) ∈ (t.jn.seg i).records)) ∧
  (∀ (p : Program) (rest : List Program) (r : Record) (i k : Nat) (s : State), s.phase = .running → s.memoryFormed →
    s.jn.busy = true → s.jn.queue = p :: rest → p.work = .append r → s.jn.filling = some (i, k) →
    (∀ off, off < 32 → s.jn.mem.read (slotAddress i k off) = 0xFF#8) → s.jn.failures < 2 → k + 1 < 128 → s.jn.reading = false →
    ({ s.jn with filling := some (i, k + 1), claims := s.jn.claims - 1 } : JN).roomFor r.kind = true →
    ∃ t, exec (.journalProgramDone [0xFF#8]) s = .next t ∧ t.jn.queue = p :: rest ∧ t.jn.busy = true ∧
      t.jn.filling = some (i, k + 1) ∧ t.jn.failures = s.jn.failures + 1 ∧ t.jn.failed = s.jn.failed ∧
      t.jn.mem.read (slotAddress i k 0) = 0xF7#8 ∧ t.jn.segs = s.jn.segs ∧ t.jn.claims = s.jn.claims ∧
      (∀ address, (∀ off, off < 28 → address ≠ slotAddress i k off) → t.jn.mem.read address = s.jn.mem.read address)) ∧
  (∀ (p : Program) (rest : List Program) (c : Change) (i k : Nat) (s : State), s.phase = .running → s.memoryFormed →
    s.jn.busy = true → s.jn.queue = p :: rest → p.work = .change c → p.redo = none → s.jn.find c.seq = some (i, k) →
    (∀ x y a b, (x = 28 ∧ y = 29) ∨ (x = 29 ∧ y = 28) → c.late = [(x, a), (y, b)] → c.closes = true →
      s.jn.mem.read (slotAddress i k 0) = 0x7F#8 → s.jn.mem.read (slotAddress i k 28) = 0xFF#8 →
      s.jn.mem.read (slotAddress i k 29) = 0xFF#8 →
      ∃ t, exec (.journalProgramDone []) s = .next t ∧ t.jn.mem.read (slotAddress i k x) = a ∧
        t.jn.mem.read (slotAddress i k y) = b ∧ t.jn.mem.read (slotAddress i k 0) = 0x3F#8 ∧
        t.jn.mem.read (slotAddress i k 1) = s.jn.mem.read (slotAddress i k 1) &&& c.flags.byte ∧
        (∀ address, (∀ off ∈ [0, 1, 28, 29], address ≠ slotAddress i k off) →
          t.jn.mem.read address = s.jn.mem.read address) ∧ t.jn.failures = 0) ∧
    (c.closes = false → s.jn.mem.read (slotAddress i k 0) ∈ [0x7F#8, 0x3F#8] →
      ∃ t, exec (.journalProgramDone []) s = .next t ∧
        t.jn.mem.read (slotAddress i k 1) = s.jn.mem.read (slotAddress i k 1) &&& c.flags.byte ∧
        (∀ address, address ≠ slotAddress i k 1 → t.jn.mem.read address = s.jn.mem.read address) ∧ t.jn.failures = 0)) ∧
  (∀ (p : Program) (rest : List Program) (q i k : Nat) (s : State), s.phase = .running → s.memoryFormed → s.jn.busy = true →
    s.jn.queue = p :: rest → p.work = .mark q → p.redo = none → s.jn.find q = some (i, k) →
    s.jn.mem.read (slotAddress i k 0) = 0x3F#8 →
    (∃ t, exec (.journalProgramDone []) s = .next t ∧ t.jn.mem.read (slotAddress i k 0) = 0x1F#8 ∧
      (∀ address, address ≠ slotAddress i k 0 → t.jn.mem.read address = s.jn.mem.read address) ∧ t.jn.failures = 0) ∧
    (s.jn.failures < 2 → ∃ t, exec (.journalProgramDone [0x20#8]) s = .next t ∧
      t.jn.mem.read (slotAddress i k 0) = 0x3F#8 ∧ t.jn.failures = s.jn.failures + 1 ∧
      t.jn.queue = { p with redo := some [(0, 0x1F#8)] } :: rest ∧ t.jn.failed = s.jn.failed ∧ t.jn.busy = true)) ∧
  (∀ (p : Program) (rest : List Program) (job : ReadJob) (reads : List ReadJob) (s : State), s.phase = .running →
    s.jn.busy = true → s.jn.queue = p :: rest → s.jn.reads = job :: reads →
    ∃ t, exec (.journalProgramDone []) s = .next t ∧ t.jn.reading = true ∧ t.jn.reads = s.jn.reads ∧
      ∀ bank n later, t.jn.queue = n :: later → t.jn.works n.work bank = true → job.uses bank = true → t.jn.busy = false) ∧
  ∀ (p : Program) (rest : List Program) (q i k : Nat) (s : State), s.phase = .running → s.memoryFormed → s.jn.busy = true →
    s.jn.queue = p :: rest → s.jn.failures = 2 → s.lc.conds.length = 69 →
    ((p.work = .mark q ∧ p.redo = none ∧ s.jn.find q = some (i, k) ∧ s.jn.mem.read (slotAddress i k 0) = 0x3F#8) ∨
      (∃ r : Record, p.work = .append r ∧ r.seq = q ∧ s.jn.filling = some (i, k) ∧
        ∀ off, off < 32 → s.jn.mem.read (slotAddress i k off) = 0xFF#8)) →
    ∃ t, exec (.journalProgramDone [0xFF#8]) s = .next t ∧ t.jn.failed = true ∧ t.jn.queue = [] ∧ t.jn.busy = false ∧
      t.jn.failures = 3 ∧ t.lc.conds[65]?.map (·.snapshot) = some (some (u32 q))

/-- The erase and the reads (R153, R154, R157 to R159): the window's expiry makes the run's lowest segment ERASING; its verify
returns every byte of the segment, and of no other, to FFh and makes it ERASED, which an append that waits may take as the
FILLING segment at once, 8,000 ms without one make it BAD with its bytes as they are, the model's choice
(notes/assumptions/22.md); with the run's last segment the run is removed and ERASE_DONE rises with its segments, each marked
ERASED 1 or BAD 2, the model's choice where R142's list would give BAD 6 (notes/assumptions/8.md). A suspended erase waits. A
segment that becomes ERASING is a placeholder from then on in every read that waits, so such a read suspends its erase no more
(R153, R159; the model's reading, notes/assumptions/23.md). The end of a read answers it with the records as they stand, the
layout of the reply where the manual gives none being the model's choice (notes/assumptions/8.md). -/
def Obligations.ErasesAndReadsEnd : Prop :=
  ∀ (s : State), s.phase = .running → s.lc.conds.length = 69 → s.jn.segs.length = 16 →
    (∀ run due i rest, s.jn.run = some run → run.windowDue = some due → run.waiting = i :: rest → i < 16 →
      s.jn.filling.map (·.1) ≠ some i →
      ∃ t run', exec .eraseWindowExpiry s = .next t ∧ t.now = max s.now due ∧ t.jn.run = some run' ∧ run'.erasing = some i ∧
        run'.waiting = rest ∧ run'.windowDue = none ∧ run'.bank = run.bank ∧ (t.jn.seg i).state = .erasing ∧
        (t.jn.seg i).records = (s.jn.seg i).records ∧ t.jn.mem = s.jn.mem ∧
        t.jn.reads = s.jn.reads.map (fun r => { r with found := r.found.map fun f =>
          (f.1, f.2.1, f.2.2.1, f.2.2.2 || f.2.1 == i) }) ∧
        (s.jn.queue = [] → (∀ r ∈ s.jn.reads, ∀ f ∈ r.found, f.2.1 = i ∨ f.2.2.2 = true ∨ bankOf f.2.1 ≠ run.bank) →
          t.jn.suspended run.bank = false ∧ run'.spent = ⟨0, some t.now⟩)) ∧
    (∀ run i, s.jn.run = some run → run.erasing = some i → i < 16 →
      (s.jn.suspended run.bank = true → exec .eraseVerify s = .next s.finish ∧ exec .eraseLimit s = .next s.finish) ∧
      (s.jn.suspended run.bank = false →
        (∃ t, exec .eraseVerify s = .next t ∧
          (run.waiting.head? ≠ some i → s.jn.filling.map (·.1) ≠ some i → (t.jn.seg i).records = [] ∧
            (t.jn.seg i).torn = false ∧ ((t.jn.seg i).state = .erased ∨
              ((t.jn.seg i).state = .filling ∧ t.jn.filling = some (i, 0))) ∧
            (s.jn.queue = [] ∨ s.jn.busy = true → (t.jn.seg i).state = .erased)) ∧
          (∀ address, segmentAddress i ≤ address → address < segmentAddress (i + 1) → t.jn.mem.read address = 0xFF#8) ∧
          (∀ address, address < segmentAddress i ∨ segmentAddress (i + 1) ≤ address →
            s.memoryFormed → t.jn.mem.read address = s.jn.mem.read address) ∧
          (run.waiting = [] → t.lc.isPending 65 = true ∧ t.lc.conds[64]?.map (·.snapshot) = some (some (u8 (run.ended.length + 1) ++
              (run.ended ++ [(i, true)]).flatMap fun e => u8 (e.1 + 1) ++ u8 (if e.2 then 1 else 2))) ∧
            ((∀ j, j < 16 → j ≠ i → (s.jn.seg j).state ≠ .pendingErase) → t.jn.run = none)) ∧
          (∀ j rest, run.waiting = j :: rest → (∃ run', t.jn.run = some run' ∧
              run'.erasing = some j ∧ run'.waiting = rest ∧ run'.ended = run.ended ++ [(i, true)]) ∧
            t.jn.reads = s.jn.reads.map (fun r => { r with found := r.found.map fun f =>
              (f.1, f.2.1, f.2.2.1, f.2.2.2 || f.2.1 == j) }))) ∧
        ∀ since, run.spent.since = some since → ∃ t, exec .eraseLimit s = .next t ∧
          t.now = max s.now (since + (8000 - run.spent.spent)) ∧ t.jn.mem = s.jn.mem ∧
          (run.waiting.head? ≠ some i → s.jn.filling.map (·.1) ≠ some i → (t.jn.seg i).state = .bad ∧ (t.jn.seg i).records = []))) ∧
    ∀ r rest, s.jn.reading = true → s.jn.reads = r :: rest →
      ∃ t, exec .journalReadDone s = .next t ∧ t.lc.replies = s.lc.replies ++ [answer 0x41 r.tag (0x00#8 ::
          (u8 (bitSet [s.jn.lowest.isSome, s.jn.exhausted]) ++ u32 (s.jn.lowest.getD 4294967295) ++ u32 s.jn.counter ++
            u8 r.found.length ++ r.found.flatMap s.jn.entry ++ [0x00#8]))] ∧
        t.jn.reads = rest ∧ t.jn.mem = s.jn.mem ∧ t.jn.queue = s.jn.queue

/-- The journal requests (R152, R154 to R156, R167). JOURNAL_READ with nothing to read is answered at once, else the read
waits its turn; JOURNAL_RECONCILE marks the first record that is CLOSED, one at a time, and stops at one WRITTEN: at the end
of a mark the walk takes the next record, or ends with its reply, as an entry into FAILED ends it; JOURNAL_ERASE makes its
checks in order and forms a run with its window, or joins the one whose window is open, as a segment that waits in it already
does; JOURNAL_RECOVER brings a FAILED journal with an append point, or with an ERASED segment to take as one, back. The layout
of a read's reply where the manual gives none, and that the walk's stops are coded 1 to 3 and JOINED and PENDING 1 and 2, are
the model's choice (notes/assumptions/8.md). -/
def Obligations.JournalRequestsAct : Prop :=
  (∀ (w : Walk) (p : Program) (rest : List Program) (q i k : Nat) (ahead : List (Nat × Nat × Nat)) (s : State),
    s.phase = .running → s.memoryFormed → s.jn.failed = false → s.jn.walk = some w → s.jn.busy = true →
    s.jn.queue = p :: rest → p.owner = .walk → p.work = .mark q → p.redo = none → s.jn.find q = some (i, k) →
    s.jn.status i k = some .closed → ahead = s.jn.bySeq.filter (fun e => decide (q < e.1 ∧ e.1 ≤ w.through)) →
    (ahead = [] → ∃ t, exec (.journalProgramDone []) s = .next t ∧ t.jn.walk = none ∧ t.jn.queue = rest ∧
      t.lc.replies = s.lc.replies ++ [answer 0x42 w.tag (0x00#8 :: (0x01#8 :: u32 q ++ u16 (w.marked + 1) ++
        0x03#8 :: 0x00#8 :: List.replicate 4 0xFF#8))]) ∧
    (∀ q' i' k' more, ahead = (q', i', k') :: more → (s.jn.seg i').state ≠ .erasing →
      slotAddress i' k' 0 ≠ slotAddress i k 0 →
      (s.jn.status i' k' = some .closed → ∃ t, exec (.journalProgramDone []) s = .next t ∧
        t.jn.walk = some { w with reached := some q, marked := w.marked + 1 } ∧
        t.jn.queue = rest ++ [{ owner := .walk, work := .mark q' }] ∧ t.lc.replies = s.lc.replies) ∧
      (s.jn.status i' k' = some .written → ∃ t, exec (.journalProgramDone []) s = .next t ∧ t.jn.walk = none ∧
        t.jn.queue = rest ∧ t.lc.replies = s.lc.replies ++ [answer 0x42 w.tag (0x00#8 :: (0x01#8 :: u32 q ++
          u16 (w.marked + 1) ++ 0x01#8 :: 0x01#8 :: u32 q'))])) ∧
    (rest = [] → s.jn.failures = 2 → ∃ t, exec (.journalProgramDone [0x20#8]) s = .next t ∧ t.jn.walk = none ∧
      t.jn.failed = true ∧ t.lc.replies = s.lc.replies ++ [answer 0x42 w.tag (0x00#8 ::
        ((match w.reached with | some v => 0x01#8 :: u32 v | none => 0x00#8 :: List.replicate 4 0xFF#8) ++ u16 w.marked ++
          0x02#8 :: 0x00#8 :: List.replicate 4 0xFF#8))])) ∧
  ∀ (tag : Nat) (s : State), s.Serves tag →
    (∀ start count, count < 1 ∨ 6 < count →
      exec (.journalRead tag start count) s = .next (s.refused 0x41 tag .malformed).finish) ∧
    (∀ start count, 1 ≤ count → count ≤ 6 →
      ((∀ e ∈ s.jn.bySeq, e.1 < start) → exec (.journalRead tag start count) s =
        .next (s.counted.replied 0x41 tag (0x00#8 :: (u8 (bitSet [s.jn.lowest.isSome, s.jn.exhausted]) ++
          u32 (s.jn.lowest.getD 4294967295) ++ u32 s.jn.counter ++ [0x00#8, 0x00#8]))).finish) ∧
      (∀ q i k rest, s.jn.bySeq = (q, i, k) :: rest → start ≤ q → (s.jn.seg i).state ≠ .erasing →
        ∃ t job, exec (.journalRead tag start count) s = .next t ∧ job.tag = tag ∧ t.jn.reads = s.jn.reads ++ [job] ∧
          job.found.length ≤ count ∧ job.found.head? = some (q, i, k, false) ∧ t.lc.replies = s.lc.replies ∧
          t.jn.mem = s.jn.mem)) ∧
    (∀ through, s.jn.failed = true →
      exec (.journalReconcile tag through) s = .next (s.refused 0x42 tag .journalUnavailable).finish) ∧
    (∀ through, s.jn.failed = false → s.jn.walk ≠ none →
      exec (.journalReconcile tag through) s = .next (s.refused 0x42 tag .busy).finish) ∧
    (∀ through, s.jn.failed = false → s.jn.walk = none → (∀ e ∈ s.jn.bySeq, through < e.1) →
      exec (.journalReconcile tag through) s = .next (s.counted.replied 0x42 tag (0x00#8 :: (0x00#8 ::
        List.replicate 4 0xFF#8 ++ u16 0 ++ u8 3 ++ 0x00#8 :: List.replicate 4 0xFF#8))).finish) ∧
    (∀ through q i k rest, s.jn.failed = false → s.jn.walk = none → s.jn.bySeq = (q, i, k) :: rest → q ≤ through →
      (s.jn.seg i).state ≠ .erasing →
      (s.jn.status i k = some .closed → ∃ t, exec (.journalReconcile tag through) s = .next t ∧
        t.jn.walk = some ⟨tag, through, none, 0⟩ ∧ t.jn.queue = s.jn.queue ++ [{ owner := .walk, work := .mark q }] ∧
        t.lc.replies = s.lc.replies) ∧
      (s.jn.status i k = some .written → exec (.journalReconcile tag through) s = .next (s.counted.replied 0x42 tag
        (0x00#8 :: (0x00#8 :: List.replicate 4 0xFF#8 ++ u16 0 ++ u8 1 ++ 0x01#8 :: u32 q))).finish)) ∧
    (∀ n, n < 1 ∨ 16 < n → exec (.journalErase tag n) s = .next (s.refused 0x43 tag .malformed).finish) ∧
    (∀ i, i < 16 → s.jn.segs.length = 16 →
      ((s.jn.seg i).state = .filling →
        exec (.journalErase tag (i + 1)) s = .next (s.refused 0x43 tag .segmentInUse).finish) ∧
      ((s.jn.seg i).state ∉ [.filling, .full] →
        (∀ run, s.jn.run = some run → run.bank = bankOf i → run.windowDue ≠ none → i ∉ run.waiting) →
        exec (.journalErase tag (i + 1)) s = .next (s.refused 0x43 tag .wrongState).finish) ∧
      (∀ run due, (s.jn.seg i).state = .pendingErase → s.jn.run = some run → run.bank = bankOf i → run.windowDue = some due →
        i ∈ run.waiting → exec (.journalErase tag (i + 1)) s = .next ((({ s.counted with jn := { s.jn with
          run := some { run with windowDue := some (s.now + 500) } } } : State).replied 0x43 tag
            (0x00#8 :: 0x01#8 :: BitVec.ofNat 8 (i + 1) :: 0x04#8 :: u16 500)).finish)) ∧
      (∀ run, (s.jn.seg i).state = .full → s.jn.run = some run → i ∉ run.waiting →
        run.windowDue = none ∨ run.bank ≠ bankOf i →
        exec (.journalErase tag (i + 1)) s = .next (s.refused 0x43 tag .busy).finish) ∧
      (∀ k q, (s.jn.seg i).state = .full → s.jn.run = none ∨ (∃ run, s.jn.run = some run ∧ run.bank = bankOf i ∧
          run.windowDue ≠ none ∧ i ∉ run.waiting) → (k, q) ∈ (s.jn.seg i).records →
        s.jn.status i k ∈ [some .written, some .closed] →
        (∀ e ∈ (s.jn.seg i).records, s.jn.status i e.1 ∈ [some .written, some .closed] → q ≤ e.2) → exec (.journalErase tag (i + 1)) s =
          .next (s.counted.replied 0x43 tag (0x18#8 :: u32 q)).finish) ∧
      ((s.jn.seg i).state = .full → (∀ r ∈ (s.jn.seg i).records, s.jn.status i r.1 = some .reconciled) →
        (s.jn.run = none → ∃ t, exec (.journalErase tag (i + 1)) s = .next t ∧ (t.jn.seg i).state = .pendingErase ∧
          t.jn.run = some ⟨bankOf i, [i], some (s.now + 500), none, Count.zero, []⟩ ∧ t.jn.mem = s.jn.mem ∧
          t.lc.replies = s.lc.replies ++ [answer 0x43 tag (0x00#8 :: 0x02#8 :: BitVec.ofNat 8 (i + 1) :: 0x04#8 :: u16 500)]) ∧
        (∀ run due, s.jn.run = some run → run.bank = bankOf i → run.windowDue = some due → i ∉ run.waiting →
          ∃ t run', exec (.journalErase tag (i + 1)) s = .next t ∧ (t.jn.seg i).state = .pendingErase ∧
            t.jn.run = some run' ∧ run'.windowDue = some (s.now + 500) ∧ run'.bank = run.bank ∧
            (∀ j, j ∈ run'.waiting ↔ j = i ∨ j ∈ run.waiting) ∧
            t.lc.replies = s.lc.replies ++ [answer 0x43 tag (0x00#8 :: 0x01#8 :: BitVec.ofNat 8 (i + 1) :: 0x04#8 :: u16 500)]))) ∧
    (s.jn.failed = false → exec (.journalRecover tag) s = .next (s.counted.replied 0x44 tag [0x00#8, 0x01#8]).finish) ∧
    (∀ f, s.jn.failed = true → s.jn.filling = some f → s.jn.scanCloses = [] → s.ss.owed = [] → s.cu.owed = none →
      exec (.journalRecover tag) s = .next ((({ s.counted with jn := { s.jn with failed := false, failures := 0 } } :
        State).replied 0x44 tag [0x00#8, 0x01#8]).finish)) ∧
    (∀ i, i < 16 → s.jn.segs.length = 16 → s.jn.failed = true → s.jn.filling = none → (s.jn.seg i).state = .erased →
      (∀ j, j < i → (s.jn.seg j).state ≠ .erased) → s.jn.scanCloses = [] → s.ss.owed = [] → s.cu.owed = none →
      ∃ t, exec (.journalRecover tag) s = .next t ∧ t.jn.filling = some (i, 0) ∧ (t.jn.seg i).state = .filling ∧
        (∀ j, j ≠ i → t.jn.seg j = s.jn.seg j) ∧ t.jn.failed = false ∧ t.jn.failures = 0 ∧ t.jn.mem = s.jn.mem ∧
        t.lc.replies = s.lc.replies ++ [answer 0x44 tag [0x00#8, 0x01#8]]) ∧
    (s.jn.failed = true → s.jn.filling = none → (∀ i, i < 16 → (s.jn.seg i).state ≠ .erased) →
      exec (.journalRecover tag) s = .next (s.counted.replied 0x44 tag [0x00#8, 0x02#8]).finish)

/-! ## Settings, alarm zones and outputs (chapters 5, 6 and 9) -/

/-- Three settings are clamped, applied, kept in the store in the same step and answered with, and change nothing else:
DISPENSE_SETTINGS in every state of the DP and the ND (R84), STACKER_SETTINGS with every running timer left (R122), and
ZONE_SETTINGS with every running delay left, a zone other than 3 or 4 being MALFORMED (R184). -/
def Obligations.SettingsAreClampedAndKept : Prop :=
  ∀ (tag : Nat) (s : State), s.Serves tag →
    (∀ capacity notes duress rejects double set, set = DispenseSettings.mk (max 1 (min 60 capacity)) (max 1 (min 200 notes))
        (min 10000000 duress) (min 30 rejects) (max 140 (min 190 double)) →
      ∃ t, exec (.dispenseSettings tag capacity notes duress rejects double) s = .next t ∧
        t = ((({ s.counted with dp := { s.dp with set := set } } : State).replied 0x30 tag (0x00#8 :: (u8 set.capacity ++
          u8 set.noteCeiling ++ u24 set.duressCeiling ++ u8 set.rejectCeiling ++ u8 set.doubleThreshold))).finish) ∧
        t.store.first.content.dispense = set ∧ t.store.second.content.dispense = set) ∧
    (∀ hold, ∃ t, exec (.stackerSettings tag hold) s = .next t ∧
      t = ((({ s.counted with ss := { s.ss with stageHold := max 30 (min 600 hold) } } : State).replied 0x36 tag
        (0x00#8 :: u16 (max 30 (min 600 hold)))).finish) ∧
      t.store.first.content.stageHold = max 30 (min 600 hold) ∧ t.store.second.content.stageHold = max 30 (min 600 hold)) ∧
    (∀ zone delay, zone ≠ 3 → zone ≠ 4 →
      exec (.zoneSettings tag zone delay) s = .next (s.refused 0x48 tag .malformed).finish) ∧
    ∀ zone delay, zone = 3 ∨ zone = 4 → ∃ t, exec (.zoneSettings tag zone delay) s = .next t ∧
      t = ((({ s.counted with au := { s.au with
        safeDelay := if zone = 3 then min 120 delay else s.au.safeDelay
        binDelay := if zone = 4 then min 120 delay else s.au.binDelay } } : State).replied 0x48 tag
          (0x00#8 :: (u8 zone ++ u8 (min 120 delay)))).finish) ∧
      t.store.first.content.alarm.safeDelay = t.au.safeDelay ∧ t.store.first.content.alarm.binDelay = t.au.binDelay

/-- The zones' events (R170 to R177, R183) and the outputs that follow them (R14, R180). An input that becomes active locks
an IDLE hold-up zone in, and its onset of duress closes both windows, a door that stands open starting its delay; a LOCKED zone
does not follow its input. A rising edge of the key switch releases each LOCKED zone whose input is normal, and a falling edge
none. A delay that runs out is ALARM. A window that runs out is closed, an IDLE zone with its door open starting its delay, or
ALARM at once where that is 0. A supervised TAMPER zone follows the tamper level of a good poll answer, its reason and the
red lamp with it, and supervision comes and goes with the resolved set. At the end of start-up each zone is evaluated against
its cause as found. That an input's unchanged level does nothing is the model's choice (notes/assumptions/6.md). -/
def Obligations.AlarmEventsMoveTheZones : Prop :=
  (∀ (s : State), s.phase = .running → s.lc.conds.length = 69 →
    (∀ input active, (s.zone (holdupZone input)).cause = active →
      exec (.holdupInputChange input active) s = .next s.finish) ∧
    (∀ input, (s.zone (holdupZone input)).cause = false → (s.zone (holdupZone input)).state = .idle →
      s.au.duress = false → ∃ t, exec (.holdupInputChange input true) s = .next t ∧
        (t.zone (holdupZone input)).state = .locked ∧ (t.zone (holdupZone input)).cause = true ∧
        (t.zone .safeDoor).windowUntil = none ∧ (t.zone .binDoor).windowUntil = none ∧ t.au.silent = true ∧
        t.lc.isPending 67 = true ∧
        (∀ d, (s.zone (doorZone d)).state = .idle → (s.zone (doorZone d)).cause = true → 0 < s.au.entryDelay d →
          (t.zone (doorZone d)).state = .delay ∧ (t.zone (doorZone d)).delayDue = some (s.now + s.au.entryDelay d * 1000)) ∧
        (∀ l, t.zone (.tamper l) = s.zone (.tamper l)) ∧ t.zone .carrierMissing = s.zone .carrierMissing) ∧
    (∀ input active, (s.zone (holdupZone input)).cause ≠ active → (s.zone (holdupZone input)).state = .locked →
      exec (.holdupInputChange input active) s = .next ((s.modZone (holdupZone input) fun z => { z with cause := active }).finish)) ∧
    exec (.keySwitchEdge false) s = .next (({ s with au := { s.au with keySwitch := false } } : State).finish) ∧
    (∃ t, exec (.keySwitchEdge true) s = .next t ∧ t.au.keySwitch = true ∧ ∀ input,
      (t.zone (holdupZone input)).state = (if (s.zone (holdupZone input)).state = .locked ∧
        (s.zone (holdupZone input)).cause = false then .idle else (s.zone (holdupZone input)).state)) ∧
    (∀ d due, (s.zone (doorZone d)).state = .delay → (s.zone (doorZone d)).delayDue = some due →
      ∃ t, exec (.entryDelayExpiry d) s = .next t ∧ t.now = max s.now due ∧ (t.zone (doorZone d)).state = .alarm ∧
        (t.zone (doorZone d)).acked = false ∧ (t.zone (doorZone d)).delayDue = none ∧
        (t.zone (doorZone d)).cause = (s.zone (doorZone d)).cause ∧ t.au.run ≠ .idle ∧ t.lc.isPending 67 = true) ∧
    ∀ d due, (s.zone (doorZone d)).windowUntil = some due →
      ((s.zone (doorZone d)).state ≠ .idle ∨ (s.zone (doorZone d)).cause = false →
        exec (.windowExpiry d) s = .next (({ s with now := max s.now due } : State).modZone (doorZone d) fun z =>
          { z with windowUntil := none }).finish) ∧
      ((s.zone (doorZone d)).state = .idle → (s.zone (doorZone d)).cause = true →
        ∃ t, exec (.windowExpiry d) s = .next t ∧ (t.zone (doorZone d)).windowUntil = none ∧
          (s.au.entryDelay d = 0 → (t.zone (doorZone d)).state = .alarm) ∧
          (0 < s.au.entryDelay d → (t.zone (doorZone d)).state = .delay ∧
            (t.zone (doorZone d)).delayDue = some (max s.now due + s.au.entryDelay d * 1000)))) ∧
  (∀ s : State,
    (∀ l, s.lamp l = if (s.laneRec l).state = .outOfService ∨ (s.zone (.tamper l)).state ∈ [.alarm, .latched, .locked] then .red
      else if (s.laneRec l).state = .opened then .green else .off) ∧
    (s.au.silent = true ↔ ∃ z, z.cls ≠ .fault ∧ (s.zone z).state ∈ [.alarm, .latched, .locked]) ∧
    (s.au.trouble = true ↔ ∃ z, z.cls ∈ [.door, .fault, .missing] ∧ (s.zone z).state ∈ [.alarm, .latched, .locked])) ∧
  (∀ (l : Lane) (due : Nat) (p : PollReport) (s : State), s.phase = .running → s.li.bus = .poll l due →
    (s.laneRec l).reasons.stationLost = false → s.lc.conds.length = 69 →
    ∃ t, exec (.pollAnswer p) s = .next t ∧
      ((s.laneRec l).resolved.tamperSwitch = false → t.zone (.tamper l) = s.zone (.tamper l)) ∧
      ((s.laneRec l).resolved.tamperSwitch = true → (t.zone (.tamper l)).cause = p.tamper ∧
        ((s.zone (.tamper l)).cause = p.tamper → t.zone (.tamper l) = s.zone (.tamper l)) ∧
        (p.tamper = true → (s.zone (.tamper l)).cause = false → (s.zone (.tamper l)).state ∈ [.idle, .latched] →
          (t.zone (.tamper l)).state = .alarm ∧ (t.zone (.tamper l)).acked = false ∧ (t.laneRec l).reasons.tamper = true ∧
          t.lamp l = .red ∧ t.au.silent = true ∧ t.au.run ≠ .idle ∧ t.lc.isPending 67 = true) ∧
        (p.tamper = false → (s.zone (.tamper l)).cause = true → (s.zone (.tamper l)).state = .alarm →
          ((s.zone (.tamper l)).acked = false → (t.zone (.tamper l)).state = .latched ∧ t.lamp l = .red) ∧
          ((s.zone (.tamper l)).acked = true → (s.zone (.tamper l)).supervised = true →
            (t.zone (.tamper l)).state = .idle ∧ (t.laneRec l).reasons.tamper = false)))) ∧
  (∀ (tag features waypoints timeout auto : Nat) (l : Lane) (s : State), s.Serves tag → auto ≤ 1 →
    ∃ t, exec (.laneSettings tag l.num features waypoints timeout auto) s = .next t ∧
      (features.testBit 1 = false → (s.zone (.tamper l)).supervised = true →
        (t.zone (.tamper l)).supervised = false ∧ (t.zone (.tamper l)).cause = false ∧
        ((s.zone (.tamper l)).state = .idle → (t.zone (.tamper l)).state = .unsupervised) ∧
        ((s.zone (.tamper l)).state = .alarm → (t.zone (.tamper l)).state =
          if (s.zone (.tamper l)).acked then .unsupervised else .latched) ∧
        ((s.zone (.tamper l)).state = .latched → (t.zone (.tamper l)).state = .latched)) ∧
      (features.testBit 1 = true → (s.laneRec l).advertised.tamperSwitch = true →
        (s.zone (.tamper l)).supervised = false → (s.zone (.tamper l)).state = .unsupervised →
        (t.zone (.tamper l)).supervised = true ∧ (t.zone (.tamper l)).cause = (s.laneRec l).tamperLevel ∧
        (t.zone (.tamper l)).state = (if (s.laneRec l).tamperLevel then .alarm else .idle) ∧
        (t.laneRec l).reasons.tamper = (s.laneRec l).tamperLevel)) ∧
  ∀ (since : Nat) (s : State), s.phase = .startUp .air → s.as.state = .refresh → s.as.started = some since →
    s.as.closedInRun = true → s.as.duty.switchClosed = true →
    ∃ t, exec .refreshRunEnd s = .next t ∧ t.phase = .running ∧ (∀ z, (t.zone z).cause = (s.zone z).cause) ∧
      (∀ input, (t.zone (holdupZone input)).state = (if (s.zone (holdupZone input)).state = .idle ∧
        (s.zone (holdupZone input)).cause = true then .locked else (s.zone (holdupZone input)).state)) ∧
      (∀ d, (s.zone (doorZone d)).windowUntil = none → (t.zone (doorZone d)).state =
        (if (s.zone (doorZone d)).cause = true ∧ (s.zone (doorZone d)).state = .idle then
          (if s.au.entryDelay d = 0 then .alarm else .delay)
        else if (s.zone (doorZone d)).cause = true ∧ (s.zone (doorZone d)).state = .latched then .alarm
        else (s.zone (doorZone d)).state)) ∧
      (∀ l, ((s.zone (.tamper l)).supervised = false → (t.zone (.tamper l)).state = (s.zone (.tamper l)).state) ∧
        ((s.zone (.tamper l)).supervised = true → (t.zone (.tamper l)).state = (if (s.zone (.tamper l)).cause then .alarm
          else if (s.zone (.tamper l)).heldLatched then .latched else .idle))) ∧
      ∀ z, z ∈ [.tubeJam, .airFail, .envelopeJam, .carrierMissing] → (t.zone z).state =
        (if (s.zone z).cause = true ∧ (s.zone z).state ∈ [.idle, .latched] then .alarm else (s.zone z).state)

/-- AUTHORIZE and ACK_ZONE (R171, R174, R179, R185, R186). AUTHORIZE opens a door's window for its minutes, clamped to 1 to
120, ending a running delay, or closes it with 0 minutes; under duress it is refused. ACK_ZONE acknowledges an ALARM whose
cause is active, returns one whose cause is normal and a LATCHED zone to IDLE, empties zone 12's missing lanes first,
leaves an IDLE, DELAY or UNSUPERVISED zone and is refused for a LOCKED one. -/
def Obligations.AuthorizeAndAcknowledge : Prop :=
  ∀ (tag : Nat) (s : State), s.Serves tag → s.lc.conds.length = 69 →
    (∀ zone minutes, zone ≠ 3 → zone ≠ 4 →
      exec (.authorize tag zone minutes) s = .next (s.refused 0x49 tag .malformed).finish) ∧
    (∀ d zone minutes, (d = Door.safe ∧ zone = 3) ∨ (d = .bin ∧ zone = 4) →
      (s.au.duress = true → exec (.authorize tag zone minutes) s = .next (s.refused 0x49 tag .duressLock).finish) ∧
      (s.au.duress = false → 1 ≤ minutes → (s.zone (doorZone d)).state ≠ .delay →
        ∃ t, exec (.authorize tag zone minutes) s = .next t ∧
          t.zone (doorZone d) = { s.zone (doorZone d) with windowUntil := some (s.now + min 120 minutes * 60000) } ∧
          t.lc.replies = s.lc.replies ++ [answer 0x49 tag (0x00#8 :: (u8 zone ++ u8 (s.zone (doorZone d)).state.code ++
            u16 (min 120 minutes * 60)))] ∧ t.lc.conds = s.lc.conds) ∧
      (s.au.duress = false → 1 ≤ minutes → (s.zone (doorZone d)).state = .delay →
        ∃ t, exec (.authorize tag zone minutes) s = .next t ∧ (t.zone (doorZone d)).state = .idle ∧
          (t.zone (doorZone d)).delayDue = none ∧
          (t.zone (doorZone d)).windowUntil = some (s.now + min 120 minutes * 60000) ∧ t.lc.isPending 67 = true) ∧
      (s.au.duress = false → (s.zone (doorZone d)).cause = false → ∃ t, exec (.authorize tag zone 0) s = .next t ∧
        t.zone (doorZone d) = { s.zone (doorZone d) with windowUntil := none } ∧
        t.lc.replies = s.lc.replies ++ [answer 0x49 tag (0x00#8 :: (u8 zone ++ u8 (s.zone (doorZone d)).state.code ++ u16 0))])) ∧
    (∀ zone, zone = 0 ∨ 12 < zone → exec (.ackZone tag zone) s = .next (s.refused 0x4A tag .malformed).finish) ∧
    (∀ z : ZoneId, (s.zone z).state = .locked →
      exec (.ackZone tag z.num) s = .next (s.refused 0x4A tag .wrongState).finish) ∧
    (∀ z : ZoneId, z ≠ .carrierMissing →
      ((s.zone z).state ∈ [.idle, .delay, .unsupervised] → exec (.ackZone tag z.num) s =
        .next (s.counted.replied 0x4A tag (0x00#8 :: u8 (s.zone z).state.code)).finish) ∧
      ((s.zone z).state = .alarm → (s.zone z).cause = true → ∃ t, exec (.ackZone tag z.num) s = .next t ∧
        t.zone z = { s.zone z with acked := true } ∧ t.au.run = s.au.run ∧ t.jn = s.jn ∧
        t.lc.replies = s.lc.replies ++ [answer 0x4A tag [0x00#8, 0x03#8]]) ∧
      (((s.zone z).state = .alarm ∧ (s.zone z).cause = false) ∨ (s.zone z).state = .latched →
        ∃ t, exec (.ackZone tag z.num) s = .next t ∧ (t.zone z).acked = false ∧ t.lc.isPending 67 = true ∧
          (t.zone z).state = (if z.cls = .tamper ∧ (s.zone z).supervised = false then .unsupervised else .idle) ∧
          (∀ l, z = .tamper l → (t.laneRec l).reasons.tamper = false))) ∧
    ((s.zone .carrierMissing).state ∈ [.alarm, .latched] → ∃ t, exec (.ackZone tag 12) s = .next t ∧
      (t.zone .carrierMissing).state = .idle ∧ (t.zone .carrierMissing).cause = false ∧ t.au.missing = Four.const false ∧
      t.li = s.li)

/-- SOUNDER_SETTINGS clamps the period to 2 to 40, keeps it in the store in the same step and answers with it; a run that is
PULSING takes it up at its next phase boundary, its phases being half the period, the on-phase rounded up; after a loss of
the store the period is 10 (R181, R188). SOUNDER_SILENCE and the cutoff stop a PULSING run, and touch no zone (R187). -/
def Obligations.SounderPeriodAndSilence : Prop :=
  (∀ (tag period : Nat) (s : State), s.Serves tag → ∃ t, exec (.sounderSettings tag period) s = .next t ∧
    t = ((({ s.counted with au := { s.au with period := max 2 (min 40 period) } } : State).replied 0x4C tag
      (0x00#8 :: u8 (max 2 (min 40 period)))).finish) ∧
    t.store.first.content.alarm.period = max 2 (min 40 period) ∧ t.store.second.content.alarm.period = max 2 (min 40 period)) ∧
  (∀ (on : Bool) (due cutoff : Nat) (s : State), s.phase ≠ .off → s.au.run = .pulsing on due cutoff →
    exec .sounderPhaseEnd s = .next (({ s with
      now := max s.now due
      au := { s.au with
        run := .pulsing (!on) (max s.now due + (if on then s.au.period / 2 else (s.au.period + 1) / 2) * 100) cutoff } } :
          State).finish) ∧
    exec .sounderCutoff s = .next (({ s with now := max s.now cutoff, au := { s.au with run := .stopped } } : State).finish) ∧
    ∀ tag, s.Serves tag → exec (.sounderSilence tag) s =
      .next ((({ s.counted with au := { s.au with run := .stopped } } : State).replied 0x4B tag [0x00#8, 0x03#8]).finish)) ∧
  (∀ (tag : Nat) (s : State), s.Serves tag → s.au.run = .idle ∨ s.au.run = .stopped →
    exec (.sounderSilence tag) s =
      .next (s.counted.replied 0x4B tag [0x00#8, BitVec.ofNat 8 (if s.au.run = .idle then 1 else 3)]).finish) ∧
  Retained.default.alarm.period = 10
end

