-- ==== Sys2Proof/Laws/State.lean ====
section
/-! SUPPORT. What each update of one record of the state does to each block: the block it changes and, one lemma per field,
the thirteen it leaves. All true by `rfl` and in the simp set, so that no proof unfolds a record update. -/

namespace Sys2Proof.Machine

@[simp] theorem State.reach_pending (s : State) (due : Nat) : (s.reach due).pending = s.pending := rfl
@[simp] theorem State.reach_now (s : State) (due : Nat) :
    (s.reach due).now = max s.now due := rfl
@[simp] theorem State.reach_phase (s : State) (due : Nat) : (s.reach due).phase = s.phase := rfl
@[simp] theorem State.reach_li (s : State) (due : Nat) : (s.reach due).li = s.li := rfl
@[simp] theorem State.reach_td (s : State) (due : Nat) : (s.reach due).td = s.td := rfl
@[simp] theorem State.reach_as (s : State) (due : Nat) : (s.reach due).as = s.as := rfl
@[simp] theorem State.reach_nd (s : State) (due : Nat) : (s.reach due).nd = s.nd := rfl
@[simp] theorem State.reach_dp (s : State) (due : Nat) : (s.reach due).dp = s.dp := rfl
@[simp] theorem State.reach_ss (s : State) (due : Nat) : (s.reach due).ss = s.ss := rfl
@[simp] theorem State.reach_cu (s : State) (due : Nat) : (s.reach due).cu = s.cu := rfl
@[simp] theorem State.reach_jn (s : State) (due : Nat) : (s.reach due).jn = s.jn := rfl
@[simp] theorem State.reach_au (s : State) (due : Nat) : (s.reach due).au = s.au := rfl
@[simp] theorem State.reach_lc (s : State) (due : Nat) : (s.reach due).lc = s.lc := rfl
@[simp] theorem State.reach_store (s : State) (due : Nat) : (s.reach due).store = s.store := rfl

@[simp] theorem State.modLane_pending (s : State) (l : Lane) (f : LaneRec → LaneRec) : (s.modLane l f).pending = s.pending := rfl
@[simp] theorem State.modLane_now (s : State) (l : Lane) (f : LaneRec → LaneRec) : (s.modLane l f).now = s.now := rfl
@[simp] theorem State.modLane_phase (s : State) (l : Lane) (f : LaneRec → LaneRec) : (s.modLane l f).phase = s.phase := rfl
@[simp] theorem State.modLane_li (s : State) (l : Lane) (f : LaneRec → LaneRec) :
    (s.modLane l f).li = { s.li with lanes := s.li.lanes.modify l f } := rfl
@[simp] theorem State.modLane_td (s : State) (l : Lane) (f : LaneRec → LaneRec) : (s.modLane l f).td = s.td := rfl
@[simp] theorem State.modLane_as (s : State) (l : Lane) (f : LaneRec → LaneRec) : (s.modLane l f).as = s.as := rfl
@[simp] theorem State.modLane_nd (s : State) (l : Lane) (f : LaneRec → LaneRec) : (s.modLane l f).nd = s.nd := rfl
@[simp] theorem State.modLane_dp (s : State) (l : Lane) (f : LaneRec → LaneRec) : (s.modLane l f).dp = s.dp := rfl
@[simp] theorem State.modLane_ss (s : State) (l : Lane) (f : LaneRec → LaneRec) : (s.modLane l f).ss = s.ss := rfl
@[simp] theorem State.modLane_cu (s : State) (l : Lane) (f : LaneRec → LaneRec) : (s.modLane l f).cu = s.cu := rfl
@[simp] theorem State.modLane_jn (s : State) (l : Lane) (f : LaneRec → LaneRec) : (s.modLane l f).jn = s.jn := rfl
@[simp] theorem State.modLane_au (s : State) (l : Lane) (f : LaneRec → LaneRec) : (s.modLane l f).au = s.au := rfl
@[simp] theorem State.modLane_lc (s : State) (l : Lane) (f : LaneRec → LaneRec) : (s.modLane l f).lc = s.lc := rfl
@[simp] theorem State.modLane_store (s : State) (l : Lane) (f : LaneRec → LaneRec) : (s.modLane l f).store = s.store := rfl

@[simp] theorem State.modLI_pending (s : State) (f : LI → LI) : (s.modLI f).pending = s.pending := rfl
@[simp] theorem State.modLI_now (s : State) (f : LI → LI) : (s.modLI f).now = s.now := rfl
@[simp] theorem State.modLI_phase (s : State) (f : LI → LI) : (s.modLI f).phase = s.phase := rfl
@[simp] theorem State.modLI_li (s : State) (f : LI → LI) :
    (s.modLI f).li = f s.li := rfl
@[simp] theorem State.modLI_td (s : State) (f : LI → LI) : (s.modLI f).td = s.td := rfl
@[simp] theorem State.modLI_as (s : State) (f : LI → LI) : (s.modLI f).as = s.as := rfl
@[simp] theorem State.modLI_nd (s : State) (f : LI → LI) : (s.modLI f).nd = s.nd := rfl
@[simp] theorem State.modLI_dp (s : State) (f : LI → LI) : (s.modLI f).dp = s.dp := rfl
@[simp] theorem State.modLI_ss (s : State) (f : LI → LI) : (s.modLI f).ss = s.ss := rfl
@[simp] theorem State.modLI_cu (s : State) (f : LI → LI) : (s.modLI f).cu = s.cu := rfl
@[simp] theorem State.modLI_jn (s : State) (f : LI → LI) : (s.modLI f).jn = s.jn := rfl
@[simp] theorem State.modLI_au (s : State) (f : LI → LI) : (s.modLI f).au = s.au := rfl
@[simp] theorem State.modLI_lc (s : State) (f : LI → LI) : (s.modLI f).lc = s.lc := rfl
@[simp] theorem State.modLI_store (s : State) (f : LI → LI) : (s.modLI f).store = s.store := rfl

@[simp] theorem State.modCarrier_pending (s : State) (l : Lane) (f : Carrier → Carrier) : (s.modCarrier l f).pending = s.pending := rfl
@[simp] theorem State.modCarrier_now (s : State) (l : Lane) (f : Carrier → Carrier) : (s.modCarrier l f).now = s.now := rfl
@[simp] theorem State.modCarrier_phase (s : State) (l : Lane) (f : Carrier → Carrier) : (s.modCarrier l f).phase = s.phase := rfl
@[simp] theorem State.modCarrier_li (s : State) (l : Lane) (f : Carrier → Carrier) : (s.modCarrier l f).li = s.li := rfl
@[simp] theorem State.modCarrier_td (s : State) (l : Lane) (f : Carrier → Carrier) :
    (s.modCarrier l f).td = { s.td with carriers := s.td.carriers.modify l f } := rfl
@[simp] theorem State.modCarrier_as (s : State) (l : Lane) (f : Carrier → Carrier) : (s.modCarrier l f).as = s.as := rfl
@[simp] theorem State.modCarrier_nd (s : State) (l : Lane) (f : Carrier → Carrier) : (s.modCarrier l f).nd = s.nd := rfl
@[simp] theorem State.modCarrier_dp (s : State) (l : Lane) (f : Carrier → Carrier) : (s.modCarrier l f).dp = s.dp := rfl
@[simp] theorem State.modCarrier_ss (s : State) (l : Lane) (f : Carrier → Carrier) : (s.modCarrier l f).ss = s.ss := rfl
@[simp] theorem State.modCarrier_cu (s : State) (l : Lane) (f : Carrier → Carrier) : (s.modCarrier l f).cu = s.cu := rfl
@[simp] theorem State.modCarrier_jn (s : State) (l : Lane) (f : Carrier → Carrier) : (s.modCarrier l f).jn = s.jn := rfl
@[simp] theorem State.modCarrier_au (s : State) (l : Lane) (f : Carrier → Carrier) : (s.modCarrier l f).au = s.au := rfl
@[simp] theorem State.modCarrier_lc (s : State) (l : Lane) (f : Carrier → Carrier) : (s.modCarrier l f).lc = s.lc := rfl
@[simp] theorem State.modCarrier_store (s : State) (l : Lane) (f : Carrier → Carrier) : (s.modCarrier l f).store = s.store := rfl

@[simp] theorem State.modBay_pending (s : State) (l : Lane) (f : Bay → Bay) : (s.modBay l f).pending = s.pending := rfl
@[simp] theorem State.modBay_now (s : State) (l : Lane) (f : Bay → Bay) : (s.modBay l f).now = s.now := rfl
@[simp] theorem State.modBay_phase (s : State) (l : Lane) (f : Bay → Bay) : (s.modBay l f).phase = s.phase := rfl
@[simp] theorem State.modBay_li (s : State) (l : Lane) (f : Bay → Bay) : (s.modBay l f).li = s.li := rfl
@[simp] theorem State.modBay_td (s : State) (l : Lane) (f : Bay → Bay) :
    (s.modBay l f).td = { s.td with bays := s.td.bays.modify l f } := rfl
@[simp] theorem State.modBay_as (s : State) (l : Lane) (f : Bay → Bay) : (s.modBay l f).as = s.as := rfl
@[simp] theorem State.modBay_nd (s : State) (l : Lane) (f : Bay → Bay) : (s.modBay l f).nd = s.nd := rfl
@[simp] theorem State.modBay_dp (s : State) (l : Lane) (f : Bay → Bay) : (s.modBay l f).dp = s.dp := rfl
@[simp] theorem State.modBay_ss (s : State) (l : Lane) (f : Bay → Bay) : (s.modBay l f).ss = s.ss := rfl
@[simp] theorem State.modBay_cu (s : State) (l : Lane) (f : Bay → Bay) : (s.modBay l f).cu = s.cu := rfl
@[simp] theorem State.modBay_jn (s : State) (l : Lane) (f : Bay → Bay) : (s.modBay l f).jn = s.jn := rfl
@[simp] theorem State.modBay_au (s : State) (l : Lane) (f : Bay → Bay) : (s.modBay l f).au = s.au := rfl
@[simp] theorem State.modBay_lc (s : State) (l : Lane) (f : Bay → Bay) : (s.modBay l f).lc = s.lc := rfl
@[simp] theorem State.modBay_store (s : State) (l : Lane) (f : Bay → Bay) : (s.modBay l f).store = s.store := rfl

@[simp] theorem State.setPhase_pending (s : State) (p : MovePhase) : (s.setPhase p).pending = s.pending := rfl
@[simp] theorem State.setPhase_now (s : State) (p : MovePhase) : (s.setPhase p).now = s.now := rfl
@[simp] theorem State.setPhase_phase (s : State) (p : MovePhase) : (s.setPhase p).phase = s.phase := rfl
@[simp] theorem State.setPhase_li (s : State) (p : MovePhase) : (s.setPhase p).li = s.li := rfl
@[simp] theorem State.setPhase_td (s : State) (p : MovePhase) :
    (s.setPhase p).td = { s.td with move := s.td.move.map fun m => { m with phase := p } } := rfl
@[simp] theorem State.setPhase_as (s : State) (p : MovePhase) : (s.setPhase p).as = s.as := rfl
@[simp] theorem State.setPhase_nd (s : State) (p : MovePhase) : (s.setPhase p).nd = s.nd := rfl
@[simp] theorem State.setPhase_dp (s : State) (p : MovePhase) : (s.setPhase p).dp = s.dp := rfl
@[simp] theorem State.setPhase_ss (s : State) (p : MovePhase) : (s.setPhase p).ss = s.ss := rfl
@[simp] theorem State.setPhase_cu (s : State) (p : MovePhase) : (s.setPhase p).cu = s.cu := rfl
@[simp] theorem State.setPhase_jn (s : State) (p : MovePhase) : (s.setPhase p).jn = s.jn := rfl
@[simp] theorem State.setPhase_au (s : State) (p : MovePhase) : (s.setPhase p).au = s.au := rfl
@[simp] theorem State.setPhase_lc (s : State) (p : MovePhase) : (s.setPhase p).lc = s.lc := rfl
@[simp] theorem State.setPhase_store (s : State) (p : MovePhase) : (s.setPhase p).store = s.store := rfl

@[simp] theorem State.setLocation_pending (s : State) (l : Lane) (loc : Location) : (s.setLocation l loc).pending = s.pending := rfl
@[simp] theorem State.setLocation_now (s : State) (l : Lane) (loc : Location) : (s.setLocation l loc).now = s.now := rfl
@[simp] theorem State.setLocation_phase (s : State) (l : Lane) (loc : Location) : (s.setLocation l loc).phase = s.phase := rfl
@[simp] theorem State.setLocation_li (s : State) (l : Lane) (loc : Location) : (s.setLocation l loc).li = s.li := rfl
@[simp] theorem State.setLocation_td (s : State) (l : Lane) (loc : Location) :
    (s.setLocation l loc).td = { s.td with carriers := s.td.carriers.modify l fun c => { c with location := loc } } := rfl
@[simp] theorem State.setLocation_as (s : State) (l : Lane) (loc : Location) : (s.setLocation l loc).as = s.as := rfl
@[simp] theorem State.setLocation_nd (s : State) (l : Lane) (loc : Location) : (s.setLocation l loc).nd = s.nd := rfl
@[simp] theorem State.setLocation_dp (s : State) (l : Lane) (loc : Location) : (s.setLocation l loc).dp = s.dp := rfl
@[simp] theorem State.setLocation_ss (s : State) (l : Lane) (loc : Location) : (s.setLocation l loc).ss = s.ss := rfl
@[simp] theorem State.setLocation_cu (s : State) (l : Lane) (loc : Location) : (s.setLocation l loc).cu = s.cu := rfl
@[simp] theorem State.setLocation_jn (s : State) (l : Lane) (loc : Location) : (s.setLocation l loc).jn = s.jn := rfl
@[simp] theorem State.setLocation_au (s : State) (l : Lane) (loc : Location) : (s.setLocation l loc).au = s.au := rfl
@[simp] theorem State.setLocation_lc (s : State) (l : Lane) (loc : Location) : (s.setLocation l loc).lc = s.lc := rfl
@[simp] theorem State.setLocation_store (s : State) (l : Lane) (loc : Location) : (s.setLocation l loc).store = s.store := rfl

@[simp] theorem State.modAS_pending (s : State) (f : AS → AS) : (s.modAS f).pending = s.pending := rfl
@[simp] theorem State.modAS_now (s : State) (f : AS → AS) : (s.modAS f).now = s.now := rfl
@[simp] theorem State.modAS_phase (s : State) (f : AS → AS) : (s.modAS f).phase = s.phase := rfl
@[simp] theorem State.modAS_li (s : State) (f : AS → AS) : (s.modAS f).li = s.li := rfl
@[simp] theorem State.modAS_td (s : State) (f : AS → AS) : (s.modAS f).td = s.td := rfl
@[simp] theorem State.modAS_as (s : State) (f : AS → AS) :
    (s.modAS f).as = f s.as := rfl
@[simp] theorem State.modAS_nd (s : State) (f : AS → AS) : (s.modAS f).nd = s.nd := rfl
@[simp] theorem State.modAS_dp (s : State) (f : AS → AS) : (s.modAS f).dp = s.dp := rfl
@[simp] theorem State.modAS_ss (s : State) (f : AS → AS) : (s.modAS f).ss = s.ss := rfl
@[simp] theorem State.modAS_cu (s : State) (f : AS → AS) : (s.modAS f).cu = s.cu := rfl
@[simp] theorem State.modAS_jn (s : State) (f : AS → AS) : (s.modAS f).jn = s.jn := rfl
@[simp] theorem State.modAS_au (s : State) (f : AS → AS) : (s.modAS f).au = s.au := rfl
@[simp] theorem State.modAS_lc (s : State) (f : AS → AS) : (s.modAS f).lc = s.lc := rfl
@[simp] theorem State.modAS_store (s : State) (f : AS → AS) : (s.modAS f).store = s.store := rfl

@[simp] theorem State.modCass_pending (s : State) (c : Cass) (f : Cassette → Cassette) : (s.modCass c f).pending = s.pending := rfl
@[simp] theorem State.modCass_now (s : State) (c : Cass) (f : Cassette → Cassette) : (s.modCass c f).now = s.now := rfl
@[simp] theorem State.modCass_phase (s : State) (c : Cass) (f : Cassette → Cassette) : (s.modCass c f).phase = s.phase := rfl
@[simp] theorem State.modCass_li (s : State) (c : Cass) (f : Cassette → Cassette) : (s.modCass c f).li = s.li := rfl
@[simp] theorem State.modCass_td (s : State) (c : Cass) (f : Cassette → Cassette) : (s.modCass c f).td = s.td := rfl
@[simp] theorem State.modCass_as (s : State) (c : Cass) (f : Cassette → Cassette) : (s.modCass c f).as = s.as := rfl
@[simp] theorem State.modCass_nd (s : State) (c : Cass) (f : Cassette → Cassette) :
    (s.modCass c f).nd = { s.nd with cassettes := s.nd.cassettes.modify c f } := rfl
@[simp] theorem State.modCass_dp (s : State) (c : Cass) (f : Cassette → Cassette) : (s.modCass c f).dp = s.dp := rfl
@[simp] theorem State.modCass_ss (s : State) (c : Cass) (f : Cassette → Cassette) : (s.modCass c f).ss = s.ss := rfl
@[simp] theorem State.modCass_cu (s : State) (c : Cass) (f : Cassette → Cassette) : (s.modCass c f).cu = s.cu := rfl
@[simp] theorem State.modCass_jn (s : State) (c : Cass) (f : Cassette → Cassette) : (s.modCass c f).jn = s.jn := rfl
@[simp] theorem State.modCass_au (s : State) (c : Cass) (f : Cassette → Cassette) : (s.modCass c f).au = s.au := rfl
@[simp] theorem State.modCass_lc (s : State) (c : Cass) (f : Cassette → Cassette) : (s.modCass c f).lc = s.lc := rfl
@[simp] theorem State.modCass_store (s : State) (c : Cass) (f : Cassette → Cassette) : (s.modCass c f).store = s.store := rfl

@[simp] theorem State.modND_pending (s : State) (f : ND → ND) : (s.modND f).pending = s.pending := rfl
@[simp] theorem State.modND_now (s : State) (f : ND → ND) : (s.modND f).now = s.now := rfl
@[simp] theorem State.modND_phase (s : State) (f : ND → ND) : (s.modND f).phase = s.phase := rfl
@[simp] theorem State.modND_li (s : State) (f : ND → ND) : (s.modND f).li = s.li := rfl
@[simp] theorem State.modND_td (s : State) (f : ND → ND) : (s.modND f).td = s.td := rfl
@[simp] theorem State.modND_as (s : State) (f : ND → ND) : (s.modND f).as = s.as := rfl
@[simp] theorem State.modND_nd (s : State) (f : ND → ND) :
    (s.modND f).nd = f s.nd := rfl
@[simp] theorem State.modND_dp (s : State) (f : ND → ND) : (s.modND f).dp = s.dp := rfl
@[simp] theorem State.modND_ss (s : State) (f : ND → ND) : (s.modND f).ss = s.ss := rfl
@[simp] theorem State.modND_cu (s : State) (f : ND → ND) : (s.modND f).cu = s.cu := rfl
@[simp] theorem State.modND_jn (s : State) (f : ND → ND) : (s.modND f).jn = s.jn := rfl
@[simp] theorem State.modND_au (s : State) (f : ND → ND) : (s.modND f).au = s.au := rfl
@[simp] theorem State.modND_lc (s : State) (f : ND → ND) : (s.modND f).lc = s.lc := rfl
@[simp] theorem State.modND_store (s : State) (f : ND → ND) : (s.modND f).store = s.store := rfl

@[simp] theorem State.modLoad_pending (s : State) (id : Nat) (f : Load → Load) : (s.modLoad id f).pending = s.pending := rfl
@[simp] theorem State.modLoad_now (s : State) (id : Nat) (f : Load → Load) : (s.modLoad id f).now = s.now := rfl
@[simp] theorem State.modLoad_phase (s : State) (id : Nat) (f : Load → Load) : (s.modLoad id f).phase = s.phase := rfl
@[simp] theorem State.modLoad_li (s : State) (id : Nat) (f : Load → Load) : (s.modLoad id f).li = s.li := rfl
@[simp] theorem State.modLoad_td (s : State) (id : Nat) (f : Load → Load) : (s.modLoad id f).td = s.td := rfl
@[simp] theorem State.modLoad_as (s : State) (id : Nat) (f : Load → Load) : (s.modLoad id f).as = s.as := rfl
@[simp] theorem State.modLoad_nd (s : State) (id : Nat) (f : Load → Load) : (s.modLoad id f).nd = s.nd := rfl
@[simp] theorem State.modLoad_dp (s : State) (id : Nat) (f : Load → Load) :
    (s.modLoad id f).dp = { s.dp with loads := s.dp.loads.map fun ld => if ld.id = id then f ld else ld } := rfl
@[simp] theorem State.modLoad_ss (s : State) (id : Nat) (f : Load → Load) : (s.modLoad id f).ss = s.ss := rfl
@[simp] theorem State.modLoad_cu (s : State) (id : Nat) (f : Load → Load) : (s.modLoad id f).cu = s.cu := rfl
@[simp] theorem State.modLoad_jn (s : State) (id : Nat) (f : Load → Load) : (s.modLoad id f).jn = s.jn := rfl
@[simp] theorem State.modLoad_au (s : State) (id : Nat) (f : Load → Load) : (s.modLoad id f).au = s.au := rfl
@[simp] theorem State.modLoad_lc (s : State) (id : Nat) (f : Load → Load) : (s.modLoad id f).lc = s.lc := rfl
@[simp] theorem State.modLoad_store (s : State) (id : Nat) (f : Load → Load) : (s.modLoad id f).store = s.store := rfl

@[simp] theorem State.modDP_pending (s : State) (f : DP → DP) : (s.modDP f).pending = s.pending := rfl
@[simp] theorem State.modDP_now (s : State) (f : DP → DP) : (s.modDP f).now = s.now := rfl
@[simp] theorem State.modDP_phase (s : State) (f : DP → DP) : (s.modDP f).phase = s.phase := rfl
@[simp] theorem State.modDP_li (s : State) (f : DP → DP) : (s.modDP f).li = s.li := rfl
@[simp] theorem State.modDP_td (s : State) (f : DP → DP) : (s.modDP f).td = s.td := rfl
@[simp] theorem State.modDP_as (s : State) (f : DP → DP) : (s.modDP f).as = s.as := rfl
@[simp] theorem State.modDP_nd (s : State) (f : DP → DP) : (s.modDP f).nd = s.nd := rfl
@[simp] theorem State.modDP_dp (s : State) (f : DP → DP) :
    (s.modDP f).dp = f s.dp := rfl
@[simp] theorem State.modDP_ss (s : State) (f : DP → DP) : (s.modDP f).ss = s.ss := rfl
@[simp] theorem State.modDP_cu (s : State) (f : DP → DP) : (s.modDP f).cu = s.cu := rfl
@[simp] theorem State.modDP_jn (s : State) (f : DP → DP) : (s.modDP f).jn = s.jn := rfl
@[simp] theorem State.modDP_au (s : State) (f : DP → DP) : (s.modDP f).au = s.au := rfl
@[simp] theorem State.modDP_lc (s : State) (f : DP → DP) : (s.modDP f).lc = s.lc := rfl
@[simp] theorem State.modDP_store (s : State) (f : DP → DP) : (s.modDP f).store = s.store := rfl

@[simp] theorem State.modSS_pending (s : State) (f : SS → SS) : (s.modSS f).pending = s.pending := rfl
@[simp] theorem State.modSS_now (s : State) (f : SS → SS) : (s.modSS f).now = s.now := rfl
@[simp] theorem State.modSS_phase (s : State) (f : SS → SS) : (s.modSS f).phase = s.phase := rfl
@[simp] theorem State.modSS_li (s : State) (f : SS → SS) : (s.modSS f).li = s.li := rfl
@[simp] theorem State.modSS_td (s : State) (f : SS → SS) : (s.modSS f).td = s.td := rfl
@[simp] theorem State.modSS_as (s : State) (f : SS → SS) : (s.modSS f).as = s.as := rfl
@[simp] theorem State.modSS_nd (s : State) (f : SS → SS) : (s.modSS f).nd = s.nd := rfl
@[simp] theorem State.modSS_dp (s : State) (f : SS → SS) : (s.modSS f).dp = s.dp := rfl
@[simp] theorem State.modSS_ss (s : State) (f : SS → SS) :
    (s.modSS f).ss = f s.ss := rfl
@[simp] theorem State.modSS_cu (s : State) (f : SS → SS) : (s.modSS f).cu = s.cu := rfl
@[simp] theorem State.modSS_jn (s : State) (f : SS → SS) : (s.modSS f).jn = s.jn := rfl
@[simp] theorem State.modSS_au (s : State) (f : SS → SS) : (s.modSS f).au = s.au := rfl
@[simp] theorem State.modSS_lc (s : State) (f : SS → SS) : (s.modSS f).lc = s.lc := rfl
@[simp] theorem State.modSS_store (s : State) (f : SS → SS) : (s.modSS f).store = s.store := rfl

@[simp] theorem State.modCU_pending (s : State) (f : CU → CU) : (s.modCU f).pending = s.pending := rfl
@[simp] theorem State.modCU_now (s : State) (f : CU → CU) : (s.modCU f).now = s.now := rfl
@[simp] theorem State.modCU_phase (s : State) (f : CU → CU) : (s.modCU f).phase = s.phase := rfl
@[simp] theorem State.modCU_li (s : State) (f : CU → CU) : (s.modCU f).li = s.li := rfl
@[simp] theorem State.modCU_td (s : State) (f : CU → CU) : (s.modCU f).td = s.td := rfl
@[simp] theorem State.modCU_as (s : State) (f : CU → CU) : (s.modCU f).as = s.as := rfl
@[simp] theorem State.modCU_nd (s : State) (f : CU → CU) : (s.modCU f).nd = s.nd := rfl
@[simp] theorem State.modCU_dp (s : State) (f : CU → CU) : (s.modCU f).dp = s.dp := rfl
@[simp] theorem State.modCU_ss (s : State) (f : CU → CU) : (s.modCU f).ss = s.ss := rfl
@[simp] theorem State.modCU_cu (s : State) (f : CU → CU) :
    (s.modCU f).cu = f s.cu := rfl
@[simp] theorem State.modCU_jn (s : State) (f : CU → CU) : (s.modCU f).jn = s.jn := rfl
@[simp] theorem State.modCU_au (s : State) (f : CU → CU) : (s.modCU f).au = s.au := rfl
@[simp] theorem State.modCU_lc (s : State) (f : CU → CU) : (s.modCU f).lc = s.lc := rfl
@[simp] theorem State.modCU_store (s : State) (f : CU → CU) : (s.modCU f).store = s.store := rfl

@[simp] theorem State.modJN_pending (s : State) (f : JN → JN) : (s.modJN f).pending = s.pending := rfl
@[simp] theorem State.modJN_now (s : State) (f : JN → JN) : (s.modJN f).now = s.now := rfl
@[simp] theorem State.modJN_phase (s : State) (f : JN → JN) : (s.modJN f).phase = s.phase := rfl
@[simp] theorem State.modJN_li (s : State) (f : JN → JN) : (s.modJN f).li = s.li := rfl
@[simp] theorem State.modJN_td (s : State) (f : JN → JN) : (s.modJN f).td = s.td := rfl
@[simp] theorem State.modJN_as (s : State) (f : JN → JN) : (s.modJN f).as = s.as := rfl
@[simp] theorem State.modJN_nd (s : State) (f : JN → JN) : (s.modJN f).nd = s.nd := rfl
@[simp] theorem State.modJN_dp (s : State) (f : JN → JN) : (s.modJN f).dp = s.dp := rfl
@[simp] theorem State.modJN_ss (s : State) (f : JN → JN) : (s.modJN f).ss = s.ss := rfl
@[simp] theorem State.modJN_cu (s : State) (f : JN → JN) : (s.modJN f).cu = s.cu := rfl
@[simp] theorem State.modJN_jn (s : State) (f : JN → JN) :
    (s.modJN f).jn = f s.jn := rfl
@[simp] theorem State.modJN_au (s : State) (f : JN → JN) : (s.modJN f).au = s.au := rfl
@[simp] theorem State.modJN_lc (s : State) (f : JN → JN) : (s.modJN f).lc = s.lc := rfl
@[simp] theorem State.modJN_store (s : State) (f : JN → JN) : (s.modJN f).store = s.store := rfl

@[simp] theorem State.modZone_pending (s : State) (i : ZoneId) (f : Zone → Zone) : (s.modZone i f).pending = s.pending := rfl
@[simp] theorem State.modZone_now (s : State) (i : ZoneId) (f : Zone → Zone) : (s.modZone i f).now = s.now := rfl
@[simp] theorem State.modZone_phase (s : State) (i : ZoneId) (f : Zone → Zone) : (s.modZone i f).phase = s.phase := rfl
@[simp] theorem State.modZone_li (s : State) (i : ZoneId) (f : Zone → Zone) : (s.modZone i f).li = s.li := rfl
@[simp] theorem State.modZone_td (s : State) (i : ZoneId) (f : Zone → Zone) : (s.modZone i f).td = s.td := rfl
@[simp] theorem State.modZone_as (s : State) (i : ZoneId) (f : Zone → Zone) : (s.modZone i f).as = s.as := rfl
@[simp] theorem State.modZone_nd (s : State) (i : ZoneId) (f : Zone → Zone) : (s.modZone i f).nd = s.nd := rfl
@[simp] theorem State.modZone_dp (s : State) (i : ZoneId) (f : Zone → Zone) : (s.modZone i f).dp = s.dp := rfl
@[simp] theorem State.modZone_ss (s : State) (i : ZoneId) (f : Zone → Zone) : (s.modZone i f).ss = s.ss := rfl
@[simp] theorem State.modZone_cu (s : State) (i : ZoneId) (f : Zone → Zone) : (s.modZone i f).cu = s.cu := rfl
@[simp] theorem State.modZone_jn (s : State) (i : ZoneId) (f : Zone → Zone) : (s.modZone i f).jn = s.jn := rfl
@[simp] theorem State.modZone_au (s : State) (i : ZoneId) (f : Zone → Zone) :
    (s.modZone i f).au = { s.au with zones := s.au.zones.set i (f (s.au.zones.get i)) } := rfl
@[simp] theorem State.modZone_lc (s : State) (i : ZoneId) (f : Zone → Zone) : (s.modZone i f).lc = s.lc := rfl
@[simp] theorem State.modZone_store (s : State) (i : ZoneId) (f : Zone → Zone) : (s.modZone i f).store = s.store := rfl

@[simp] theorem State.modAU_pending (s : State) (f : AU → AU) : (s.modAU f).pending = s.pending := rfl
@[simp] theorem State.modAU_now (s : State) (f : AU → AU) : (s.modAU f).now = s.now := rfl
@[simp] theorem State.modAU_phase (s : State) (f : AU → AU) : (s.modAU f).phase = s.phase := rfl
@[simp] theorem State.modAU_li (s : State) (f : AU → AU) : (s.modAU f).li = s.li := rfl
@[simp] theorem State.modAU_td (s : State) (f : AU → AU) : (s.modAU f).td = s.td := rfl
@[simp] theorem State.modAU_as (s : State) (f : AU → AU) : (s.modAU f).as = s.as := rfl
@[simp] theorem State.modAU_nd (s : State) (f : AU → AU) : (s.modAU f).nd = s.nd := rfl
@[simp] theorem State.modAU_dp (s : State) (f : AU → AU) : (s.modAU f).dp = s.dp := rfl
@[simp] theorem State.modAU_ss (s : State) (f : AU → AU) : (s.modAU f).ss = s.ss := rfl
@[simp] theorem State.modAU_cu (s : State) (f : AU → AU) : (s.modAU f).cu = s.cu := rfl
@[simp] theorem State.modAU_jn (s : State) (f : AU → AU) : (s.modAU f).jn = s.jn := rfl
@[simp] theorem State.modAU_au (s : State) (f : AU → AU) :
    (s.modAU f).au = f s.au := rfl
@[simp] theorem State.modAU_lc (s : State) (f : AU → AU) : (s.modAU f).lc = s.lc := rfl
@[simp] theorem State.modAU_store (s : State) (f : AU → AU) : (s.modAU f).store = s.store := rfl

@[simp] theorem State.modLC_pending (s : State) (f : LC → LC) : (s.modLC f).pending = s.pending := rfl
@[simp] theorem State.modLC_now (s : State) (f : LC → LC) : (s.modLC f).now = s.now := rfl
@[simp] theorem State.modLC_phase (s : State) (f : LC → LC) : (s.modLC f).phase = s.phase := rfl
@[simp] theorem State.modLC_li (s : State) (f : LC → LC) : (s.modLC f).li = s.li := rfl
@[simp] theorem State.modLC_td (s : State) (f : LC → LC) : (s.modLC f).td = s.td := rfl
@[simp] theorem State.modLC_as (s : State) (f : LC → LC) : (s.modLC f).as = s.as := rfl
@[simp] theorem State.modLC_nd (s : State) (f : LC → LC) : (s.modLC f).nd = s.nd := rfl
@[simp] theorem State.modLC_dp (s : State) (f : LC → LC) : (s.modLC f).dp = s.dp := rfl
@[simp] theorem State.modLC_ss (s : State) (f : LC → LC) : (s.modLC f).ss = s.ss := rfl
@[simp] theorem State.modLC_cu (s : State) (f : LC → LC) : (s.modLC f).cu = s.cu := rfl
@[simp] theorem State.modLC_jn (s : State) (f : LC → LC) : (s.modLC f).jn = s.jn := rfl
@[simp] theorem State.modLC_au (s : State) (f : LC → LC) : (s.modLC f).au = s.au := rfl
@[simp] theorem State.modLC_lc (s : State) (f : LC → LC) :
    (s.modLC f).lc = f s.lc := rfl
@[simp] theorem State.modLC_store (s : State) (f : LC → LC) : (s.modLC f).store = s.store := rfl

@[simp] theorem State.raise_pending (s : State) (c : Cond) (snapshot : List Byte) : (s.raise c snapshot).pending = s.pending := rfl
@[simp] theorem State.raise_now (s : State) (c : Cond) (snapshot : List Byte) : (s.raise c snapshot).now = s.now := rfl
@[simp] theorem State.raise_phase (s : State) (c : Cond) (snapshot : List Byte) : (s.raise c snapshot).phase = s.phase := rfl
@[simp] theorem State.raise_li (s : State) (c : Cond) (snapshot : List Byte) : (s.raise c snapshot).li = s.li := rfl
@[simp] theorem State.raise_td (s : State) (c : Cond) (snapshot : List Byte) : (s.raise c snapshot).td = s.td := rfl
@[simp] theorem State.raise_as (s : State) (c : Cond) (snapshot : List Byte) : (s.raise c snapshot).as = s.as := rfl
@[simp] theorem State.raise_nd (s : State) (c : Cond) (snapshot : List Byte) : (s.raise c snapshot).nd = s.nd := rfl
@[simp] theorem State.raise_dp (s : State) (c : Cond) (snapshot : List Byte) : (s.raise c snapshot).dp = s.dp := rfl
@[simp] theorem State.raise_ss (s : State) (c : Cond) (snapshot : List Byte) : (s.raise c snapshot).ss = s.ss := rfl
@[simp] theorem State.raise_cu (s : State) (c : Cond) (snapshot : List Byte) : (s.raise c snapshot).cu = s.cu := rfl
@[simp] theorem State.raise_jn (s : State) (c : Cond) (snapshot : List Byte) : (s.raise c snapshot).jn = s.jn := rfl
@[simp] theorem State.raise_au (s : State) (c : Cond) (snapshot : List Byte) : (s.raise c snapshot).au = s.au := rfl
@[simp] theorem State.raise_lc (s : State) (c : Cond) (snapshot : List Byte) :
    (s.raise c snapshot).lc = s.lc.raise c.num (some snapshot) := rfl
@[simp] theorem State.raise_store (s : State) (c : Cond) (snapshot : List Byte) : (s.raise c snapshot).store = s.store := rfl

@[simp] theorem State.raiseBare_pending (s : State) (c : Cond) : (s.raiseBare c).pending = s.pending := rfl
@[simp] theorem State.raiseBare_now (s : State) (c : Cond) : (s.raiseBare c).now = s.now := rfl
@[simp] theorem State.raiseBare_phase (s : State) (c : Cond) : (s.raiseBare c).phase = s.phase := rfl
@[simp] theorem State.raiseBare_li (s : State) (c : Cond) : (s.raiseBare c).li = s.li := rfl
@[simp] theorem State.raiseBare_td (s : State) (c : Cond) : (s.raiseBare c).td = s.td := rfl
@[simp] theorem State.raiseBare_as (s : State) (c : Cond) : (s.raiseBare c).as = s.as := rfl
@[simp] theorem State.raiseBare_nd (s : State) (c : Cond) : (s.raiseBare c).nd = s.nd := rfl
@[simp] theorem State.raiseBare_dp (s : State) (c : Cond) : (s.raiseBare c).dp = s.dp := rfl
@[simp] theorem State.raiseBare_ss (s : State) (c : Cond) : (s.raiseBare c).ss = s.ss := rfl
@[simp] theorem State.raiseBare_cu (s : State) (c : Cond) : (s.raiseBare c).cu = s.cu := rfl
@[simp] theorem State.raiseBare_jn (s : State) (c : Cond) : (s.raiseBare c).jn = s.jn := rfl
@[simp] theorem State.raiseBare_au (s : State) (c : Cond) : (s.raiseBare c).au = s.au := rfl
@[simp] theorem State.raiseBare_lc (s : State) (c : Cond) :
    (s.raiseBare c).lc = s.lc.raise c.num none := rfl
@[simp] theorem State.raiseBare_store (s : State) (c : Cond) : (s.raiseBare c).store = s.store := rfl

@[simp] theorem State.raiseLane_pending (s : State) (l : Lane) (k : LaneCond) (snapshot : List Byte) : (s.raiseLane l k snapshot).pending = s.pending := rfl
@[simp] theorem State.raiseLane_now (s : State) (l : Lane) (k : LaneCond) (snapshot : List Byte) : (s.raiseLane l k snapshot).now = s.now := rfl
@[simp] theorem State.raiseLane_phase (s : State) (l : Lane) (k : LaneCond) (snapshot : List Byte) : (s.raiseLane l k snapshot).phase = s.phase := rfl
@[simp] theorem State.raiseLane_li (s : State) (l : Lane) (k : LaneCond) (snapshot : List Byte) : (s.raiseLane l k snapshot).li = s.li := rfl
@[simp] theorem State.raiseLane_td (s : State) (l : Lane) (k : LaneCond) (snapshot : List Byte) : (s.raiseLane l k snapshot).td = s.td := rfl
@[simp] theorem State.raiseLane_as (s : State) (l : Lane) (k : LaneCond) (snapshot : List Byte) : (s.raiseLane l k snapshot).as = s.as := rfl
@[simp] theorem State.raiseLane_nd (s : State) (l : Lane) (k : LaneCond) (snapshot : List Byte) : (s.raiseLane l k snapshot).nd = s.nd := rfl
@[simp] theorem State.raiseLane_dp (s : State) (l : Lane) (k : LaneCond) (snapshot : List Byte) : (s.raiseLane l k snapshot).dp = s.dp := rfl
@[simp] theorem State.raiseLane_ss (s : State) (l : Lane) (k : LaneCond) (snapshot : List Byte) : (s.raiseLane l k snapshot).ss = s.ss := rfl
@[simp] theorem State.raiseLane_cu (s : State) (l : Lane) (k : LaneCond) (snapshot : List Byte) : (s.raiseLane l k snapshot).cu = s.cu := rfl
@[simp] theorem State.raiseLane_jn (s : State) (l : Lane) (k : LaneCond) (snapshot : List Byte) : (s.raiseLane l k snapshot).jn = s.jn := rfl
@[simp] theorem State.raiseLane_au (s : State) (l : Lane) (k : LaneCond) (snapshot : List Byte) : (s.raiseLane l k snapshot).au = s.au := rfl
@[simp] theorem State.raiseLane_lc (s : State) (l : Lane) (k : LaneCond) (snapshot : List Byte) :
    (s.raiseLane l k snapshot).lc = s.lc.raise (Cond.lane l k).num (some snapshot) := rfl
@[simp] theorem State.raiseLane_store (s : State) (l : Lane) (k : LaneCond) (snapshot : List Byte) : (s.raiseLane l k snapshot).store = s.store := rfl

@[simp] theorem State.raiseLaneBare_pending (s : State) (l : Lane) (k : LaneCond) : (s.raiseLaneBare l k).pending = s.pending := rfl
@[simp] theorem State.raiseLaneBare_now (s : State) (l : Lane) (k : LaneCond) : (s.raiseLaneBare l k).now = s.now := rfl
@[simp] theorem State.raiseLaneBare_phase (s : State) (l : Lane) (k : LaneCond) : (s.raiseLaneBare l k).phase = s.phase := rfl
@[simp] theorem State.raiseLaneBare_li (s : State) (l : Lane) (k : LaneCond) : (s.raiseLaneBare l k).li = s.li := rfl
@[simp] theorem State.raiseLaneBare_td (s : State) (l : Lane) (k : LaneCond) : (s.raiseLaneBare l k).td = s.td := rfl
@[simp] theorem State.raiseLaneBare_as (s : State) (l : Lane) (k : LaneCond) : (s.raiseLaneBare l k).as = s.as := rfl
@[simp] theorem State.raiseLaneBare_nd (s : State) (l : Lane) (k : LaneCond) : (s.raiseLaneBare l k).nd = s.nd := rfl
@[simp] theorem State.raiseLaneBare_dp (s : State) (l : Lane) (k : LaneCond) : (s.raiseLaneBare l k).dp = s.dp := rfl
@[simp] theorem State.raiseLaneBare_ss (s : State) (l : Lane) (k : LaneCond) : (s.raiseLaneBare l k).ss = s.ss := rfl
@[simp] theorem State.raiseLaneBare_cu (s : State) (l : Lane) (k : LaneCond) : (s.raiseLaneBare l k).cu = s.cu := rfl
@[simp] theorem State.raiseLaneBare_jn (s : State) (l : Lane) (k : LaneCond) : (s.raiseLaneBare l k).jn = s.jn := rfl
@[simp] theorem State.raiseLaneBare_au (s : State) (l : Lane) (k : LaneCond) : (s.raiseLaneBare l k).au = s.au := rfl
@[simp] theorem State.raiseLaneBare_lc (s : State) (l : Lane) (k : LaneCond) :
    (s.raiseLaneBare l k).lc = s.lc.raise (Cond.lane l k).num none := rfl
@[simp] theorem State.raiseLaneBare_store (s : State) (l : Lane) (k : LaneCond) : (s.raiseLaneBare l k).store = s.store := rfl

@[simp] theorem State.reply_pending (s : State) (kind tag : Nat) (body : List Byte) : (s.reply kind tag body).pending = s.pending := rfl
@[simp] theorem State.reply_now (s : State) (kind tag : Nat) (body : List Byte) : (s.reply kind tag body).now = s.now := rfl
@[simp] theorem State.reply_phase (s : State) (kind tag : Nat) (body : List Byte) : (s.reply kind tag body).phase = s.phase := rfl
@[simp] theorem State.reply_li (s : State) (kind tag : Nat) (body : List Byte) : (s.reply kind tag body).li = s.li := rfl
@[simp] theorem State.reply_td (s : State) (kind tag : Nat) (body : List Byte) : (s.reply kind tag body).td = s.td := rfl
@[simp] theorem State.reply_as (s : State) (kind tag : Nat) (body : List Byte) : (s.reply kind tag body).as = s.as := rfl
@[simp] theorem State.reply_nd (s : State) (kind tag : Nat) (body : List Byte) : (s.reply kind tag body).nd = s.nd := rfl
@[simp] theorem State.reply_dp (s : State) (kind tag : Nat) (body : List Byte) : (s.reply kind tag body).dp = s.dp := rfl
@[simp] theorem State.reply_ss (s : State) (kind tag : Nat) (body : List Byte) : (s.reply kind tag body).ss = s.ss := rfl
@[simp] theorem State.reply_cu (s : State) (kind tag : Nat) (body : List Byte) : (s.reply kind tag body).cu = s.cu := rfl
@[simp] theorem State.reply_jn (s : State) (kind tag : Nat) (body : List Byte) : (s.reply kind tag body).jn = s.jn := rfl
@[simp] theorem State.reply_au (s : State) (kind tag : Nat) (body : List Byte) : (s.reply kind tag body).au = s.au := rfl
@[simp] theorem State.reply_lc (s : State) (kind tag : Nat) (body : List Byte) :
    (s.reply kind tag body).lc = { s.lc with replies := s.lc.replies ++ [{ kind := replyKind kind, tag := tag, body := body, refusal := false, restart := false }] } := rfl
@[simp] theorem State.reply_store (s : State) (kind tag : Nat) (body : List Byte) : (s.reply kind tag body).store = s.store := rfl

@[simp] theorem State.ok_pending (s : State) (kind tag : Nat) (values : List Byte) : (s.ok kind tag values).pending = s.pending := rfl
@[simp] theorem State.ok_now (s : State) (kind tag : Nat) (values : List Byte) : (s.ok kind tag values).now = s.now := rfl
@[simp] theorem State.ok_phase (s : State) (kind tag : Nat) (values : List Byte) : (s.ok kind tag values).phase = s.phase := rfl
@[simp] theorem State.ok_li (s : State) (kind tag : Nat) (values : List Byte) : (s.ok kind tag values).li = s.li := rfl
@[simp] theorem State.ok_td (s : State) (kind tag : Nat) (values : List Byte) : (s.ok kind tag values).td = s.td := rfl
@[simp] theorem State.ok_as (s : State) (kind tag : Nat) (values : List Byte) : (s.ok kind tag values).as = s.as := rfl
@[simp] theorem State.ok_nd (s : State) (kind tag : Nat) (values : List Byte) : (s.ok kind tag values).nd = s.nd := rfl
@[simp] theorem State.ok_dp (s : State) (kind tag : Nat) (values : List Byte) : (s.ok kind tag values).dp = s.dp := rfl
@[simp] theorem State.ok_ss (s : State) (kind tag : Nat) (values : List Byte) : (s.ok kind tag values).ss = s.ss := rfl
@[simp] theorem State.ok_cu (s : State) (kind tag : Nat) (values : List Byte) : (s.ok kind tag values).cu = s.cu := rfl
@[simp] theorem State.ok_jn (s : State) (kind tag : Nat) (values : List Byte) : (s.ok kind tag values).jn = s.jn := rfl
@[simp] theorem State.ok_au (s : State) (kind tag : Nat) (values : List Byte) : (s.ok kind tag values).au = s.au := rfl
@[simp] theorem State.ok_lc (s : State) (kind tag : Nat) (values : List Byte) :
    (s.ok kind tag values).lc = { s.lc with replies := s.lc.replies ++ [{ kind := replyKind kind, tag := tag, body := 0x00#8 :: values, refusal := false, restart := false }] } := rfl
@[simp] theorem State.ok_store (s : State) (kind tag : Nat) (values : List Byte) : (s.ok kind tag values).store = s.store := rfl

@[simp] theorem State.refuse_pending (s : State) (kind tag : Nat) (code : Code) (detail : List Byte) : (s.refuse kind tag code detail).pending = s.pending := rfl
@[simp] theorem State.refuse_now (s : State) (kind tag : Nat) (code : Code) (detail : List Byte) : (s.refuse kind tag code detail).now = s.now := rfl
@[simp] theorem State.refuse_phase (s : State) (kind tag : Nat) (code : Code) (detail : List Byte) : (s.refuse kind tag code detail).phase = s.phase := rfl
@[simp] theorem State.refuse_li (s : State) (kind tag : Nat) (code : Code) (detail : List Byte) : (s.refuse kind tag code detail).li = s.li := rfl
@[simp] theorem State.refuse_td (s : State) (kind tag : Nat) (code : Code) (detail : List Byte) : (s.refuse kind tag code detail).td = s.td := rfl
@[simp] theorem State.refuse_as (s : State) (kind tag : Nat) (code : Code) (detail : List Byte) : (s.refuse kind tag code detail).as = s.as := rfl
@[simp] theorem State.refuse_nd (s : State) (kind tag : Nat) (code : Code) (detail : List Byte) : (s.refuse kind tag code detail).nd = s.nd := rfl
@[simp] theorem State.refuse_dp (s : State) (kind tag : Nat) (code : Code) (detail : List Byte) : (s.refuse kind tag code detail).dp = s.dp := rfl
@[simp] theorem State.refuse_ss (s : State) (kind tag : Nat) (code : Code) (detail : List Byte) : (s.refuse kind tag code detail).ss = s.ss := rfl
@[simp] theorem State.refuse_cu (s : State) (kind tag : Nat) (code : Code) (detail : List Byte) : (s.refuse kind tag code detail).cu = s.cu := rfl
@[simp] theorem State.refuse_jn (s : State) (kind tag : Nat) (code : Code) (detail : List Byte) : (s.refuse kind tag code detail).jn = s.jn := rfl
@[simp] theorem State.refuse_au (s : State) (kind tag : Nat) (code : Code) (detail : List Byte) : (s.refuse kind tag code detail).au = s.au := rfl
@[simp] theorem State.refuse_lc (s : State) (kind tag : Nat) (code : Code) (detail : List Byte) :
    (s.refuse kind tag code detail).lc = { s.lc with replies := s.lc.replies ++ [{ kind := replyKind kind, tag := tag, body := u8 code.num ++ detail, refusal := false, restart := false }] } := rfl
@[simp] theorem State.refuse_store (s : State) (kind tag : Nat) (code : Code) (detail : List Byte) : (s.refuse kind tag code detail).store = s.store := rfl

@[simp] theorem State.receive_pending (s : State) (st : RxState) (buffer : List Byte) : (s.receive st buffer).pending = s.pending := rfl
@[simp] theorem State.receive_now (s : State) (st : RxState) (buffer : List Byte) : (s.receive st buffer).now = s.now := rfl
@[simp] theorem State.receive_phase (s : State) (st : RxState) (buffer : List Byte) : (s.receive st buffer).phase = s.phase := rfl
@[simp] theorem State.receive_li (s : State) (st : RxState) (buffer : List Byte) : (s.receive st buffer).li = s.li := rfl
@[simp] theorem State.receive_td (s : State) (st : RxState) (buffer : List Byte) : (s.receive st buffer).td = s.td := rfl
@[simp] theorem State.receive_as (s : State) (st : RxState) (buffer : List Byte) : (s.receive st buffer).as = s.as := rfl
@[simp] theorem State.receive_nd (s : State) (st : RxState) (buffer : List Byte) : (s.receive st buffer).nd = s.nd := rfl
@[simp] theorem State.receive_dp (s : State) (st : RxState) (buffer : List Byte) : (s.receive st buffer).dp = s.dp := rfl
@[simp] theorem State.receive_ss (s : State) (st : RxState) (buffer : List Byte) : (s.receive st buffer).ss = s.ss := rfl
@[simp] theorem State.receive_cu (s : State) (st : RxState) (buffer : List Byte) : (s.receive st buffer).cu = s.cu := rfl
@[simp] theorem State.receive_jn (s : State) (st : RxState) (buffer : List Byte) : (s.receive st buffer).jn = s.jn := rfl
@[simp] theorem State.receive_au (s : State) (st : RxState) (buffer : List Byte) : (s.receive st buffer).au = s.au := rfl
@[simp] theorem State.receive_lc (s : State) (st : RxState) (buffer : List Byte) :
    (s.receive st buffer).lc = { s.lc with rx := { state := st, buffer := buffer } } := rfl
@[simp] theorem State.receive_store (s : State) (st : RxState) (buffer : List Byte) : (s.receive st buffer).store = s.store := rfl

@[simp] theorem State.autoClear_pending (s : State) (g : Group) (l : Lane) : (s.autoClear g l).pending = s.pending := rfl
@[simp] theorem State.autoClear_now (s : State) (g : Group) (l : Lane) : (s.autoClear g l).now = s.now := rfl
@[simp] theorem State.autoClear_phase (s : State) (g : Group) (l : Lane) : (s.autoClear g l).phase = s.phase := rfl
@[simp] theorem State.autoClear_li (s : State) (g : Group) (l : Lane) : (s.autoClear g l).li = s.li := rfl
@[simp] theorem State.autoClear_td (s : State) (g : Group) (l : Lane) : (s.autoClear g l).td = s.td := rfl
@[simp] theorem State.autoClear_as (s : State) (g : Group) (l : Lane) : (s.autoClear g l).as = s.as := rfl
@[simp] theorem State.autoClear_nd (s : State) (g : Group) (l : Lane) : (s.autoClear g l).nd = s.nd := rfl
@[simp] theorem State.autoClear_dp (s : State) (g : Group) (l : Lane) : (s.autoClear g l).dp = s.dp := rfl
@[simp] theorem State.autoClear_ss (s : State) (g : Group) (l : Lane) : (s.autoClear g l).ss = s.ss := rfl
@[simp] theorem State.autoClear_cu (s : State) (g : Group) (l : Lane) : (s.autoClear g l).cu = s.cu := rfl
@[simp] theorem State.autoClear_jn (s : State) (g : Group) (l : Lane) : (s.autoClear g l).jn = s.jn := rfl
@[simp] theorem State.autoClear_au (s : State) (g : Group) (l : Lane) : (s.autoClear g l).au = s.au := rfl
@[simp] theorem State.autoClear_lc (s : State) (g : Group) (l : Lane) :
    (s.autoClear g l).lc = s.lc.autoClear g l := rfl
@[simp] theorem State.autoClear_store (s : State) (g : Group) (l : Lane) : (s.autoClear g l).store = s.store := rfl

@[simp] theorem State.countLost_pending (s : State) : (s.countLost).pending = s.pending := rfl
@[simp] theorem State.countLost_now (s : State) : (s.countLost).now = s.now := rfl
@[simp] theorem State.countLost_phase (s : State) : (s.countLost).phase = s.phase := rfl
@[simp] theorem State.countLost_li (s : State) : (s.countLost).li = s.li := rfl
@[simp] theorem State.countLost_td (s : State) : (s.countLost).td = s.td := rfl
@[simp] theorem State.countLost_as (s : State) : (s.countLost).as = s.as := rfl
@[simp] theorem State.countLost_nd (s : State) : (s.countLost).nd = s.nd := rfl
@[simp] theorem State.countLost_dp (s : State) : (s.countLost).dp = s.dp := rfl
@[simp] theorem State.countLost_ss (s : State) : (s.countLost).ss = s.ss := rfl
@[simp] theorem State.countLost_cu (s : State) : (s.countLost).cu = s.cu := rfl
@[simp] theorem State.countLost_jn (s : State) : (s.countLost).jn = s.jn := rfl
@[simp] theorem State.countLost_au (s : State) :
    (s.countLost).au = { s.au with lost := min Config.lostMax (s.au.lost + 1) } := rfl
@[simp] theorem State.countLost_lc (s : State) : (s.countLost).lc = s.lc := rfl
@[simp] theorem State.countLost_store (s : State) : (s.countLost).store = s.store := rfl

@[simp] theorem State.pruneQueue_pending (s : State) : (s.pruneQueue).pending = s.pending := rfl
@[simp] theorem State.pruneQueue_now (s : State) : (s.pruneQueue).now = s.now := rfl
@[simp] theorem State.pruneQueue_phase (s : State) : (s.pruneQueue).phase = s.phase := rfl
@[simp] theorem State.pruneQueue_li (s : State) : (s.pruneQueue).li = s.li := rfl
@[simp] theorem State.pruneQueue_td (s : State) : (s.pruneQueue).td = s.td := rfl
@[simp] theorem State.pruneQueue_as (s : State) : (s.pruneQueue).as = s.as := rfl
@[simp] theorem State.pruneQueue_nd (s : State) : (s.pruneQueue).nd = s.nd := rfl
@[simp] theorem State.pruneQueue_dp (s : State) :
    (s.pruneQueue).dp = s.dp.pruned := rfl
@[simp] theorem State.pruneQueue_ss (s : State) : (s.pruneQueue).ss = s.ss := rfl
@[simp] theorem State.pruneQueue_cu (s : State) : (s.pruneQueue).cu = s.cu := rfl
@[simp] theorem State.pruneQueue_jn (s : State) : (s.pruneQueue).jn = s.jn := rfl
@[simp] theorem State.pruneQueue_au (s : State) : (s.pruneQueue).au = s.au := rfl
@[simp] theorem State.pruneQueue_lc (s : State) : (s.pruneQueue).lc = s.lc := rfl
@[simp] theorem State.pruneQueue_store (s : State) : (s.pruneQueue).store = s.store := rfl

end Sys2Proof.Machine
end

