-- ==== Sys2Proof/Laws/Blocks.lean ====
section
/-! SUPPORT. What the functions of one block leave of that block: the Link Controller's condition set keeps the receiver,
the outstanding count, the clock and the replies; the Journal's engine keeps the memory; a tick of the clock counts each
content of the store. -/

namespace Sys2Proof.Machine

/-- A left fold keeps what each of its steps keeps. -/
theorem foldl_keeps {α β γ : Type} (p : α → γ) (f : α → β → α) (h : ∀ s b, p (f s b) = p s) (bs : List β) (s : α) :
    p (bs.foldl f s) = p s := by
  induction bs generalizing s with
  | nil => rfl
  | cons b bs ih => simp only [List.foldl_cons, ih, h]

/-! ## Parts of a block that most operations leave -/

/-- A lane record without its reason set, which several blocks change. -/
def LaneRec.core (r : LaneRec) : LaneRec := { r with reasons := Reasons.none }

/-- The lane records without their reason sets. -/
def laneCores (f : Four LaneRec) : Four LaneRec := f.map LaneRec.core

@[simp] theorem laneCores_reasons (f : Four LaneRec) (l : Lane) (g : Reasons → Reasons) :
    laneCores (f.modify l fun r => { r with reasons := g r.reasons }) = laneCores f := by
  cases l <;> rfl

/-- The two authorization windows (R174). -/
def Zones.windows (z : Zones) : Option Nat × Option Nat := (z.safeDoor.windowUntil, z.binDoor.windowUntil)

/-- A zone's change keeps the windows where it keeps the zone's own. -/
@[simp] theorem Zones.windows_set (z : Zones) (i : ZoneId) (r : Zone) (h : r.windowUntil = (z.get i).windowUntil) :
    (z.set i r).windows = z.windows := by
  cases i <;> simp_all [Zones.windows, Zones.set, Zones.get]

@[simp] theorem AU.rerun_frame (au : AU) (now : Nat) (enters : Bool) :
    (au.rerun now enters).zones = au.zones ∧ (au.rerun now enters).safeDelay = au.safeDelay ∧
      (au.rerun now enters).binDelay = au.binDelay ∧ (au.rerun now enters).missing = au.missing ∧
      (au.rerun now enters).keySwitch = au.keySwitch ∧ (au.rerun now enters).period = au.period ∧
      (au.rerun now enters).lost = au.lost := by
  unfold AU.rerun
  (repeat' split) <;> simp

@[simp] theorem DP.pruned_frame (dp : DP) :
    dp.pruned.set = dp.set ∧ dp.pruned.loads = dp.loads ∧ dp.pruned.nextId = dp.nextId := ⟨rfl, rfl, rfl⟩

@[simp] theorem TD.abandonDivert_frame (td : TD) :
    td.abandonDivert.carriers = td.carriers ∧ td.abandonDivert.bays = td.bays ∧ td.abandonDivert.queue = td.queue ∧
      td.abandonDivert.move = td.move := by
  unfold TD.abandonDivert
  split <;> simp

/-! ## The condition set -/

@[simp] theorem LC.raise_frame (lc : LC) (n : Nat) (o : Option (List Byte)) :
    (lc.raise n o).rx = lc.rx ∧ (lc.raise n o).outstanding = lc.outstanding ∧ (lc.raise n o).replies = lc.replies ∧
      (lc.raise n o).sending = lc.sending ∧ (lc.raise n o).auto = lc.auto ∧ (lc.raise n o).dropped = lc.dropped ∧
      (lc.raise n o).clock = lc.clock ∧ (lc.raise n o).clockSet = lc.clockSet ∧ (lc.raise n o).lastStart = lc.lastStart ∧
      (lc.raise n o).storeFailed = lc.storeFailed ∧ (lc.raise n o).startEnded = lc.startEnded := by
  unfold LC.raise
  split <;> simp

@[simp] theorem LC.dropEntry_frame (lc : LC) (n : Nat) :
    (lc.dropEntry n).rx = lc.rx ∧ (lc.dropEntry n).outstanding = lc.outstanding ∧ (lc.dropEntry n).replies = lc.replies ∧
      (lc.dropEntry n).conds = lc.conds ∧ (lc.dropEntry n).auto = lc.auto ∧ (lc.dropEntry n).dropped = lc.dropped ∧
      (lc.dropEntry n).clock = lc.clock ∧ (lc.dropEntry n).clockSet = lc.clockSet ∧
      (lc.dropEntry n).lastStart = lc.lastStart ∧ (lc.dropEntry n).storeFailed = lc.storeFailed ∧
      (lc.dropEntry n).startEnded = lc.startEnded := by
  simp [LC.dropEntry]

@[simp] theorem LC.clear_frame (lc : LC) (n : Nat) :
    (lc.clear n).rx = lc.rx ∧ (lc.clear n).outstanding = lc.outstanding ∧ (lc.clear n).replies = lc.replies ∧
      (lc.clear n).auto = lc.auto ∧ (lc.clear n).dropped = lc.dropped ∧ (lc.clear n).clock = lc.clock ∧
      (lc.clear n).clockSet = lc.clockSet ∧ (lc.clear n).lastStart = lc.lastStart ∧
      (lc.clear n).storeFailed = lc.storeFailed ∧ (lc.clear n).startEnded = lc.startEnded := by
  unfold LC.clear
  (repeat' split) <;> simp

/-- Clearing a run of instances keeps everything but the condition set, the entries and the line's mark. -/
@[simp] theorem LC.clears_frame (lc : LC) (ns : List Nat) :
    (ns.foldl LC.clear lc).rx = lc.rx ∧ (ns.foldl LC.clear lc).outstanding = lc.outstanding ∧
      (ns.foldl LC.clear lc).replies = lc.replies ∧ (ns.foldl LC.clear lc).auto = lc.auto ∧
      (ns.foldl LC.clear lc).dropped = lc.dropped ∧ (ns.foldl LC.clear lc).clock = lc.clock ∧
      (ns.foldl LC.clear lc).clockSet = lc.clockSet ∧ (ns.foldl LC.clear lc).lastStart = lc.lastStart ∧
      (ns.foldl LC.clear lc).storeFailed = lc.storeFailed ∧ (ns.foldl LC.clear lc).startEnded = lc.startEnded := by
  induction ns generalizing lc with
  | nil => simp
  | cons n ns ih => simp [ih]

@[simp] theorem LC.autoClear_frame (lc : LC) (g : Group) (l : Lane) :
    (lc.autoClear g l).rx = lc.rx ∧ (lc.autoClear g l).outstanding = lc.outstanding ∧
      (lc.autoClear g l).replies = lc.replies ∧ (lc.autoClear g l).auto = lc.auto ∧
      (lc.autoClear g l).dropped = lc.dropped ∧ (lc.autoClear g l).clock = lc.clock ∧
      (lc.autoClear g l).clockSet = lc.clockSet ∧ (lc.autoClear g l).lastStart = lc.lastStart ∧
      (lc.autoClear g l).storeFailed = lc.storeFailed ∧ (lc.autoClear g l).startEnded = lc.startEnded := by
  unfold LC.autoClear
  split <;> simp

@[simp] theorem LC.setEnable_frame (lc : LC) (n : Nat) (on : Bool) :
    (lc.setEnable n on).rx = lc.rx ∧ (lc.setEnable n on).outstanding = lc.outstanding ∧
      (lc.setEnable n on).replies = lc.replies ∧ (lc.setEnable n on).auto = lc.auto ∧
      (lc.setEnable n on).dropped = lc.dropped ∧ (lc.setEnable n on).clock = lc.clock ∧
      (lc.setEnable n on).clockSet = lc.clockSet ∧ (lc.setEnable n on).lastStart = lc.lastStart ∧
      (lc.setEnable n on).storeFailed = lc.storeFailed ∧ (lc.setEnable n on).startEnded = lc.startEnded := by
  unfold LC.setEnable
  dsimp only
  (repeat' split) <;> simp

@[simp] theorem LC.enableAll_frame (lc : LC) (enabled codes : List Nat) :
    (lc.enableAll enabled codes).rx = lc.rx ∧ (lc.enableAll enabled codes).outstanding = lc.outstanding ∧
      (lc.enableAll enabled codes).replies = lc.replies ∧ (lc.enableAll enabled codes).dropped = lc.dropped ∧
      (lc.enableAll enabled codes).clock = lc.clock ∧ (lc.enableAll enabled codes).clockSet = lc.clockSet ∧
      (lc.enableAll enabled codes).lastStart = lc.lastStart ∧ (lc.enableAll enabled codes).storeFailed = lc.storeFailed ∧
      (lc.enableAll enabled codes).startEnded = lc.startEnded := by
  simp only [LC.enableAll]
  generalize instanceNumbers = ns
  exact ⟨foldl_keeps LC.rx _ (by simp) ns lc,
    foldl_keeps LC.outstanding _ (by simp) ns lc,
    foldl_keeps LC.replies _ (by simp) ns lc,
    foldl_keeps LC.dropped _ (by simp) ns lc,
    foldl_keeps LC.clock _ (by simp) ns lc,
    foldl_keeps LC.clockSet _ (by simp) ns lc,
    foldl_keeps LC.lastStart _ (by simp) ns lc,
    foldl_keeps LC.storeFailed _ (by simp) ns lc,
    foldl_keeps LC.startEnded _ (by simp) ns lc⟩

@[simp] theorem LC.countDrop_frame (lc : LC) :
    lc.countDrop.rx = lc.rx ∧ lc.countDrop.outstanding = lc.outstanding ∧ lc.countDrop.replies = lc.replies ∧
      lc.countDrop.sending = lc.sending ∧ lc.countDrop.conds = lc.conds ∧ lc.countDrop.auto = lc.auto ∧
      lc.countDrop.notices = lc.notices ∧ lc.countDrop.clock = lc.clock ∧ lc.countDrop.clockSet = lc.clockSet := by
  simp [LC.countDrop]

/-! ## The journal's engine -/

@[simp] theorem JN.modSeg_frame (jn : JN) (i : Nat) (f : Segment → Segment) :
    (jn.modSeg i f).mem = jn.mem ∧ (jn.modSeg i f).failed = jn.failed ∧ (jn.modSeg i f).filling = jn.filling ∧
      (jn.modSeg i f).queue = jn.queue ∧ (jn.modSeg i f).claims = jn.claims ∧ (jn.modSeg i f).run = jn.run := by
  simp [JN.modSeg]

@[simp] theorem JN.advance_mem (jn : JN) : jn.advance.mem = jn.mem := by
  unfold JN.advance
  (repeat' split) <;> simp

@[simp] theorem JN.startProgram_mem (jn : JN) : jn.startProgram.mem = jn.mem := by
  unfold JN.startProgram
  (repeat' split) <;> simp

@[simp] theorem JN.retry_mem (jn : JN) : jn.retry.mem = jn.mem := JN.startProgram_mem _

@[simp] theorem JN.startRead_mem (jn : JN) : jn.startRead.mem = jn.mem := by
  unfold JN.startRead
  (repeat' split) <;> rfl

@[simp] theorem JN.timeErase_mem (jn : JN) (now : Nat) : (jn.timeErase now).mem = jn.mem := by
  unfold JN.timeErase
  (repeat' split) <;> rfl

/-- The read a bank is serving is no business of the engine: a start of the engine leaves the reads as they are. -/
@[simp] theorem JN.startProgram_reads (jn : JN) :
    jn.startProgram.reading = jn.reading ∧ jn.startProgram.reads = jn.reads := by
  unfold JN.startProgram JN.advance
  (repeat' split) <;> simp [JN.modSeg]

@[simp] theorem JN.timeErase_reads (jn : JN) (now : Nat) :
    (jn.timeErase now).reading = jn.reading ∧ (jn.timeErase now).reads = jn.reads := by
  unfold JN.timeErase
  (repeat' split) <;> exact ⟨rfl, rfl⟩

/-- A waiting read starts as soon as the engine is free (R153). -/
theorem JN.startRead_of_free (jn : JN) (free : jn.busy = false) (waits : jn.reads ≠ []) : jn.startRead.reading = true := by
  unfold JN.startRead
  cases h : jn.reads with
  | nil => exact absurd h waits
  | cons r rest => cases hr : jn.reading <;> simp [free, hr]

/-- With the engine free, what the journal takes up first is a waiting read, whatever programs wait (R153). -/
theorem State.jnRun_reads_first (s : State) (free : s.jn.busy = false) (waits : s.jn.reads ≠ []) :
    s.jnRun.jn.reading = true := by
  have := s.jn.startRead_of_free free waits
  unfold State.jnRun
  split <;> simp [this]

/-- Once a segment is ERASING, a read takes a bank only for the records of other segments (R153, R159). -/
@[simp] theorem ReadJob.withErasing_uses (r : ReadJob) (i : Nat) (bank : AB) :
    (r.withErasing i).uses bank = r.found.any fun f => !(f.2.2.2 || f.2.1 == i) && bankOf f.2.1 == bank := by
  simp only [ReadJob.withErasing, ReadJob.uses, List.any_map]
  rfl

@[simp] theorem ReadJob.withErasing_tag (r : ReadJob) (i : Nat) : (r.withErasing i).tag = r.tag := rfl

@[simp] theorem JN.pop_mem (jn : JN) : jn.pop.mem = jn.mem := by
  unfold JN.pop
  split <;> rfl

@[simp] theorem JN.findFilling_mem (jn : JN) : jn.findFilling.mem = jn.mem := by
  unfold JN.findFilling
  split <;> simp

/-! ## The device clock in the store (R201) -/

@[simp] theorem Store.tick_first (st : Store) :
    st.tick.first = { st.first with content := { st.first.content with clock := clockNext st.first.content.clock } } := rfl
@[simp] theorem Store.tick_second (st : Store) :
    st.tick.second = { st.second with content := { st.second.content with clock := clockNext st.second.content.clock } } := rfl
@[simp] theorem Store.tick_before (st : Store) :
    st.tick.before = { st.before with clock := clockNext st.before.clock } := rfl

end Sys2Proof.Machine
end

