-- ==== Sys2Proof/Laws/Bytes.lean ====
section
/-! SUPPORT. A number written with its high byte first is read back where it fits its bytes (R208); lists and texts too. -/

namespace Sys2Proof.Machine

@[simp] theorem u8_length (n : Nat) : (u8 n).length = 1 := rfl
@[simp] theorem u16_length (n : Nat) : (u16 n).length = 2 := rfl
@[simp] theorem u24_length (n : Nat) : (u24 n).length = 3 := rfl
@[simp] theorem u32_length (n : Nat) : (u32 n).length = 4 := rfl
@[simp] theorem crcBytes_length (bs : List Byte) : (crcBytes bs).length = 2 := rfl

/-- A number that fits a byte is read back from it. -/
theorem toNat_ofNat_byte {n : Nat} (h : n < 256) : (BitVec.ofNat 8 n).toNat = n := by
  simp [BitVec.toNat_ofNat, Nat.mod_eq_of_lt h]

theorem number_u16 {n : Nat} (h : n < 65536) : number (u16 n) = n := by
  simp only [number, u16, List.foldl_cons, List.foldl_nil, BitVec.toNat_ofNat]
  omega

theorem number_u24 {n : Nat} (h : n < 16777216) : number (u24 n) = n := by
  simp only [number, u24, List.foldl_cons, List.foldl_nil, BitVec.toNat_ofNat]
  omega

theorem number_u32 {n : Nat} (h : n < 4294967296) : number (u32 n) = n := by
  simp only [number, u32, List.foldl_cons, List.foldl_nil, BitVec.toNat_ofNat]
  omega

/-- A counted list at the front of a body is read back with what follows it. -/
theorem countedList_append {ns rest : List Byte} (h : ns.length < 256) : countedList (u8 ns.length ++ (ns ++ rest)) = some (ns, rest) := by
  have hn : (BitVec.ofNat 8 ns.length).toNat = ns.length := toNat_ofNat_byte h
  simp [countedList, u8, hn]

theorem wholeList_counted {ns : List Byte} (h : ns.length < 256) : wholeList (u8 ns.length ++ ns) = some ns := by
  have := countedList_append (rest := []) h
  rw [List.append_nil] at this
  simp only [wholeList, this]

/-- The bytes of a set are its members' numbers. -/
theorem map_nat_flatMap_u8 {ns : List Nat} (h : ∀ n ∈ ns, n < 256) : (ns.flatMap u8).map nat = ns := by
  induction ns with
  | nil => rfl
  | cons n ns ih =>
    have hn : (BitVec.ofNat 8 n).toNat = n := toNat_ofNat_byte (h n (by simp))
    have := ih fun m hm => h m (by simp [hm])
    simp only [List.flatMap_cons, u8, List.cons_append, List.nil_append, List.map_cons, nat, hn] at this ⊢
    rw [this]

@[simp] theorem flatMap_u8_length (ns : List Nat) : (ns.flatMap u8).length = ns.length := by
  induction ns with
  | nil => rfl
  | cons n ns ih => simp [List.flatMap_cons, ih, Nat.add_comm]

end Sys2Proof.Machine
end

