-- ==== Sys2Proof/Laws/FramesA.lean ====
section
/-! SUPPORT. What each shared operation leaves of the state, said once and in the simp set: the finish of a step, the Journal's
admission and hand-over, the transit queue, the Alarm Unit and the Air Supply. -/

namespace Sys2Proof.Machine

@[simp] theorem State.writeStore_frame (s : State) :
    s.writeStore.pending = s.pending ∧ s.writeStore.now = s.now ∧ s.writeStore.phase = s.phase ∧
      s.writeStore.li = s.li ∧ s.writeStore.td = s.td ∧ s.writeStore.as = s.as ∧ s.writeStore.nd = s.nd ∧
      s.writeStore.dp = s.dp ∧ s.writeStore.ss = s.ss ∧ s.writeStore.cu = s.cu ∧ s.writeStore.jn = s.jn ∧
      s.writeStore.au = s.au ∧ s.writeStore.lc = s.lc := by
  unfold State.writeStore
  try dsimp only
  (repeat' split) <;> simp

@[simp] theorem State.transmit_frame (s : State) :
    s.transmit.pending = s.pending ∧ s.transmit.now = s.now ∧ s.transmit.phase = s.phase ∧ s.transmit.li = s.li ∧
      s.transmit.td = s.td ∧ s.transmit.as = s.as ∧ s.transmit.nd = s.nd ∧ s.transmit.dp = s.dp ∧
      s.transmit.ss = s.ss ∧ s.transmit.cu = s.cu ∧ s.transmit.jn = s.jn ∧ s.transmit.au = s.au ∧
      s.transmit.store = s.store ∧ s.transmit.lc.outstanding = s.lc.outstanding ∧ s.transmit.lc.rx = s.lc.rx ∧
      s.transmit.lc.clock = s.lc.clock ∧ s.transmit.lc.replies = s.lc.replies := by
  unfold State.transmit
  try dsimp only
  (repeat' split) <;> simp

@[simp] theorem State.finish_frame (s : State) :
    s.finish.pending = s.pending ∧ s.finish.now = s.now ∧ s.finish.phase = s.phase ∧ s.finish.li = s.li ∧
      s.finish.td = s.td ∧ s.finish.as = s.as ∧ s.finish.nd = s.nd ∧ s.finish.dp = s.dp ∧ s.finish.ss = s.ss ∧
      s.finish.cu = s.cu ∧ s.finish.jn = s.jn ∧ s.finish.au = s.au ∧ s.finish.lc.outstanding = s.lc.outstanding ∧
      s.finish.lc.rx = s.lc.rx ∧ s.finish.lc.clock = s.lc.clock ∧ s.finish.lc.replies = s.lc.replies := by
  simp [State.finish]

@[simp] theorem State.jnRun_frame (s : State) :
    s.jnRun.pending = s.pending ∧ s.jnRun.now = s.now ∧ s.jnRun.phase = s.phase ∧ s.jnRun.li = s.li ∧
      s.jnRun.td = s.td ∧ s.jnRun.as = s.as ∧ s.jnRun.nd = s.nd ∧ s.jnRun.dp = s.dp ∧ s.jnRun.ss = s.ss ∧
      s.jnRun.cu = s.cu ∧ s.jnRun.au = s.au ∧ s.jnRun.lc = s.lc ∧ s.jnRun.store = s.store ∧
      s.jnRun.jn.mem = s.jn.mem := by
  unfold State.jnRun
  try dsimp only
  (repeat' split) <;> simp

@[simp] theorem State.noteFree_frame (s : State) (before : Nat) :
    (s.noteFree before).pending = s.pending ∧ (s.noteFree before).now = s.now ∧ (s.noteFree before).phase = s.phase ∧
      (s.noteFree before).li = s.li ∧ (s.noteFree before).td = s.td ∧ (s.noteFree before).as = s.as ∧
      (s.noteFree before).nd = s.nd ∧ (s.noteFree before).dp = s.dp ∧ (s.noteFree before).ss = s.ss ∧
      (s.noteFree before).cu = s.cu ∧ (s.noteFree before).jn = s.jn ∧ (s.noteFree before).au = s.au ∧
      (s.noteFree before).store = s.store ∧ (s.noteFree before).lc.outstanding = s.lc.outstanding ∧
      (s.noteFree before).lc.rx = s.lc.rx ∧ (s.noteFree before).lc.clock = s.lc.clock ∧
      (s.noteFree before).lc.replies = s.lc.replies := by
  unfold State.noteFree
  try dsimp only
  (repeat' split) <;> simp

@[simp] theorem State.append_frame (s : State) (owner : Owner) (kind : RecKind) (lane : Nat) (body : List Byte) (duress : Bool) (closed : Bool) :
    (s.append owner kind lane body duress closed).1.pending = s.pending ∧
      (s.append owner kind lane body duress closed).1.now = s.now ∧
      (s.append owner kind lane body duress closed).1.phase = s.phase ∧
      (s.append owner kind lane body duress closed).1.li = s.li ∧
      (s.append owner kind lane body duress closed).1.td = s.td ∧
      (s.append owner kind lane body duress closed).1.as = s.as ∧
      (s.append owner kind lane body duress closed).1.nd = s.nd ∧
      (s.append owner kind lane body duress closed).1.dp = s.dp ∧
      (s.append owner kind lane body duress closed).1.ss = s.ss ∧
      (s.append owner kind lane body duress closed).1.cu = s.cu ∧
      (s.append owner kind lane body duress closed).1.au = s.au ∧
      (s.append owner kind lane body duress closed).1.store = s.store ∧
      (s.append owner kind lane body duress closed).1.jn.mem = s.jn.mem ∧
      (s.append owner kind lane body duress closed).1.lc.outstanding = s.lc.outstanding ∧
      (s.append owner kind lane body duress closed).1.lc.rx = s.lc.rx ∧
      (s.append owner kind lane body duress closed).1.lc.clock = s.lc.clock ∧
      (s.append owner kind lane body duress closed).1.lc.replies = s.lc.replies := by
  unfold State.append
  try dsimp only
  (repeat' split) <;> simp

@[simp] theorem State.hand_frame (s : State) (owner : Owner) (work : Work) :
    (s.hand owner work).1.pending = s.pending ∧ (s.hand owner work).1.now = s.now ∧
      (s.hand owner work).1.phase = s.phase ∧ (s.hand owner work).1.li = s.li ∧ (s.hand owner work).1.td = s.td ∧
      (s.hand owner work).1.as = s.as ∧ (s.hand owner work).1.nd = s.nd ∧ (s.hand owner work).1.dp = s.dp ∧
      (s.hand owner work).1.ss = s.ss ∧ (s.hand owner work).1.cu = s.cu ∧ (s.hand owner work).1.au = s.au ∧
      (s.hand owner work).1.lc = s.lc ∧ (s.hand owner work).1.store = s.store ∧
      (s.hand owner work).1.jn.mem = s.jn.mem := by
  unfold State.hand
  try dsimp only
  (repeat' split) <;> simp

@[simp] theorem State.dropQueued_frame (s : State) (l : Lane) (result : MoveResult) :
    (s.dropQueued l result).pending = s.pending ∧ (s.dropQueued l result).now = s.now ∧
      (s.dropQueued l result).phase = s.phase ∧ (s.dropQueued l result).li = s.li ∧
      (s.dropQueued l result).as = s.as ∧ (s.dropQueued l result).nd = s.nd ∧ (s.dropQueued l result).dp = s.dp ∧
      (s.dropQueued l result).ss = s.ss ∧ (s.dropQueued l result).cu = s.cu ∧ (s.dropQueued l result).jn = s.jn ∧
      (s.dropQueued l result).au = s.au ∧ (s.dropQueued l result).store = s.store ∧
      (s.dropQueued l result).lc.outstanding = s.lc.outstanding ∧ (s.dropQueued l result).lc.rx = s.lc.rx ∧
      (s.dropQueued l result).lc.clock = s.lc.clock ∧ (s.dropQueued l result).td.bays = s.td.bays ∧
      (s.dropQueued l result).lc.replies = s.lc.replies ∧ (s.dropQueued l result).td.move = s.td.move := by
  unfold State.dropQueued
  try dsimp only
  (repeat' split) <;> simp

@[simp] theorem State.setReasons_frame (s : State) (l : Lane) (f : Reasons → Reasons) :
    (s.setReasons l f).pending = s.pending ∧ (s.setReasons l f).now = s.now ∧ (s.setReasons l f).phase = s.phase ∧
      (s.setReasons l f).as = s.as ∧ (s.setReasons l f).nd = s.nd ∧ (s.setReasons l f).dp = s.dp ∧
      (s.setReasons l f).ss = s.ss ∧ (s.setReasons l f).cu = s.cu ∧ (s.setReasons l f).jn = s.jn ∧
      (s.setReasons l f).au = s.au ∧ (s.setReasons l f).store = s.store ∧
      (s.setReasons l f).lc.outstanding = s.lc.outstanding ∧ (s.setReasons l f).lc.rx = s.lc.rx ∧
      (s.setReasons l f).lc.clock = s.lc.clock ∧ laneCores (s.setReasons l f).li.lanes = laneCores s.li.lanes ∧
      (s.setReasons l f).td.bays = s.td.bays ∧ (s.setReasons l f).lc.replies = s.lc.replies ∧
      (s.setReasons l f).td.move = s.td.move := by
  unfold State.setReasons
  try dsimp only
  (repeat' split) <;> simp

@[simp] theorem State.enqueue_frame (s : State) (l : Lane) (dir : Dir) (origin : Origin) :
    (s.enqueue l dir origin).pending = s.pending ∧ (s.enqueue l dir origin).now = s.now ∧
      (s.enqueue l dir origin).phase = s.phase ∧ (s.enqueue l dir origin).li = s.li ∧
      (s.enqueue l dir origin).as = s.as ∧ (s.enqueue l dir origin).nd = s.nd ∧ (s.enqueue l dir origin).dp = s.dp ∧
      (s.enqueue l dir origin).ss = s.ss ∧ (s.enqueue l dir origin).cu = s.cu ∧ (s.enqueue l dir origin).jn = s.jn ∧
      (s.enqueue l dir origin).au = s.au ∧ (s.enqueue l dir origin).lc = s.lc ∧
      (s.enqueue l dir origin).store = s.store ∧ (s.enqueue l dir origin).td.bays = s.td.bays ∧
      (s.enqueue l dir origin).td.move = s.td.move := by
  simp [State.enqueue]

@[simp] theorem State.askUp_frame (s : State) (l : Lane) (origin : Origin) :
    (s.askUp l origin).1.pending = s.pending ∧ (s.askUp l origin).1.now = s.now ∧
      (s.askUp l origin).1.phase = s.phase ∧ (s.askUp l origin).1.li = s.li ∧ (s.askUp l origin).1.as = s.as ∧
      (s.askUp l origin).1.nd = s.nd ∧ (s.askUp l origin).1.dp = s.dp ∧ (s.askUp l origin).1.ss = s.ss ∧
      (s.askUp l origin).1.cu = s.cu ∧ (s.askUp l origin).1.jn = s.jn ∧ (s.askUp l origin).1.au = s.au ∧
      (s.askUp l origin).1.lc = s.lc ∧ (s.askUp l origin).1.store = s.store ∧
      (s.askUp l origin).1.td.bays = s.td.bays ∧ (s.askUp l origin).1.td.move = s.td.move := by
  unfold State.askUp
  try dsimp only
  (repeat' split) <;> simp

@[simp] theorem State.askDown_frame (s : State) (l : Lane) (origin : Origin) :
    (s.askDown l origin).1.pending = s.pending ∧ (s.askDown l origin).1.now = s.now ∧
      (s.askDown l origin).1.phase = s.phase ∧ (s.askDown l origin).1.li = s.li ∧ (s.askDown l origin).1.as = s.as ∧
      (s.askDown l origin).1.nd = s.nd ∧ (s.askDown l origin).1.dp = s.dp ∧ (s.askDown l origin).1.ss = s.ss ∧
      (s.askDown l origin).1.cu = s.cu ∧ (s.askDown l origin).1.jn = s.jn ∧ (s.askDown l origin).1.au = s.au ∧
      (s.askDown l origin).1.lc = s.lc ∧ (s.askDown l origin).1.store = s.store ∧
      (s.askDown l origin).1.td.bays = s.td.bays ∧ (s.askDown l origin).1.td.move = s.td.move := by
  unfold State.askDown
  try dsimp only
  (repeat' split) <;> simp

@[simp] theorem State.alarmRecord_frame (s : State) (z : ZoneId) (left : ZoneState) (entered : ZoneState) :
    (s.alarmRecord z left entered).pending = s.pending ∧ (s.alarmRecord z left entered).now = s.now ∧
      (s.alarmRecord z left entered).phase = s.phase ∧ (s.alarmRecord z left entered).li = s.li ∧
      (s.alarmRecord z left entered).td = s.td ∧ (s.alarmRecord z left entered).as = s.as ∧
      (s.alarmRecord z left entered).nd = s.nd ∧ (s.alarmRecord z left entered).dp = s.dp ∧
      (s.alarmRecord z left entered).ss = s.ss ∧ (s.alarmRecord z left entered).cu = s.cu ∧
      (s.alarmRecord z left entered).store = s.store ∧ (s.alarmRecord z left entered).jn.mem = s.jn.mem ∧
      (s.alarmRecord z left entered).lc.outstanding = s.lc.outstanding ∧
      (s.alarmRecord z left entered).lc.rx = s.lc.rx ∧ (s.alarmRecord z left entered).lc.clock = s.lc.clock ∧
      (s.alarmRecord z left entered).au.zones.windows = s.au.zones.windows ∧
      (s.alarmRecord z left entered).lc.replies = s.lc.replies ∧
      (s.alarmRecord z left entered).au.missing = s.au.missing ∧
      (s.alarmRecord z left entered).au.period = s.au.period ∧
      (s.alarmRecord z left entered).au.keySwitch = s.au.keySwitch := by
  unfold State.alarmRecord
  try dsimp only
  (repeat' split) <;> simp

@[simp] theorem State.tellTamper_frame (s : State) (z : ZoneId) (entered : ZoneState) :
    (s.tellTamper z entered).pending = s.pending ∧ (s.tellTamper z entered).now = s.now ∧
      (s.tellTamper z entered).phase = s.phase ∧ (s.tellTamper z entered).as = s.as ∧
      (s.tellTamper z entered).nd = s.nd ∧ (s.tellTamper z entered).dp = s.dp ∧ (s.tellTamper z entered).ss = s.ss ∧
      (s.tellTamper z entered).cu = s.cu ∧ (s.tellTamper z entered).jn = s.jn ∧ (s.tellTamper z entered).au = s.au ∧
      (s.tellTamper z entered).store = s.store ∧ (s.tellTamper z entered).lc.outstanding = s.lc.outstanding ∧
      (s.tellTamper z entered).lc.rx = s.lc.rx ∧ (s.tellTamper z entered).lc.clock = s.lc.clock ∧
      laneCores (s.tellTamper z entered).li.lanes = laneCores s.li.lanes ∧
      (s.tellTamper z entered).td.bays = s.td.bays ∧ (s.tellTamper z entered).lc.replies = s.lc.replies ∧
      (s.tellTamper z entered).td.move = s.td.move := by
  unfold State.tellTamper
  try dsimp only
  (repeat' split) <;> simp

@[simp] theorem State.zoneTo_frame (s : State) (z : ZoneId) (entered : ZoneState) :
    (s.zoneTo z entered).pending = s.pending ∧ (s.zoneTo z entered).now = s.now ∧
      (s.zoneTo z entered).phase = s.phase ∧ (s.zoneTo z entered).as = s.as ∧ (s.zoneTo z entered).nd = s.nd ∧
      (s.zoneTo z entered).dp = s.dp ∧ (s.zoneTo z entered).ss = s.ss ∧ (s.zoneTo z entered).cu = s.cu ∧
      (s.zoneTo z entered).store = s.store ∧ (s.zoneTo z entered).jn.mem = s.jn.mem ∧
      (s.zoneTo z entered).lc.outstanding = s.lc.outstanding ∧ (s.zoneTo z entered).lc.rx = s.lc.rx ∧
      (s.zoneTo z entered).lc.clock = s.lc.clock ∧ laneCores (s.zoneTo z entered).li.lanes = laneCores s.li.lanes ∧
      (s.zoneTo z entered).td.bays = s.td.bays ∧ (s.zoneTo z entered).au.zones.windows = s.au.zones.windows ∧
      (s.zoneTo z entered).lc.replies = s.lc.replies ∧ (s.zoneTo z entered).td.move = s.td.move ∧
      (s.zoneTo z entered).au.missing = s.au.missing ∧ (s.zoneTo z entered).au.period = s.au.period ∧
      (s.zoneTo z entered).au.keySwitch = s.au.keySwitch := by
  unfold State.zoneTo
  try dsimp only
  (repeat' split) <;> simp

@[simp] theorem State.zoneIdle_frame (s : State) (z : ZoneId) :
    (s.zoneIdle z).pending = s.pending ∧ (s.zoneIdle z).now = s.now ∧ (s.zoneIdle z).phase = s.phase ∧
      (s.zoneIdle z).as = s.as ∧ (s.zoneIdle z).nd = s.nd ∧ (s.zoneIdle z).dp = s.dp ∧ (s.zoneIdle z).ss = s.ss ∧
      (s.zoneIdle z).cu = s.cu ∧ (s.zoneIdle z).store = s.store ∧ (s.zoneIdle z).jn.mem = s.jn.mem ∧
      (s.zoneIdle z).lc.outstanding = s.lc.outstanding ∧ (s.zoneIdle z).lc.rx = s.lc.rx ∧
      (s.zoneIdle z).lc.clock = s.lc.clock ∧ laneCores (s.zoneIdle z).li.lanes = laneCores s.li.lanes ∧
      (s.zoneIdle z).td.bays = s.td.bays ∧ (s.zoneIdle z).au.zones.windows = s.au.zones.windows ∧
      (s.zoneIdle z).lc.replies = s.lc.replies ∧ (s.zoneIdle z).td.move = s.td.move ∧
      (s.zoneIdle z).au.missing = s.au.missing ∧ (s.zoneIdle z).au.period = s.au.period ∧
      (s.zoneIdle z).au.keySwitch = s.au.keySwitch := by
  unfold State.zoneIdle
  try dsimp only
  (repeat' split) <;> simp

@[simp] theorem State.startDelay_frame (s : State) (d : Door) :
    (s.startDelay d).pending = s.pending ∧ (s.startDelay d).now = s.now ∧ (s.startDelay d).phase = s.phase ∧
      (s.startDelay d).as = s.as ∧ (s.startDelay d).nd = s.nd ∧ (s.startDelay d).dp = s.dp ∧
      (s.startDelay d).ss = s.ss ∧ (s.startDelay d).cu = s.cu ∧ (s.startDelay d).store = s.store ∧
      (s.startDelay d).jn.mem = s.jn.mem ∧ (s.startDelay d).lc.outstanding = s.lc.outstanding ∧
      (s.startDelay d).lc.rx = s.lc.rx ∧ (s.startDelay d).lc.clock = s.lc.clock ∧
      laneCores (s.startDelay d).li.lanes = laneCores s.li.lanes ∧ (s.startDelay d).td.bays = s.td.bays ∧
      (s.startDelay d).au.zones.windows = s.au.zones.windows ∧ (s.startDelay d).lc.replies = s.lc.replies ∧
      (s.startDelay d).td.move = s.td.move ∧ (s.startDelay d).au.missing = s.au.missing ∧
      (s.startDelay d).au.period = s.au.period ∧ (s.startDelay d).au.keySwitch = s.au.keySwitch := by
  unfold State.startDelay
  try dsimp only
  (repeat' split) <;> simp

@[simp] theorem State.closeWindow_frame (s : State) (d : Door) :
    (s.closeWindow d).pending = s.pending ∧ (s.closeWindow d).now = s.now ∧ (s.closeWindow d).phase = s.phase ∧
      (s.closeWindow d).as = s.as ∧ (s.closeWindow d).nd = s.nd ∧ (s.closeWindow d).dp = s.dp ∧
      (s.closeWindow d).ss = s.ss ∧ (s.closeWindow d).cu = s.cu ∧ (s.closeWindow d).store = s.store ∧
      (s.closeWindow d).jn.mem = s.jn.mem ∧ (s.closeWindow d).lc.outstanding = s.lc.outstanding ∧
      (s.closeWindow d).lc.rx = s.lc.rx ∧ (s.closeWindow d).lc.clock = s.lc.clock ∧
      laneCores (s.closeWindow d).li.lanes = laneCores s.li.lanes ∧ (s.closeWindow d).td.bays = s.td.bays ∧
      (s.closeWindow d).lc.replies = s.lc.replies ∧ (s.closeWindow d).td.move = s.td.move ∧
      (s.closeWindow d).au.missing = s.au.missing ∧ (s.closeWindow d).au.period = s.au.period ∧
      (s.closeWindow d).au.keySwitch = s.au.keySwitch := by
  unfold State.closeWindow
  try dsimp only
  (repeat' split) <;> simp

@[simp] theorem State.lockIn_frame (s : State) (z : ZoneId) :
    (s.lockIn z).pending = s.pending ∧ (s.lockIn z).now = s.now ∧ (s.lockIn z).phase = s.phase ∧
      (s.lockIn z).as = s.as ∧ (s.lockIn z).nd = s.nd ∧ (s.lockIn z).dp = s.dp ∧ (s.lockIn z).ss = s.ss ∧
      (s.lockIn z).cu = s.cu ∧ (s.lockIn z).store = s.store ∧ (s.lockIn z).jn.mem = s.jn.mem ∧
      (s.lockIn z).lc.outstanding = s.lc.outstanding ∧ (s.lockIn z).lc.rx = s.lc.rx ∧
      (s.lockIn z).lc.clock = s.lc.clock ∧ laneCores (s.lockIn z).li.lanes = laneCores s.li.lanes ∧
      (s.lockIn z).td.bays = s.td.bays ∧ (s.lockIn z).lc.replies = s.lc.replies ∧ (s.lockIn z).td.move = s.td.move ∧
      (s.lockIn z).au.missing = s.au.missing ∧ (s.lockIn z).au.period = s.au.period ∧
      (s.lockIn z).au.keySwitch = s.au.keySwitch := by
  unfold State.lockIn
  try dsimp only
  (repeat' split) <;> simp

@[simp] theorem State.doorOpens_frame (s : State) (d : Door) :
    (s.doorOpens d).pending = s.pending ∧ (s.doorOpens d).now = s.now ∧ (s.doorOpens d).phase = s.phase ∧
      (s.doorOpens d).as = s.as ∧ (s.doorOpens d).nd = s.nd ∧ (s.doorOpens d).dp = s.dp ∧ (s.doorOpens d).ss = s.ss ∧
      (s.doorOpens d).cu = s.cu ∧ (s.doorOpens d).store = s.store ∧ (s.doorOpens d).jn.mem = s.jn.mem ∧
      (s.doorOpens d).lc.outstanding = s.lc.outstanding ∧ (s.doorOpens d).lc.rx = s.lc.rx ∧
      (s.doorOpens d).lc.clock = s.lc.clock ∧ laneCores (s.doorOpens d).li.lanes = laneCores s.li.lanes ∧
      (s.doorOpens d).td.bays = s.td.bays ∧ (s.doorOpens d).au.zones.windows = s.au.zones.windows ∧
      (s.doorOpens d).lc.replies = s.lc.replies ∧ (s.doorOpens d).td.move = s.td.move ∧
      (s.doorOpens d).au.missing = s.au.missing ∧ (s.doorOpens d).au.period = s.au.period ∧
      (s.doorOpens d).au.keySwitch = s.au.keySwitch := by
  unfold State.doorOpens
  try dsimp only
  (repeat' split) <;> simp

@[simp] theorem State.causeRises_frame (s : State) (z : ZoneId) :
    (s.causeRises z).pending = s.pending ∧ (s.causeRises z).now = s.now ∧ (s.causeRises z).phase = s.phase ∧
      (s.causeRises z).as = s.as ∧ (s.causeRises z).nd = s.nd ∧ (s.causeRises z).dp = s.dp ∧
      (s.causeRises z).ss = s.ss ∧ (s.causeRises z).cu = s.cu ∧ (s.causeRises z).store = s.store ∧
      (s.causeRises z).jn.mem = s.jn.mem ∧ (s.causeRises z).lc.outstanding = s.lc.outstanding ∧
      (s.causeRises z).lc.rx = s.lc.rx ∧ (s.causeRises z).lc.clock = s.lc.clock ∧
      laneCores (s.causeRises z).li.lanes = laneCores s.li.lanes ∧ (s.causeRises z).td.bays = s.td.bays ∧
      (s.causeRises z).lc.replies = s.lc.replies ∧ (s.causeRises z).td.move = s.td.move ∧
      (s.causeRises z).au.missing = s.au.missing ∧ (s.causeRises z).au.period = s.au.period ∧
      (s.causeRises z).au.keySwitch = s.au.keySwitch := by
  unfold State.causeRises
  try dsimp only
  (repeat' split) <;> simp

@[simp] theorem State.causeFalls_frame (s : State) (z : ZoneId) :
    (s.causeFalls z).pending = s.pending ∧ (s.causeFalls z).now = s.now ∧ (s.causeFalls z).phase = s.phase ∧
      (s.causeFalls z).as = s.as ∧ (s.causeFalls z).nd = s.nd ∧ (s.causeFalls z).dp = s.dp ∧
      (s.causeFalls z).ss = s.ss ∧ (s.causeFalls z).cu = s.cu ∧ (s.causeFalls z).store = s.store ∧
      (s.causeFalls z).jn.mem = s.jn.mem ∧ (s.causeFalls z).lc.outstanding = s.lc.outstanding ∧
      (s.causeFalls z).lc.rx = s.lc.rx ∧ (s.causeFalls z).lc.clock = s.lc.clock ∧
      laneCores (s.causeFalls z).li.lanes = laneCores s.li.lanes ∧ (s.causeFalls z).td.bays = s.td.bays ∧
      (s.causeFalls z).au.zones.windows = s.au.zones.windows ∧ (s.causeFalls z).lc.replies = s.lc.replies ∧
      (s.causeFalls z).td.move = s.td.move ∧ (s.causeFalls z).au.missing = s.au.missing ∧
      (s.causeFalls z).au.period = s.au.period ∧ (s.causeFalls z).au.keySwitch = s.au.keySwitch := by
  unfold State.causeFalls
  try dsimp only
  (repeat' split) <;> simp

@[simp] theorem State.setCause_frame (s : State) (z : ZoneId) (active : Bool) :
    (s.setCause z active).pending = s.pending ∧ (s.setCause z active).now = s.now ∧
      (s.setCause z active).phase = s.phase ∧ (s.setCause z active).as = s.as ∧ (s.setCause z active).nd = s.nd ∧
      (s.setCause z active).dp = s.dp ∧ (s.setCause z active).ss = s.ss ∧ (s.setCause z active).cu = s.cu ∧
      (s.setCause z active).store = s.store ∧ (s.setCause z active).jn.mem = s.jn.mem ∧
      (s.setCause z active).lc.outstanding = s.lc.outstanding ∧ (s.setCause z active).lc.rx = s.lc.rx ∧
      (s.setCause z active).lc.clock = s.lc.clock ∧ laneCores (s.setCause z active).li.lanes = laneCores s.li.lanes ∧
      (s.setCause z active).td.bays = s.td.bays ∧ (s.setCause z active).lc.replies = s.lc.replies ∧
      (s.setCause z active).td.move = s.td.move ∧ (s.setCause z active).au.missing = s.au.missing ∧
      (s.setCause z active).au.period = s.au.period ∧ (s.setCause z active).au.keySwitch = s.au.keySwitch := by
  unfold State.setCause
  try dsimp only
  (repeat' split) <;> simp

@[simp] theorem State.tellJam_frame (s : State) :
    s.tellJam.pending = s.pending ∧ s.tellJam.now = s.now ∧ s.tellJam.phase = s.phase ∧ s.tellJam.as = s.as ∧
      s.tellJam.nd = s.nd ∧ s.tellJam.dp = s.dp ∧ s.tellJam.ss = s.ss ∧ s.tellJam.cu = s.cu ∧
      s.tellJam.store = s.store ∧ s.tellJam.jn.mem = s.jn.mem ∧ s.tellJam.lc.outstanding = s.lc.outstanding ∧
      s.tellJam.lc.rx = s.lc.rx ∧ s.tellJam.lc.clock = s.lc.clock ∧
      laneCores s.tellJam.li.lanes = laneCores s.li.lanes ∧ s.tellJam.td.bays = s.td.bays ∧
      s.tellJam.lc.replies = s.lc.replies ∧ s.tellJam.td.move = s.td.move ∧ s.tellJam.au.missing = s.au.missing ∧
      s.tellJam.au.period = s.au.period ∧ s.tellJam.au.keySwitch = s.au.keySwitch := by
  simp [State.tellJam]

@[simp] theorem State.tellTamperLevel_frame (s : State) (l : Lane) :
    (s.tellTamperLevel l).pending = s.pending ∧ (s.tellTamperLevel l).now = s.now ∧
      (s.tellTamperLevel l).phase = s.phase ∧ (s.tellTamperLevel l).as = s.as ∧ (s.tellTamperLevel l).nd = s.nd ∧
      (s.tellTamperLevel l).dp = s.dp ∧ (s.tellTamperLevel l).ss = s.ss ∧ (s.tellTamperLevel l).cu = s.cu ∧
      (s.tellTamperLevel l).store = s.store ∧ (s.tellTamperLevel l).jn.mem = s.jn.mem ∧
      (s.tellTamperLevel l).lc.outstanding = s.lc.outstanding ∧ (s.tellTamperLevel l).lc.rx = s.lc.rx ∧
      (s.tellTamperLevel l).lc.clock = s.lc.clock ∧ laneCores (s.tellTamperLevel l).li.lanes = laneCores s.li.lanes ∧
      (s.tellTamperLevel l).td.bays = s.td.bays ∧ (s.tellTamperLevel l).lc.replies = s.lc.replies ∧
      (s.tellTamperLevel l).td.move = s.td.move ∧ (s.tellTamperLevel l).au.missing = s.au.missing ∧
      (s.tellTamperLevel l).au.period = s.au.period ∧ (s.tellTamperLevel l).au.keySwitch = s.au.keySwitch := by
  unfold State.tellTamperLevel
  try dsimp only
  (repeat' split) <;> simp

@[simp] theorem State.supervise_frame (s : State) (l : Lane) (resolved : Bool) :
    (s.supervise l resolved).pending = s.pending ∧ (s.supervise l resolved).now = s.now ∧
      (s.supervise l resolved).phase = s.phase ∧ (s.supervise l resolved).as = s.as ∧
      (s.supervise l resolved).nd = s.nd ∧ (s.supervise l resolved).dp = s.dp ∧ (s.supervise l resolved).ss = s.ss ∧
      (s.supervise l resolved).cu = s.cu ∧ (s.supervise l resolved).store = s.store ∧
      (s.supervise l resolved).jn.mem = s.jn.mem ∧ (s.supervise l resolved).lc.outstanding = s.lc.outstanding ∧
      (s.supervise l resolved).lc.rx = s.lc.rx ∧ (s.supervise l resolved).lc.clock = s.lc.clock ∧
      laneCores (s.supervise l resolved).li.lanes = laneCores s.li.lanes ∧
      (s.supervise l resolved).td.bays = s.td.bays ∧ (s.supervise l resolved).lc.replies = s.lc.replies ∧
      (s.supervise l resolved).td.move = s.td.move ∧ (s.supervise l resolved).au.missing = s.au.missing ∧
      (s.supervise l resolved).au.period = s.au.period ∧ (s.supervise l resolved).au.keySwitch = s.au.keySwitch := by
  unfold State.supervise
  try dsimp only
  (repeat' split) <;> simp

@[simp] theorem State.airChange_frame (s : State) :
    s.airChange.pending = s.pending ∧ s.airChange.now = s.now ∧ s.airChange.phase = s.phase ∧ s.airChange.li = s.li ∧
      s.airChange.td = s.td ∧ s.airChange.as = s.as ∧ s.airChange.nd = s.nd ∧ s.airChange.dp = s.dp ∧
      s.airChange.ss = s.ss ∧ s.airChange.cu = s.cu ∧ s.airChange.jn = s.jn ∧ s.airChange.au = s.au ∧
      s.airChange.store = s.store ∧ s.airChange.lc.outstanding = s.lc.outstanding ∧ s.airChange.lc.rx = s.lc.rx ∧
      s.airChange.lc.clock = s.lc.clock ∧ s.airChange.lc.replies = s.lc.replies := by
  simp [State.airChange]

@[simp] theorem State.airSwap_frame (s : State) :
    s.airSwap.pending = s.pending ∧ s.airSwap.now = s.now ∧ s.airSwap.phase = s.phase ∧ s.airSwap.li = s.li ∧
      s.airSwap.td = s.td ∧ s.airSwap.nd = s.nd ∧ s.airSwap.dp = s.dp ∧ s.airSwap.ss = s.ss ∧ s.airSwap.cu = s.cu ∧
      s.airSwap.jn = s.jn ∧ s.airSwap.au = s.au ∧ s.airSwap.store = s.store ∧
      s.airSwap.lc.outstanding = s.lc.outstanding ∧ s.airSwap.lc.rx = s.lc.rx ∧ s.airSwap.lc.clock = s.lc.clock ∧
      s.airSwap.lc.replies = s.lc.replies := by
  simp [State.airSwap]

@[simp] theorem State.dutyFails_frame (s : State) :
    s.dutyFails.pending = s.pending ∧ s.dutyFails.now = s.now ∧ s.dutyFails.phase = s.phase ∧ s.dutyFails.li = s.li ∧
      s.dutyFails.td = s.td ∧ s.dutyFails.nd = s.nd ∧ s.dutyFails.dp = s.dp ∧ s.dutyFails.ss = s.ss ∧
      s.dutyFails.cu = s.cu ∧ s.dutyFails.jn = s.jn ∧ s.dutyFails.au = s.au ∧ s.dutyFails.store = s.store ∧
      s.dutyFails.lc.outstanding = s.lc.outstanding ∧ s.dutyFails.lc.rx = s.lc.rx ∧
      s.dutyFails.lc.clock = s.lc.clock ∧ s.dutyFails.lc.replies = s.lc.replies := by
  simp [State.dutyFails]

@[simp] theorem State.airFault_frame (s : State) :
    s.airFault.1.pending = s.pending ∧ s.airFault.1.now = s.now ∧ s.airFault.1.phase = s.phase ∧
      s.airFault.1.nd = s.nd ∧ s.airFault.1.dp = s.dp ∧ s.airFault.1.ss = s.ss ∧ s.airFault.1.cu = s.cu ∧
      s.airFault.1.store = s.store ∧ s.airFault.1.jn.mem = s.jn.mem ∧
      s.airFault.1.lc.outstanding = s.lc.outstanding ∧ s.airFault.1.lc.rx = s.lc.rx ∧
      s.airFault.1.lc.clock = s.lc.clock ∧ laneCores s.airFault.1.li.lanes = laneCores s.li.lanes ∧
      s.airFault.1.td.bays = s.td.bays ∧ s.airFault.1.lc.replies = s.lc.replies ∧ s.airFault.1.td.move = s.td.move ∧
      s.airFault.1.au.missing = s.au.missing ∧ s.airFault.1.au.period = s.au.period ∧
      s.airFault.1.au.keySwitch = s.au.keySwitch := by
  simp [State.airFault]

@[simp] theorem State.airEstablished_frame (s : State) :
    s.airEstablished.1.pending = s.pending ∧ s.airEstablished.1.now = s.now ∧ s.airEstablished.1.phase = s.phase ∧
      s.airEstablished.1.li = s.li ∧ s.airEstablished.1.td = s.td ∧ s.airEstablished.1.nd = s.nd ∧
      s.airEstablished.1.dp = s.dp ∧ s.airEstablished.1.ss = s.ss ∧ s.airEstablished.1.cu = s.cu ∧
      s.airEstablished.1.jn = s.jn ∧ s.airEstablished.1.au = s.au ∧ s.airEstablished.1.lc = s.lc ∧
      s.airEstablished.1.store = s.store := by
  unfold State.airEstablished
  try dsimp only
  (repeat' split) <;> simp

@[simp] theorem State.airFoundClosed_frame (s : State) :
    s.airFoundClosed.1.pending = s.pending ∧ s.airFoundClosed.1.now = s.now ∧ s.airFoundClosed.1.phase = s.phase ∧
      s.airFoundClosed.1.li = s.li ∧ s.airFoundClosed.1.td = s.td ∧ s.airFoundClosed.1.nd = s.nd ∧
      s.airFoundClosed.1.dp = s.dp ∧ s.airFoundClosed.1.ss = s.ss ∧ s.airFoundClosed.1.cu = s.cu ∧
      s.airFoundClosed.1.jn = s.jn ∧ s.airFoundClosed.1.au = s.au ∧ s.airFoundClosed.1.lc = s.lc ∧
      s.airFoundClosed.1.store = s.store := by
  unfold State.airFoundClosed
  try dsimp only
  (repeat' split) <;> simp

@[simp] theorem State.airLeavesFault_frame (s : State) :
    s.airLeavesFault.pending = s.pending ∧ s.airLeavesFault.now = s.now ∧ s.airLeavesFault.phase = s.phase ∧
      s.airLeavesFault.nd = s.nd ∧ s.airLeavesFault.dp = s.dp ∧ s.airLeavesFault.ss = s.ss ∧
      s.airLeavesFault.cu = s.cu ∧ s.airLeavesFault.store = s.store ∧ s.airLeavesFault.jn.mem = s.jn.mem ∧
      s.airLeavesFault.lc.outstanding = s.lc.outstanding ∧ s.airLeavesFault.lc.rx = s.lc.rx ∧
      s.airLeavesFault.lc.clock = s.lc.clock ∧ laneCores s.airLeavesFault.li.lanes = laneCores s.li.lanes ∧
      s.airLeavesFault.td.bays = s.td.bays ∧ s.airLeavesFault.lc.replies = s.lc.replies ∧
      s.airLeavesFault.td.move = s.td.move ∧ s.airLeavesFault.au.missing = s.au.missing ∧
      s.airLeavesFault.au.period = s.au.period ∧ s.airLeavesFault.au.keySwitch = s.au.keySwitch := by
  simp [State.airLeavesFault]

@[simp] theorem State.airReexamine_frame (s : State) :
    s.airReexamine.pending = s.pending ∧ s.airReexamine.now = s.now ∧ s.airReexamine.phase = s.phase ∧
      s.airReexamine.nd = s.nd ∧ s.airReexamine.dp = s.dp ∧ s.airReexamine.ss = s.ss ∧ s.airReexamine.cu = s.cu ∧
      s.airReexamine.store = s.store ∧ s.airReexamine.jn.mem = s.jn.mem ∧
      s.airReexamine.lc.outstanding = s.lc.outstanding ∧ s.airReexamine.lc.rx = s.lc.rx ∧
      s.airReexamine.lc.clock = s.lc.clock ∧ laneCores s.airReexamine.li.lanes = laneCores s.li.lanes ∧
      s.airReexamine.td.bays = s.td.bays ∧ s.airReexamine.lc.replies = s.lc.replies ∧
      s.airReexamine.td.move = s.td.move ∧ s.airReexamine.au.missing = s.au.missing ∧
      s.airReexamine.au.period = s.au.period ∧ s.airReexamine.au.keySwitch = s.au.keySwitch := by
  unfold State.airReexamine
  try dsimp only
  (repeat' split) <;> simp

@[simp] theorem State.airSwapOrFault_frame (s : State) :
    s.airSwapOrFault.1.pending = s.pending ∧ s.airSwapOrFault.1.now = s.now ∧ s.airSwapOrFault.1.phase = s.phase ∧
      s.airSwapOrFault.1.nd = s.nd ∧ s.airSwapOrFault.1.dp = s.dp ∧ s.airSwapOrFault.1.ss = s.ss ∧
      s.airSwapOrFault.1.cu = s.cu ∧ s.airSwapOrFault.1.store = s.store ∧ s.airSwapOrFault.1.jn.mem = s.jn.mem ∧
      s.airSwapOrFault.1.lc.outstanding = s.lc.outstanding ∧ s.airSwapOrFault.1.lc.rx = s.lc.rx ∧
      s.airSwapOrFault.1.lc.clock = s.lc.clock ∧ laneCores s.airSwapOrFault.1.li.lanes = laneCores s.li.lanes ∧
      s.airSwapOrFault.1.td.bays = s.td.bays ∧ s.airSwapOrFault.1.lc.replies = s.lc.replies ∧
      s.airSwapOrFault.1.td.move = s.td.move ∧ s.airSwapOrFault.1.au.missing = s.au.missing ∧
      s.airSwapOrFault.1.au.period = s.au.period ∧ s.airSwapOrFault.1.au.keySwitch = s.au.keySwitch := by
  unfold State.airSwapOrFault
  try dsimp only
  (repeat' split) <;> simp

end Sys2Proof.Machine
end

