-- ==== Sys2Proof/Laws/FramesB.lean ====
section
/-! SUPPORT. What the operations on loads, the note path, start-up and the tube drive leave of the state, said once and in the
simp set. -/

namespace Sys2Proof.Machine

@[simp] theorem State.boxAdd_frame (s : State) (n : Nat) :
    (s.boxAdd n).pending = s.pending ∧ (s.boxAdd n).now = s.now ∧ (s.boxAdd n).phase = s.phase ∧
      (s.boxAdd n).li = s.li ∧ (s.boxAdd n).td = s.td ∧ (s.boxAdd n).as = s.as ∧ (s.boxAdd n).dp = s.dp ∧
      (s.boxAdd n).ss = s.ss ∧ (s.boxAdd n).cu = s.cu ∧ (s.boxAdd n).jn = s.jn ∧ (s.boxAdd n).au = s.au ∧
      (s.boxAdd n).store = s.store ∧ (s.boxAdd n).lc.outstanding = s.lc.outstanding ∧ (s.boxAdd n).lc.rx = s.lc.rx ∧
      (s.boxAdd n).lc.clock = s.lc.clock ∧ (s.boxAdd n).lc.replies = s.lc.replies := by
  unfold State.boxAdd
  try dsimp only
  (repeat' split) <;> simp

@[simp] theorem State.releaseCommitted_frame (s : State) (ld : Load) :
    (s.releaseCommitted ld).pending = s.pending ∧ (s.releaseCommitted ld).now = s.now ∧
      (s.releaseCommitted ld).phase = s.phase ∧ (s.releaseCommitted ld).li = s.li ∧
      (s.releaseCommitted ld).td = s.td ∧ (s.releaseCommitted ld).as = s.as ∧ (s.releaseCommitted ld).dp = s.dp ∧
      (s.releaseCommitted ld).ss = s.ss ∧ (s.releaseCommitted ld).cu = s.cu ∧ (s.releaseCommitted ld).jn = s.jn ∧
      (s.releaseCommitted ld).au = s.au ∧ (s.releaseCommitted ld).lc = s.lc ∧
      (s.releaseCommitted ld).store = s.store := by
  simp [State.releaseCommitted, Ix4.all]

@[simp] theorem State.freeLoad_frame (s : State) (id : Nat) (outcome : LoadOutcome) :
    (s.freeLoad id outcome).pending = s.pending ∧ (s.freeLoad id outcome).now = s.now ∧
      (s.freeLoad id outcome).phase = s.phase ∧ (s.freeLoad id outcome).li = s.li ∧
      (s.freeLoad id outcome).td = s.td ∧ (s.freeLoad id outcome).as = s.as ∧ (s.freeLoad id outcome).nd = s.nd ∧
      (s.freeLoad id outcome).ss = s.ss ∧ (s.freeLoad id outcome).cu = s.cu ∧ (s.freeLoad id outcome).jn = s.jn ∧
      (s.freeLoad id outcome).au = s.au ∧ (s.freeLoad id outcome).store = s.store ∧
      (s.freeLoad id outcome).lc.outstanding = s.lc.outstanding ∧ (s.freeLoad id outcome).lc.rx = s.lc.rx ∧
      (s.freeLoad id outcome).lc.clock = s.lc.clock ∧ (s.freeLoad id outcome).dp.set = s.dp.set ∧
      (s.freeLoad id outcome).lc.replies = s.lc.replies := by
  unfold State.freeLoad
  try dsimp only
  (repeat' split) <;> simp

@[simp] theorem State.handOwedClose_frame (s : State) :
    s.handOwedClose.pending = s.pending ∧ s.handOwedClose.now = s.now ∧ s.handOwedClose.phase = s.phase ∧
      s.handOwedClose.li = s.li ∧ s.handOwedClose.td = s.td ∧ s.handOwedClose.as = s.as ∧ s.handOwedClose.nd = s.nd ∧
      s.handOwedClose.dp = s.dp ∧ s.handOwedClose.cu = s.cu ∧ s.handOwedClose.au = s.au ∧ s.handOwedClose.lc = s.lc ∧
      s.handOwedClose.store = s.store ∧ s.handOwedClose.jn.mem = s.jn.mem ∧
      s.handOwedClose.ss.stageHold = s.ss.stageHold := by
  unfold State.handOwedClose
  try dsimp only
  (repeat' split) <;> simp

@[simp] theorem State.oweClose_frame (s : State) (c : OwedClose) :
    (s.oweClose c).pending = s.pending ∧ (s.oweClose c).now = s.now ∧ (s.oweClose c).phase = s.phase ∧
      (s.oweClose c).li = s.li ∧ (s.oweClose c).td = s.td ∧ (s.oweClose c).as = s.as ∧ (s.oweClose c).nd = s.nd ∧
      (s.oweClose c).dp = s.dp ∧ (s.oweClose c).cu = s.cu ∧ (s.oweClose c).au = s.au ∧ (s.oweClose c).lc = s.lc ∧
      (s.oweClose c).store = s.store ∧ (s.oweClose c).jn.mem = s.jn.mem ∧
      (s.oweClose c).ss.stageHold = s.ss.stageHold := by
  simp [State.oweClose]

@[simp] theorem State.closeHeld_frame (s : State) (id : Nat) (outcome : LoadOutcome) :
    (s.closeHeld id outcome).pending = s.pending ∧ (s.closeHeld id outcome).now = s.now ∧
      (s.closeHeld id outcome).phase = s.phase ∧ (s.closeHeld id outcome).li = s.li ∧
      (s.closeHeld id outcome).as = s.as ∧ (s.closeHeld id outcome).nd = s.nd ∧ (s.closeHeld id outcome).cu = s.cu ∧
      (s.closeHeld id outcome).au = s.au ∧ (s.closeHeld id outcome).store = s.store ∧
      (s.closeHeld id outcome).jn.mem = s.jn.mem ∧ (s.closeHeld id outcome).lc.outstanding = s.lc.outstanding ∧
      (s.closeHeld id outcome).lc.rx = s.lc.rx ∧ (s.closeHeld id outcome).lc.clock = s.lc.clock ∧
      (s.closeHeld id outcome).td.bays = s.td.bays ∧ (s.closeHeld id outcome).dp.set = s.dp.set ∧
      (s.closeHeld id outcome).lc.replies = s.lc.replies ∧ (s.closeHeld id outcome).td.move = s.td.move ∧
      (s.closeHeld id outcome).td.queue = s.td.queue ∧ (s.closeHeld id outcome).ss.stageHold = s.ss.stageHold := by
  unfold State.closeHeld
  try dsimp only
  (repeat' split) <;> simp

@[simp] theorem State.handBack_frame (s : State) (id : Nat) :
    (s.handBack id).pending = s.pending ∧ (s.handBack id).now = s.now ∧ (s.handBack id).phase = s.phase ∧
      (s.handBack id).li = s.li ∧ (s.handBack id).td = s.td ∧ (s.handBack id).as = s.as ∧ (s.handBack id).dp = s.dp ∧
      (s.handBack id).ss = s.ss ∧ (s.handBack id).cu = s.cu ∧ (s.handBack id).jn = s.jn ∧ (s.handBack id).au = s.au ∧
      (s.handBack id).lc = s.lc ∧ (s.handBack id).store = s.store := by
  unfold State.handBack
  try dsimp only
  (repeat' split) <;> simp

@[simp] theorem State.cancelLoad_frame (s : State) (ld : Load) :
    (s.cancelLoad ld).pending = s.pending ∧ (s.cancelLoad ld).now = s.now ∧ (s.cancelLoad ld).phase = s.phase ∧
      (s.cancelLoad ld).li = s.li ∧ (s.cancelLoad ld).td = s.td ∧ (s.cancelLoad ld).as = s.as ∧
      (s.cancelLoad ld).ss = s.ss ∧ (s.cancelLoad ld).cu = s.cu ∧ (s.cancelLoad ld).jn = s.jn ∧
      (s.cancelLoad ld).au = s.au ∧ (s.cancelLoad ld).store = s.store ∧
      (s.cancelLoad ld).lc.outstanding = s.lc.outstanding ∧ (s.cancelLoad ld).lc.rx = s.lc.rx ∧
      (s.cancelLoad ld).lc.clock = s.lc.clock ∧ (s.cancelLoad ld).dp.set = s.dp.set ∧
      (s.cancelLoad ld).lc.replies = s.lc.replies := by
  simp [State.cancelLoad]

@[simp] theorem State.cancelIfPlanned_frame (s : State) (id : Nat) :
    (s.cancelIfPlanned id).pending = s.pending ∧ (s.cancelIfPlanned id).now = s.now ∧
      (s.cancelIfPlanned id).phase = s.phase ∧ (s.cancelIfPlanned id).li = s.li ∧ (s.cancelIfPlanned id).td = s.td ∧
      (s.cancelIfPlanned id).as = s.as ∧ (s.cancelIfPlanned id).ss = s.ss ∧ (s.cancelIfPlanned id).cu = s.cu ∧
      (s.cancelIfPlanned id).jn = s.jn ∧ (s.cancelIfPlanned id).au = s.au ∧ (s.cancelIfPlanned id).store = s.store ∧
      (s.cancelIfPlanned id).lc.outstanding = s.lc.outstanding ∧ (s.cancelIfPlanned id).lc.rx = s.lc.rx ∧
      (s.cancelIfPlanned id).lc.clock = s.lc.clock ∧ (s.cancelIfPlanned id).dp.set = s.dp.set ∧
      (s.cancelIfPlanned id).lc.replies = s.lc.replies := by
  unfold State.cancelIfPlanned
  try dsimp only
  (repeat' split) <;> simp

@[simp] theorem State.cancelPlanned_frame (s : State) (ids : List Nat) :
    (s.cancelPlanned ids).pending = s.pending ∧ (s.cancelPlanned ids).now = s.now ∧
      (s.cancelPlanned ids).phase = s.phase ∧ (s.cancelPlanned ids).li = s.li ∧ (s.cancelPlanned ids).td = s.td ∧
      (s.cancelPlanned ids).as = s.as ∧ (s.cancelPlanned ids).ss = s.ss ∧ (s.cancelPlanned ids).cu = s.cu ∧
      (s.cancelPlanned ids).jn = s.jn ∧ (s.cancelPlanned ids).au = s.au ∧ (s.cancelPlanned ids).store = s.store ∧
      (s.cancelPlanned ids).lc.outstanding = s.lc.outstanding ∧ (s.cancelPlanned ids).lc.rx = s.lc.rx ∧
      (s.cancelPlanned ids).lc.clock = s.lc.clock ∧ (s.cancelPlanned ids).dp.set = s.dp.set ∧
      (s.cancelPlanned ids).lc.replies = s.lc.replies := by
  unfold State.cancelPlanned
  induction ids generalizing s with
  | nil => simp
  | cons _ _ ih => simp [ih]

@[simp] theorem State.purgePick_frame (s : State) :
    s.purgePick.pending = s.pending ∧ s.purgePick.now = s.now ∧ s.purgePick.phase = s.phase ∧ s.purgePick.li = s.li ∧
      s.purgePick.td = s.td ∧ s.purgePick.as = s.as ∧ s.purgePick.dp = s.dp ∧ s.purgePick.cu = s.cu ∧
      s.purgePick.jn = s.jn ∧ s.purgePick.au = s.au ∧ s.purgePick.store = s.store ∧
      s.purgePick.lc.outstanding = s.lc.outstanding ∧ s.purgePick.lc.rx = s.lc.rx ∧
      s.purgePick.lc.clock = s.lc.clock ∧ s.purgePick.lc.replies = s.lc.replies ∧
      s.purgePick.ss.stageHold = s.ss.stageHold := by
  simp [State.purgePick]

@[simp] theorem State.purgeDelivery_frame (s : State) :
    s.purgeDelivery.pending = s.pending ∧ s.purgeDelivery.now = s.now ∧ s.purgeDelivery.phase = s.phase ∧
      s.purgeDelivery.li = s.li ∧ s.purgeDelivery.td = s.td ∧ s.purgeDelivery.as = s.as ∧ s.purgeDelivery.dp = s.dp ∧
      s.purgeDelivery.cu = s.cu ∧ s.purgeDelivery.jn = s.jn ∧ s.purgeDelivery.au = s.au ∧
      s.purgeDelivery.store = s.store ∧ s.purgeDelivery.lc.outstanding = s.lc.outstanding ∧
      s.purgeDelivery.lc.rx = s.lc.rx ∧ s.purgeDelivery.lc.clock = s.lc.clock ∧
      s.purgeDelivery.lc.replies = s.lc.replies ∧ s.purgeDelivery.ss.stageHold = s.ss.stageHold := by
  simp [State.purgeDelivery]

@[simp] theorem State.purgeForClearing_frame (s : State) :
    s.purgeForClearing.pending = s.pending ∧ s.purgeForClearing.now = s.now ∧ s.purgeForClearing.phase = s.phase ∧
      s.purgeForClearing.li = s.li ∧ s.purgeForClearing.td = s.td ∧ s.purgeForClearing.as = s.as ∧
      s.purgeForClearing.dp = s.dp ∧ s.purgeForClearing.cu = s.cu ∧ s.purgeForClearing.jn = s.jn ∧
      s.purgeForClearing.au = s.au ∧ s.purgeForClearing.store = s.store ∧
      s.purgeForClearing.lc.outstanding = s.lc.outstanding ∧ s.purgeForClearing.lc.rx = s.lc.rx ∧
      s.purgeForClearing.lc.clock = s.lc.clock ∧ s.purgeForClearing.lc.replies = s.lc.replies ∧
      s.purgeForClearing.ss.stageHold = s.ss.stageHold := by
  unfold State.purgeForClearing
  try dsimp only
  (repeat' split) <;> simp

@[simp] theorem State.stepOutstanding_frame (s : State) (l : Lane) (before : LoadState) (after : LoadState) :
    (s.stepOutstanding l before after).pending = s.pending ∧ (s.stepOutstanding l before after).now = s.now ∧
      (s.stepOutstanding l before after).phase = s.phase ∧ (s.stepOutstanding l before after).li = s.li ∧
      (s.stepOutstanding l before after).td = s.td ∧ (s.stepOutstanding l before after).as = s.as ∧
      (s.stepOutstanding l before after).nd = s.nd ∧ (s.stepOutstanding l before after).ss = s.ss ∧
      (s.stepOutstanding l before after).cu = s.cu ∧ (s.stepOutstanding l before after).jn = s.jn ∧
      (s.stepOutstanding l before after).au = s.au ∧ (s.stepOutstanding l before after).lc = s.lc ∧
      (s.stepOutstanding l before after).store = s.store ∧ (s.stepOutstanding l before after).dp.set = s.dp.set := by
  unfold State.stepOutstanding
  try dsimp only
  (repeat' split) <;> simp

@[simp] theorem State.reportLaunch_frame (s : State) (l : Lane) :
    (s.reportLaunch l).pending = s.pending ∧ (s.reportLaunch l).now = s.now ∧ (s.reportLaunch l).phase = s.phase ∧
      (s.reportLaunch l).li = s.li ∧ (s.reportLaunch l).td = s.td ∧ (s.reportLaunch l).as = s.as ∧
      (s.reportLaunch l).nd = s.nd ∧ (s.reportLaunch l).ss = s.ss ∧ (s.reportLaunch l).cu = s.cu ∧
      (s.reportLaunch l).jn = s.jn ∧ (s.reportLaunch l).au = s.au ∧ (s.reportLaunch l).lc = s.lc ∧
      (s.reportLaunch l).store = s.store ∧ (s.reportLaunch l).dp.set = s.dp.set := by
  simp [State.reportLaunch]

@[simp] theorem State.reportAtLane_frame (s : State) (l : Lane) :
    (s.reportAtLane l).pending = s.pending ∧ (s.reportAtLane l).now = s.now ∧ (s.reportAtLane l).phase = s.phase ∧
      (s.reportAtLane l).li = s.li ∧ (s.reportAtLane l).td = s.td ∧ (s.reportAtLane l).as = s.as ∧
      (s.reportAtLane l).nd = s.nd ∧ (s.reportAtLane l).ss = s.ss ∧ (s.reportAtLane l).cu = s.cu ∧
      (s.reportAtLane l).jn = s.jn ∧ (s.reportAtLane l).au = s.au ∧ (s.reportAtLane l).lc = s.lc ∧
      (s.reportAtLane l).store = s.store ∧ (s.reportAtLane l).dp.set = s.dp.set := by
  simp [State.reportAtLane]

@[simp] theorem State.awaitClose_frame (s : State) (l : Lane) (id : Nat) :
    (s.awaitClose l id).pending = s.pending ∧ (s.awaitClose l id).now = s.now ∧ (s.awaitClose l id).phase = s.phase ∧
      (s.awaitClose l id).li = s.li ∧ (s.awaitClose l id).td = s.td ∧ (s.awaitClose l id).as = s.as ∧
      (s.awaitClose l id).nd = s.nd ∧ (s.awaitClose l id).ss = s.ss ∧ (s.awaitClose l id).cu = s.cu ∧
      (s.awaitClose l id).jn = s.jn ∧ (s.awaitClose l id).au = s.au ∧ (s.awaitClose l id).store = s.store ∧
      (s.awaitClose l id).lc.outstanding = s.lc.outstanding ∧ (s.awaitClose l id).lc.rx = s.lc.rx ∧
      (s.awaitClose l id).lc.clock = s.lc.clock ∧ (s.awaitClose l id).dp.set = s.dp.set ∧
      (s.awaitClose l id).lc.replies = s.lc.replies := by
  simp [State.awaitClose]

@[simp] theorem State.reportAtBay_frame (s : State) (l : Lane) (read : Content) (find : Bool) :
    (s.reportAtBay l read find).pending = s.pending ∧ (s.reportAtBay l read find).now = s.now ∧
      (s.reportAtBay l read find).phase = s.phase ∧ (s.reportAtBay l read find).li = s.li ∧
      (s.reportAtBay l read find).as = s.as ∧ (s.reportAtBay l read find).nd = s.nd ∧
      (s.reportAtBay l read find).cu = s.cu ∧ (s.reportAtBay l read find).au = s.au ∧
      (s.reportAtBay l read find).store = s.store ∧ (s.reportAtBay l read find).jn.mem = s.jn.mem ∧
      (s.reportAtBay l read find).lc.outstanding = s.lc.outstanding ∧ (s.reportAtBay l read find).lc.rx = s.lc.rx ∧
      (s.reportAtBay l read find).lc.clock = s.lc.clock ∧ (s.reportAtBay l read find).td.bays = s.td.bays ∧
      (s.reportAtBay l read find).dp.set = s.dp.set ∧ (s.reportAtBay l read find).lc.replies = s.lc.replies ∧
      (s.reportAtBay l read find).td.move = s.td.move ∧ (s.reportAtBay l read find).td.queue = s.td.queue ∧
      (s.reportAtBay l read find).ss.stageHold = s.ss.stageHold := by
  unfold State.reportAtBay
  try dsimp only
  (repeat' split) <;> simp

@[simp] theorem State.abortPush_frame (s : State) (l : Lane) :
    (s.abortPush l).pending = s.pending ∧ (s.abortPush l).now = s.now ∧ (s.abortPush l).phase = s.phase ∧
      (s.abortPush l).li = s.li ∧ (s.abortPush l).td = s.td ∧ (s.abortPush l).as = s.as ∧ (s.abortPush l).nd = s.nd ∧
      (s.abortPush l).dp = s.dp ∧ (s.abortPush l).cu = s.cu ∧ (s.abortPush l).jn = s.jn ∧ (s.abortPush l).au = s.au ∧
      (s.abortPush l).lc = s.lc ∧ (s.abortPush l).store = s.store ∧
      (s.abortPush l).ss.stageHold = s.ss.stageHold := by
  unfold State.abortPush
  try dsimp only
  (repeat' split) <;> simp

@[simp] theorem State.abortLift_frame (s : State) (l : Lane) :
    (s.abortLift l).pending = s.pending ∧ (s.abortLift l).now = s.now ∧ (s.abortLift l).phase = s.phase ∧
      (s.abortLift l).li = s.li ∧ (s.abortLift l).td = s.td ∧ (s.abortLift l).as = s.as ∧ (s.abortLift l).nd = s.nd ∧
      (s.abortLift l).dp = s.dp ∧ (s.abortLift l).ss = s.ss ∧ (s.abortLift l).jn = s.jn ∧ (s.abortLift l).au = s.au ∧
      (s.abortLift l).lc = s.lc ∧ (s.abortLift l).store = s.store ∧ (s.abortLift l).cu.bin = s.cu.bin := by
  unfold State.abortLift
  try dsimp only
  (repeat' split) <;> simp

@[simp] theorem State.disturbBay_frame (s : State) (l : Lane) :
    (s.disturbBay l).pending = s.pending ∧ (s.disturbBay l).now = s.now ∧ (s.disturbBay l).phase = s.phase ∧
      (s.disturbBay l).li = s.li ∧ (s.disturbBay l).td = s.td ∧ (s.disturbBay l).as = s.as ∧
      (s.disturbBay l).nd = s.nd ∧ (s.disturbBay l).dp = s.dp ∧ (s.disturbBay l).jn = s.jn ∧
      (s.disturbBay l).au = s.au ∧ (s.disturbBay l).lc = s.lc ∧ (s.disturbBay l).store = s.store ∧
      (s.disturbBay l).cu.bin = s.cu.bin ∧ (s.disturbBay l).ss.stageHold = s.ss.stageHold := by
  simp [State.disturbBay]

@[simp] theorem State.cassTo_frame (s : State) (c : Cass) (st : CassState) :
    (s.cassTo c st).pending = s.pending ∧ (s.cassTo c st).now = s.now ∧ (s.cassTo c st).phase = s.phase ∧
      (s.cassTo c st).li = s.li ∧ (s.cassTo c st).td = s.td ∧ (s.cassTo c st).as = s.as ∧ (s.cassTo c st).dp = s.dp ∧
      (s.cassTo c st).ss = s.ss ∧ (s.cassTo c st).cu = s.cu ∧ (s.cassTo c st).jn = s.jn ∧ (s.cassTo c st).au = s.au ∧
      (s.cassTo c st).store = s.store ∧ (s.cassTo c st).lc.outstanding = s.lc.outstanding ∧
      (s.cassTo c st).lc.rx = s.lc.rx ∧ (s.cassTo c st).lc.clock = s.lc.clock ∧
      (s.cassTo c st).lc.replies = s.lc.replies := by
  unfold State.cassTo
  try dsimp only
  (repeat' split) <;> simp

@[simp] theorem State.relevel_frame (s : State) (c : Cass) :
    (s.relevel c).pending = s.pending ∧ (s.relevel c).now = s.now ∧ (s.relevel c).phase = s.phase ∧
      (s.relevel c).li = s.li ∧ (s.relevel c).td = s.td ∧ (s.relevel c).as = s.as ∧ (s.relevel c).dp = s.dp ∧
      (s.relevel c).ss = s.ss ∧ (s.relevel c).cu = s.cu ∧ (s.relevel c).jn = s.jn ∧ (s.relevel c).au = s.au ∧
      (s.relevel c).store = s.store ∧ (s.relevel c).lc.outstanding = s.lc.outstanding ∧
      (s.relevel c).lc.rx = s.lc.rx ∧ (s.relevel c).lc.clock = s.lc.clock ∧
      (s.relevel c).lc.replies = s.lc.replies := by
  unfold State.relevel
  try dsimp only
  (repeat' split) <;> simp

@[simp] theorem State.modLedger_frame (s : State) (c : Cass) (f : Ledger → Ledger) :
    (s.modLedger c f).pending = s.pending ∧ (s.modLedger c f).now = s.now ∧ (s.modLedger c f).phase = s.phase ∧
      (s.modLedger c f).li = s.li ∧ (s.modLedger c f).td = s.td ∧ (s.modLedger c f).as = s.as ∧
      (s.modLedger c f).dp = s.dp ∧ (s.modLedger c f).ss = s.ss ∧ (s.modLedger c f).cu = s.cu ∧
      (s.modLedger c f).jn = s.jn ∧ (s.modLedger c f).au = s.au ∧ (s.modLedger c f).store = s.store ∧
      (s.modLedger c f).lc.outstanding = s.lc.outstanding ∧ (s.modLedger c f).lc.rx = s.lc.rx ∧
      (s.modLedger c f).lc.clock = s.lc.clock ∧ (s.modLedger c f).lc.replies = s.lc.replies := by
  simp [State.modLedger]

@[simp] theorem State.slotChange_frame (s : State) (c : Cass) (present : Bool) :
    (s.slotChange c present).pending = s.pending ∧ (s.slotChange c present).now = s.now ∧
      (s.slotChange c present).phase = s.phase ∧ (s.slotChange c present).li = s.li ∧
      (s.slotChange c present).td = s.td ∧ (s.slotChange c present).as = s.as ∧ (s.slotChange c present).dp = s.dp ∧
      (s.slotChange c present).ss = s.ss ∧ (s.slotChange c present).cu = s.cu ∧ (s.slotChange c present).jn = s.jn ∧
      (s.slotChange c present).au = s.au ∧ (s.slotChange c present).store = s.store ∧
      (s.slotChange c present).lc.outstanding = s.lc.outstanding ∧ (s.slotChange c present).lc.rx = s.lc.rx ∧
      (s.slotChange c present).lc.clock = s.lc.clock ∧ (s.slotChange c present).lc.replies = s.lc.replies := by
  unfold State.slotChange
  try dsimp only
  (repeat' split) <;> simp

@[simp] theorem State.slotCheck_frame (s : State) :
    s.slotCheck.pending = s.pending ∧ s.slotCheck.now = s.now ∧ s.slotCheck.phase = s.phase ∧ s.slotCheck.li = s.li ∧
      s.slotCheck.td = s.td ∧ s.slotCheck.as = s.as ∧ s.slotCheck.dp = s.dp ∧ s.slotCheck.ss = s.ss ∧
      s.slotCheck.cu = s.cu ∧ s.slotCheck.jn = s.jn ∧ s.slotCheck.au = s.au ∧ s.slotCheck.store = s.store ∧
      s.slotCheck.lc.outstanding = s.lc.outstanding ∧ s.slotCheck.lc.rx = s.lc.rx ∧
      s.slotCheck.lc.clock = s.lc.clock ∧ s.slotCheck.lc.replies = s.lc.replies := by
  simp [State.slotCheck, Ix4.all]

@[simp] theorem State.chargeStray_frame (s : State) (c : Option Cass) :
    (s.chargeStray c).pending = s.pending ∧ (s.chargeStray c).now = s.now ∧ (s.chargeStray c).phase = s.phase ∧
      (s.chargeStray c).li = s.li ∧ (s.chargeStray c).td = s.td ∧ (s.chargeStray c).as = s.as ∧
      (s.chargeStray c).dp = s.dp ∧ (s.chargeStray c).ss = s.ss ∧ (s.chargeStray c).cu = s.cu ∧
      (s.chargeStray c).jn = s.jn ∧ (s.chargeStray c).au = s.au ∧ (s.chargeStray c).store = s.store ∧
      (s.chargeStray c).lc.outstanding = s.lc.outstanding ∧ (s.chargeStray c).lc.rx = s.lc.rx ∧
      (s.chargeStray c).lc.clock = s.lc.clock ∧ (s.chargeStray c).lc.replies = s.lc.replies := by
  unfold State.chargeStray
  try dsimp only
  (repeat' split) <;> simp

@[simp] theorem State.chargeInPath_frame (s : State) (c : Cass) :
    (s.chargeInPath c).pending = s.pending ∧ (s.chargeInPath c).now = s.now ∧ (s.chargeInPath c).phase = s.phase ∧
      (s.chargeInPath c).li = s.li ∧ (s.chargeInPath c).td = s.td ∧ (s.chargeInPath c).as = s.as ∧
      (s.chargeInPath c).dp = s.dp ∧ (s.chargeInPath c).ss = s.ss ∧ (s.chargeInPath c).cu = s.cu ∧
      (s.chargeInPath c).jn = s.jn ∧ (s.chargeInPath c).au = s.au ∧ (s.chargeInPath c).store = s.store ∧
      (s.chargeInPath c).lc.outstanding = s.lc.outstanding ∧ (s.chargeInPath c).lc.rx = s.lc.rx ∧
      (s.chargeInPath c).lc.clock = s.lc.clock ∧ (s.chargeInPath c).lc.replies = s.lc.replies := by
  unfold State.chargeInPath
  try dsimp only
  (repeat' split) <;> simp

@[simp] theorem State.chargePath_frame (s : State) :
    s.chargePath.pending = s.pending ∧ s.chargePath.now = s.now ∧ s.chargePath.phase = s.phase ∧
      s.chargePath.li = s.li ∧ s.chargePath.td = s.td ∧ s.chargePath.as = s.as ∧ s.chargePath.dp = s.dp ∧
      s.chargePath.ss = s.ss ∧ s.chargePath.cu = s.cu ∧ s.chargePath.jn = s.jn ∧ s.chargePath.au = s.au ∧
      s.chargePath.store = s.store ∧ s.chargePath.lc.outstanding = s.lc.outstanding ∧ s.chargePath.lc.rx = s.lc.rx ∧
      s.chargePath.lc.clock = s.lc.clock ∧ s.chargePath.lc.replies = s.lc.replies := by
  unfold State.chargePath
  try dsimp only
  split <;> simp [Ix4.all]

@[simp] theorem State.stopPath_frame (s : State) :
    s.stopPath.pending = s.pending ∧ s.stopPath.now = s.now ∧ s.stopPath.phase = s.phase ∧ s.stopPath.li = s.li ∧
      s.stopPath.td = s.td ∧ s.stopPath.as = s.as ∧ s.stopPath.dp = s.dp ∧ s.stopPath.ss = s.ss ∧
      s.stopPath.cu = s.cu ∧ s.stopPath.jn = s.jn ∧ s.stopPath.au = s.au ∧ s.stopPath.lc = s.lc ∧
      s.stopPath.store = s.store := by
  simp [State.stopPath]

@[simp] theorem State.startClearing_frame (s : State) :
    s.startClearing.pending = s.pending ∧ s.startClearing.now = s.now ∧ s.startClearing.phase = s.phase ∧
      s.startClearing.li = s.li ∧ s.startClearing.td = s.td ∧ s.startClearing.as = s.as ∧ s.startClearing.dp = s.dp ∧
      s.startClearing.cu = s.cu ∧ s.startClearing.jn = s.jn ∧ s.startClearing.au = s.au ∧
      s.startClearing.store = s.store ∧ s.startClearing.lc.outstanding = s.lc.outstanding ∧
      s.startClearing.lc.rx = s.lc.rx ∧ s.startClearing.lc.clock = s.lc.clock ∧
      s.startClearing.lc.replies = s.lc.replies ∧ s.startClearing.ss.stageHold = s.ss.stageHold := by
  simp [State.startClearing]

@[simp] theorem State.endClearing_frame (s : State) (pathClear : Bool) :
    (s.endClearing pathClear).pending = s.pending ∧ (s.endClearing pathClear).now = s.now ∧
      (s.endClearing pathClear).phase = s.phase ∧ (s.endClearing pathClear).li = s.li ∧
      (s.endClearing pathClear).td = s.td ∧ (s.endClearing pathClear).as = s.as ∧
      (s.endClearing pathClear).dp = s.dp ∧ (s.endClearing pathClear).ss = s.ss ∧
      (s.endClearing pathClear).cu = s.cu ∧ (s.endClearing pathClear).jn = s.jn ∧
      (s.endClearing pathClear).au = s.au ∧ (s.endClearing pathClear).store = s.store ∧
      (s.endClearing pathClear).lc.outstanding = s.lc.outstanding ∧ (s.endClearing pathClear).lc.rx = s.lc.rx ∧
      (s.endClearing pathClear).lc.clock = s.lc.clock ∧ (s.endClearing pathClear).lc.replies = s.lc.replies := by
  unfold State.endClearing
  try dsimp only
  (repeat' split) <;> simp

@[simp] theorem State.purgeStacker_frame (s : State) :
    s.purgeStacker.pending = s.pending ∧ s.purgeStacker.now = s.now ∧ s.purgeStacker.phase = s.phase ∧
      s.purgeStacker.li = s.li ∧ s.purgeStacker.td = s.td ∧ s.purgeStacker.as = s.as ∧ s.purgeStacker.dp = s.dp ∧
      s.purgeStacker.cu = s.cu ∧ s.purgeStacker.jn = s.jn ∧ s.purgeStacker.au = s.au ∧
      s.purgeStacker.store = s.store ∧ s.purgeStacker.lc.outstanding = s.lc.outstanding ∧
      s.purgeStacker.lc.rx = s.lc.rx ∧ s.purgeStacker.lc.clock = s.lc.clock ∧
      s.purgeStacker.lc.replies = s.lc.replies ∧ s.purgeStacker.ss.stageHold = s.ss.stageHold := by
  simp [State.purgeStacker]

@[simp] theorem State.evaluateTamper_frame (s : State) (l : Lane) :
    (s.evaluateTamper l).pending = s.pending ∧ (s.evaluateTamper l).now = s.now ∧
      (s.evaluateTamper l).phase = s.phase ∧ (s.evaluateTamper l).as = s.as ∧ (s.evaluateTamper l).nd = s.nd ∧
      (s.evaluateTamper l).dp = s.dp ∧ (s.evaluateTamper l).ss = s.ss ∧ (s.evaluateTamper l).cu = s.cu ∧
      (s.evaluateTamper l).store = s.store ∧ (s.evaluateTamper l).jn.mem = s.jn.mem ∧
      (s.evaluateTamper l).lc.outstanding = s.lc.outstanding ∧ (s.evaluateTamper l).lc.rx = s.lc.rx ∧
      (s.evaluateTamper l).lc.clock = s.lc.clock ∧ laneCores (s.evaluateTamper l).li.lanes = laneCores s.li.lanes ∧
      (s.evaluateTamper l).td.bays = s.td.bays ∧ (s.evaluateTamper l).au.zones.windows = s.au.zones.windows ∧
      (s.evaluateTamper l).lc.replies = s.lc.replies ∧ (s.evaluateTamper l).td.move = s.td.move ∧
      (s.evaluateTamper l).au.missing = s.au.missing ∧ (s.evaluateTamper l).au.period = s.au.period ∧
      (s.evaluateTamper l).au.keySwitch = s.au.keySwitch := by
  unfold State.evaluateTamper
  try dsimp only
  (repeat' split) <;> simp

@[simp] theorem State.evaluateZone_frame (s : State) (z : ZoneId) :
    (s.evaluateZone z).pending = s.pending ∧ (s.evaluateZone z).now = s.now ∧ (s.evaluateZone z).phase = s.phase ∧
      (s.evaluateZone z).as = s.as ∧ (s.evaluateZone z).nd = s.nd ∧ (s.evaluateZone z).dp = s.dp ∧
      (s.evaluateZone z).ss = s.ss ∧ (s.evaluateZone z).cu = s.cu ∧ (s.evaluateZone z).store = s.store ∧
      (s.evaluateZone z).jn.mem = s.jn.mem ∧ (s.evaluateZone z).lc.outstanding = s.lc.outstanding ∧
      (s.evaluateZone z).lc.rx = s.lc.rx ∧ (s.evaluateZone z).lc.clock = s.lc.clock ∧
      laneCores (s.evaluateZone z).li.lanes = laneCores s.li.lanes ∧ (s.evaluateZone z).td.bays = s.td.bays ∧
      (s.evaluateZone z).lc.replies = s.lc.replies ∧ (s.evaluateZone z).td.move = s.td.move ∧
      (s.evaluateZone z).au.missing = s.au.missing ∧ (s.evaluateZone z).au.period = s.au.period ∧
      (s.evaluateZone z).au.keySwitch = s.au.keySwitch := by
  unfold State.evaluateZone
  try dsimp only
  (repeat' split) <;> simp

@[simp] theorem State.endStartUp_frame (s : State) :
    s.endStartUp.pending = s.pending ∧ s.endStartUp.now = s.now ∧ s.endStartUp.as = s.as ∧ s.endStartUp.nd = s.nd ∧
      s.endStartUp.dp = s.dp ∧ s.endStartUp.ss = s.ss ∧ s.endStartUp.cu = s.cu ∧ s.endStartUp.store = s.store ∧
      s.endStartUp.jn.mem = s.jn.mem ∧ s.endStartUp.lc.outstanding = s.lc.outstanding ∧
      s.endStartUp.lc.rx = s.lc.rx ∧ s.endStartUp.lc.clock = s.lc.clock ∧
      laneCores s.endStartUp.li.lanes = laneCores s.li.lanes ∧ s.endStartUp.td.bays = s.td.bays ∧
      s.endStartUp.lc.replies = s.lc.replies ∧ s.endStartUp.td.move = s.td.move ∧
      s.endStartUp.au.missing = s.au.missing ∧ s.endStartUp.au.period = s.au.period ∧
      s.endStartUp.au.keySwitch = s.au.keySwitch := by
  simp [State.endStartUp, ZoneId.all]

@[simp] theorem State.beginAir_frame (s : State) :
    s.beginAir.pending = s.pending ∧ s.beginAir.now = s.now ∧ s.beginAir.li = s.li ∧ s.beginAir.td = s.td ∧
      s.beginAir.nd = s.nd ∧ s.beginAir.dp = s.dp ∧ s.beginAir.ss = s.ss ∧ s.beginAir.cu = s.cu ∧
      s.beginAir.jn = s.jn ∧ s.beginAir.au = s.au ∧ s.beginAir.lc = s.lc ∧ s.beginAir.store = s.store := by
  simp [State.beginAir]

@[simp] theorem State.airStepEnds_frame (s : State) :
    s.airStepEnds.pending = s.pending ∧ s.airStepEnds.now = s.now ∧ s.airStepEnds.as = s.as ∧
      s.airStepEnds.nd = s.nd ∧ s.airStepEnds.dp = s.dp ∧ s.airStepEnds.ss = s.ss ∧ s.airStepEnds.cu = s.cu ∧
      s.airStepEnds.store = s.store ∧ s.airStepEnds.jn.mem = s.jn.mem ∧
      s.airStepEnds.lc.outstanding = s.lc.outstanding ∧ s.airStepEnds.lc.rx = s.lc.rx ∧
      s.airStepEnds.lc.clock = s.lc.clock ∧ laneCores s.airStepEnds.li.lanes = laneCores s.li.lanes ∧
      s.airStepEnds.td.bays = s.td.bays ∧ s.airStepEnds.lc.replies = s.lc.replies ∧
      s.airStepEnds.td.move = s.td.move ∧ s.airStepEnds.au.missing = s.au.missing ∧
      s.airStepEnds.au.period = s.au.period ∧ s.airStepEnds.au.keySwitch = s.au.keySwitch := by
  unfold State.airStepEnds
  try dsimp only
  (repeat' split) <;> simp

@[simp] theorem State.deriveLocation_frame (s : State) (l : Lane) :
    (s.deriveLocation l).pending = s.pending ∧ (s.deriveLocation l).now = s.now ∧
      (s.deriveLocation l).phase = s.phase ∧ (s.deriveLocation l).as = s.as ∧ (s.deriveLocation l).nd = s.nd ∧
      (s.deriveLocation l).dp = s.dp ∧ (s.deriveLocation l).ss = s.ss ∧ (s.deriveLocation l).cu = s.cu ∧
      (s.deriveLocation l).jn = s.jn ∧ (s.deriveLocation l).au = s.au ∧ (s.deriveLocation l).store = s.store ∧
      (s.deriveLocation l).lc.outstanding = s.lc.outstanding ∧ (s.deriveLocation l).lc.rx = s.lc.rx ∧
      (s.deriveLocation l).lc.clock = s.lc.clock ∧ laneCores (s.deriveLocation l).li.lanes = laneCores s.li.lanes ∧
      (s.deriveLocation l).td.bays = s.td.bays ∧ (s.deriveLocation l).lc.replies = s.lc.replies ∧
      (s.deriveLocation l).td.move = s.td.move := by
  unfold State.deriveLocation
  try dsimp only
  (repeat' split) <;> simp

@[simp] theorem State.deriveLocations_frame (s : State) :
    s.deriveLocations.pending = s.pending ∧ s.deriveLocations.now = s.now ∧ s.deriveLocations.phase = s.phase ∧
      s.deriveLocations.as = s.as ∧ s.deriveLocations.nd = s.nd ∧ s.deriveLocations.dp = s.dp ∧
      s.deriveLocations.ss = s.ss ∧ s.deriveLocations.cu = s.cu ∧ s.deriveLocations.jn = s.jn ∧
      s.deriveLocations.au = s.au ∧ s.deriveLocations.store = s.store ∧
      s.deriveLocations.lc.outstanding = s.lc.outstanding ∧ s.deriveLocations.lc.rx = s.lc.rx ∧
      s.deriveLocations.lc.clock = s.lc.clock ∧ laneCores s.deriveLocations.li.lanes = laneCores s.li.lanes ∧
      s.deriveLocations.td.bays = s.td.bays ∧ s.deriveLocations.lc.replies = s.lc.replies ∧
      s.deriveLocations.td.move = s.td.move := by
  simp [State.deriveLocations, Ix4.all]

@[simp] theorem State.beginNotePath_frame (s : State) :
    s.beginNotePath.pending = s.pending ∧ s.beginNotePath.now = s.now ∧ s.beginNotePath.li = s.li ∧
      s.beginNotePath.td = s.td ∧ s.beginNotePath.dp = s.dp ∧ s.beginNotePath.cu = s.cu ∧ s.beginNotePath.jn = s.jn ∧
      s.beginNotePath.au = s.au ∧ s.beginNotePath.store = s.store ∧
      s.beginNotePath.lc.outstanding = s.lc.outstanding ∧ s.beginNotePath.lc.rx = s.lc.rx ∧
      s.beginNotePath.lc.clock = s.lc.clock ∧ s.beginNotePath.lc.replies = s.lc.replies ∧
      s.beginNotePath.ss.stageHold = s.ss.stageHold := by
  unfold State.beginNotePath
  try dsimp only
  (repeat' split) <;> simp

@[simp] theorem State.notePathStepEnds_frame (s : State) :
    s.notePathStepEnds.pending = s.pending ∧ s.notePathStepEnds.now = s.now ∧ s.notePathStepEnds.li = s.li ∧
      s.notePathStepEnds.td = s.td ∧ s.notePathStepEnds.nd = s.nd ∧ s.notePathStepEnds.dp = s.dp ∧
      s.notePathStepEnds.ss = s.ss ∧ s.notePathStepEnds.cu = s.cu ∧ s.notePathStepEnds.jn = s.jn ∧
      s.notePathStepEnds.au = s.au ∧ s.notePathStepEnds.lc = s.lc ∧ s.notePathStepEnds.store = s.store := by
  unfold State.notePathStepEnds
  try dsimp only
  (repeat' split) <;> simp

@[simp] theorem State.beginEnrolment_frame (s : State) :
    s.beginEnrolment.pending = s.pending ∧ s.beginEnrolment.now = s.now ∧ s.beginEnrolment.td = s.td ∧
      s.beginEnrolment.as = s.as ∧ s.beginEnrolment.nd = s.nd ∧ s.beginEnrolment.dp = s.dp ∧
      s.beginEnrolment.ss = s.ss ∧ s.beginEnrolment.cu = s.cu ∧ s.beginEnrolment.jn = s.jn ∧
      s.beginEnrolment.au = s.au ∧ s.beginEnrolment.lc = s.lc ∧ s.beginEnrolment.store = s.store := by
  simp [State.beginEnrolment]

@[simp] theorem State.enrolmentStepEnds_frame (s : State) :
    s.enrolmentStepEnds.pending = s.pending ∧ s.enrolmentStepEnds.now = s.now ∧ s.enrolmentStepEnds.dp = s.dp ∧
      s.enrolmentStepEnds.cu = s.cu ∧ s.enrolmentStepEnds.jn = s.jn ∧ s.enrolmentStepEnds.au = s.au ∧
      s.enrolmentStepEnds.store = s.store ∧ s.enrolmentStepEnds.lc.outstanding = s.lc.outstanding ∧
      s.enrolmentStepEnds.lc.rx = s.lc.rx ∧ s.enrolmentStepEnds.lc.clock = s.lc.clock ∧
      laneCores s.enrolmentStepEnds.li.lanes = laneCores s.li.lanes ∧ s.enrolmentStepEnds.td.bays = s.td.bays ∧
      s.enrolmentStepEnds.lc.replies = s.lc.replies ∧ s.enrolmentStepEnds.td.move = s.td.move ∧
      s.enrolmentStepEnds.ss.stageHold = s.ss.stageHold := by
  unfold State.enrolmentStepEnds
  try dsimp only
  (repeat' split) <;> simp

@[simp] theorem State.powerRecordLost_frame (s : State) :
    s.powerRecordLost.pending = s.pending ∧ s.powerRecordLost.now = s.now ∧ s.powerRecordLost.td = s.td ∧
      s.powerRecordLost.as = s.as ∧ s.powerRecordLost.nd = s.nd ∧ s.powerRecordLost.dp = s.dp ∧
      s.powerRecordLost.ss = s.ss ∧ s.powerRecordLost.cu = s.cu ∧ s.powerRecordLost.au = s.au ∧
      s.powerRecordLost.lc = s.lc ∧ s.powerRecordLost.store = s.store ∧ s.powerRecordLost.jn.mem = s.jn.mem := by
  simp [State.powerRecordLost]

@[simp] theorem State.beginPowerRecord_frame (s : State) :
    s.beginPowerRecord.pending = s.pending ∧ s.beginPowerRecord.now = s.now ∧ s.beginPowerRecord.td = s.td ∧
      s.beginPowerRecord.as = s.as ∧ s.beginPowerRecord.nd = s.nd ∧ s.beginPowerRecord.dp = s.dp ∧
      s.beginPowerRecord.ss = s.ss ∧ s.beginPowerRecord.cu = s.cu ∧ s.beginPowerRecord.au = s.au ∧
      s.beginPowerRecord.store = s.store ∧ s.beginPowerRecord.jn.mem = s.jn.mem ∧
      s.beginPowerRecord.lc.outstanding = s.lc.outstanding ∧ s.beginPowerRecord.lc.rx = s.lc.rx ∧
      s.beginPowerRecord.lc.clock = s.lc.clock ∧ s.beginPowerRecord.lc.replies = s.lc.replies := by
  unfold State.beginPowerRecord
  try dsimp only
  (repeat' split) <;> simp

@[simp] theorem State.formRun_frame (s : State) :
    s.formRun.pending = s.pending ∧ s.formRun.now = s.now ∧ s.formRun.phase = s.phase ∧ s.formRun.li = s.li ∧
      s.formRun.td = s.td ∧ s.formRun.as = s.as ∧ s.formRun.nd = s.nd ∧ s.formRun.dp = s.dp ∧ s.formRun.ss = s.ss ∧
      s.formRun.cu = s.cu ∧ s.formRun.au = s.au ∧ s.formRun.lc = s.lc ∧ s.formRun.store = s.store ∧
      s.formRun.jn.mem = s.jn.mem := by
  unfold State.formRun
  try dsimp only
  (repeat' split) <;> simp

@[simp] theorem State.binTo_frame (s : State) (st : BinState) :
    (s.binTo st).pending = s.pending ∧ (s.binTo st).now = s.now ∧ (s.binTo st).phase = s.phase ∧
      (s.binTo st).li = s.li ∧ (s.binTo st).td = s.td ∧ (s.binTo st).as = s.as ∧ (s.binTo st).nd = s.nd ∧
      (s.binTo st).dp = s.dp ∧ (s.binTo st).ss = s.ss ∧ (s.binTo st).jn = s.jn ∧ (s.binTo st).au = s.au ∧
      (s.binTo st).store = s.store ∧ (s.binTo st).lc.outstanding = s.lc.outstanding ∧ (s.binTo st).lc.rx = s.lc.rx ∧
      (s.binTo st).lc.clock = s.lc.clock ∧ (s.binTo st).lc.replies = s.lc.replies := by
  unfold State.binTo
  try dsimp only
  (repeat' split) <;> simp

@[simp] theorem State.binCheck_frame (s : State) :
    s.binCheck.pending = s.pending ∧ s.binCheck.now = s.now ∧ s.binCheck.phase = s.phase ∧ s.binCheck.li = s.li ∧
      s.binCheck.td = s.td ∧ s.binCheck.as = s.as ∧ s.binCheck.nd = s.nd ∧ s.binCheck.dp = s.dp ∧
      s.binCheck.ss = s.ss ∧ s.binCheck.jn = s.jn ∧ s.binCheck.au = s.au ∧ s.binCheck.store = s.store ∧
      s.binCheck.lc.outstanding = s.lc.outstanding ∧ s.binCheck.lc.rx = s.lc.rx ∧ s.binCheck.lc.clock = s.lc.clock ∧
      s.binCheck.lc.replies = s.lc.replies := by
  unfold State.binCheck
  try dsimp only
  (repeat' split) <;> simp

@[simp] theorem State.scanEnds_frame (s : State) :
    s.scanEnds.pending = s.pending ∧ s.scanEnds.now = s.now ∧ s.scanEnds.td = s.td ∧ s.scanEnds.as = s.as ∧
      s.scanEnds.nd = s.nd ∧ s.scanEnds.dp = s.dp ∧ s.scanEnds.ss = s.ss ∧ s.scanEnds.au = s.au ∧
      s.scanEnds.store = s.store ∧ s.scanEnds.jn.mem = s.jn.mem ∧ s.scanEnds.lc.outstanding = s.lc.outstanding ∧
      s.scanEnds.lc.rx = s.lc.rx ∧ s.scanEnds.lc.clock = s.lc.clock ∧ s.scanEnds.lc.replies = s.lc.replies := by
  simp [State.scanEnds]

@[simp] theorem State.scanStepEnds_frame (s : State) :
    s.scanStepEnds.pending = s.pending ∧ s.scanStepEnds.now = s.now ∧ s.scanStepEnds.td = s.td ∧
      s.scanStepEnds.as = s.as ∧ s.scanStepEnds.nd = s.nd ∧ s.scanStepEnds.dp = s.dp ∧ s.scanStepEnds.ss = s.ss ∧
      s.scanStepEnds.au = s.au ∧ s.scanStepEnds.store = s.store ∧ s.scanStepEnds.jn.mem = s.jn.mem ∧
      s.scanStepEnds.lc.outstanding = s.lc.outstanding ∧ s.scanStepEnds.lc.rx = s.lc.rx ∧
      s.scanStepEnds.lc.clock = s.lc.clock ∧ s.scanStepEnds.lc.replies = s.lc.replies := by
  unfold State.scanStepEnds
  try dsimp only
  (repeat' split) <;> simp

@[simp] theorem State.releasePressure_frame (s : State) :
    s.releasePressure.pending = s.pending ∧ s.releasePressure.now = s.now ∧ s.releasePressure.phase = s.phase ∧
      s.releasePressure.li = s.li ∧ s.releasePressure.td = s.td ∧ s.releasePressure.nd = s.nd ∧
      s.releasePressure.dp = s.dp ∧ s.releasePressure.ss = s.ss ∧ s.releasePressure.cu = s.cu ∧
      s.releasePressure.jn = s.jn ∧ s.releasePressure.au = s.au ∧ s.releasePressure.lc = s.lc ∧
      s.releasePressure.store = s.store := by
  simp [State.releasePressure]

@[simp] theorem State.endMove_frame (s : State) :
    s.endMove.pending = s.pending ∧ s.endMove.now = s.now ∧ s.endMove.phase = s.phase ∧ s.endMove.li = s.li ∧
      s.endMove.nd = s.nd ∧ s.endMove.dp = s.dp ∧ s.endMove.ss = s.ss ∧ s.endMove.cu = s.cu ∧ s.endMove.jn = s.jn ∧
      s.endMove.au = s.au ∧ s.endMove.lc = s.lc ∧ s.endMove.store = s.store ∧ s.endMove.td.bays = s.td.bays ∧
      s.endMove.td.queue = s.td.queue := by
  unfold State.endMove
  try dsimp only
  (repeat' split) <;> simp

@[simp] theorem State.failMove_frame (s : State) (result : MoveResult) :
    (s.failMove result).pending = s.pending ∧ (s.failMove result).now = s.now ∧ (s.failMove result).phase = s.phase ∧
      (s.failMove result).li = s.li ∧ (s.failMove result).nd = s.nd ∧ (s.failMove result).dp = s.dp ∧
      (s.failMove result).ss = s.ss ∧ (s.failMove result).cu = s.cu ∧ (s.failMove result).jn = s.jn ∧
      (s.failMove result).au = s.au ∧ (s.failMove result).store = s.store ∧
      (s.failMove result).lc.outstanding = s.lc.outstanding ∧ (s.failMove result).lc.rx = s.lc.rx ∧
      (s.failMove result).lc.clock = s.lc.clock ∧ (s.failMove result).td.bays = s.td.bays ∧
      (s.failMove result).lc.replies = s.lc.replies ∧ (s.failMove result).td.queue = s.td.queue := by
  unfold State.failMove
  try dsimp only
  (repeat' split) <;> simp

@[simp] theorem State.arrive_frame (s : State) :
    s.arrive.pending = s.pending ∧ s.arrive.now = s.now ∧ s.arrive.phase = s.phase ∧ s.arrive.li = s.li ∧
      s.arrive.nd = s.nd ∧ s.arrive.dp = s.dp ∧ s.arrive.ss = s.ss ∧ s.arrive.cu = s.cu ∧ s.arrive.jn = s.jn ∧
      s.arrive.au = s.au ∧ s.arrive.lc = s.lc ∧ s.arrive.store = s.store ∧ s.arrive.td.bays = s.td.bays ∧
      s.arrive.td.queue = s.td.queue := by
  unfold State.arrive
  try dsimp only
  (repeat' split) <;> simp

@[simp] theorem State.fallBack_frame (s : State) :
    s.fallBack.pending = s.pending ∧ s.fallBack.now = s.now ∧ s.fallBack.phase = s.phase ∧ s.fallBack.li = s.li ∧
      s.fallBack.nd = s.nd ∧ s.fallBack.dp = s.dp ∧ s.fallBack.ss = s.ss ∧ s.fallBack.cu = s.cu ∧
      s.fallBack.jn = s.jn ∧ s.fallBack.au = s.au ∧ s.fallBack.store = s.store ∧
      s.fallBack.lc.outstanding = s.lc.outstanding ∧ s.fallBack.lc.rx = s.lc.rx ∧ s.fallBack.lc.clock = s.lc.clock ∧
      s.fallBack.td.bays = s.td.bays ∧ s.fallBack.lc.replies = s.lc.replies ∧ s.fallBack.td.queue = s.td.queue := by
  unfold State.fallBack
  try dsimp only
  (repeat' split) <;> simp

@[simp] theorem State.launch_frame (s : State) :
    s.launch.pending = s.pending ∧ s.launch.now = s.now ∧ s.launch.phase = s.phase ∧ s.launch.li = s.li ∧
      s.launch.nd = s.nd ∧ s.launch.ss = s.ss ∧ s.launch.cu = s.cu ∧ s.launch.jn = s.jn ∧ s.launch.au = s.au ∧
      s.launch.lc = s.lc ∧ s.launch.store = s.store ∧ s.launch.td.bays = s.td.bays ∧ s.launch.dp.set = s.dp.set ∧
      s.launch.td.queue = s.td.queue := by
  unfold State.launch
  try dsimp only
  (repeat' split) <;> simp

@[simp] theorem State.enterLaunch_frame (s : State) :
    s.enterLaunch.pending = s.pending ∧ s.enterLaunch.now = s.now ∧ s.enterLaunch.phase = s.phase ∧
      s.enterLaunch.li = s.li ∧ s.enterLaunch.nd = s.nd ∧ s.enterLaunch.ss = s.ss ∧ s.enterLaunch.cu = s.cu ∧
      s.enterLaunch.jn = s.jn ∧ s.enterLaunch.au = s.au ∧ s.enterLaunch.lc = s.lc ∧ s.enterLaunch.store = s.store ∧
      s.enterLaunch.td.bays = s.td.bays ∧ s.enterLaunch.dp.set = s.dp.set ∧ s.enterLaunch.td.queue = s.td.queue := by
  unfold State.enterLaunch
  try dsimp only
  (repeat' split) <;> simp

@[simp] theorem State.diverted_frame (s : State) :
    s.diverted.pending = s.pending ∧ s.diverted.now = s.now ∧ s.diverted.phase = s.phase ∧ s.diverted.li = s.li ∧
      s.diverted.nd = s.nd ∧ s.diverted.ss = s.ss ∧ s.diverted.cu = s.cu ∧ s.diverted.jn = s.jn ∧
      s.diverted.au = s.au ∧ s.diverted.lc = s.lc ∧ s.diverted.store = s.store ∧ s.diverted.td.bays = s.td.bays ∧
      s.diverted.dp.set = s.dp.set ∧ s.diverted.td.queue = s.td.queue := by
  unfold State.diverted
  try dsimp only
  (repeat' split) <;> simp

@[simp] theorem State.enterDivert_frame (s : State) :
    s.enterDivert.pending = s.pending ∧ s.enterDivert.now = s.now ∧ s.enterDivert.phase = s.phase ∧
      s.enterDivert.li = s.li ∧ s.enterDivert.nd = s.nd ∧ s.enterDivert.ss = s.ss ∧ s.enterDivert.cu = s.cu ∧
      s.enterDivert.jn = s.jn ∧ s.enterDivert.au = s.au ∧ s.enterDivert.lc = s.lc ∧ s.enterDivert.store = s.store ∧
      s.enterDivert.td.bays = s.td.bays ∧ s.enterDivert.dp.set = s.dp.set ∧ s.enterDivert.td.queue = s.td.queue := by
  unfold State.enterDivert
  try dsimp only
  (repeat' split) <;> simp

@[simp] theorem State.grant_frame (s : State) (l : Lane) (dir : Dir) (origin : Origin) (isPurge : Bool) :
    (s.grant l dir origin isPurge).pending = s.pending ∧ (s.grant l dir origin isPurge).now = s.now ∧
      (s.grant l dir origin isPurge).phase = s.phase ∧ (s.grant l dir origin isPurge).li = s.li ∧
      (s.grant l dir origin isPurge).nd = s.nd ∧ (s.grant l dir origin isPurge).ss = s.ss ∧
      (s.grant l dir origin isPurge).cu = s.cu ∧ (s.grant l dir origin isPurge).jn = s.jn ∧
      (s.grant l dir origin isPurge).au = s.au ∧ (s.grant l dir origin isPurge).store = s.store ∧
      (s.grant l dir origin isPurge).lc.outstanding = s.lc.outstanding ∧
      (s.grant l dir origin isPurge).lc.rx = s.lc.rx ∧ (s.grant l dir origin isPurge).lc.clock = s.lc.clock ∧
      (s.grant l dir origin isPurge).td.bays = s.td.bays ∧ (s.grant l dir origin isPurge).dp.set = s.dp.set ∧
      (s.grant l dir origin isPurge).lc.replies = s.lc.replies ∧
      (s.grant l dir origin isPurge).td.queue = s.td.queue := by
  unfold State.grant
  try dsimp only
  (repeat' split) <;> simp

@[simp] theorem State.overdue_frame (s : State) :
    s.overdue.pending = s.pending ∧ s.overdue.now = s.now ∧ s.overdue.phase = s.phase ∧ s.overdue.nd = s.nd ∧
      s.overdue.dp = s.dp ∧ s.overdue.ss = s.ss ∧ s.overdue.cu = s.cu ∧ s.overdue.store = s.store ∧
      s.overdue.jn.mem = s.jn.mem ∧ s.overdue.lc.outstanding = s.lc.outstanding ∧ s.overdue.lc.rx = s.lc.rx ∧
      s.overdue.lc.clock = s.lc.clock ∧ laneCores s.overdue.li.lanes = laneCores s.li.lanes ∧
      s.overdue.td.bays = s.td.bays ∧ s.overdue.lc.replies = s.lc.replies ∧ s.overdue.au.missing = s.au.missing ∧
      s.overdue.au.period = s.au.period ∧ s.overdue.au.keySwitch = s.au.keySwitch := by
  unfold State.overdue
  try dsimp only
  (repeat' split) <;> simp

@[simp] theorem State.toldAirFault_frame (s : State) :
    s.toldAirFault.pending = s.pending ∧ s.toldAirFault.now = s.now ∧ s.toldAirFault.phase = s.phase ∧
      s.toldAirFault.nd = s.nd ∧ s.toldAirFault.dp = s.dp ∧ s.toldAirFault.ss = s.ss ∧ s.toldAirFault.cu = s.cu ∧
      s.toldAirFault.store = s.store ∧ s.toldAirFault.jn.mem = s.jn.mem ∧
      s.toldAirFault.lc.outstanding = s.lc.outstanding ∧ s.toldAirFault.lc.rx = s.lc.rx ∧
      s.toldAirFault.lc.clock = s.lc.clock ∧ laneCores s.toldAirFault.li.lanes = laneCores s.li.lanes ∧
      s.toldAirFault.td.bays = s.td.bays ∧ s.toldAirFault.lc.replies = s.lc.replies ∧
      s.toldAirFault.au.missing = s.au.missing ∧ s.toldAirFault.au.period = s.au.period ∧
      s.toldAirFault.au.keySwitch = s.au.keySwitch := by
  unfold State.toldAirFault
  try dsimp only
  (repeat' split) <;> simp

@[simp] theorem State.toldReady_frame (s : State) :
    s.toldReady.pending = s.pending ∧ s.toldReady.now = s.now ∧ s.toldReady.phase = s.phase ∧ s.toldReady.li = s.li ∧
      s.toldReady.nd = s.nd ∧ s.toldReady.ss = s.ss ∧ s.toldReady.cu = s.cu ∧ s.toldReady.jn = s.jn ∧
      s.toldReady.au = s.au ∧ s.toldReady.lc = s.lc ∧ s.toldReady.store = s.store ∧ s.toldReady.td.bays = s.td.bays ∧
      s.toldReady.dp.set = s.dp.set ∧ s.toldReady.td.queue = s.td.queue := by
  unfold State.toldReady
  try dsimp only
  (repeat' split) <;> simp

@[simp] theorem State.purgeFind_frame (s : State) (l : Lane) (loc : Location) :
    (s.purgeFind l loc).pending = s.pending ∧ (s.purgeFind l loc).now = s.now ∧ (s.purgeFind l loc).phase = s.phase ∧
      (s.purgeFind l loc).li = s.li ∧ (s.purgeFind l loc).nd = s.nd ∧ (s.purgeFind l loc).dp = s.dp ∧
      (s.purgeFind l loc).ss = s.ss ∧ (s.purgeFind l loc).cu = s.cu ∧ (s.purgeFind l loc).jn = s.jn ∧
      (s.purgeFind l loc).au = s.au ∧ (s.purgeFind l loc).lc = s.lc ∧ (s.purgeFind l loc).store = s.store ∧
      (s.purgeFind l loc).td.bays = s.td.bays ∧ (s.purgeFind l loc).td.queue = s.td.queue := by
  simp [State.purgeFind]

@[simp] theorem State.reportAt_frame (s : State) (l : Lane) (loc : Location) (find : Bool) :
    (s.reportAt l loc find).pending = s.pending ∧ (s.reportAt l loc find).now = s.now ∧
      (s.reportAt l loc find).phase = s.phase ∧ (s.reportAt l loc find).li = s.li ∧
      (s.reportAt l loc find).as = s.as ∧ (s.reportAt l loc find).nd = s.nd ∧ (s.reportAt l loc find).cu = s.cu ∧
      (s.reportAt l loc find).au = s.au ∧ (s.reportAt l loc find).store = s.store ∧
      (s.reportAt l loc find).jn.mem = s.jn.mem ∧ (s.reportAt l loc find).lc.outstanding = s.lc.outstanding ∧
      (s.reportAt l loc find).lc.rx = s.lc.rx ∧ (s.reportAt l loc find).lc.clock = s.lc.clock ∧
      (s.reportAt l loc find).td.bays = s.td.bays ∧ (s.reportAt l loc find).dp.set = s.dp.set ∧
      (s.reportAt l loc find).lc.replies = s.lc.replies ∧ (s.reportAt l loc find).td.move = s.td.move ∧
      (s.reportAt l loc find).td.queue = s.td.queue ∧ (s.reportAt l loc find).ss.stageHold = s.ss.stageHold := by
  unfold State.reportAt
  try dsimp only
  (repeat' split) <;> simp

@[simp] theorem State.raiseAt_frame (s : State) (l : Lane) (loc : Location) :
    (s.raiseAt l loc).pending = s.pending ∧ (s.raiseAt l loc).now = s.now ∧ (s.raiseAt l loc).phase = s.phase ∧
      (s.raiseAt l loc).li = s.li ∧ (s.raiseAt l loc).td = s.td ∧ (s.raiseAt l loc).as = s.as ∧
      (s.raiseAt l loc).nd = s.nd ∧ (s.raiseAt l loc).dp = s.dp ∧ (s.raiseAt l loc).ss = s.ss ∧
      (s.raiseAt l loc).cu = s.cu ∧ (s.raiseAt l loc).jn = s.jn ∧ (s.raiseAt l loc).au = s.au ∧
      (s.raiseAt l loc).store = s.store ∧ (s.raiseAt l loc).lc.outstanding = s.lc.outstanding ∧
      (s.raiseAt l loc).lc.rx = s.lc.rx ∧ (s.raiseAt l loc).lc.clock = s.lc.clock ∧
      (s.raiseAt l loc).lc.replies = s.lc.replies := by
  unfold State.raiseAt
  try dsimp only
  (repeat' split) <;> simp

@[simp] theorem State.tellKnown_frame (s : State) (l : Lane) :
    (s.tellKnown l).pending = s.pending ∧ (s.tellKnown l).now = s.now ∧ (s.tellKnown l).phase = s.phase ∧
      (s.tellKnown l).as = s.as ∧ (s.tellKnown l).nd = s.nd ∧ (s.tellKnown l).dp = s.dp ∧ (s.tellKnown l).ss = s.ss ∧
      (s.tellKnown l).cu = s.cu ∧ (s.tellKnown l).jn = s.jn ∧ (s.tellKnown l).au = s.au ∧
      (s.tellKnown l).store = s.store ∧ (s.tellKnown l).lc.outstanding = s.lc.outstanding ∧
      (s.tellKnown l).lc.rx = s.lc.rx ∧ (s.tellKnown l).lc.clock = s.lc.clock ∧
      laneCores (s.tellKnown l).li.lanes = laneCores s.li.lanes ∧ (s.tellKnown l).td.bays = s.td.bays ∧
      (s.tellKnown l).lc.replies = s.lc.replies ∧ (s.tellKnown l).td.move = s.td.move := by
  simp [State.tellKnown]

@[simp] theorem State.lateArrival_frame (s : State) (l : Lane) (loc : Location) :
    (s.lateArrival l loc).pending = s.pending ∧ (s.lateArrival l loc).now = s.now ∧
      (s.lateArrival l loc).phase = s.phase ∧ (s.lateArrival l loc).as = s.as ∧ (s.lateArrival l loc).nd = s.nd ∧
      (s.lateArrival l loc).cu = s.cu ∧ (s.lateArrival l loc).au = s.au ∧ (s.lateArrival l loc).store = s.store ∧
      (s.lateArrival l loc).jn.mem = s.jn.mem ∧ (s.lateArrival l loc).lc.outstanding = s.lc.outstanding ∧
      (s.lateArrival l loc).lc.rx = s.lc.rx ∧ (s.lateArrival l loc).lc.clock = s.lc.clock ∧
      laneCores (s.lateArrival l loc).li.lanes = laneCores s.li.lanes ∧ (s.lateArrival l loc).td.bays = s.td.bays ∧
      (s.lateArrival l loc).dp.set = s.dp.set ∧ (s.lateArrival l loc).lc.replies = s.lc.replies ∧
      (s.lateArrival l loc).td.move = s.td.move ∧ (s.lateArrival l loc).ss.stageHold = s.ss.stageHold := by
  simp [State.lateArrival]

@[simp] theorem State.relocate_frame (s : State) (l : Lane) (loc : Location) :
    (s.relocate l loc).pending = s.pending ∧ (s.relocate l loc).now = s.now ∧ (s.relocate l loc).phase = s.phase ∧
      (s.relocate l loc).li = s.li ∧ (s.relocate l loc).as = s.as ∧ (s.relocate l loc).nd = s.nd ∧
      (s.relocate l loc).cu = s.cu ∧ (s.relocate l loc).au = s.au ∧ (s.relocate l loc).store = s.store ∧
      (s.relocate l loc).jn.mem = s.jn.mem ∧ (s.relocate l loc).lc.outstanding = s.lc.outstanding ∧
      (s.relocate l loc).lc.rx = s.lc.rx ∧ (s.relocate l loc).lc.clock = s.lc.clock ∧
      (s.relocate l loc).td.bays = s.td.bays ∧ (s.relocate l loc).dp.set = s.dp.set ∧
      (s.relocate l loc).lc.replies = s.lc.replies ∧ (s.relocate l loc).td.move = s.td.move ∧
      (s.relocate l loc).ss.stageHold = s.ss.stageHold := by
  unfold State.relocate
  try dsimp only
  (repeat' split) <;> simp

@[simp] theorem State.loseCarrier_frame (s : State) (l : Lane) :
    (s.loseCarrier l).pending = s.pending ∧ (s.loseCarrier l).now = s.now ∧ (s.loseCarrier l).phase = s.phase ∧
      (s.loseCarrier l).li = s.li ∧ (s.loseCarrier l).nd = s.nd ∧ (s.loseCarrier l).dp = s.dp ∧
      (s.loseCarrier l).ss = s.ss ∧ (s.loseCarrier l).cu = s.cu ∧ (s.loseCarrier l).jn = s.jn ∧
      (s.loseCarrier l).au = s.au ∧ (s.loseCarrier l).store = s.store ∧
      (s.loseCarrier l).lc.outstanding = s.lc.outstanding ∧ (s.loseCarrier l).lc.rx = s.lc.rx ∧
      (s.loseCarrier l).lc.clock = s.lc.clock ∧ (s.loseCarrier l).td.bays = s.td.bays ∧
      (s.loseCarrier l).lc.replies = s.lc.replies := by
  unfold State.loseCarrier
  try dsimp only
  (repeat' split) <;> simp

@[simp] theorem State.presentRisesFree_frame (s : State) (l : Lane) (loc : Location) :
    (s.presentRisesFree l loc).pending = s.pending ∧ (s.presentRisesFree l loc).now = s.now ∧
      (s.presentRisesFree l loc).phase = s.phase ∧ (s.presentRisesFree l loc).as = s.as ∧
      (s.presentRisesFree l loc).nd = s.nd ∧ (s.presentRisesFree l loc).cu = s.cu ∧
      (s.presentRisesFree l loc).au = s.au ∧ (s.presentRisesFree l loc).store = s.store ∧
      (s.presentRisesFree l loc).jn.mem = s.jn.mem ∧ (s.presentRisesFree l loc).lc.outstanding = s.lc.outstanding ∧
      (s.presentRisesFree l loc).lc.rx = s.lc.rx ∧ (s.presentRisesFree l loc).lc.clock = s.lc.clock ∧
      laneCores (s.presentRisesFree l loc).li.lanes = laneCores s.li.lanes ∧
      (s.presentRisesFree l loc).td.bays = s.td.bays ∧ (s.presentRisesFree l loc).dp.set = s.dp.set ∧
      (s.presentRisesFree l loc).lc.replies = s.lc.replies ∧ (s.presentRisesFree l loc).td.move = s.td.move ∧
      (s.presentRisesFree l loc).ss.stageHold = s.ss.stageHold := by
  unfold State.presentRisesFree
  try dsimp only
  (repeat' split) <;> simp

@[simp] theorem State.presentRises_frame (s : State) (l : Lane) (loc : Location) :
    (s.presentRises l loc).pending = s.pending ∧ (s.presentRises l loc).now = s.now ∧
      (s.presentRises l loc).phase = s.phase ∧ (s.presentRises l loc).nd = s.nd ∧ (s.presentRises l loc).cu = s.cu ∧
      (s.presentRises l loc).au = s.au ∧ (s.presentRises l loc).store = s.store ∧
      (s.presentRises l loc).jn.mem = s.jn.mem ∧ (s.presentRises l loc).lc.outstanding = s.lc.outstanding ∧
      (s.presentRises l loc).lc.rx = s.lc.rx ∧ (s.presentRises l loc).lc.clock = s.lc.clock ∧
      laneCores (s.presentRises l loc).li.lanes = laneCores s.li.lanes ∧ (s.presentRises l loc).td.bays = s.td.bays ∧
      (s.presentRises l loc).dp.set = s.dp.set ∧ (s.presentRises l loc).lc.replies = s.lc.replies ∧
      (s.presentRises l loc).ss.stageHold = s.ss.stageHold := by
  unfold State.presentRises
  try dsimp only
  (repeat' split) <;> simp

@[simp] theorem State.presentFalls_frame (s : State) (l : Lane) (loc : Location) :
    (s.presentFalls l loc).pending = s.pending ∧ (s.presentFalls l loc).now = s.now ∧
      (s.presentFalls l loc).phase = s.phase ∧ (s.presentFalls l loc).li = s.li ∧ (s.presentFalls l loc).nd = s.nd ∧
      (s.presentFalls l loc).ss = s.ss ∧ (s.presentFalls l loc).cu = s.cu ∧ (s.presentFalls l loc).jn = s.jn ∧
      (s.presentFalls l loc).au = s.au ∧ (s.presentFalls l loc).lc = s.lc ∧ (s.presentFalls l loc).store = s.store ∧
      (s.presentFalls l loc).td.bays = s.td.bays ∧ (s.presentFalls l loc).dp.set = s.dp.set ∧
      (s.presentFalls l loc).td.queue = s.td.queue := by
  unfold State.presentFalls
  try dsimp only
  (repeat' split) <;> simp

@[simp] theorem State.originDoorOpens_frame (s : State) (l : Lane) (dir : Dir) :
    (s.originDoorOpens l dir).pending = s.pending ∧ (s.originDoorOpens l dir).now = s.now ∧
      (s.originDoorOpens l dir).phase = s.phase ∧ (s.originDoorOpens l dir).li = s.li ∧
      (s.originDoorOpens l dir).nd = s.nd ∧ (s.originDoorOpens l dir).dp = s.dp ∧
      (s.originDoorOpens l dir).ss = s.ss ∧ (s.originDoorOpens l dir).cu = s.cu ∧
      (s.originDoorOpens l dir).jn = s.jn ∧ (s.originDoorOpens l dir).au = s.au ∧
      (s.originDoorOpens l dir).store = s.store ∧ (s.originDoorOpens l dir).lc.outstanding = s.lc.outstanding ∧
      (s.originDoorOpens l dir).lc.rx = s.lc.rx ∧ (s.originDoorOpens l dir).lc.clock = s.lc.clock ∧
      (s.originDoorOpens l dir).td.bays = s.td.bays ∧ (s.originDoorOpens l dir).lc.replies = s.lc.replies ∧
      (s.originDoorOpens l dir).td.queue = s.td.queue := by
  unfold State.originDoorOpens
  try dsimp only
  (repeat' split) <;> simp

@[simp] theorem State.reportStation_frame (s : State) (l : Lane) (level : Sense) :
    (s.reportStation l level).pending = s.pending ∧ (s.reportStation l level).now = s.now ∧
      (s.reportStation l level).phase = s.phase ∧ (s.reportStation l level).nd = s.nd ∧
      (s.reportStation l level).cu = s.cu ∧ (s.reportStation l level).au = s.au ∧
      (s.reportStation l level).store = s.store ∧ (s.reportStation l level).jn.mem = s.jn.mem ∧
      (s.reportStation l level).lc.outstanding = s.lc.outstanding ∧ (s.reportStation l level).lc.rx = s.lc.rx ∧
      (s.reportStation l level).lc.clock = s.lc.clock ∧ (s.reportStation l level).td.bays = s.td.bays ∧
      (s.reportStation l level).dp.set = s.dp.set ∧ (s.reportStation l level).lc.replies = s.lc.replies ∧
      (s.reportStation l level).ss.stageHold = s.ss.stageHold := by
  unfold State.reportStation
  try dsimp only
  (repeat' split) <;> simp

@[simp] theorem State.reportDoor_frame (s : State) (l : Lane) (level : Sense) :
    (s.reportDoor l level).pending = s.pending ∧ (s.reportDoor l level).now = s.now ∧
      (s.reportDoor l level).phase = s.phase ∧ (s.reportDoor l level).nd = s.nd ∧ (s.reportDoor l level).dp = s.dp ∧
      (s.reportDoor l level).ss = s.ss ∧ (s.reportDoor l level).cu = s.cu ∧ (s.reportDoor l level).jn = s.jn ∧
      (s.reportDoor l level).au = s.au ∧ (s.reportDoor l level).store = s.store ∧
      (s.reportDoor l level).lc.outstanding = s.lc.outstanding ∧ (s.reportDoor l level).lc.rx = s.lc.rx ∧
      (s.reportDoor l level).lc.clock = s.lc.clock ∧ (s.reportDoor l level).td.bays = s.td.bays ∧
      (s.reportDoor l level).lc.replies = s.lc.replies ∧ (s.reportDoor l level).td.queue = s.td.queue := by
  unfold State.reportDoor
  try dsimp only
  (repeat' split) <;> simp

@[simp] theorem State.answerMove_frame (s : State) (kind : Nat) (tag : Nat) (x0 : SendAnswer) :
    (s.answerMove kind tag x0).pending = s.pending ∧ (s.answerMove kind tag x0).now = s.now ∧
      (s.answerMove kind tag x0).phase = s.phase ∧ (s.answerMove kind tag x0).li = s.li ∧
      (s.answerMove kind tag x0).td = s.td ∧ (s.answerMove kind tag x0).as = s.as ∧
      (s.answerMove kind tag x0).nd = s.nd ∧ (s.answerMove kind tag x0).dp = s.dp ∧
      (s.answerMove kind tag x0).ss = s.ss ∧ (s.answerMove kind tag x0).cu = s.cu ∧
      (s.answerMove kind tag x0).jn = s.jn ∧ (s.answerMove kind tag x0).au = s.au ∧
      (s.answerMove kind tag x0).store = s.store ∧ (s.answerMove kind tag x0).lc.outstanding = s.lc.outstanding ∧
      (s.answerMove kind tag x0).lc.rx = s.lc.rx ∧ (s.answerMove kind tag x0).lc.clock = s.lc.clock := by
  unfold State.answerMove
  try dsimp only
  (repeat' split) <;> simp

@[simp] theorem State.ownSend_frame (tag : Nat) (lane : Nat) (s : State) :
    (State.ownSend tag lane s).pending = s.pending ∧ (State.ownSend tag lane s).now = s.now ∧
      (State.ownSend tag lane s).phase = s.phase ∧ (State.ownSend tag lane s).li = s.li ∧
      (State.ownSend tag lane s).as = s.as ∧ (State.ownSend tag lane s).nd = s.nd ∧
      (State.ownSend tag lane s).dp = s.dp ∧ (State.ownSend tag lane s).ss = s.ss ∧
      (State.ownSend tag lane s).cu = s.cu ∧ (State.ownSend tag lane s).jn = s.jn ∧
      (State.ownSend tag lane s).au = s.au ∧ (State.ownSend tag lane s).store = s.store ∧
      (State.ownSend tag lane s).lc.outstanding = s.lc.outstanding ∧ (State.ownSend tag lane s).lc.rx = s.lc.rx ∧
      (State.ownSend tag lane s).lc.clock = s.lc.clock ∧ (State.ownSend tag lane s).td.bays = s.td.bays ∧
      (State.ownSend tag lane s).td.move = s.td.move := by
  unfold State.ownSend
  try dsimp only
  (repeat' split) <;> simp

@[simp] theorem State.ownRecall_frame (tag : Nat) (lane : Nat) (s : State) :
    (State.ownRecall tag lane s).pending = s.pending ∧ (State.ownRecall tag lane s).now = s.now ∧
      (State.ownRecall tag lane s).phase = s.phase ∧ (State.ownRecall tag lane s).li = s.li ∧
      (State.ownRecall tag lane s).as = s.as ∧ (State.ownRecall tag lane s).nd = s.nd ∧
      (State.ownRecall tag lane s).dp = s.dp ∧ (State.ownRecall tag lane s).ss = s.ss ∧
      (State.ownRecall tag lane s).cu = s.cu ∧ (State.ownRecall tag lane s).jn = s.jn ∧
      (State.ownRecall tag lane s).au = s.au ∧ (State.ownRecall tag lane s).store = s.store ∧
      (State.ownRecall tag lane s).lc.outstanding = s.lc.outstanding ∧ (State.ownRecall tag lane s).lc.rx = s.lc.rx ∧
      (State.ownRecall tag lane s).lc.clock = s.lc.clock ∧ (State.ownRecall tag lane s).td.bays = s.td.bays ∧
      (State.ownRecall tag lane s).td.move = s.td.move := by
  unfold State.ownRecall
  try dsimp only
  (repeat' split) <;> simp

@[simp] theorem State.ownPurge_frame (tag : Nat) (lane : Nat) (towards : Nat) (s : State) :
    (State.ownPurge tag lane towards s).pending = s.pending ∧ (State.ownPurge tag lane towards s).now = s.now ∧
      (State.ownPurge tag lane towards s).phase = s.phase ∧ (State.ownPurge tag lane towards s).li = s.li ∧
      (State.ownPurge tag lane towards s).nd = s.nd ∧ (State.ownPurge tag lane towards s).ss = s.ss ∧
      (State.ownPurge tag lane towards s).cu = s.cu ∧ (State.ownPurge tag lane towards s).jn = s.jn ∧
      (State.ownPurge tag lane towards s).au = s.au ∧ (State.ownPurge tag lane towards s).store = s.store ∧
      (State.ownPurge tag lane towards s).lc.outstanding = s.lc.outstanding ∧
      (State.ownPurge tag lane towards s).lc.rx = s.lc.rx ∧
      (State.ownPurge tag lane towards s).lc.clock = s.lc.clock ∧
      (State.ownPurge tag lane towards s).td.bays = s.td.bays ∧
      (State.ownPurge tag lane towards s).dp.set = s.dp.set ∧
      (State.ownPurge tag lane towards s).td.queue = s.td.queue := by
  unfold State.ownPurge
  try dsimp only
  (repeat' split) <;> simp

@[simp] theorem State.arbitrate_frame (s : State) :
    s.arbitrate.pending = s.pending ∧ s.arbitrate.now = s.now ∧ s.arbitrate.phase = s.phase ∧ s.arbitrate.li = s.li ∧
      s.arbitrate.nd = s.nd ∧ s.arbitrate.ss = s.ss ∧ s.arbitrate.cu = s.cu ∧ s.arbitrate.jn = s.jn ∧
      s.arbitrate.au = s.au ∧ s.arbitrate.store = s.store ∧ s.arbitrate.lc.outstanding = s.lc.outstanding ∧
      s.arbitrate.lc.rx = s.lc.rx ∧ s.arbitrate.lc.clock = s.lc.clock ∧ s.arbitrate.td.bays = s.td.bays ∧
      s.arbitrate.dp.set = s.dp.set ∧ s.arbitrate.lc.replies = s.lc.replies := by
  unfold State.arbitrate
  try dsimp only
  (repeat' split) <;> simp

@[simp] theorem State.onDivertSettleDone_frame (s : State) :
    s.onDivertSettleDone.pending = s.pending ∧ s.onDivertSettleDone.phase = s.phase ∧
      s.onDivertSettleDone.li = s.li ∧ s.onDivertSettleDone.nd = s.nd ∧ s.onDivertSettleDone.ss = s.ss ∧
      s.onDivertSettleDone.cu = s.cu ∧ s.onDivertSettleDone.jn = s.jn ∧ s.onDivertSettleDone.au = s.au ∧
      s.onDivertSettleDone.lc = s.lc ∧ s.onDivertSettleDone.store = s.store ∧
      s.onDivertSettleDone.td.bays = s.td.bays ∧ s.onDivertSettleDone.dp.set = s.dp.set ∧
      s.onDivertSettleDone.td.queue = s.td.queue := by
  unfold State.onDivertSettleDone
  try dsimp only
  (repeat' split) <;> simp

@[simp] theorem State.onLaunchTimeout_frame (s : State) :
    s.onLaunchTimeout.pending = s.pending ∧ s.onLaunchTimeout.phase = s.phase ∧ s.onLaunchTimeout.li = s.li ∧
      s.onLaunchTimeout.nd = s.nd ∧ s.onLaunchTimeout.dp = s.dp ∧ s.onLaunchTimeout.ss = s.ss ∧
      s.onLaunchTimeout.cu = s.cu ∧ s.onLaunchTimeout.jn = s.jn ∧ s.onLaunchTimeout.au = s.au ∧
      s.onLaunchTimeout.store = s.store ∧ s.onLaunchTimeout.lc.outstanding = s.lc.outstanding ∧
      s.onLaunchTimeout.lc.rx = s.lc.rx ∧ s.onLaunchTimeout.lc.clock = s.lc.clock ∧
      s.onLaunchTimeout.td.bays = s.td.bays ∧ s.onLaunchTimeout.lc.replies = s.lc.replies ∧
      s.onLaunchTimeout.td.queue = s.td.queue := by
  unfold State.onLaunchTimeout
  try dsimp only
  (repeat' split) <;> simp

@[simp] theorem State.bayPresent_frame (s : State) (l : Lane) (present : Bool) :
    (s.bayPresent l present).pending = s.pending ∧ (s.bayPresent l present).now = s.now ∧
      (s.bayPresent l present).phase = s.phase ∧ (s.bayPresent l present).nd = s.nd ∧
      (s.bayPresent l present).au = s.au ∧ (s.bayPresent l present).store = s.store ∧
      (s.bayPresent l present).jn.mem = s.jn.mem ∧ (s.bayPresent l present).lc.outstanding = s.lc.outstanding ∧
      (s.bayPresent l present).lc.rx = s.lc.rx ∧ (s.bayPresent l present).lc.clock = s.lc.clock ∧
      laneCores (s.bayPresent l present).li.lanes = laneCores s.li.lanes ∧
      (s.bayPresent l present).cu.bin = s.cu.bin ∧ (s.bayPresent l present).dp.set = s.dp.set ∧
      (s.bayPresent l present).lc.replies = s.lc.replies ∧
      (s.bayPresent l present).ss.stageHold = s.ss.stageHold := by
  unfold State.bayPresent
  try dsimp only
  (repeat' split) <;> simp

@[simp] theorem State.presentSucceeds_frame (s : State) (l : Lane) (id : Nat) :
    (s.presentSucceeds l id).pending = s.pending ∧ (s.presentSucceeds l id).now = s.now ∧
      (s.presentSucceeds l id).phase = s.phase ∧ (s.presentSucceeds l id).li = s.li ∧
      (s.presentSucceeds l id).as = s.as ∧ (s.presentSucceeds l id).nd = s.nd ∧ (s.presentSucceeds l id).cu = s.cu ∧
      (s.presentSucceeds l id).jn = s.jn ∧ (s.presentSucceeds l id).au = s.au ∧
      (s.presentSucceeds l id).store = s.store ∧ (s.presentSucceeds l id).lc.outstanding = s.lc.outstanding ∧
      (s.presentSucceeds l id).lc.rx = s.lc.rx ∧ (s.presentSucceeds l id).lc.clock = s.lc.clock ∧
      (s.presentSucceeds l id).td.bays = s.td.bays ∧ (s.presentSucceeds l id).dp.set = s.dp.set ∧
      (s.presentSucceeds l id).lc.replies = s.lc.replies ∧ (s.presentSucceeds l id).td.move = s.td.move ∧
      (s.presentSucceeds l id).ss.stageHold = s.ss.stageHold := by
  unfold State.presentSucceeds
  try dsimp only
  (repeat' split) <;> simp

@[simp] theorem State.bayContentLevel_frame (s : State) (l : Lane) (reads : Bool) :
    (s.bayContentLevel l reads).pending = s.pending ∧ (s.bayContentLevel l reads).now = s.now ∧
      (s.bayContentLevel l reads).phase = s.phase ∧ (s.bayContentLevel l reads).li = s.li ∧
      (s.bayContentLevel l reads).as = s.as ∧ (s.bayContentLevel l reads).nd = s.nd ∧
      (s.bayContentLevel l reads).cu = s.cu ∧ (s.bayContentLevel l reads).jn = s.jn ∧
      (s.bayContentLevel l reads).au = s.au ∧ (s.bayContentLevel l reads).store = s.store ∧
      (s.bayContentLevel l reads).lc.outstanding = s.lc.outstanding ∧ (s.bayContentLevel l reads).lc.rx = s.lc.rx ∧
      (s.bayContentLevel l reads).lc.clock = s.lc.clock ∧ (s.bayContentLevel l reads).dp.set = s.dp.set ∧
      (s.bayContentLevel l reads).lc.replies = s.lc.replies ∧ (s.bayContentLevel l reads).td.move = s.td.move ∧
      (s.bayContentLevel l reads).ss.stageHold = s.ss.stageHold := by
  unfold State.bayContentLevel
  try dsimp only
  (repeat' split) <;> simp

@[simp] theorem State.bayDoor_frame (s : State) (l : Lane) (closed : Bool) :
    (s.bayDoor l closed).pending = s.pending ∧ (s.bayDoor l closed).now = s.now ∧
      (s.bayDoor l closed).phase = s.phase ∧ (s.bayDoor l closed).li = s.li ∧ (s.bayDoor l closed).nd = s.nd ∧
      (s.bayDoor l closed).dp = s.dp ∧ (s.bayDoor l closed).jn = s.jn ∧ (s.bayDoor l closed).au = s.au ∧
      (s.bayDoor l closed).store = s.store ∧ (s.bayDoor l closed).lc.outstanding = s.lc.outstanding ∧
      (s.bayDoor l closed).lc.rx = s.lc.rx ∧ (s.bayDoor l closed).lc.clock = s.lc.clock ∧
      (s.bayDoor l closed).cu.bin = s.cu.bin ∧ (s.bayDoor l closed).lc.replies = s.lc.replies ∧
      (s.bayDoor l closed).td.queue = s.td.queue ∧ (s.bayDoor l closed).ss.stageHold = s.ss.stageHold := by
  unfold State.bayDoor
  try dsimp only
  (repeat' split) <;> simp

@[simp] theorem State.passWaypoint_frame (s : State) (l : Lane) (k : Nat) :
    (s.passWaypoint l k).pending = s.pending ∧ (s.passWaypoint l k).now = s.now ∧
      (s.passWaypoint l k).phase = s.phase ∧ (s.passWaypoint l k).li = s.li ∧ (s.passWaypoint l k).as = s.as ∧
      (s.passWaypoint l k).nd = s.nd ∧ (s.passWaypoint l k).dp = s.dp ∧ (s.passWaypoint l k).ss = s.ss ∧
      (s.passWaypoint l k).cu = s.cu ∧ (s.passWaypoint l k).jn = s.jn ∧ (s.passWaypoint l k).au = s.au ∧
      (s.passWaypoint l k).lc = s.lc ∧ (s.passWaypoint l k).store = s.store ∧
      (s.passWaypoint l k).td.bays = s.td.bays ∧ (s.passWaypoint l k).td.carriers = s.td.carriers ∧
      (s.passWaypoint l k).td.queue = s.td.queue := by
  unfold State.passWaypoint
  try dsimp only
  (repeat' split) <;> simp

@[simp] theorem State.onWaypointPass_frame (lane : Lane) (waypoint : Nat) (s : State) :
    (State.onWaypointPass lane waypoint s).pending = s.pending ∧ (State.onWaypointPass lane waypoint s).now = s.now ∧
      (State.onWaypointPass lane waypoint s).phase = s.phase ∧ (State.onWaypointPass lane waypoint s).li = s.li ∧
      (State.onWaypointPass lane waypoint s).as = s.as ∧ (State.onWaypointPass lane waypoint s).nd = s.nd ∧
      (State.onWaypointPass lane waypoint s).dp = s.dp ∧ (State.onWaypointPass lane waypoint s).ss = s.ss ∧
      (State.onWaypointPass lane waypoint s).cu = s.cu ∧ (State.onWaypointPass lane waypoint s).jn = s.jn ∧
      (State.onWaypointPass lane waypoint s).au = s.au ∧ (State.onWaypointPass lane waypoint s).lc = s.lc ∧
      (State.onWaypointPass lane waypoint s).store = s.store ∧
      (State.onWaypointPass lane waypoint s).td.bays = s.td.bays ∧
      (State.onWaypointPass lane waypoint s).td.carriers = s.td.carriers ∧
      (State.onWaypointPass lane waypoint s).td.queue = s.td.queue := by
  simp [State.onWaypointPass]

@[simp] theorem State.onTransitTimeout_frame (s : State) :
    s.onTransitTimeout.pending = s.pending ∧ s.onTransitTimeout.phase = s.phase ∧ s.onTransitTimeout.nd = s.nd ∧
      s.onTransitTimeout.dp = s.dp ∧ s.onTransitTimeout.ss = s.ss ∧ s.onTransitTimeout.cu = s.cu ∧
      s.onTransitTimeout.store = s.store ∧ s.onTransitTimeout.jn.mem = s.jn.mem ∧
      s.onTransitTimeout.lc.outstanding = s.lc.outstanding ∧ s.onTransitTimeout.lc.rx = s.lc.rx ∧
      s.onTransitTimeout.lc.clock = s.lc.clock ∧ laneCores s.onTransitTimeout.li.lanes = laneCores s.li.lanes ∧
      s.onTransitTimeout.td.bays = s.td.bays ∧ s.onTransitTimeout.lc.replies = s.lc.replies ∧
      s.onTransitTimeout.au.missing = s.au.missing ∧ s.onTransitTimeout.au.period = s.au.period ∧
      s.onTransitTimeout.au.keySwitch = s.au.keySwitch := by
  unfold State.onTransitTimeout
  try dsimp only
  (repeat' split) <;> simp

@[simp] theorem State.settled_frame (s : State) (m : Move) (after : SettleOf) :
    (s.settled m after).pending = s.pending ∧ (s.settled m after).now = s.now ∧ (s.settled m after).phase = s.phase ∧
      (s.settled m after).nd = s.nd ∧ (s.settled m after).cu = s.cu ∧ (s.settled m after).au = s.au ∧
      (s.settled m after).store = s.store ∧ (s.settled m after).jn.mem = s.jn.mem ∧
      (s.settled m after).lc.outstanding = s.lc.outstanding ∧ (s.settled m after).lc.rx = s.lc.rx ∧
      (s.settled m after).lc.clock = s.lc.clock ∧ laneCores (s.settled m after).li.lanes = laneCores s.li.lanes ∧
      (s.settled m after).td.bays = s.td.bays ∧ (s.settled m after).dp.set = s.dp.set ∧
      (s.settled m after).lc.replies = s.lc.replies ∧ (s.settled m after).ss.stageHold = s.ss.stageHold := by
  unfold State.settled
  try dsimp only
  (repeat' split) <;> simp

@[simp] theorem State.onSettleEnd_frame (s : State) :
    s.onSettleEnd.pending = s.pending ∧ s.onSettleEnd.phase = s.phase ∧ s.onSettleEnd.nd = s.nd ∧
      s.onSettleEnd.cu = s.cu ∧ s.onSettleEnd.au = s.au ∧ s.onSettleEnd.store = s.store ∧
      s.onSettleEnd.jn.mem = s.jn.mem ∧ s.onSettleEnd.lc.outstanding = s.lc.outstanding ∧
      s.onSettleEnd.lc.rx = s.lc.rx ∧ s.onSettleEnd.lc.clock = s.lc.clock ∧
      laneCores s.onSettleEnd.li.lanes = laneCores s.li.lanes ∧ s.onSettleEnd.td.bays = s.td.bays ∧
      s.onSettleEnd.dp.set = s.dp.set ∧ s.onSettleEnd.lc.replies = s.lc.replies ∧
      s.onSettleEnd.ss.stageHold = s.ss.stageHold := by
  unfold State.onSettleEnd
  try dsimp only
  (repeat' split) <;> simp

@[simp] theorem State.onPurgeTimeout_frame (s : State) :
    s.onPurgeTimeout.pending = s.pending ∧ s.onPurgeTimeout.phase = s.phase ∧ s.onPurgeTimeout.li = s.li ∧
      s.onPurgeTimeout.nd = s.nd ∧ s.onPurgeTimeout.dp = s.dp ∧ s.onPurgeTimeout.ss = s.ss ∧
      s.onPurgeTimeout.cu = s.cu ∧ s.onPurgeTimeout.jn = s.jn ∧ s.onPurgeTimeout.au = s.au ∧
      s.onPurgeTimeout.store = s.store ∧ s.onPurgeTimeout.lc.outstanding = s.lc.outstanding ∧
      s.onPurgeTimeout.lc.rx = s.lc.rx ∧ s.onPurgeTimeout.lc.clock = s.lc.clock ∧
      s.onPurgeTimeout.td.bays = s.td.bays ∧ s.onPurgeTimeout.lc.replies = s.lc.replies ∧
      s.onPurgeTimeout.td.queue = s.td.queue := by
  unfold State.onPurgeTimeout
  try dsimp only
  (repeat' split) <;> simp

@[simp] theorem State.onQueueWaitExpiry_frame (lane : Lane) (s : State) :
    (State.onQueueWaitExpiry lane s).pending = s.pending ∧ (State.onQueueWaitExpiry lane s).phase = s.phase ∧
      (State.onQueueWaitExpiry lane s).li = s.li ∧ (State.onQueueWaitExpiry lane s).as = s.as ∧
      (State.onQueueWaitExpiry lane s).nd = s.nd ∧ (State.onQueueWaitExpiry lane s).dp = s.dp ∧
      (State.onQueueWaitExpiry lane s).ss = s.ss ∧ (State.onQueueWaitExpiry lane s).cu = s.cu ∧
      (State.onQueueWaitExpiry lane s).jn = s.jn ∧ (State.onQueueWaitExpiry lane s).au = s.au ∧
      (State.onQueueWaitExpiry lane s).store = s.store ∧
      (State.onQueueWaitExpiry lane s).lc.outstanding = s.lc.outstanding ∧
      (State.onQueueWaitExpiry lane s).lc.rx = s.lc.rx ∧ (State.onQueueWaitExpiry lane s).lc.clock = s.lc.clock ∧
      (State.onQueueWaitExpiry lane s).td.bays = s.td.bays ∧
      (State.onQueueWaitExpiry lane s).lc.replies = s.lc.replies ∧
      (State.onQueueWaitExpiry lane s).td.move = s.td.move := by
  unfold State.onQueueWaitExpiry
  try dsimp only
  (repeat' split) <;> simp

end Sys2Proof.Machine
end

