-- ==== Sys2Proof/Laws/FramesC.lean ====
section
/-! SUPPORT. What the meanings of the air, lane, dispenser, planner and stacker commands leave of the state, said once and in the
simp set. -/

namespace Sys2Proof.Machine

@[simp] theorem State.spinUpFound_frame (s : State) :
    s.spinUpFound.pending = s.pending ∧ s.spinUpFound.now = s.now ∧ s.spinUpFound.phase = s.phase ∧
      s.spinUpFound.li = s.li ∧ s.spinUpFound.nd = s.nd ∧ s.spinUpFound.ss = s.ss ∧ s.spinUpFound.cu = s.cu ∧
      s.spinUpFound.jn = s.jn ∧ s.spinUpFound.au = s.au ∧ s.spinUpFound.lc = s.lc ∧ s.spinUpFound.store = s.store ∧
      s.spinUpFound.td.bays = s.td.bays ∧ s.spinUpFound.dp.set = s.dp.set ∧ s.spinUpFound.td.queue = s.td.queue := by
  unfold State.spinUpFound
  try dsimp only
  (repeat' split) <;> simp

@[simp] theorem State.airAfterFailure_frame (s : State) :
    s.airAfterFailure.pending = s.pending ∧ s.airAfterFailure.now = s.now ∧ s.airAfterFailure.nd = s.nd ∧
      s.airAfterFailure.ss = s.ss ∧ s.airAfterFailure.cu = s.cu ∧ s.airAfterFailure.store = s.store ∧
      s.airAfterFailure.jn.mem = s.jn.mem ∧ s.airAfterFailure.lc.outstanding = s.lc.outstanding ∧
      s.airAfterFailure.lc.rx = s.lc.rx ∧ s.airAfterFailure.lc.clock = s.lc.clock ∧
      laneCores s.airAfterFailure.li.lanes = laneCores s.li.lanes ∧ s.airAfterFailure.td.bays = s.td.bays ∧
      s.airAfterFailure.dp.set = s.dp.set ∧ s.airAfterFailure.lc.replies = s.lc.replies ∧
      s.airAfterFailure.au.missing = s.au.missing ∧ s.airAfterFailure.au.period = s.au.period ∧
      s.airAfterFailure.au.keySwitch = s.au.keySwitch := by
  unfold State.airAfterFailure
  try dsimp only
  (repeat' split) <;> simp

@[simp] theorem State.switchCloses_frame (s : State) (which : AB) :
    (s.switchCloses which).pending = s.pending ∧ (s.switchCloses which).now = s.now ∧
      (s.switchCloses which).phase = s.phase ∧ (s.switchCloses which).li = s.li ∧ (s.switchCloses which).nd = s.nd ∧
      (s.switchCloses which).ss = s.ss ∧ (s.switchCloses which).cu = s.cu ∧ (s.switchCloses which).jn = s.jn ∧
      (s.switchCloses which).au = s.au ∧ (s.switchCloses which).lc = s.lc ∧ (s.switchCloses which).store = s.store ∧
      (s.switchCloses which).td.bays = s.td.bays ∧ (s.switchCloses which).dp.set = s.dp.set ∧
      (s.switchCloses which).td.queue = s.td.queue := by
  unfold State.switchCloses
  try dsimp only
  (repeat' split) <;> simp

@[simp] theorem State.switchOpens_frame (s : State) (which : AB) :
    (s.switchOpens which).pending = s.pending ∧ (s.switchOpens which).now = s.now ∧ (s.switchOpens which).nd = s.nd ∧
      (s.switchOpens which).ss = s.ss ∧ (s.switchOpens which).cu = s.cu ∧ (s.switchOpens which).store = s.store ∧
      (s.switchOpens which).jn.mem = s.jn.mem ∧ (s.switchOpens which).lc.outstanding = s.lc.outstanding ∧
      (s.switchOpens which).lc.rx = s.lc.rx ∧ (s.switchOpens which).lc.clock = s.lc.clock ∧
      laneCores (s.switchOpens which).li.lanes = laneCores s.li.lanes ∧ (s.switchOpens which).td.bays = s.td.bays ∧
      (s.switchOpens which).dp.set = s.dp.set ∧ (s.switchOpens which).lc.replies = s.lc.replies ∧
      (s.switchOpens which).au.missing = s.au.missing ∧ (s.switchOpens which).au.period = s.au.period ∧
      (s.switchOpens which).au.keySwitch = s.au.keySwitch := by
  unfold State.switchOpens
  try dsimp only
  (repeat' split) <;> simp

@[simp] theorem State.onSpinUpLimit_frame (s : State) :
    s.onSpinUpLimit.pending = s.pending ∧ s.onSpinUpLimit.nd = s.nd ∧ s.onSpinUpLimit.ss = s.ss ∧
      s.onSpinUpLimit.cu = s.cu ∧ s.onSpinUpLimit.store = s.store ∧ s.onSpinUpLimit.jn.mem = s.jn.mem ∧
      s.onSpinUpLimit.lc.outstanding = s.lc.outstanding ∧ s.onSpinUpLimit.lc.rx = s.lc.rx ∧
      s.onSpinUpLimit.lc.clock = s.lc.clock ∧ laneCores s.onSpinUpLimit.li.lanes = laneCores s.li.lanes ∧
      s.onSpinUpLimit.td.bays = s.td.bays ∧ s.onSpinUpLimit.dp.set = s.dp.set ∧
      s.onSpinUpLimit.lc.replies = s.lc.replies ∧ s.onSpinUpLimit.au.missing = s.au.missing ∧
      s.onSpinUpLimit.au.period = s.au.period ∧ s.onSpinUpLimit.au.keySwitch = s.au.keySwitch := by
  unfold State.onSpinUpLimit
  try dsimp only
  (repeat' split) <;> simp

@[simp] theorem State.onIdleThresholdReached_frame (s : State) :
    s.onIdleThresholdReached.pending = s.pending ∧ s.onIdleThresholdReached.phase = s.phase ∧
      s.onIdleThresholdReached.li = s.li ∧ s.onIdleThresholdReached.td = s.td ∧ s.onIdleThresholdReached.nd = s.nd ∧
      s.onIdleThresholdReached.dp = s.dp ∧ s.onIdleThresholdReached.ss = s.ss ∧ s.onIdleThresholdReached.cu = s.cu ∧
      s.onIdleThresholdReached.jn = s.jn ∧ s.onIdleThresholdReached.au = s.au ∧ s.onIdleThresholdReached.lc = s.lc ∧
      s.onIdleThresholdReached.store = s.store := by
  unfold State.onIdleThresholdReached
  try dsimp only
  (repeat' split) <;> simp

@[simp] theorem State.onRefreshDue_frame (s : State) :
    s.onRefreshDue.pending = s.pending ∧ s.onRefreshDue.phase = s.phase ∧ s.onRefreshDue.li = s.li ∧
      s.onRefreshDue.td = s.td ∧ s.onRefreshDue.nd = s.nd ∧ s.onRefreshDue.dp = s.dp ∧ s.onRefreshDue.ss = s.ss ∧
      s.onRefreshDue.cu = s.cu ∧ s.onRefreshDue.jn = s.jn ∧ s.onRefreshDue.au = s.au ∧ s.onRefreshDue.lc = s.lc ∧
      s.onRefreshDue.store = s.store := by
  unfold State.onRefreshDue
  try dsimp only
  (repeat' split) <;> simp

@[simp] theorem State.judgeRefresh_frame (s : State) :
    s.judgeRefresh.pending = s.pending ∧ s.judgeRefresh.now = s.now ∧ s.judgeRefresh.nd = s.nd ∧
      s.judgeRefresh.ss = s.ss ∧ s.judgeRefresh.cu = s.cu ∧ s.judgeRefresh.store = s.store ∧
      s.judgeRefresh.jn.mem = s.jn.mem ∧ s.judgeRefresh.lc.outstanding = s.lc.outstanding ∧
      s.judgeRefresh.lc.rx = s.lc.rx ∧ s.judgeRefresh.lc.clock = s.lc.clock ∧
      laneCores s.judgeRefresh.li.lanes = laneCores s.li.lanes ∧ s.judgeRefresh.td.bays = s.td.bays ∧
      s.judgeRefresh.dp.set = s.dp.set ∧ s.judgeRefresh.lc.replies = s.lc.replies ∧
      s.judgeRefresh.au.missing = s.au.missing ∧ s.judgeRefresh.au.period = s.au.period ∧
      s.judgeRefresh.au.keySwitch = s.au.keySwitch := by
  unfold State.judgeRefresh
  try dsimp only
  (repeat' split) <;> simp

@[simp] theorem State.onRefreshRunEnd_frame (s : State) :
    s.onRefreshRunEnd.pending = s.pending ∧ s.onRefreshRunEnd.nd = s.nd ∧ s.onRefreshRunEnd.ss = s.ss ∧
      s.onRefreshRunEnd.cu = s.cu ∧ s.onRefreshRunEnd.store = s.store ∧ s.onRefreshRunEnd.jn.mem = s.jn.mem ∧
      s.onRefreshRunEnd.lc.outstanding = s.lc.outstanding ∧ s.onRefreshRunEnd.lc.rx = s.lc.rx ∧
      s.onRefreshRunEnd.lc.clock = s.lc.clock ∧ laneCores s.onRefreshRunEnd.li.lanes = laneCores s.li.lanes ∧
      s.onRefreshRunEnd.td.bays = s.td.bays ∧ s.onRefreshRunEnd.dp.set = s.dp.set ∧
      s.onRefreshRunEnd.lc.replies = s.lc.replies ∧ s.onRefreshRunEnd.au.missing = s.au.missing ∧
      s.onRefreshRunEnd.au.period = s.au.period ∧ s.onRefreshRunEnd.au.keySwitch = s.au.keySwitch := by
  unfold State.onRefreshRunEnd
  try dsimp only
  (repeat' split) <;> simp

@[simp] theorem State.airCompare_frame (s : State) :
    s.airCompare.pending = s.pending ∧ s.airCompare.now = s.now ∧ s.airCompare.phase = s.phase ∧
      s.airCompare.li = s.li ∧ s.airCompare.td = s.td ∧ s.airCompare.nd = s.nd ∧ s.airCompare.dp = s.dp ∧
      s.airCompare.ss = s.ss ∧ s.airCompare.cu = s.cu ∧ s.airCompare.jn = s.jn ∧ s.airCompare.au = s.au ∧
      s.airCompare.lc = s.lc ∧ s.airCompare.store = s.store := by
  unfold State.airCompare
  try dsimp only
  (repeat' split) <;> simp

@[simp] theorem State.airApply_frame (s : State) (directed : Bool) (idle : Nat) (refresh : Nat) (auto : Bool) :
    (s.airApply directed idle refresh auto).pending = s.pending ∧
      (s.airApply directed idle refresh auto).now = s.now ∧ (s.airApply directed idle refresh auto).phase = s.phase ∧
      (s.airApply directed idle refresh auto).li = s.li ∧ (s.airApply directed idle refresh auto).td = s.td ∧
      (s.airApply directed idle refresh auto).nd = s.nd ∧ (s.airApply directed idle refresh auto).dp = s.dp ∧
      (s.airApply directed idle refresh auto).ss = s.ss ∧ (s.airApply directed idle refresh auto).cu = s.cu ∧
      (s.airApply directed idle refresh auto).jn = s.jn ∧ (s.airApply directed idle refresh auto).au = s.au ∧
      (s.airApply directed idle refresh auto).lc = s.lc ∧
      (s.airApply directed idle refresh auto).store = s.store := by
  unfold State.airApply
  try dsimp only
  (repeat' split) <;> simp

@[simp] theorem State.airChoose_frame (s : State) (duty : AB) :
    (s.airChoose duty).pending = s.pending ∧ (s.airChoose duty).now = s.now ∧ (s.airChoose duty).phase = s.phase ∧
      (s.airChoose duty).nd = s.nd ∧ (s.airChoose duty).dp = s.dp ∧ (s.airChoose duty).ss = s.ss ∧
      (s.airChoose duty).cu = s.cu ∧ (s.airChoose duty).store = s.store ∧ (s.airChoose duty).jn.mem = s.jn.mem ∧
      (s.airChoose duty).lc.outstanding = s.lc.outstanding ∧ (s.airChoose duty).lc.rx = s.lc.rx ∧
      (s.airChoose duty).lc.clock = s.lc.clock ∧ laneCores (s.airChoose duty).li.lanes = laneCores s.li.lanes ∧
      (s.airChoose duty).td.bays = s.td.bays ∧ (s.airChoose duty).lc.replies = s.lc.replies ∧
      (s.airChoose duty).td.move = s.td.move ∧ (s.airChoose duty).au.missing = s.au.missing ∧
      (s.airChoose duty).au.period = s.au.period ∧ (s.airChoose duty).au.keySwitch = s.au.keySwitch := by
  unfold State.airChoose
  try dsimp only
  (repeat' split) <;> simp

@[simp] theorem State.ownAirSettings_frame (tag : Nat) (mode : Nat) (idle : Nat) (refresh : Nat) (autoSwitch : Nat) (duty : Nat) (s : State) :
    (State.ownAirSettings tag mode idle refresh autoSwitch duty s).pending = s.pending ∧
      (State.ownAirSettings tag mode idle refresh autoSwitch duty s).now = s.now ∧
      (State.ownAirSettings tag mode idle refresh autoSwitch duty s).phase = s.phase ∧
      (State.ownAirSettings tag mode idle refresh autoSwitch duty s).nd = s.nd ∧
      (State.ownAirSettings tag mode idle refresh autoSwitch duty s).dp = s.dp ∧
      (State.ownAirSettings tag mode idle refresh autoSwitch duty s).ss = s.ss ∧
      (State.ownAirSettings tag mode idle refresh autoSwitch duty s).cu = s.cu ∧
      (State.ownAirSettings tag mode idle refresh autoSwitch duty s).store = s.store ∧
      (State.ownAirSettings tag mode idle refresh autoSwitch duty s).jn.mem = s.jn.mem ∧
      (State.ownAirSettings tag mode idle refresh autoSwitch duty s).lc.outstanding = s.lc.outstanding ∧
      (State.ownAirSettings tag mode idle refresh autoSwitch duty s).lc.rx = s.lc.rx ∧
      (State.ownAirSettings tag mode idle refresh autoSwitch duty s).lc.clock = s.lc.clock ∧
      laneCores (State.ownAirSettings tag mode idle refresh autoSwitch duty s).li.lanes = laneCores s.li.lanes ∧
      (State.ownAirSettings tag mode idle refresh autoSwitch duty s).td.bays = s.td.bays ∧
      (State.ownAirSettings tag mode idle refresh autoSwitch duty s).td.move = s.td.move ∧
      (State.ownAirSettings tag mode idle refresh autoSwitch duty s).au.missing = s.au.missing ∧
      (State.ownAirSettings tag mode idle refresh autoSwitch duty s).au.period = s.au.period ∧
      (State.ownAirSettings tag mode idle refresh autoSwitch duty s).au.keySwitch = s.au.keySwitch := by
  unfold State.ownAirSettings
  try dsimp only
  (repeat' split) <;> simp

@[simp] theorem State.okAir_frame (s : State) (kind : Nat) (tag : Nat) :
    (s.okAir kind tag).pending = s.pending ∧ (s.okAir kind tag).now = s.now ∧ (s.okAir kind tag).phase = s.phase ∧
      (s.okAir kind tag).li = s.li ∧ (s.okAir kind tag).td = s.td ∧ (s.okAir kind tag).as = s.as ∧
      (s.okAir kind tag).nd = s.nd ∧ (s.okAir kind tag).dp = s.dp ∧ (s.okAir kind tag).ss = s.ss ∧
      (s.okAir kind tag).cu = s.cu ∧ (s.okAir kind tag).jn = s.jn ∧ (s.okAir kind tag).au = s.au ∧
      (s.okAir kind tag).store = s.store ∧ (s.okAir kind tag).lc.outstanding = s.lc.outstanding ∧
      (s.okAir kind tag).lc.rx = s.lc.rx ∧ (s.okAir kind tag).lc.clock = s.lc.clock := by
  simp [State.okAir]

@[simp] theorem State.ownAirEconomy_frame (tag : Nat) (s : State) :
    (State.ownAirEconomy tag s).pending = s.pending ∧ (State.ownAirEconomy tag s).now = s.now ∧
      (State.ownAirEconomy tag s).phase = s.phase ∧ (State.ownAirEconomy tag s).li = s.li ∧
      (State.ownAirEconomy tag s).td = s.td ∧ (State.ownAirEconomy tag s).nd = s.nd ∧
      (State.ownAirEconomy tag s).dp = s.dp ∧ (State.ownAirEconomy tag s).ss = s.ss ∧
      (State.ownAirEconomy tag s).cu = s.cu ∧ (State.ownAirEconomy tag s).jn = s.jn ∧
      (State.ownAirEconomy tag s).au = s.au ∧ (State.ownAirEconomy tag s).store = s.store ∧
      (State.ownAirEconomy tag s).lc.outstanding = s.lc.outstanding ∧ (State.ownAirEconomy tag s).lc.rx = s.lc.rx ∧
      (State.ownAirEconomy tag s).lc.clock = s.lc.clock := by
  unfold State.ownAirEconomy
  try dsimp only
  (repeat' split) <;> simp

@[simp] theorem State.ownAirWake_frame (tag : Nat) (s : State) :
    (State.ownAirWake tag s).pending = s.pending ∧ (State.ownAirWake tag s).now = s.now ∧
      (State.ownAirWake tag s).phase = s.phase ∧ (State.ownAirWake tag s).li = s.li ∧
      (State.ownAirWake tag s).nd = s.nd ∧ (State.ownAirWake tag s).ss = s.ss ∧ (State.ownAirWake tag s).cu = s.cu ∧
      (State.ownAirWake tag s).jn = s.jn ∧ (State.ownAirWake tag s).au = s.au ∧
      (State.ownAirWake tag s).store = s.store ∧ (State.ownAirWake tag s).lc.outstanding = s.lc.outstanding ∧
      (State.ownAirWake tag s).lc.rx = s.lc.rx ∧ (State.ownAirWake tag s).lc.clock = s.lc.clock ∧
      (State.ownAirWake tag s).td.bays = s.td.bays ∧ (State.ownAirWake tag s).dp.set = s.dp.set ∧
      (State.ownAirWake tag s).td.queue = s.td.queue := by
  unfold State.ownAirWake
  try dsimp only
  (repeat' split) <;> simp

@[simp] theorem State.airResets_frame (s : State) (which : AB) :
    (s.airResets which).pending = s.pending ∧ (s.airResets which).now = s.now ∧ (s.airResets which).phase = s.phase ∧
      (s.airResets which).nd = s.nd ∧ (s.airResets which).dp = s.dp ∧ (s.airResets which).ss = s.ss ∧
      (s.airResets which).cu = s.cu ∧ (s.airResets which).store = s.store ∧ (s.airResets which).jn.mem = s.jn.mem ∧
      (s.airResets which).lc.outstanding = s.lc.outstanding ∧ (s.airResets which).lc.rx = s.lc.rx ∧
      (s.airResets which).lc.clock = s.lc.clock ∧ laneCores (s.airResets which).li.lanes = laneCores s.li.lanes ∧
      (s.airResets which).td.bays = s.td.bays ∧ (s.airResets which).lc.replies = s.lc.replies ∧
      (s.airResets which).td.move = s.td.move ∧ (s.airResets which).au.missing = s.au.missing ∧
      (s.airResets which).au.period = s.au.period ∧ (s.airResets which).au.keySwitch = s.au.keySwitch := by
  unfold State.airResets
  try dsimp only
  (repeat' split) <;> simp

@[simp] theorem State.ownAirReset_frame (tag : Nat) (blower : Nat) (s : State) :
    (State.ownAirReset tag blower s).pending = s.pending ∧ (State.ownAirReset tag blower s).now = s.now ∧
      (State.ownAirReset tag blower s).phase = s.phase ∧ (State.ownAirReset tag blower s).nd = s.nd ∧
      (State.ownAirReset tag blower s).dp = s.dp ∧ (State.ownAirReset tag blower s).ss = s.ss ∧
      (State.ownAirReset tag blower s).cu = s.cu ∧ (State.ownAirReset tag blower s).store = s.store ∧
      (State.ownAirReset tag blower s).jn.mem = s.jn.mem ∧
      (State.ownAirReset tag blower s).lc.outstanding = s.lc.outstanding ∧
      (State.ownAirReset tag blower s).lc.rx = s.lc.rx ∧ (State.ownAirReset tag blower s).lc.clock = s.lc.clock ∧
      laneCores (State.ownAirReset tag blower s).li.lanes = laneCores s.li.lanes ∧
      (State.ownAirReset tag blower s).td.bays = s.td.bays ∧ (State.ownAirReset tag blower s).td.move = s.td.move ∧
      (State.ownAirReset tag blower s).au.missing = s.au.missing ∧
      (State.ownAirReset tag blower s).au.period = s.au.period ∧
      (State.ownAirReset tag blower s).au.keySwitch = s.au.keySwitch := by
  unfold State.ownAirReset
  try dsimp only
  (repeat' split) <;> simp

@[simp] theorem State.ownAirStatus_frame (tag : Nat) (s : State) :
    (State.ownAirStatus tag s).pending = s.pending ∧ (State.ownAirStatus tag s).now = s.now ∧
      (State.ownAirStatus tag s).phase = s.phase ∧ (State.ownAirStatus tag s).li = s.li ∧
      (State.ownAirStatus tag s).td = s.td ∧ (State.ownAirStatus tag s).as = s.as ∧
      (State.ownAirStatus tag s).nd = s.nd ∧ (State.ownAirStatus tag s).dp = s.dp ∧
      (State.ownAirStatus tag s).ss = s.ss ∧ (State.ownAirStatus tag s).cu = s.cu ∧
      (State.ownAirStatus tag s).jn = s.jn ∧ (State.ownAirStatus tag s).au = s.au ∧
      (State.ownAirStatus tag s).store = s.store ∧ (State.ownAirStatus tag s).lc.outstanding = s.lc.outstanding ∧
      (State.ownAirStatus tag s).lc.rx = s.lc.rx ∧ (State.ownAirStatus tag s).lc.clock = s.lc.clock := by
  simp [State.ownAirStatus]

@[simp] theorem State.sendPoll_frame (s : State) (l : Lane) :
    (s.sendPoll l).pending = s.pending ∧ (s.sendPoll l).now = s.now ∧ (s.sendPoll l).phase = s.phase ∧
      (s.sendPoll l).td = s.td ∧ (s.sendPoll l).as = s.as ∧ (s.sendPoll l).nd = s.nd ∧ (s.sendPoll l).dp = s.dp ∧
      (s.sendPoll l).ss = s.ss ∧ (s.sendPoll l).cu = s.cu ∧ (s.sendPoll l).jn = s.jn ∧ (s.sendPoll l).au = s.au ∧
      (s.sendPoll l).lc = s.lc ∧ (s.sendPoll l).store = s.store := by
  unfold State.sendPoll
  try dsimp only
  (repeat' split) <;> simp

@[simp] theorem State.sendWaiting_frame (s : State) :
    s.sendWaiting.pending = s.pending ∧ s.sendWaiting.now = s.now ∧ s.sendWaiting.phase = s.phase ∧
      s.sendWaiting.td = s.td ∧ s.sendWaiting.as = s.as ∧ s.sendWaiting.nd = s.nd ∧ s.sendWaiting.dp = s.dp ∧
      s.sendWaiting.ss = s.ss ∧ s.sendWaiting.cu = s.cu ∧ s.sendWaiting.jn = s.jn ∧ s.sendWaiting.au = s.au ∧
      s.sendWaiting.lc = s.lc ∧ s.sendWaiting.store = s.store := by
  unfold State.sendWaiting
  try dsimp only
  (repeat' split) <;> simp

@[simp] theorem State.releaseByPoll_frame (s : State) :
    s.releaseByPoll.pending = s.pending ∧ s.releaseByPoll.now = s.now ∧ s.releaseByPoll.phase = s.phase ∧
      s.releaseByPoll.td = s.td ∧ s.releaseByPoll.as = s.as ∧ s.releaseByPoll.nd = s.nd ∧ s.releaseByPoll.dp = s.dp ∧
      s.releaseByPoll.ss = s.ss ∧ s.releaseByPoll.cu = s.cu ∧ s.releaseByPoll.jn = s.jn ∧ s.releaseByPoll.au = s.au ∧
      s.releaseByPoll.lc = s.lc ∧ s.releaseByPoll.store = s.store := by
  unfold State.releaseByPoll
  try dsimp only
  (repeat' split) <;> simp

@[simp] theorem State.releaseByEnrolment_frame (s : State) :
    s.releaseByEnrolment.pending = s.pending ∧ s.releaseByEnrolment.now = s.now ∧
      s.releaseByEnrolment.phase = s.phase ∧ s.releaseByEnrolment.td = s.td ∧ s.releaseByEnrolment.as = s.as ∧
      s.releaseByEnrolment.nd = s.nd ∧ s.releaseByEnrolment.dp = s.dp ∧ s.releaseByEnrolment.ss = s.ss ∧
      s.releaseByEnrolment.cu = s.cu ∧ s.releaseByEnrolment.jn = s.jn ∧ s.releaseByEnrolment.au = s.au ∧
      s.releaseByEnrolment.lc = s.lc ∧ s.releaseByEnrolment.store = s.store := by
  unfold State.releaseByEnrolment
  try dsimp only
  (repeat' split) <;> simp

@[simp] theorem State.sendIdent_frame (s : State) (l : Lane) (why : EnrolWhy) (query : Nat) :
    (s.sendIdent l why query).pending = s.pending ∧ (s.sendIdent l why query).now = s.now ∧
      (s.sendIdent l why query).phase = s.phase ∧ (s.sendIdent l why query).td = s.td ∧
      (s.sendIdent l why query).as = s.as ∧ (s.sendIdent l why query).nd = s.nd ∧
      (s.sendIdent l why query).dp = s.dp ∧ (s.sendIdent l why query).ss = s.ss ∧
      (s.sendIdent l why query).cu = s.cu ∧ (s.sendIdent l why query).jn = s.jn ∧
      (s.sendIdent l why query).au = s.au ∧ (s.sendIdent l why query).lc = s.lc ∧
      (s.sendIdent l why query).store = s.store := by
  simp [State.sendIdent]

@[simp] theorem State.pulseReset_frame (s : State) :
    s.pulseReset.pending = s.pending ∧ s.pulseReset.now = s.now ∧ s.pulseReset.phase = s.phase ∧
      s.pulseReset.td = s.td ∧ s.pulseReset.as = s.as ∧ s.pulseReset.nd = s.nd ∧ s.pulseReset.dp = s.dp ∧
      s.pulseReset.ss = s.ss ∧ s.pulseReset.cu = s.cu ∧ s.pulseReset.jn = s.jn ∧ s.pulseReset.au = s.au ∧
      s.pulseReset.lc = s.lc ∧ s.pulseReset.store = s.store := by
  simp [State.pulseReset]

@[simp] theorem State.startEnrolment_frame (s : State) :
    s.startEnrolment.pending = s.pending ∧ s.startEnrolment.now = s.now ∧ s.startEnrolment.phase = s.phase ∧
      s.startEnrolment.td = s.td ∧ s.startEnrolment.as = s.as ∧ s.startEnrolment.nd = s.nd ∧
      s.startEnrolment.dp = s.dp ∧ s.startEnrolment.ss = s.ss ∧ s.startEnrolment.cu = s.cu ∧
      s.startEnrolment.jn = s.jn ∧ s.startEnrolment.au = s.au ∧ s.startEnrolment.lc = s.lc ∧
      s.startEnrolment.store = s.store := by
  unfold State.startEnrolment
  try dsimp only
  (repeat' split) <;> simp

@[simp] theorem State.takeLoop_frame (s : State) (l : Lane) (latch : Bool) (level : Bool) :
    (s.takeLoop l latch level).pending = s.pending ∧ (s.takeLoop l latch level).now = s.now ∧
      (s.takeLoop l latch level).phase = s.phase ∧ (s.takeLoop l latch level).td = s.td ∧
      (s.takeLoop l latch level).as = s.as ∧ (s.takeLoop l latch level).nd = s.nd ∧
      (s.takeLoop l latch level).dp = s.dp ∧ (s.takeLoop l latch level).ss = s.ss ∧
      (s.takeLoop l latch level).cu = s.cu ∧ (s.takeLoop l latch level).jn = s.jn ∧
      (s.takeLoop l latch level).au = s.au ∧ (s.takeLoop l latch level).store = s.store ∧
      (s.takeLoop l latch level).lc.outstanding = s.lc.outstanding ∧ (s.takeLoop l latch level).lc.rx = s.lc.rx ∧
      (s.takeLoop l latch level).lc.clock = s.lc.clock ∧ (s.takeLoop l latch level).lc.replies = s.lc.replies := by
  unfold State.takeLoop
  try dsimp only
  (repeat' split) <;> simp

@[simp] theorem State.takeLoopAtEnrolment_frame (s : State) (l : Lane) (level : Bool) :
    (s.takeLoopAtEnrolment l level).pending = s.pending ∧ (s.takeLoopAtEnrolment l level).now = s.now ∧
      (s.takeLoopAtEnrolment l level).phase = s.phase ∧ (s.takeLoopAtEnrolment l level).td = s.td ∧
      (s.takeLoopAtEnrolment l level).as = s.as ∧ (s.takeLoopAtEnrolment l level).nd = s.nd ∧
      (s.takeLoopAtEnrolment l level).dp = s.dp ∧ (s.takeLoopAtEnrolment l level).ss = s.ss ∧
      (s.takeLoopAtEnrolment l level).cu = s.cu ∧ (s.takeLoopAtEnrolment l level).jn = s.jn ∧
      (s.takeLoopAtEnrolment l level).au = s.au ∧ (s.takeLoopAtEnrolment l level).store = s.store ∧
      (s.takeLoopAtEnrolment l level).lc.outstanding = s.lc.outstanding ∧
      (s.takeLoopAtEnrolment l level).lc.rx = s.lc.rx ∧ (s.takeLoopAtEnrolment l level).lc.clock = s.lc.clock ∧
      (s.takeLoopAtEnrolment l level).lc.replies = s.lc.replies := by
  unfold State.takeLoopAtEnrolment
  try dsimp only
  (repeat' split) <;> simp

@[simp] theorem State.enrolled_frame (s : State) (l : Lane) (f : Found) :
    (s.enrolled l f).pending = s.pending ∧ (s.enrolled l f).now = s.now ∧ (s.enrolled l f).phase = s.phase ∧
      (s.enrolled l f).nd = s.nd ∧ (s.enrolled l f).cu = s.cu ∧ (s.enrolled l f).store = s.store ∧
      (s.enrolled l f).jn.mem = s.jn.mem ∧ (s.enrolled l f).lc.outstanding = s.lc.outstanding ∧
      (s.enrolled l f).lc.rx = s.lc.rx ∧ (s.enrolled l f).lc.clock = s.lc.clock ∧
      (s.enrolled l f).td.bays = s.td.bays ∧ (s.enrolled l f).dp.set = s.dp.set ∧
      (s.enrolled l f).lc.replies = s.lc.replies ∧ (s.enrolled l f).au.missing = s.au.missing ∧
      (s.enrolled l f).au.period = s.au.period ∧ (s.enrolled l f).au.keySwitch = s.au.keySwitch ∧
      (s.enrolled l f).ss.stageHold = s.ss.stageHold := by
  unfold State.enrolled
  try dsimp only
  (repeat' split) <;> simp

@[simp] theorem State.answerRescan_frame (s : State) (values : List Byte) :
    (s.answerRescan values).pending = s.pending ∧ (s.answerRescan values).now = s.now ∧
      (s.answerRescan values).phase = s.phase ∧ (s.answerRescan values).td = s.td ∧
      (s.answerRescan values).as = s.as ∧ (s.answerRescan values).nd = s.nd ∧ (s.answerRescan values).dp = s.dp ∧
      (s.answerRescan values).ss = s.ss ∧ (s.answerRescan values).cu = s.cu ∧ (s.answerRescan values).jn = s.jn ∧
      (s.answerRescan values).au = s.au ∧ (s.answerRescan values).store = s.store ∧
      (s.answerRescan values).lc.outstanding = s.lc.outstanding ∧ (s.answerRescan values).lc.rx = s.lc.rx ∧
      (s.answerRescan values).lc.clock = s.lc.clock := by
  unfold State.answerRescan
  try dsimp only
  (repeat' split) <;> simp

@[simp] theorem State.afterEnrolment_frame (s : State) (l : Lane) (why : EnrolWhy) :
    (s.afterEnrolment l why).pending = s.pending ∧ (s.afterEnrolment l why).now = s.now ∧
      (s.afterEnrolment l why).dp = s.dp ∧ (s.afterEnrolment l why).cu = s.cu ∧ (s.afterEnrolment l why).jn = s.jn ∧
      (s.afterEnrolment l why).au = s.au ∧ (s.afterEnrolment l why).store = s.store ∧
      (s.afterEnrolment l why).lc.outstanding = s.lc.outstanding ∧ (s.afterEnrolment l why).lc.rx = s.lc.rx ∧
      (s.afterEnrolment l why).lc.clock = s.lc.clock ∧ (s.afterEnrolment l why).td.bays = s.td.bays ∧
      (s.afterEnrolment l why).td.move = s.td.move ∧ (s.afterEnrolment l why).ss.stageHold = s.ss.stageHold := by
  unfold State.afterEnrolment
  try dsimp only
  (repeat' split) <;> simp

@[simp] theorem State.endEnrolment_frame (s : State) (l : Lane) (why : EnrolWhy) (f : Found) :
    (s.endEnrolment l why f).pending = s.pending ∧ (s.endEnrolment l why f).now = s.now ∧
      (s.endEnrolment l why f).cu = s.cu ∧ (s.endEnrolment l why f).store = s.store ∧
      (s.endEnrolment l why f).jn.mem = s.jn.mem ∧ (s.endEnrolment l why f).lc.outstanding = s.lc.outstanding ∧
      (s.endEnrolment l why f).lc.rx = s.lc.rx ∧ (s.endEnrolment l why f).lc.clock = s.lc.clock ∧
      (s.endEnrolment l why f).td.bays = s.td.bays ∧ (s.endEnrolment l why f).dp.set = s.dp.set ∧
      (s.endEnrolment l why f).au.missing = s.au.missing ∧ (s.endEnrolment l why f).au.period = s.au.period ∧
      (s.endEnrolment l why f).au.keySwitch = s.au.keySwitch ∧
      (s.endEnrolment l why f).ss.stageHold = s.ss.stageHold := by
  simp [State.endEnrolment]

@[simp] theorem State.onIdentAnswer_frame (report : IdentReport) (s : State) :
    (State.onIdentAnswer report s).pending = s.pending ∧ (State.onIdentAnswer report s).now = s.now ∧
      (State.onIdentAnswer report s).cu = s.cu ∧ (State.onIdentAnswer report s).store = s.store ∧
      (State.onIdentAnswer report s).jn.mem = s.jn.mem ∧
      (State.onIdentAnswer report s).lc.outstanding = s.lc.outstanding ∧
      (State.onIdentAnswer report s).lc.rx = s.lc.rx ∧ (State.onIdentAnswer report s).lc.clock = s.lc.clock ∧
      (State.onIdentAnswer report s).td.bays = s.td.bays ∧ (State.onIdentAnswer report s).dp.set = s.dp.set ∧
      (State.onIdentAnswer report s).au.missing = s.au.missing ∧
      (State.onIdentAnswer report s).au.period = s.au.period ∧
      (State.onIdentAnswer report s).au.keySwitch = s.au.keySwitch ∧
      (State.onIdentAnswer report s).ss.stageHold = s.ss.stageHold := by
  unfold State.onIdentAnswer
  try dsimp only
  (repeat' split) <;> simp

@[simp] theorem State.onIdentTimeout_frame (loopClosed : Bool) (s : State) :
    (State.onIdentTimeout loopClosed s).pending = s.pending ∧ (State.onIdentTimeout loopClosed s).cu = s.cu ∧
      (State.onIdentTimeout loopClosed s).store = s.store ∧ (State.onIdentTimeout loopClosed s).jn.mem = s.jn.mem ∧
      (State.onIdentTimeout loopClosed s).lc.outstanding = s.lc.outstanding ∧
      (State.onIdentTimeout loopClosed s).lc.rx = s.lc.rx ∧
      (State.onIdentTimeout loopClosed s).lc.clock = s.lc.clock ∧
      (State.onIdentTimeout loopClosed s).td.bays = s.td.bays ∧
      (State.onIdentTimeout loopClosed s).dp.set = s.dp.set ∧
      (State.onIdentTimeout loopClosed s).au.missing = s.au.missing ∧
      (State.onIdentTimeout loopClosed s).au.period = s.au.period ∧
      (State.onIdentTimeout loopClosed s).au.keySwitch = s.au.keySwitch ∧
      (State.onIdentTimeout loopClosed s).ss.stageHold = s.ss.stageHold := by
  unfold State.onIdentTimeout
  try dsimp only
  (repeat' split) <;> simp

@[simp] theorem State.pollFallsDue_frame (s : State) (l : Lane) :
    (s.pollFallsDue l).pending = s.pending ∧ (s.pollFallsDue l).now = s.now ∧ (s.pollFallsDue l).phase = s.phase ∧
      (s.pollFallsDue l).td = s.td ∧ (s.pollFallsDue l).as = s.as ∧ (s.pollFallsDue l).nd = s.nd ∧
      (s.pollFallsDue l).dp = s.dp ∧ (s.pollFallsDue l).ss = s.ss ∧ (s.pollFallsDue l).cu = s.cu ∧
      (s.pollFallsDue l).jn = s.jn ∧ (s.pollFallsDue l).au = s.au ∧ (s.pollFallsDue l).lc = s.lc ∧
      (s.pollFallsDue l).store = s.store := by
  unfold State.pollFallsDue
  try dsimp only
  (repeat' split) <;> simp

@[simp] theorem State.onPollDue_frame (lane : Lane) (s : State) :
    (State.onPollDue lane s).pending = s.pending ∧ (State.onPollDue lane s).now = s.now ∧
      (State.onPollDue lane s).phase = s.phase ∧ (State.onPollDue lane s).td = s.td ∧
      (State.onPollDue lane s).as = s.as ∧ (State.onPollDue lane s).nd = s.nd ∧ (State.onPollDue lane s).dp = s.dp ∧
      (State.onPollDue lane s).ss = s.ss ∧ (State.onPollDue lane s).cu = s.cu ∧ (State.onPollDue lane s).jn = s.jn ∧
      (State.onPollDue lane s).au = s.au ∧ (State.onPollDue lane s).lc = s.lc ∧
      (State.onPollDue lane s).store = s.store := by
  simp [State.onPollDue]

@[simp] theorem State.sendPress_frame (s : State) (l : Lane) :
    (s.sendPress l).pending = s.pending ∧ (s.sendPress l).now = s.now ∧ (s.sendPress l).phase = s.phase ∧
      (s.sendPress l).li = s.li ∧ (s.sendPress l).as = s.as ∧ (s.sendPress l).nd = s.nd ∧ (s.sendPress l).dp = s.dp ∧
      (s.sendPress l).ss = s.ss ∧ (s.sendPress l).cu = s.cu ∧ (s.sendPress l).jn = s.jn ∧ (s.sendPress l).au = s.au ∧
      (s.sendPress l).lc = s.lc ∧ (s.sendPress l).store = s.store ∧ (s.sendPress l).td.bays = s.td.bays ∧
      (s.sendPress l).td.move = s.td.move := by
  unfold State.sendPress
  try dsimp only
  (repeat' split) <;> simp

@[simp] theorem State.takeAnswer_frame (s : State) (l : Lane) (p : PollReport) :
    (s.takeAnswer l p).pending = s.pending ∧ (s.takeAnswer l p).now = s.now ∧ (s.takeAnswer l p).phase = s.phase ∧
      (s.takeAnswer l p).nd = s.nd ∧ (s.takeAnswer l p).cu = s.cu ∧ (s.takeAnswer l p).store = s.store ∧
      (s.takeAnswer l p).jn.mem = s.jn.mem ∧ (s.takeAnswer l p).lc.outstanding = s.lc.outstanding ∧
      (s.takeAnswer l p).lc.rx = s.lc.rx ∧ (s.takeAnswer l p).lc.clock = s.lc.clock ∧
      (s.takeAnswer l p).td.bays = s.td.bays ∧ (s.takeAnswer l p).dp.set = s.dp.set ∧
      (s.takeAnswer l p).lc.replies = s.lc.replies ∧ (s.takeAnswer l p).au.missing = s.au.missing ∧
      (s.takeAnswer l p).au.period = s.au.period ∧ (s.takeAnswer l p).au.keySwitch = s.au.keySwitch ∧
      (s.takeAnswer l p).ss.stageHold = s.ss.stageHold := by
  unfold State.takeAnswer
  try dsimp only
  (repeat' split) <;> simp

@[simp] theorem State.lostAnswers_frame (s : State) (l : Lane) :
    (s.lostAnswers l).pending = s.pending ∧ (s.lostAnswers l).now = s.now ∧ (s.lostAnswers l).phase = s.phase ∧
      (s.lostAnswers l).td = s.td ∧ (s.lostAnswers l).as = s.as ∧ (s.lostAnswers l).nd = s.nd ∧
      (s.lostAnswers l).dp = s.dp ∧ (s.lostAnswers l).ss = s.ss ∧ (s.lostAnswers l).cu = s.cu ∧
      (s.lostAnswers l).jn = s.jn ∧ (s.lostAnswers l).au = s.au ∧ (s.lostAnswers l).lc = s.lc ∧
      (s.lostAnswers l).store = s.store := by
  unfold State.lostAnswers
  try dsimp only
  (repeat' split) <;> simp

@[simp] theorem State.onPollAnswer_frame (report : PollReport) (s : State) :
    (State.onPollAnswer report s).pending = s.pending ∧ (State.onPollAnswer report s).now = s.now ∧
      (State.onPollAnswer report s).phase = s.phase ∧ (State.onPollAnswer report s).nd = s.nd ∧
      (State.onPollAnswer report s).cu = s.cu ∧ (State.onPollAnswer report s).store = s.store ∧
      (State.onPollAnswer report s).jn.mem = s.jn.mem ∧
      (State.onPollAnswer report s).lc.outstanding = s.lc.outstanding ∧
      (State.onPollAnswer report s).lc.rx = s.lc.rx ∧ (State.onPollAnswer report s).lc.clock = s.lc.clock ∧
      (State.onPollAnswer report s).td.bays = s.td.bays ∧ (State.onPollAnswer report s).dp.set = s.dp.set ∧
      (State.onPollAnswer report s).lc.replies = s.lc.replies ∧
      (State.onPollAnswer report s).au.missing = s.au.missing ∧
      (State.onPollAnswer report s).au.period = s.au.period ∧
      (State.onPollAnswer report s).au.keySwitch = s.au.keySwitch ∧
      (State.onPollAnswer report s).ss.stageHold = s.ss.stageHold := by
  unfold State.onPollAnswer
  try dsimp only
  (repeat' split) <;> simp

@[simp] theorem State.loseStation_frame (s : State) (l : Lane) :
    (s.loseStation l).pending = s.pending ∧ (s.loseStation l).now = s.now ∧ (s.loseStation l).phase = s.phase ∧
      (s.loseStation l).nd = s.nd ∧ (s.loseStation l).cu = s.cu ∧ (s.loseStation l).au = s.au ∧
      (s.loseStation l).store = s.store ∧ (s.loseStation l).jn.mem = s.jn.mem ∧
      (s.loseStation l).lc.outstanding = s.lc.outstanding ∧ (s.loseStation l).lc.rx = s.lc.rx ∧
      (s.loseStation l).lc.clock = s.lc.clock ∧ (s.loseStation l).td.bays = s.td.bays ∧
      (s.loseStation l).dp.set = s.dp.set ∧ (s.loseStation l).lc.replies = s.lc.replies ∧
      (s.loseStation l).ss.stageHold = s.ss.stageHold := by
  simp [State.loseStation]

@[simp] theorem State.missPoll_frame (s : State) (l : Lane) :
    (s.missPoll l).pending = s.pending ∧ (s.missPoll l).now = s.now ∧ (s.missPoll l).phase = s.phase ∧
      (s.missPoll l).cu = s.cu ∧ (s.missPoll l).au = s.au ∧ (s.missPoll l).store = s.store ∧
      (s.missPoll l).jn.mem = s.jn.mem ∧ (s.missPoll l).lc.outstanding = s.lc.outstanding ∧
      (s.missPoll l).lc.rx = s.lc.rx ∧ (s.missPoll l).lc.clock = s.lc.clock ∧ (s.missPoll l).td.bays = s.td.bays ∧
      (s.missPoll l).dp.set = s.dp.set ∧ (s.missPoll l).lc.replies = s.lc.replies ∧
      (s.missPoll l).ss.stageHold = s.ss.stageHold := by
  unfold State.missPoll
  try dsimp only
  (repeat' split) <;> simp

@[simp] theorem State.onPollAnswerTimeout_frame (s : State) :
    s.onPollAnswerTimeout.pending = s.pending ∧ s.onPollAnswerTimeout.phase = s.phase ∧
      s.onPollAnswerTimeout.cu = s.cu ∧ s.onPollAnswerTimeout.au = s.au ∧ s.onPollAnswerTimeout.store = s.store ∧
      s.onPollAnswerTimeout.jn.mem = s.jn.mem ∧ s.onPollAnswerTimeout.lc.outstanding = s.lc.outstanding ∧
      s.onPollAnswerTimeout.lc.rx = s.lc.rx ∧ s.onPollAnswerTimeout.lc.clock = s.lc.clock ∧
      s.onPollAnswerTimeout.td.bays = s.td.bays ∧ s.onPollAnswerTimeout.dp.set = s.dp.set ∧
      s.onPollAnswerTimeout.lc.replies = s.lc.replies ∧ s.onPollAnswerTimeout.ss.stageHold = s.ss.stageHold := by
  unfold State.onPollAnswerTimeout
  try dsimp only
  (repeat' split) <;> simp

@[simp] theorem State.onBasicSendEdge_frame (lane : Lane) (s : State) :
    (State.onBasicSendEdge lane s).pending = s.pending ∧ (State.onBasicSendEdge lane s).now = s.now ∧
      (State.onBasicSendEdge lane s).phase = s.phase ∧ (State.onBasicSendEdge lane s).li = s.li ∧
      (State.onBasicSendEdge lane s).as = s.as ∧ (State.onBasicSendEdge lane s).nd = s.nd ∧
      (State.onBasicSendEdge lane s).dp = s.dp ∧ (State.onBasicSendEdge lane s).ss = s.ss ∧
      (State.onBasicSendEdge lane s).cu = s.cu ∧ (State.onBasicSendEdge lane s).jn = s.jn ∧
      (State.onBasicSendEdge lane s).au = s.au ∧ (State.onBasicSendEdge lane s).lc = s.lc ∧
      (State.onBasicSendEdge lane s).store = s.store ∧ (State.onBasicSendEdge lane s).td.bays = s.td.bays ∧
      (State.onBasicSendEdge lane s).td.move = s.td.move := by
  unfold State.onBasicSendEdge
  try dsimp only
  (repeat' split) <;> simp

@[simp] theorem State.onBasicCallEdge_frame (lane : Lane) (s : State) :
    (State.onBasicCallEdge lane s).pending = s.pending ∧ (State.onBasicCallEdge lane s).now = s.now ∧
      (State.onBasicCallEdge lane s).phase = s.phase ∧ (State.onBasicCallEdge lane s).li = s.li ∧
      (State.onBasicCallEdge lane s).td = s.td ∧ (State.onBasicCallEdge lane s).as = s.as ∧
      (State.onBasicCallEdge lane s).nd = s.nd ∧ (State.onBasicCallEdge lane s).dp = s.dp ∧
      (State.onBasicCallEdge lane s).ss = s.ss ∧ (State.onBasicCallEdge lane s).cu = s.cu ∧
      (State.onBasicCallEdge lane s).jn = s.jn ∧ (State.onBasicCallEdge lane s).au = s.au ∧
      (State.onBasicCallEdge lane s).store = s.store ∧
      (State.onBasicCallEdge lane s).lc.outstanding = s.lc.outstanding ∧
      (State.onBasicCallEdge lane s).lc.rx = s.lc.rx ∧ (State.onBasicCallEdge lane s).lc.clock = s.lc.clock ∧
      (State.onBasicCallEdge lane s).lc.replies = s.lc.replies := by
  unfold State.onBasicCallEdge
  try dsimp only
  (repeat' split) <;> simp

@[simp] theorem State.basicCarrier_frame (s : State) (l : Lane) (present : Bool) :
    (s.basicCarrier l present).pending = s.pending ∧ (s.basicCarrier l present).now = s.now ∧
      (s.basicCarrier l present).phase = s.phase ∧ (s.basicCarrier l present).nd = s.nd ∧
      (s.basicCarrier l present).cu = s.cu ∧ (s.basicCarrier l present).au = s.au ∧
      (s.basicCarrier l present).store = s.store ∧ (s.basicCarrier l present).jn.mem = s.jn.mem ∧
      (s.basicCarrier l present).lc.outstanding = s.lc.outstanding ∧ (s.basicCarrier l present).lc.rx = s.lc.rx ∧
      (s.basicCarrier l present).lc.clock = s.lc.clock ∧ (s.basicCarrier l present).td.bays = s.td.bays ∧
      (s.basicCarrier l present).dp.set = s.dp.set ∧ (s.basicCarrier l present).lc.replies = s.lc.replies ∧
      (s.basicCarrier l present).ss.stageHold = s.ss.stageHold := by
  unfold State.basicCarrier
  try dsimp only
  (repeat' split) <;> simp

@[simp] theorem State.carrierMissing_frame (s : State) (l : Lane) :
    (s.carrierMissing l).pending = s.pending ∧ (s.carrierMissing l).now = s.now ∧
      (s.carrierMissing l).phase = s.phase ∧ (s.carrierMissing l).nd = s.nd ∧ (s.carrierMissing l).dp = s.dp ∧
      (s.carrierMissing l).ss = s.ss ∧ (s.carrierMissing l).cu = s.cu ∧ (s.carrierMissing l).store = s.store ∧
      (s.carrierMissing l).jn.mem = s.jn.mem ∧ (s.carrierMissing l).lc.outstanding = s.lc.outstanding ∧
      (s.carrierMissing l).lc.rx = s.lc.rx ∧ (s.carrierMissing l).lc.clock = s.lc.clock ∧
      laneCores (s.carrierMissing l).li.lanes = laneCores s.li.lanes ∧ (s.carrierMissing l).td.bays = s.td.bays ∧
      (s.carrierMissing l).lc.replies = s.lc.replies ∧ (s.carrierMissing l).au.period = s.au.period ∧
      (s.carrierMissing l).au.keySwitch = s.au.keySwitch := by
  simp [State.carrierMissing]

@[simp] theorem State.driveOff_frame (s : State) (l : Lane) :
    (s.driveOff l).pending = s.pending ∧ (s.driveOff l).now = s.now ∧ (s.driveOff l).phase = s.phase ∧
      (s.driveOff l).li = s.li ∧ (s.driveOff l).as = s.as ∧ (s.driveOff l).nd = s.nd ∧ (s.driveOff l).dp = s.dp ∧
      (s.driveOff l).ss = s.ss ∧ (s.driveOff l).cu = s.cu ∧ (s.driveOff l).jn = s.jn ∧ (s.driveOff l).au = s.au ∧
      (s.driveOff l).store = s.store ∧ (s.driveOff l).lc.outstanding = s.lc.outstanding ∧
      (s.driveOff l).lc.rx = s.lc.rx ∧ (s.driveOff l).lc.clock = s.lc.clock ∧ (s.driveOff l).td.bays = s.td.bays ∧
      (s.driveOff l).lc.replies = s.lc.replies ∧ (s.driveOff l).td.move = s.td.move := by
  unfold State.driveOff
  try dsimp only
  (repeat' split) <;> simp

@[simp] theorem State.depart_frame (s : State) (l : Lane) :
    (s.depart l).pending = s.pending ∧ (s.depart l).now = s.now ∧ (s.depart l).phase = s.phase ∧
      (s.depart l).nd = s.nd ∧ (s.depart l).dp = s.dp ∧ (s.depart l).ss = s.ss ∧ (s.depart l).cu = s.cu ∧
      (s.depart l).store = s.store ∧ (s.depart l).jn.mem = s.jn.mem ∧
      (s.depart l).lc.outstanding = s.lc.outstanding ∧ (s.depart l).lc.rx = s.lc.rx ∧
      (s.depart l).lc.clock = s.lc.clock ∧ (s.depart l).td.bays = s.td.bays ∧
      (s.depart l).lc.replies = s.lc.replies ∧ (s.depart l).au.period = s.au.period ∧
      (s.depart l).au.keySwitch = s.au.keySwitch := by
  unfold State.depart
  try dsimp only
  (repeat' split) <;> simp

@[simp] theorem State.onVehicleClearExpiry_frame (lane : Lane) (s : State) :
    (State.onVehicleClearExpiry lane s).pending = s.pending ∧ (State.onVehicleClearExpiry lane s).phase = s.phase ∧
      (State.onVehicleClearExpiry lane s).nd = s.nd ∧ (State.onVehicleClearExpiry lane s).dp = s.dp ∧
      (State.onVehicleClearExpiry lane s).ss = s.ss ∧ (State.onVehicleClearExpiry lane s).cu = s.cu ∧
      (State.onVehicleClearExpiry lane s).store = s.store ∧ (State.onVehicleClearExpiry lane s).jn.mem = s.jn.mem ∧
      (State.onVehicleClearExpiry lane s).lc.outstanding = s.lc.outstanding ∧
      (State.onVehicleClearExpiry lane s).lc.rx = s.lc.rx ∧
      (State.onVehicleClearExpiry lane s).lc.clock = s.lc.clock ∧
      (State.onVehicleClearExpiry lane s).td.bays = s.td.bays ∧
      (State.onVehicleClearExpiry lane s).lc.replies = s.lc.replies ∧
      (State.onVehicleClearExpiry lane s).au.period = s.au.period ∧
      (State.onVehicleClearExpiry lane s).au.keySwitch = s.au.keySwitch := by
  unfold State.onVehicleClearExpiry
  try dsimp only
  (repeat' split) <;> simp

@[simp] theorem State.reresolve_frame (s : State) (l : Lane) :
    (s.reresolve l).pending = s.pending ∧ (s.reresolve l).now = s.now ∧ (s.reresolve l).phase = s.phase ∧
      (s.reresolve l).nd = s.nd ∧ (s.reresolve l).dp = s.dp ∧ (s.reresolve l).ss = s.ss ∧ (s.reresolve l).cu = s.cu ∧
      (s.reresolve l).store = s.store ∧ (s.reresolve l).jn.mem = s.jn.mem ∧
      (s.reresolve l).lc.outstanding = s.lc.outstanding ∧ (s.reresolve l).lc.rx = s.lc.rx ∧
      (s.reresolve l).lc.clock = s.lc.clock ∧ (s.reresolve l).td.bays = s.td.bays ∧
      (s.reresolve l).lc.replies = s.lc.replies ∧ (s.reresolve l).au.missing = s.au.missing ∧
      (s.reresolve l).au.period = s.au.period ∧ (s.reresolve l).au.keySwitch = s.au.keySwitch := by
  unfold State.reresolve
  try dsimp only
  (repeat' split) <;> simp

@[simp] theorem State.ownLaneSettings_frame (tag : Nat) (lane : Nat) (features : Nat) (waypoints : Nat) (timeout : Nat) (autoRecall : Nat) (s : State) :
    (State.ownLaneSettings tag lane features waypoints timeout autoRecall s).pending = s.pending ∧
      (State.ownLaneSettings tag lane features waypoints timeout autoRecall s).now = s.now ∧
      (State.ownLaneSettings tag lane features waypoints timeout autoRecall s).phase = s.phase ∧
      (State.ownLaneSettings tag lane features waypoints timeout autoRecall s).nd = s.nd ∧
      (State.ownLaneSettings tag lane features waypoints timeout autoRecall s).dp = s.dp ∧
      (State.ownLaneSettings tag lane features waypoints timeout autoRecall s).ss = s.ss ∧
      (State.ownLaneSettings tag lane features waypoints timeout autoRecall s).cu = s.cu ∧
      (State.ownLaneSettings tag lane features waypoints timeout autoRecall s).store = s.store ∧
      (State.ownLaneSettings tag lane features waypoints timeout autoRecall s).jn.mem = s.jn.mem ∧
      (State.ownLaneSettings tag lane features waypoints timeout autoRecall s).lc.outstanding = s.lc.outstanding ∧
      (State.ownLaneSettings tag lane features waypoints timeout autoRecall s).lc.rx = s.lc.rx ∧
      (State.ownLaneSettings tag lane features waypoints timeout autoRecall s).lc.clock = s.lc.clock ∧
      (State.ownLaneSettings tag lane features waypoints timeout autoRecall s).td.bays = s.td.bays ∧
      (State.ownLaneSettings tag lane features waypoints timeout autoRecall s).au.missing = s.au.missing ∧
      (State.ownLaneSettings tag lane features waypoints timeout autoRecall s).au.period = s.au.period ∧
      (State.ownLaneSettings tag lane features waypoints timeout autoRecall s).au.keySwitch = s.au.keySwitch := by
  unfold State.ownLaneSettings
  try dsimp only
  (repeat' split) <;> simp

@[simp] theorem State.okLane_frame (s : State) (kind : Nat) (tag : Nat) (l : Lane) :
    (s.okLane kind tag l).pending = s.pending ∧ (s.okLane kind tag l).now = s.now ∧
      (s.okLane kind tag l).phase = s.phase ∧ (s.okLane kind tag l).li = s.li ∧ (s.okLane kind tag l).td = s.td ∧
      (s.okLane kind tag l).as = s.as ∧ (s.okLane kind tag l).nd = s.nd ∧ (s.okLane kind tag l).dp = s.dp ∧
      (s.okLane kind tag l).ss = s.ss ∧ (s.okLane kind tag l).cu = s.cu ∧ (s.okLane kind tag l).jn = s.jn ∧
      (s.okLane kind tag l).au = s.au ∧ (s.okLane kind tag l).store = s.store ∧
      (s.okLane kind tag l).lc.outstanding = s.lc.outstanding ∧ (s.okLane kind tag l).lc.rx = s.lc.rx ∧
      (s.okLane kind tag l).lc.clock = s.lc.clock := by
  simp [State.okLane]

@[simp] theorem State.ownOpen_frame (tag : Nat) (lane : Nat) (s : State) :
    (State.ownOpen tag lane s).pending = s.pending ∧ (State.ownOpen tag lane s).now = s.now ∧
      (State.ownOpen tag lane s).phase = s.phase ∧ (State.ownOpen tag lane s).as = s.as ∧
      (State.ownOpen tag lane s).nd = s.nd ∧ (State.ownOpen tag lane s).dp = s.dp ∧
      (State.ownOpen tag lane s).ss = s.ss ∧ (State.ownOpen tag lane s).cu = s.cu ∧
      (State.ownOpen tag lane s).store = s.store ∧ (State.ownOpen tag lane s).jn.mem = s.jn.mem ∧
      (State.ownOpen tag lane s).lc.outstanding = s.lc.outstanding ∧ (State.ownOpen tag lane s).lc.rx = s.lc.rx ∧
      (State.ownOpen tag lane s).lc.clock = s.lc.clock ∧ (State.ownOpen tag lane s).td.bays = s.td.bays ∧
      (State.ownOpen tag lane s).td.move = s.td.move ∧ (State.ownOpen tag lane s).au.missing = s.au.missing ∧
      (State.ownOpen tag lane s).au.period = s.au.period ∧
      (State.ownOpen tag lane s).au.keySwitch = s.au.keySwitch := by
  unfold State.ownOpen
  try dsimp only
  (repeat' split) <;> simp

@[simp] theorem State.ownClose_frame (tag : Nat) (lane : Nat) (s : State) :
    (State.ownClose tag lane s).pending = s.pending ∧ (State.ownClose tag lane s).now = s.now ∧
      (State.ownClose tag lane s).phase = s.phase ∧ (State.ownClose tag lane s).td = s.td ∧
      (State.ownClose tag lane s).as = s.as ∧ (State.ownClose tag lane s).nd = s.nd ∧
      (State.ownClose tag lane s).dp = s.dp ∧ (State.ownClose tag lane s).ss = s.ss ∧
      (State.ownClose tag lane s).cu = s.cu ∧ (State.ownClose tag lane s).jn = s.jn ∧
      (State.ownClose tag lane s).au = s.au ∧ (State.ownClose tag lane s).store = s.store ∧
      (State.ownClose tag lane s).lc.outstanding = s.lc.outstanding ∧ (State.ownClose tag lane s).lc.rx = s.lc.rx ∧
      (State.ownClose tag lane s).lc.clock = s.lc.clock := by
  unfold State.ownClose
  try dsimp only
  (repeat' split) <;> simp

@[simp] theorem State.ownLaneText_frame (tag : Nat) (lane : Nat) (text : List Byte) (s : State) :
    (State.ownLaneText tag lane text s).pending = s.pending ∧ (State.ownLaneText tag lane text s).now = s.now ∧
      (State.ownLaneText tag lane text s).phase = s.phase ∧ (State.ownLaneText tag lane text s).td = s.td ∧
      (State.ownLaneText tag lane text s).as = s.as ∧ (State.ownLaneText tag lane text s).nd = s.nd ∧
      (State.ownLaneText tag lane text s).dp = s.dp ∧ (State.ownLaneText tag lane text s).ss = s.ss ∧
      (State.ownLaneText tag lane text s).cu = s.cu ∧ (State.ownLaneText tag lane text s).jn = s.jn ∧
      (State.ownLaneText tag lane text s).au = s.au ∧ (State.ownLaneText tag lane text s).store = s.store ∧
      (State.ownLaneText tag lane text s).lc.outstanding = s.lc.outstanding ∧
      (State.ownLaneText tag lane text s).lc.rx = s.lc.rx ∧
      (State.ownLaneText tag lane text s).lc.clock = s.lc.clock := by
  unfold State.ownLaneText
  try dsimp only
  (repeat' split) <;> simp

@[simp] theorem State.ownLaneStatus_frame (tag : Nat) (lane : Nat) (s : State) :
    (State.ownLaneStatus tag lane s).pending = s.pending ∧ (State.ownLaneStatus tag lane s).now = s.now ∧
      (State.ownLaneStatus tag lane s).phase = s.phase ∧ (State.ownLaneStatus tag lane s).li = s.li ∧
      (State.ownLaneStatus tag lane s).td = s.td ∧ (State.ownLaneStatus tag lane s).as = s.as ∧
      (State.ownLaneStatus tag lane s).nd = s.nd ∧ (State.ownLaneStatus tag lane s).dp = s.dp ∧
      (State.ownLaneStatus tag lane s).ss = s.ss ∧ (State.ownLaneStatus tag lane s).cu = s.cu ∧
      (State.ownLaneStatus tag lane s).jn = s.jn ∧ (State.ownLaneStatus tag lane s).au = s.au ∧
      (State.ownLaneStatus tag lane s).store = s.store ∧
      (State.ownLaneStatus tag lane s).lc.outstanding = s.lc.outstanding ∧
      (State.ownLaneStatus tag lane s).lc.rx = s.lc.rx ∧ (State.ownLaneStatus tag lane s).lc.clock = s.lc.clock := by
  unfold State.ownLaneStatus
  try dsimp only
  (repeat' split) <;> simp

@[simp] theorem State.ownRescan_frame (tag : Nat) (lane : Nat) (s : State) :
    (State.ownRescan tag lane s).pending = s.pending ∧ (State.ownRescan tag lane s).now = s.now ∧
      (State.ownRescan tag lane s).phase = s.phase ∧ (State.ownRescan tag lane s).td = s.td ∧
      (State.ownRescan tag lane s).as = s.as ∧ (State.ownRescan tag lane s).nd = s.nd ∧
      (State.ownRescan tag lane s).dp = s.dp ∧ (State.ownRescan tag lane s).ss = s.ss ∧
      (State.ownRescan tag lane s).cu = s.cu ∧ (State.ownRescan tag lane s).jn = s.jn ∧
      (State.ownRescan tag lane s).au = s.au ∧ (State.ownRescan tag lane s).store = s.store ∧
      (State.ownRescan tag lane s).lc.outstanding = s.lc.outstanding ∧ (State.ownRescan tag lane s).lc.rx = s.lc.rx ∧
      (State.ownRescan tag lane s).lc.clock = s.lc.clock := by
  unfold State.ownRescan
  try dsimp only
  (repeat' split) <;> simp

@[simp] theorem State.ownRescanAll_frame (tag : Nat) (s : State) :
    (State.ownRescanAll tag s).pending = s.pending ∧ (State.ownRescanAll tag s).now = s.now ∧
      (State.ownRescanAll tag s).phase = s.phase ∧ (State.ownRescanAll tag s).td = s.td ∧
      (State.ownRescanAll tag s).as = s.as ∧ (State.ownRescanAll tag s).nd = s.nd ∧
      (State.ownRescanAll tag s).dp = s.dp ∧ (State.ownRescanAll tag s).ss = s.ss ∧
      (State.ownRescanAll tag s).cu = s.cu ∧ (State.ownRescanAll tag s).jn = s.jn ∧
      (State.ownRescanAll tag s).au = s.au ∧ (State.ownRescanAll tag s).store = s.store ∧
      (State.ownRescanAll tag s).lc.outstanding = s.lc.outstanding ∧ (State.ownRescanAll tag s).lc.rx = s.lc.rx ∧
      (State.ownRescanAll tag s).lc.clock = s.lc.clock := by
  unfold State.ownRescanAll
  try dsimp only
  (repeat' split) <;> simp

@[simp] theorem State.failLoad_frame (s : State) (id : Nat) (cause : FailCause) :
    (s.failLoad id cause).pending = s.pending ∧ (s.failLoad id cause).now = s.now ∧
      (s.failLoad id cause).phase = s.phase ∧ (s.failLoad id cause).li = s.li ∧ (s.failLoad id cause).td = s.td ∧
      (s.failLoad id cause).as = s.as ∧ (s.failLoad id cause).cu = s.cu ∧ (s.failLoad id cause).jn = s.jn ∧
      (s.failLoad id cause).au = s.au ∧ (s.failLoad id cause).store = s.store ∧
      (s.failLoad id cause).lc.outstanding = s.lc.outstanding ∧ (s.failLoad id cause).lc.rx = s.lc.rx ∧
      (s.failLoad id cause).lc.clock = s.lc.clock ∧ (s.failLoad id cause).dp.set = s.dp.set ∧
      (s.failLoad id cause).lc.replies = s.lc.replies ∧ (s.failLoad id cause).ss.stageHold = s.ss.stageHold := by
  unfold State.failLoad
  try dsimp only
  (repeat' split) <;> simp

@[simp] theorem State.ndTo_frame (s : State) (st : NDState) :
    (s.ndTo st).pending = s.pending ∧ (s.ndTo st).now = s.now ∧ (s.ndTo st).phase = s.phase ∧ (s.ndTo st).li = s.li ∧
      (s.ndTo st).td = s.td ∧ (s.ndTo st).as = s.as ∧ (s.ndTo st).dp = s.dp ∧ (s.ndTo st).ss = s.ss ∧
      (s.ndTo st).cu = s.cu ∧ (s.ndTo st).jn = s.jn ∧ (s.ndTo st).au = s.au ∧ (s.ndTo st).lc = s.lc ∧
      (s.ndTo st).store = s.store := by
  simp [State.ndTo]

@[simp] theorem State.pickFails_frame (s : State) (cause : FailCause) (st : NDState) :
    (s.pickFails cause st).pending = s.pending ∧ (s.pickFails cause st).now = s.now ∧
      (s.pickFails cause st).phase = s.phase ∧ (s.pickFails cause st).li = s.li ∧ (s.pickFails cause st).td = s.td ∧
      (s.pickFails cause st).as = s.as ∧ (s.pickFails cause st).cu = s.cu ∧ (s.pickFails cause st).jn = s.jn ∧
      (s.pickFails cause st).au = s.au ∧ (s.pickFails cause st).store = s.store ∧
      (s.pickFails cause st).lc.outstanding = s.lc.outstanding ∧ (s.pickFails cause st).lc.rx = s.lc.rx ∧
      (s.pickFails cause st).lc.clock = s.lc.clock ∧ (s.pickFails cause st).dp.set = s.dp.set ∧
      (s.pickFails cause st).lc.replies = s.lc.replies ∧ (s.pickFails cause st).ss.stageHold = s.ss.stageHold := by
  unfold State.pickFails
  try dsimp only
  (repeat' split) <;> simp

@[simp] theorem State.loadStopped_frame (s : State) :
    s.loadStopped.pending = s.pending ∧ s.loadStopped.now = s.now ∧ s.loadStopped.phase = s.phase ∧
      s.loadStopped.li = s.li ∧ s.loadStopped.td = s.td ∧ s.loadStopped.as = s.as ∧ s.loadStopped.cu = s.cu ∧
      s.loadStopped.jn = s.jn ∧ s.loadStopped.au = s.au ∧ s.loadStopped.store = s.store ∧
      s.loadStopped.lc.outstanding = s.lc.outstanding ∧ s.loadStopped.lc.rx = s.lc.rx ∧
      s.loadStopped.lc.clock = s.lc.clock ∧ s.loadStopped.dp.set = s.dp.set ∧
      s.loadStopped.lc.replies = s.lc.replies ∧ s.loadStopped.ss.stageHold = s.ss.stageHold := by
  unfold State.loadStopped
  try dsimp only
  (repeat' split) <;> simp

@[simp] theorem State.loadComplete_frame (s : State) (id : Nat) :
    (s.loadComplete id).pending = s.pending ∧ (s.loadComplete id).now = s.now ∧ (s.loadComplete id).phase = s.phase ∧
      (s.loadComplete id).li = s.li ∧ (s.loadComplete id).td = s.td ∧ (s.loadComplete id).as = s.as ∧
      (s.loadComplete id).cu = s.cu ∧ (s.loadComplete id).jn = s.jn ∧ (s.loadComplete id).au = s.au ∧
      (s.loadComplete id).lc = s.lc ∧ (s.loadComplete id).store = s.store ∧ (s.loadComplete id).dp.set = s.dp.set ∧
      (s.loadComplete id).ss.stageHold = s.ss.stageHold := by
  simp [State.loadComplete]

@[simp] theorem State.pickFrom_frame (s : State) (c : Cass) :
    (s.pickFrom c).pending = s.pending ∧ (s.pickFrom c).now = s.now ∧ (s.pickFrom c).phase = s.phase ∧
      (s.pickFrom c).li = s.li ∧ (s.pickFrom c).td = s.td ∧ (s.pickFrom c).as = s.as ∧ (s.pickFrom c).dp = s.dp ∧
      (s.pickFrom c).ss = s.ss ∧ (s.pickFrom c).cu = s.cu ∧ (s.pickFrom c).jn = s.jn ∧ (s.pickFrom c).au = s.au ∧
      (s.pickFrom c).store = s.store ∧ (s.pickFrom c).lc.outstanding = s.lc.outstanding ∧
      (s.pickFrom c).lc.rx = s.lc.rx ∧ (s.pickFrom c).lc.clock = s.lc.clock ∧
      (s.pickFrom c).lc.replies = s.lc.replies := by
  simp [State.pickFrom]

@[simp] theorem State.nextPick_frame (s : State) :
    s.nextPick.pending = s.pending ∧ s.nextPick.now = s.now ∧ s.nextPick.phase = s.phase ∧ s.nextPick.li = s.li ∧
      s.nextPick.td = s.td ∧ s.nextPick.as = s.as ∧ s.nextPick.cu = s.cu ∧ s.nextPick.jn = s.jn ∧
      s.nextPick.au = s.au ∧ s.nextPick.store = s.store ∧ s.nextPick.lc.outstanding = s.lc.outstanding ∧
      s.nextPick.lc.rx = s.lc.rx ∧ s.nextPick.lc.clock = s.lc.clock ∧ s.nextPick.dp.set = s.dp.set ∧
      s.nextPick.lc.replies = s.lc.replies ∧ s.nextPick.ss.stageHold = s.ss.stageHold := by
  unfold State.nextPick
  try dsimp only
  (repeat' split) <;> simp

@[simp] theorem State.startPicking_frame (s : State) (id : Nat) :
    (s.startPicking id).pending = s.pending ∧ (s.startPicking id).now = s.now ∧ (s.startPicking id).phase = s.phase ∧
      (s.startPicking id).li = s.li ∧ (s.startPicking id).td = s.td ∧ (s.startPicking id).as = s.as ∧
      (s.startPicking id).cu = s.cu ∧ (s.startPicking id).jn = s.jn ∧ (s.startPicking id).au = s.au ∧
      (s.startPicking id).store = s.store ∧ (s.startPicking id).lc.outstanding = s.lc.outstanding ∧
      (s.startPicking id).lc.rx = s.lc.rx ∧ (s.startPicking id).lc.clock = s.lc.clock ∧
      (s.startPicking id).dp.set = s.dp.set ∧ (s.startPicking id).lc.replies = s.lc.replies ∧
      (s.startPicking id).ss.stageHold = s.ss.stageHold := by
  simp [State.startPicking]

@[simp] theorem State.handOverLoad_frame (s : State) :
    s.handOverLoad.pending = s.pending ∧ s.handOverLoad.now = s.now ∧ s.handOverLoad.phase = s.phase ∧
      s.handOverLoad.li = s.li ∧ s.handOverLoad.td = s.td ∧ s.handOverLoad.as = s.as ∧ s.handOverLoad.cu = s.cu ∧
      s.handOverLoad.jn = s.jn ∧ s.handOverLoad.au = s.au ∧ s.handOverLoad.store = s.store ∧
      s.handOverLoad.lc.outstanding = s.lc.outstanding ∧ s.handOverLoad.lc.rx = s.lc.rx ∧
      s.handOverLoad.lc.clock = s.lc.clock ∧ s.handOverLoad.dp.set = s.dp.set ∧
      s.handOverLoad.lc.replies = s.lc.replies ∧ s.handOverLoad.ss.stageHold = s.ss.stageHold := by
  unfold State.handOverLoad
  try dsimp only
  (repeat' split) <;> simp

@[simp] theorem State.pickWaiting_frame (s : State) :
    s.pickWaiting.pending = s.pending ∧ s.pickWaiting.now = s.now ∧ s.pickWaiting.phase = s.phase ∧
      s.pickWaiting.li = s.li ∧ s.pickWaiting.td = s.td ∧ s.pickWaiting.as = s.as ∧ s.pickWaiting.cu = s.cu ∧
      s.pickWaiting.jn = s.jn ∧ s.pickWaiting.au = s.au ∧ s.pickWaiting.store = s.store ∧
      s.pickWaiting.lc.outstanding = s.lc.outstanding ∧ s.pickWaiting.lc.rx = s.lc.rx ∧
      s.pickWaiting.lc.clock = s.lc.clock ∧ s.pickWaiting.dp.set = s.dp.set ∧
      s.pickWaiting.lc.replies = s.lc.replies ∧ s.pickWaiting.ss.stageHold = s.ss.stageHold := by
  unfold State.pickWaiting
  try dsimp only
  (repeat' split) <;> simp

@[simp] theorem State.missed_frame (s : State) (c : Cass) :
    (s.missed c).pending = s.pending ∧ (s.missed c).now = s.now ∧ (s.missed c).phase = s.phase ∧
      (s.missed c).li = s.li ∧ (s.missed c).td = s.td ∧ (s.missed c).as = s.as ∧ (s.missed c).cu = s.cu ∧
      (s.missed c).jn = s.jn ∧ (s.missed c).au = s.au ∧ (s.missed c).store = s.store ∧
      (s.missed c).lc.outstanding = s.lc.outstanding ∧ (s.missed c).lc.rx = s.lc.rx ∧
      (s.missed c).lc.clock = s.lc.clock ∧ (s.missed c).dp.set = s.dp.set ∧ (s.missed c).lc.replies = s.lc.replies ∧
      (s.missed c).ss.stageHold = s.ss.stageHold := by
  unfold State.missed
  try dsimp only
  (repeat' split) <;> simp

@[simp] theorem State.onPickMiss_frame (s : State) :
    s.onPickMiss.pending = s.pending ∧ s.onPickMiss.phase = s.phase ∧ s.onPickMiss.li = s.li ∧
      s.onPickMiss.td = s.td ∧ s.onPickMiss.as = s.as ∧ s.onPickMiss.cu = s.cu ∧ s.onPickMiss.jn = s.jn ∧
      s.onPickMiss.au = s.au ∧ s.onPickMiss.store = s.store ∧ s.onPickMiss.lc.outstanding = s.lc.outstanding ∧
      s.onPickMiss.lc.rx = s.lc.rx ∧ s.onPickMiss.lc.clock = s.lc.clock ∧ s.onPickMiss.dp.set = s.dp.set ∧
      s.onPickMiss.lc.replies = s.lc.replies ∧ s.onPickMiss.ss.stageHold = s.ss.stageHold := by
  unfold State.onPickMiss
  try dsimp only
  (repeat' split) <;> simp

@[simp] theorem State.noteReaches_frame (s : State) (t : Nat) :
    (s.noteReaches t).pending = s.pending ∧ (s.noteReaches t).now = s.now ∧ (s.noteReaches t).phase = s.phase ∧
      (s.noteReaches t).li = s.li ∧ (s.noteReaches t).td = s.td ∧ (s.noteReaches t).as = s.as ∧
      (s.noteReaches t).dp = s.dp ∧ (s.noteReaches t).ss = s.ss ∧ (s.noteReaches t).cu = s.cu ∧
      (s.noteReaches t).jn = s.jn ∧ (s.noteReaches t).au = s.au ∧ (s.noteReaches t).store = s.store ∧
      (s.noteReaches t).lc.outstanding = s.lc.outstanding ∧ (s.noteReaches t).lc.rx = s.lc.rx ∧
      (s.noteReaches t).lc.clock = s.lc.clock ∧ (s.noteReaches t).lc.replies = s.lc.replies := by
  unfold State.noteReaches
  try dsimp only
  (repeat' split) <;> simp

@[simp] theorem State.onNoteAtGauge_frame (reading : Nat) (s : State) :
    (State.onNoteAtGauge reading s).pending = s.pending ∧ (State.onNoteAtGauge reading s).now = s.now ∧
      (State.onNoteAtGauge reading s).phase = s.phase ∧ (State.onNoteAtGauge reading s).li = s.li ∧
      (State.onNoteAtGauge reading s).td = s.td ∧ (State.onNoteAtGauge reading s).as = s.as ∧
      (State.onNoteAtGauge reading s).dp = s.dp ∧ (State.onNoteAtGauge reading s).ss = s.ss ∧
      (State.onNoteAtGauge reading s).cu = s.cu ∧ (State.onNoteAtGauge reading s).jn = s.jn ∧
      (State.onNoteAtGauge reading s).au = s.au ∧ (State.onNoteAtGauge reading s).store = s.store ∧
      (State.onNoteAtGauge reading s).lc.outstanding = s.lc.outstanding ∧
      (State.onNoteAtGauge reading s).lc.rx = s.lc.rx ∧ (State.onNoteAtGauge reading s).lc.clock = s.lc.clock ∧
      (State.onNoteAtGauge reading s).lc.replies = s.lc.replies := by
  simp [State.onNoteAtGauge]

@[simp] theorem State.applySingle_frame (s : State) (c : Cass) (reading : Nat) :
    (s.applySingle c reading).pending = s.pending ∧ (s.applySingle c reading).now = s.now ∧
      (s.applySingle c reading).phase = s.phase ∧ (s.applySingle c reading).li = s.li ∧
      (s.applySingle c reading).td = s.td ∧ (s.applySingle c reading).as = s.as ∧
      (s.applySingle c reading).cu = s.cu ∧ (s.applySingle c reading).jn = s.jn ∧
      (s.applySingle c reading).au = s.au ∧ (s.applySingle c reading).store = s.store ∧
      (s.applySingle c reading).lc.outstanding = s.lc.outstanding ∧ (s.applySingle c reading).lc.rx = s.lc.rx ∧
      (s.applySingle c reading).lc.clock = s.lc.clock ∧ (s.applySingle c reading).dp.set = s.dp.set ∧
      (s.applySingle c reading).lc.replies = s.lc.replies ∧
      (s.applySingle c reading).ss.stageHold = s.ss.stageHold := by
  unfold State.applySingle
  try dsimp only
  (repeat' split) <;> simp

@[simp] theorem State.applyDouble_frame (s : State) (c : Cass) :
    (s.applyDouble c).pending = s.pending ∧ (s.applyDouble c).now = s.now ∧ (s.applyDouble c).phase = s.phase ∧
      (s.applyDouble c).li = s.li ∧ (s.applyDouble c).td = s.td ∧ (s.applyDouble c).as = s.as ∧
      (s.applyDouble c).dp = s.dp ∧ (s.applyDouble c).ss = s.ss ∧ (s.applyDouble c).cu = s.cu ∧
      (s.applyDouble c).jn = s.jn ∧ (s.applyDouble c).au = s.au ∧ (s.applyDouble c).store = s.store ∧
      (s.applyDouble c).lc.outstanding = s.lc.outstanding ∧ (s.applyDouble c).lc.rx = s.lc.rx ∧
      (s.applyDouble c).lc.clock = s.lc.clock ∧ (s.applyDouble c).lc.replies = s.lc.replies := by
  unfold State.applyDouble
  try dsimp only
  (repeat' split) <;> simp

@[simp] theorem State.applyThin_frame (s : State) (c : Cass) :
    (s.applyThin c).pending = s.pending ∧ (s.applyThin c).now = s.now ∧ (s.applyThin c).phase = s.phase ∧
      (s.applyThin c).li = s.li ∧ (s.applyThin c).td = s.td ∧ (s.applyThin c).as = s.as ∧ (s.applyThin c).dp = s.dp ∧
      (s.applyThin c).ss = s.ss ∧ (s.applyThin c).cu = s.cu ∧ (s.applyThin c).jn = s.jn ∧ (s.applyThin c).au = s.au ∧
      (s.applyThin c).store = s.store ∧ (s.applyThin c).lc.outstanding = s.lc.outstanding ∧
      (s.applyThin c).lc.rx = s.lc.rx ∧ (s.applyThin c).lc.clock = s.lc.clock ∧
      (s.applyThin c).lc.replies = s.lc.replies := by
  simp [State.applyThin]

@[simp] theorem State.applyOutcome_frame (s : State) (c : Cass) (g : Gauge) :
    (s.applyOutcome c g).pending = s.pending ∧ (s.applyOutcome c g).now = s.now ∧
      (s.applyOutcome c g).phase = s.phase ∧ (s.applyOutcome c g).li = s.li ∧ (s.applyOutcome c g).td = s.td ∧
      (s.applyOutcome c g).as = s.as ∧ (s.applyOutcome c g).cu = s.cu ∧ (s.applyOutcome c g).jn = s.jn ∧
      (s.applyOutcome c g).au = s.au ∧ (s.applyOutcome c g).store = s.store ∧
      (s.applyOutcome c g).lc.outstanding = s.lc.outstanding ∧ (s.applyOutcome c g).lc.rx = s.lc.rx ∧
      (s.applyOutcome c g).lc.clock = s.lc.clock ∧ (s.applyOutcome c g).dp.set = s.dp.set ∧
      (s.applyOutcome c g).lc.replies = s.lc.replies ∧ (s.applyOutcome c g).ss.stageHold = s.ss.stageHold := by
  unfold State.applyOutcome
  try dsimp only
  (repeat' split) <;> simp

@[simp] theorem State.afterOutcome_frame (s : State) (c : Cass) :
    (s.afterOutcome c).pending = s.pending ∧ (s.afterOutcome c).now = s.now ∧ (s.afterOutcome c).phase = s.phase ∧
      (s.afterOutcome c).li = s.li ∧ (s.afterOutcome c).td = s.td ∧ (s.afterOutcome c).as = s.as ∧
      (s.afterOutcome c).cu = s.cu ∧ (s.afterOutcome c).jn = s.jn ∧ (s.afterOutcome c).au = s.au ∧
      (s.afterOutcome c).store = s.store ∧ (s.afterOutcome c).lc.outstanding = s.lc.outstanding ∧
      (s.afterOutcome c).lc.rx = s.lc.rx ∧ (s.afterOutcome c).lc.clock = s.lc.clock ∧
      (s.afterOutcome c).dp.set = s.dp.set ∧ (s.afterOutcome c).lc.replies = s.lc.replies ∧
      (s.afterOutcome c).ss.stageHold = s.ss.stageHold := by
  unfold State.afterOutcome
  try dsimp only
  (repeat' split) <;> simp

@[simp] theorem State.noteLeaves_frame (s : State) (g : Gauge) :
    (s.noteLeaves g).pending = s.pending ∧ (s.noteLeaves g).now = s.now ∧ (s.noteLeaves g).phase = s.phase ∧
      (s.noteLeaves g).li = s.li ∧ (s.noteLeaves g).td = s.td ∧ (s.noteLeaves g).as = s.as ∧
      (s.noteLeaves g).cu = s.cu ∧ (s.noteLeaves g).jn = s.jn ∧ (s.noteLeaves g).au = s.au ∧
      (s.noteLeaves g).store = s.store ∧ (s.noteLeaves g).lc.outstanding = s.lc.outstanding ∧
      (s.noteLeaves g).lc.rx = s.lc.rx ∧ (s.noteLeaves g).lc.clock = s.lc.clock ∧
      (s.noteLeaves g).dp.set = s.dp.set ∧ (s.noteLeaves g).lc.replies = s.lc.replies ∧
      (s.noteLeaves g).ss.stageHold = s.ss.stageHold := by
  unfold State.noteLeaves
  try dsimp only
  (repeat' split) <;> simp

@[simp] theorem State.onNoteLeavesGauge_frame (s : State) :
    s.onNoteLeavesGauge.pending = s.pending ∧ s.onNoteLeavesGauge.now = s.now ∧ s.onNoteLeavesGauge.phase = s.phase ∧
      s.onNoteLeavesGauge.li = s.li ∧ s.onNoteLeavesGauge.td = s.td ∧ s.onNoteLeavesGauge.as = s.as ∧
      s.onNoteLeavesGauge.cu = s.cu ∧ s.onNoteLeavesGauge.jn = s.jn ∧ s.onNoteLeavesGauge.au = s.au ∧
      s.onNoteLeavesGauge.store = s.store ∧ s.onNoteLeavesGauge.lc.outstanding = s.lc.outstanding ∧
      s.onNoteLeavesGauge.lc.rx = s.lc.rx ∧ s.onNoteLeavesGauge.lc.clock = s.lc.clock ∧
      s.onNoteLeavesGauge.dp.set = s.dp.set ∧ s.onNoteLeavesGauge.lc.replies = s.lc.replies ∧
      s.onNoteLeavesGauge.ss.stageHold = s.ss.stageHold := by
  unfold State.onNoteLeavesGauge
  try dsimp only
  (repeat' split) <;> simp

@[simp] theorem State.jam_frame (s : State) (g : Gauge) :
    (s.jam g).pending = s.pending ∧ (s.jam g).now = s.now ∧ (s.jam g).phase = s.phase ∧ (s.jam g).li = s.li ∧
      (s.jam g).td = s.td ∧ (s.jam g).as = s.as ∧ (s.jam g).cu = s.cu ∧ (s.jam g).jn = s.jn ∧ (s.jam g).au = s.au ∧
      (s.jam g).store = s.store ∧ (s.jam g).lc.outstanding = s.lc.outstanding ∧ (s.jam g).lc.rx = s.lc.rx ∧
      (s.jam g).lc.clock = s.lc.clock ∧ (s.jam g).dp.set = s.dp.set ∧ (s.jam g).lc.replies = s.lc.replies ∧
      (s.jam g).ss.stageHold = s.ss.stageHold := by
  unfold State.jam
  try dsimp only
  (repeat' split) <;> simp

@[simp] theorem State.onGaugeTimeout_frame (s : State) :
    s.onGaugeTimeout.pending = s.pending ∧ s.onGaugeTimeout.phase = s.phase ∧ s.onGaugeTimeout.li = s.li ∧
      s.onGaugeTimeout.td = s.td ∧ s.onGaugeTimeout.as = s.as ∧ s.onGaugeTimeout.cu = s.cu ∧
      s.onGaugeTimeout.jn = s.jn ∧ s.onGaugeTimeout.au = s.au ∧ s.onGaugeTimeout.store = s.store ∧
      s.onGaugeTimeout.lc.outstanding = s.lc.outstanding ∧ s.onGaugeTimeout.lc.rx = s.lc.rx ∧
      s.onGaugeTimeout.lc.clock = s.lc.clock ∧ s.onGaugeTimeout.dp.set = s.dp.set ∧
      s.onGaugeTimeout.lc.replies = s.lc.replies ∧ s.onGaugeTimeout.ss.stageHold = s.ss.stageHold := by
  unfold State.onGaugeTimeout
  try dsimp only
  (repeat' split) <;> simp

@[simp] theorem State.halt_frame (s : State) :
    s.halt.pending = s.pending ∧ s.halt.now = s.now ∧ s.halt.li = s.li ∧ s.halt.td = s.td ∧ s.halt.cu = s.cu ∧
      s.halt.jn = s.jn ∧ s.halt.au = s.au ∧ s.halt.store = s.store ∧ s.halt.lc.outstanding = s.lc.outstanding ∧
      s.halt.lc.rx = s.lc.rx ∧ s.halt.lc.clock = s.lc.clock ∧ s.halt.dp.set = s.dp.set ∧
      s.halt.lc.replies = s.lc.replies ∧ s.halt.ss.stageHold = s.ss.stageHold := by
  unfold State.halt
  try dsimp only
  (repeat' split) <;> simp

@[simp] theorem State.safeDoor_frame (s : State) (opened : Bool) :
    (s.safeDoor opened).pending = s.pending ∧ (s.safeDoor opened).now = s.now ∧ (s.safeDoor opened).cu = s.cu ∧
      (s.safeDoor opened).store = s.store ∧ (s.safeDoor opened).jn.mem = s.jn.mem ∧
      (s.safeDoor opened).lc.outstanding = s.lc.outstanding ∧ (s.safeDoor opened).lc.rx = s.lc.rx ∧
      (s.safeDoor opened).lc.clock = s.lc.clock ∧ laneCores (s.safeDoor opened).li.lanes = laneCores s.li.lanes ∧
      (s.safeDoor opened).td.bays = s.td.bays ∧ (s.safeDoor opened).dp.set = s.dp.set ∧
      (s.safeDoor opened).lc.replies = s.lc.replies ∧ (s.safeDoor opened).td.move = s.td.move ∧
      (s.safeDoor opened).au.missing = s.au.missing ∧ (s.safeDoor opened).au.period = s.au.period ∧
      (s.safeDoor opened).au.keySwitch = s.au.keySwitch ∧ (s.safeDoor opened).ss.stageHold = s.ss.stageHold := by
  unfold State.safeDoor
  try dsimp only
  (repeat' split) <;> simp

@[simp] theorem State.onClearingEnd_frame (pathClear : Bool) (s : State) :
    (State.onClearingEnd pathClear s).pending = s.pending ∧ (State.onClearingEnd pathClear s).li = s.li ∧
      (State.onClearingEnd pathClear s).td = s.td ∧ (State.onClearingEnd pathClear s).dp = s.dp ∧
      (State.onClearingEnd pathClear s).ss = s.ss ∧ (State.onClearingEnd pathClear s).cu = s.cu ∧
      (State.onClearingEnd pathClear s).jn = s.jn ∧ (State.onClearingEnd pathClear s).au = s.au ∧
      (State.onClearingEnd pathClear s).store = s.store ∧
      (State.onClearingEnd pathClear s).lc.outstanding = s.lc.outstanding ∧
      (State.onClearingEnd pathClear s).lc.rx = s.lc.rx ∧ (State.onClearingEnd pathClear s).lc.clock = s.lc.clock ∧
      (State.onClearingEnd pathClear s).lc.replies = s.lc.replies := by
  unfold State.onClearingEnd
  try dsimp only
  (repeat' split) <;> simp

@[simp] theorem State.slotSensor_frame (s : State) (c : Cass) (present : Bool) :
    (s.slotSensor c present).pending = s.pending ∧ (s.slotSensor c present).now = s.now ∧
      (s.slotSensor c present).phase = s.phase ∧ (s.slotSensor c present).li = s.li ∧
      (s.slotSensor c present).td = s.td ∧ (s.slotSensor c present).as = s.as ∧ (s.slotSensor c present).dp = s.dp ∧
      (s.slotSensor c present).ss = s.ss ∧ (s.slotSensor c present).cu = s.cu ∧ (s.slotSensor c present).jn = s.jn ∧
      (s.slotSensor c present).au = s.au ∧ (s.slotSensor c present).store = s.store ∧
      (s.slotSensor c present).lc.outstanding = s.lc.outstanding ∧ (s.slotSensor c present).lc.rx = s.lc.rx ∧
      (s.slotSensor c present).lc.clock = s.lc.clock ∧ (s.slotSensor c present).lc.replies = s.lc.replies := by
  unfold State.slotSensor
  try dsimp only
  (repeat' split) <;> simp

@[simp] theorem State.ownReplenish_frame (tag : Nat) (cassette : Nat) (denomination : Nat) (count : Nat) (nominal : Nat) (low : Nat) (s : State) :
    (State.ownReplenish tag cassette denomination count nominal low s).pending = s.pending ∧
      (State.ownReplenish tag cassette denomination count nominal low s).now = s.now ∧
      (State.ownReplenish tag cassette denomination count nominal low s).phase = s.phase ∧
      (State.ownReplenish tag cassette denomination count nominal low s).li = s.li ∧
      (State.ownReplenish tag cassette denomination count nominal low s).td = s.td ∧
      (State.ownReplenish tag cassette denomination count nominal low s).as = s.as ∧
      (State.ownReplenish tag cassette denomination count nominal low s).dp = s.dp ∧
      (State.ownReplenish tag cassette denomination count nominal low s).ss = s.ss ∧
      (State.ownReplenish tag cassette denomination count nominal low s).cu = s.cu ∧
      (State.ownReplenish tag cassette denomination count nominal low s).au = s.au ∧
      (State.ownReplenish tag cassette denomination count nominal low s).store = s.store ∧
      (State.ownReplenish tag cassette denomination count nominal low s).jn.mem = s.jn.mem ∧
      (State.ownReplenish tag cassette denomination count nominal low s).lc.outstanding = s.lc.outstanding ∧
      (State.ownReplenish tag cassette denomination count nominal low s).lc.rx = s.lc.rx ∧
      (State.ownReplenish tag cassette denomination count nominal low s).lc.clock = s.lc.clock := by
  unfold State.ownReplenish
  try dsimp only
  (repeat' split) <;> simp

@[simp] theorem State.replenishEnds_frame (s : State) (c : Cass) (programmed : Bool) :
    (s.replenishEnds c programmed).pending = s.pending ∧ (s.replenishEnds c programmed).now = s.now ∧
      (s.replenishEnds c programmed).phase = s.phase ∧ (s.replenishEnds c programmed).li = s.li ∧
      (s.replenishEnds c programmed).td = s.td ∧ (s.replenishEnds c programmed).as = s.as ∧
      (s.replenishEnds c programmed).dp = s.dp ∧ (s.replenishEnds c programmed).ss = s.ss ∧
      (s.replenishEnds c programmed).cu = s.cu ∧ (s.replenishEnds c programmed).jn = s.jn ∧
      (s.replenishEnds c programmed).au = s.au ∧ (s.replenishEnds c programmed).store = s.store ∧
      (s.replenishEnds c programmed).lc.outstanding = s.lc.outstanding ∧
      (s.replenishEnds c programmed).lc.rx = s.lc.rx ∧ (s.replenishEnds c programmed).lc.clock = s.lc.clock := by
  unfold State.replenishEnds
  try dsimp only
  (repeat' split) <;> simp

@[simp] theorem State.ownConfirm_frame (tag : Nat) (cassette : Nat) (s : State) :
    (State.ownConfirm tag cassette s).pending = s.pending ∧ (State.ownConfirm tag cassette s).now = s.now ∧
      (State.ownConfirm tag cassette s).phase = s.phase ∧ (State.ownConfirm tag cassette s).li = s.li ∧
      (State.ownConfirm tag cassette s).td = s.td ∧ (State.ownConfirm tag cassette s).as = s.as ∧
      (State.ownConfirm tag cassette s).dp = s.dp ∧ (State.ownConfirm tag cassette s).ss = s.ss ∧
      (State.ownConfirm tag cassette s).cu = s.cu ∧ (State.ownConfirm tag cassette s).jn = s.jn ∧
      (State.ownConfirm tag cassette s).au = s.au ∧ (State.ownConfirm tag cassette s).store = s.store ∧
      (State.ownConfirm tag cassette s).lc.outstanding = s.lc.outstanding ∧
      (State.ownConfirm tag cassette s).lc.rx = s.lc.rx ∧
      (State.ownConfirm tag cassette s).lc.clock = s.lc.clock := by
  unfold State.ownConfirm
  try dsimp only
  (repeat' split) <;> simp

@[simp] theorem State.ownCassetteStatus_frame (tag : Nat) (s : State) :
    (State.ownCassetteStatus tag s).pending = s.pending ∧ (State.ownCassetteStatus tag s).now = s.now ∧
      (State.ownCassetteStatus tag s).phase = s.phase ∧ (State.ownCassetteStatus tag s).li = s.li ∧
      (State.ownCassetteStatus tag s).td = s.td ∧ (State.ownCassetteStatus tag s).as = s.as ∧
      (State.ownCassetteStatus tag s).nd = s.nd ∧ (State.ownCassetteStatus tag s).dp = s.dp ∧
      (State.ownCassetteStatus tag s).ss = s.ss ∧ (State.ownCassetteStatus tag s).cu = s.cu ∧
      (State.ownCassetteStatus tag s).jn = s.jn ∧ (State.ownCassetteStatus tag s).au = s.au ∧
      (State.ownCassetteStatus tag s).store = s.store ∧
      (State.ownCassetteStatus tag s).lc.outstanding = s.lc.outstanding ∧
      (State.ownCassetteStatus tag s).lc.rx = s.lc.rx ∧ (State.ownCassetteStatus tag s).lc.clock = s.lc.clock := by
  simp [State.ownCassetteStatus]

@[simp] theorem State.ownClearPath_frame (tag : Nat) (s : State) :
    (State.ownClearPath tag s).pending = s.pending ∧ (State.ownClearPath tag s).now = s.now ∧
      (State.ownClearPath tag s).phase = s.phase ∧ (State.ownClearPath tag s).li = s.li ∧
      (State.ownClearPath tag s).td = s.td ∧ (State.ownClearPath tag s).as = s.as ∧
      (State.ownClearPath tag s).dp = s.dp ∧ (State.ownClearPath tag s).cu = s.cu ∧
      (State.ownClearPath tag s).jn = s.jn ∧ (State.ownClearPath tag s).au = s.au ∧
      (State.ownClearPath tag s).store = s.store ∧ (State.ownClearPath tag s).lc.outstanding = s.lc.outstanding ∧
      (State.ownClearPath tag s).lc.rx = s.lc.rx ∧ (State.ownClearPath tag s).lc.clock = s.lc.clock ∧
      (State.ownClearPath tag s).ss.stageHold = s.ss.stageHold := by
  unfold State.ownClearPath
  try dsimp only
  (repeat' split) <;> simp

@[simp] theorem State.ownBoxEmptied_frame (tag : Nat) (s : State) :
    (State.ownBoxEmptied tag s).pending = s.pending ∧ (State.ownBoxEmptied tag s).now = s.now ∧
      (State.ownBoxEmptied tag s).phase = s.phase ∧ (State.ownBoxEmptied tag s).li = s.li ∧
      (State.ownBoxEmptied tag s).td = s.td ∧ (State.ownBoxEmptied tag s).as = s.as ∧
      (State.ownBoxEmptied tag s).dp = s.dp ∧ (State.ownBoxEmptied tag s).ss = s.ss ∧
      (State.ownBoxEmptied tag s).cu = s.cu ∧ (State.ownBoxEmptied tag s).au = s.au ∧
      (State.ownBoxEmptied tag s).store = s.store ∧ (State.ownBoxEmptied tag s).jn.mem = s.jn.mem ∧
      (State.ownBoxEmptied tag s).lc.outstanding = s.lc.outstanding ∧ (State.ownBoxEmptied tag s).lc.rx = s.lc.rx ∧
      (State.ownBoxEmptied tag s).lc.clock = s.lc.clock := by
  unfold State.ownBoxEmptied
  try dsimp only
  (repeat' split) <;> simp

@[simp] theorem State.boxEmptiedEnds_frame (s : State) (programmed : Bool) :
    (s.boxEmptiedEnds programmed).pending = s.pending ∧ (s.boxEmptiedEnds programmed).now = s.now ∧
      (s.boxEmptiedEnds programmed).phase = s.phase ∧ (s.boxEmptiedEnds programmed).li = s.li ∧
      (s.boxEmptiedEnds programmed).td = s.td ∧ (s.boxEmptiedEnds programmed).as = s.as ∧
      (s.boxEmptiedEnds programmed).dp = s.dp ∧ (s.boxEmptiedEnds programmed).ss = s.ss ∧
      (s.boxEmptiedEnds programmed).cu = s.cu ∧ (s.boxEmptiedEnds programmed).jn = s.jn ∧
      (s.boxEmptiedEnds programmed).au = s.au ∧ (s.boxEmptiedEnds programmed).store = s.store ∧
      (s.boxEmptiedEnds programmed).lc.outstanding = s.lc.outstanding ∧
      (s.boxEmptiedEnds programmed).lc.rx = s.lc.rx ∧ (s.boxEmptiedEnds programmed).lc.clock = s.lc.clock := by
  unfold State.boxEmptiedEnds
  try dsimp only
  (repeat' split) <;> simp

@[simp] theorem State.ownDispenseSettings_frame (tag : Nat) (capacity : Nat) (noteCeiling : Nat) (duressCeiling : Nat) (rejectCeiling : Nat) (doubleThreshold : Nat) (s : State) :

      (State.ownDispenseSettings tag capacity noteCeiling duressCeiling rejectCeiling doubleThreshold s).pending = s.pending ∧
      (State.ownDispenseSettings tag capacity noteCeiling duressCeiling rejectCeiling doubleThreshold s).now = s.now ∧
      (State.ownDispenseSettings tag capacity noteCeiling duressCeiling rejectCeiling doubleThreshold s).phase = s.phase ∧
      (State.ownDispenseSettings tag capacity noteCeiling duressCeiling rejectCeiling doubleThreshold s).li = s.li ∧
      (State.ownDispenseSettings tag capacity noteCeiling duressCeiling rejectCeiling doubleThreshold s).td = s.td ∧
      (State.ownDispenseSettings tag capacity noteCeiling duressCeiling rejectCeiling doubleThreshold s).as = s.as ∧
      (State.ownDispenseSettings tag capacity noteCeiling duressCeiling rejectCeiling doubleThreshold s).nd = s.nd ∧
      (State.ownDispenseSettings tag capacity noteCeiling duressCeiling rejectCeiling doubleThreshold s).ss = s.ss ∧
      (State.ownDispenseSettings tag capacity noteCeiling duressCeiling rejectCeiling doubleThreshold s).cu = s.cu ∧
      (State.ownDispenseSettings tag capacity noteCeiling duressCeiling rejectCeiling doubleThreshold s).jn = s.jn ∧
      (State.ownDispenseSettings tag capacity noteCeiling duressCeiling rejectCeiling doubleThreshold s).au = s.au ∧
      (State.ownDispenseSettings tag capacity noteCeiling duressCeiling rejectCeiling doubleThreshold s).store = s.store ∧
      (State.ownDispenseSettings tag capacity noteCeiling duressCeiling rejectCeiling doubleThreshold s).lc.outstanding = s.lc.outstanding ∧
      (State.ownDispenseSettings tag capacity noteCeiling duressCeiling rejectCeiling doubleThreshold s).lc.rx = s.lc.rx ∧
      (State.ownDispenseSettings tag capacity noteCeiling duressCeiling rejectCeiling doubleThreshold s).lc.clock = s.lc.clock := by
  simp [State.ownDispenseSettings]

@[simp] theorem State.createLoad_frame (s : State) (l : Lane) (reference : Nat) (autoSend : Bool) (order : List Cass) (count : Nat) (index : Nat) (notes : Four Nat) :
    (s.createLoad l reference autoSend order count index notes).1.pending = s.pending ∧
      (s.createLoad l reference autoSend order count index notes).1.now = s.now ∧
      (s.createLoad l reference autoSend order count index notes).1.phase = s.phase ∧
      (s.createLoad l reference autoSend order count index notes).1.li = s.li ∧
      (s.createLoad l reference autoSend order count index notes).1.td = s.td ∧
      (s.createLoad l reference autoSend order count index notes).1.as = s.as ∧
      (s.createLoad l reference autoSend order count index notes).1.nd = s.nd ∧
      (s.createLoad l reference autoSend order count index notes).1.ss = s.ss ∧
      (s.createLoad l reference autoSend order count index notes).1.cu = s.cu ∧
      (s.createLoad l reference autoSend order count index notes).1.jn = s.jn ∧
      (s.createLoad l reference autoSend order count index notes).1.au = s.au ∧
      (s.createLoad l reference autoSend order count index notes).1.lc = s.lc ∧
      (s.createLoad l reference autoSend order count index notes).1.store = s.store := by
  unfold State.createLoad
  try dsimp only
  (repeat' split) <;> simp

@[simp] theorem State.createLoads_frame (s : State) (l : Lane) (reference : Nat) (autoSend : Bool) (order : List Cass) (count : Nat) (x0 : Nat) (x1 : List (Four Nat)) :
    (s.createLoads l reference autoSend order count x0 x1).1.pending = s.pending ∧
      (s.createLoads l reference autoSend order count x0 x1).1.now = s.now ∧
      (s.createLoads l reference autoSend order count x0 x1).1.phase = s.phase ∧
      (s.createLoads l reference autoSend order count x0 x1).1.li = s.li ∧
      (s.createLoads l reference autoSend order count x0 x1).1.td = s.td ∧
      (s.createLoads l reference autoSend order count x0 x1).1.as = s.as ∧
      (s.createLoads l reference autoSend order count x0 x1).1.nd = s.nd ∧
      (s.createLoads l reference autoSend order count x0 x1).1.ss = s.ss ∧
      (s.createLoads l reference autoSend order count x0 x1).1.cu = s.cu ∧
      (s.createLoads l reference autoSend order count x0 x1).1.jn = s.jn ∧
      (s.createLoads l reference autoSend order count x0 x1).1.au = s.au ∧
      (s.createLoads l reference autoSend order count x0 x1).1.lc = s.lc ∧
      (s.createLoads l reference autoSend order count x0 x1).1.store = s.store := by
  induction x1 generalizing s x0 with
  | nil => simp [State.createLoads]
  | cons _ _ ih => simp [State.createLoads, ih]

@[simp] theorem State.commit_frame (s : State) (notes : Four Nat) :
    (s.commit notes).pending = s.pending ∧ (s.commit notes).now = s.now ∧ (s.commit notes).phase = s.phase ∧
      (s.commit notes).li = s.li ∧ (s.commit notes).td = s.td ∧ (s.commit notes).as = s.as ∧
      (s.commit notes).dp = s.dp ∧ (s.commit notes).ss = s.ss ∧ (s.commit notes).cu = s.cu ∧
      (s.commit notes).jn = s.jn ∧ (s.commit notes).au = s.au ∧ (s.commit notes).lc = s.lc ∧
      (s.commit notes).store = s.store := by
  simp [State.commit, Ix4.all]

@[simp] theorem State.acceptDispense_frame (s : State) (tag : Nat) (l : Lane) (asked : Nat) (planned : Nat) (reference : Nat) (autoSend : Bool) (p : Plan) :
    (s.acceptDispense tag l asked planned reference autoSend p).pending = s.pending ∧
      (s.acceptDispense tag l asked planned reference autoSend p).now = s.now ∧
      (s.acceptDispense tag l asked planned reference autoSend p).phase = s.phase ∧
      (s.acceptDispense tag l asked planned reference autoSend p).li = s.li ∧
      (s.acceptDispense tag l asked planned reference autoSend p).td = s.td ∧
      (s.acceptDispense tag l asked planned reference autoSend p).as = s.as ∧
      (s.acceptDispense tag l asked planned reference autoSend p).cu = s.cu ∧
      (s.acceptDispense tag l asked planned reference autoSend p).jn = s.jn ∧
      (s.acceptDispense tag l asked planned reference autoSend p).au = s.au ∧
      (s.acceptDispense tag l asked planned reference autoSend p).store = s.store ∧
      (s.acceptDispense tag l asked planned reference autoSend p).lc.outstanding = s.lc.outstanding ∧
      (s.acceptDispense tag l asked planned reference autoSend p).lc.rx = s.lc.rx ∧
      (s.acceptDispense tag l asked planned reference autoSend p).lc.clock = s.lc.clock ∧
      (s.acceptDispense tag l asked planned reference autoSend p).ss.stageHold = s.ss.stageHold := by
  unfold State.acceptDispense
  try dsimp only
  (repeat' split) <;> simp

@[simp] theorem State.ownDispense_frame (tag : Nat) (lane : Nat) (amount : Nat) (autoSend : Nat) (reference : Nat) (s : State) :
    (State.ownDispense tag lane amount autoSend reference s).pending = s.pending ∧
      (State.ownDispense tag lane amount autoSend reference s).now = s.now ∧
      (State.ownDispense tag lane amount autoSend reference s).phase = s.phase ∧
      (State.ownDispense tag lane amount autoSend reference s).li = s.li ∧
      (State.ownDispense tag lane amount autoSend reference s).td = s.td ∧
      (State.ownDispense tag lane amount autoSend reference s).as = s.as ∧
      (State.ownDispense tag lane amount autoSend reference s).cu = s.cu ∧
      (State.ownDispense tag lane amount autoSend reference s).jn = s.jn ∧
      (State.ownDispense tag lane amount autoSend reference s).au = s.au ∧
      (State.ownDispense tag lane amount autoSend reference s).store = s.store ∧
      (State.ownDispense tag lane amount autoSend reference s).lc.outstanding = s.lc.outstanding ∧
      (State.ownDispense tag lane amount autoSend reference s).lc.rx = s.lc.rx ∧
      (State.ownDispense tag lane amount autoSend reference s).lc.clock = s.lc.clock ∧
      (State.ownDispense tag lane amount autoSend reference s).ss.stageHold = s.ss.stageHold := by
  unfold State.ownDispense
  try dsimp only
  (repeat' split) <;> simp

@[simp] theorem State.withdraw_frame (s : State) :
    s.withdraw.pending = s.pending ∧ s.withdraw.now = s.now ∧ s.withdraw.phase = s.phase ∧ s.withdraw.li = s.li ∧
      s.withdraw.td = s.td ∧ s.withdraw.as = s.as ∧ s.withdraw.nd = s.nd ∧ s.withdraw.dp = s.dp ∧
      s.withdraw.cu = s.cu ∧ s.withdraw.jn = s.jn ∧ s.withdraw.au = s.au ∧ s.withdraw.lc = s.lc ∧
      s.withdraw.store = s.store ∧ s.withdraw.ss.stageHold = s.ss.stageHold := by
  unfold State.withdraw
  try dsimp only
  (repeat' split) <;> simp

@[simp] theorem State.cancelOne_frame (s : State) (ld : Load) :
    (s.cancelOne ld).pending = s.pending ∧ (s.cancelOne ld).now = s.now ∧ (s.cancelOne ld).phase = s.phase ∧
      (s.cancelOne ld).li = s.li ∧ (s.cancelOne ld).as = s.as ∧ (s.cancelOne ld).cu = s.cu ∧
      (s.cancelOne ld).au = s.au ∧ (s.cancelOne ld).store = s.store ∧ (s.cancelOne ld).jn.mem = s.jn.mem ∧
      (s.cancelOne ld).lc.outstanding = s.lc.outstanding ∧ (s.cancelOne ld).lc.rx = s.lc.rx ∧
      (s.cancelOne ld).lc.clock = s.lc.clock ∧ (s.cancelOne ld).td.bays = s.td.bays ∧
      (s.cancelOne ld).dp.set = s.dp.set ∧ (s.cancelOne ld).lc.replies = s.lc.replies ∧
      (s.cancelOne ld).td.move = s.td.move ∧ (s.cancelOne ld).td.queue = s.td.queue ∧
      (s.cancelOne ld).ss.stageHold = s.ss.stageHold := by
  unfold State.cancelOne
  try dsimp only
  (repeat' split) <;> simp

@[simp] theorem State.cancelEach_frame (s : State) (lds : List Load) :
    (s.cancelEach lds).pending = s.pending ∧ (s.cancelEach lds).now = s.now ∧ (s.cancelEach lds).phase = s.phase ∧
      (s.cancelEach lds).li = s.li ∧ (s.cancelEach lds).as = s.as ∧ (s.cancelEach lds).cu = s.cu ∧
      (s.cancelEach lds).au = s.au ∧ (s.cancelEach lds).store = s.store ∧ (s.cancelEach lds).jn.mem = s.jn.mem ∧
      (s.cancelEach lds).lc.outstanding = s.lc.outstanding ∧ (s.cancelEach lds).lc.rx = s.lc.rx ∧
      (s.cancelEach lds).lc.clock = s.lc.clock ∧ (s.cancelEach lds).td.bays = s.td.bays ∧
      (s.cancelEach lds).dp.set = s.dp.set ∧ (s.cancelEach lds).lc.replies = s.lc.replies ∧
      (s.cancelEach lds).td.move = s.td.move ∧ (s.cancelEach lds).td.queue = s.td.queue ∧
      (s.cancelEach lds).ss.stageHold = s.ss.stageHold := by
  unfold State.cancelEach
  induction lds generalizing s with
  | nil => simp
  | cons _ _ ih => simp [ih]

@[simp] theorem State.takeCancel_frame (s : State) (tag : Nat) (l : Lane) :
    (s.takeCancel tag l).pending = s.pending ∧ (s.takeCancel tag l).now = s.now ∧
      (s.takeCancel tag l).phase = s.phase ∧ (s.takeCancel tag l).li = s.li ∧ (s.takeCancel tag l).as = s.as ∧
      (s.takeCancel tag l).cu = s.cu ∧ (s.takeCancel tag l).au = s.au ∧ (s.takeCancel tag l).store = s.store ∧
      (s.takeCancel tag l).jn.mem = s.jn.mem ∧ (s.takeCancel tag l).lc.outstanding = s.lc.outstanding ∧
      (s.takeCancel tag l).lc.rx = s.lc.rx ∧ (s.takeCancel tag l).lc.clock = s.lc.clock ∧
      (s.takeCancel tag l).td.bays = s.td.bays ∧ (s.takeCancel tag l).dp.set = s.dp.set ∧
      (s.takeCancel tag l).td.move = s.td.move ∧ (s.takeCancel tag l).td.queue = s.td.queue ∧
      (s.takeCancel tag l).ss.stageHold = s.ss.stageHold := by
  unfold State.takeCancel
  try dsimp only
  (repeat' split) <;> simp

@[simp] theorem State.ownCancelDispense_frame (tag : Nat) (lane : Nat) (s : State) :
    (State.ownCancelDispense tag lane s).pending = s.pending ∧ (State.ownCancelDispense tag lane s).now = s.now ∧
      (State.ownCancelDispense tag lane s).phase = s.phase ∧ (State.ownCancelDispense tag lane s).li = s.li ∧
      (State.ownCancelDispense tag lane s).as = s.as ∧ (State.ownCancelDispense tag lane s).cu = s.cu ∧
      (State.ownCancelDispense tag lane s).au = s.au ∧ (State.ownCancelDispense tag lane s).store = s.store ∧
      (State.ownCancelDispense tag lane s).jn.mem = s.jn.mem ∧
      (State.ownCancelDispense tag lane s).lc.outstanding = s.lc.outstanding ∧
      (State.ownCancelDispense tag lane s).lc.rx = s.lc.rx ∧
      (State.ownCancelDispense tag lane s).lc.clock = s.lc.clock ∧
      (State.ownCancelDispense tag lane s).td.bays = s.td.bays ∧
      (State.ownCancelDispense tag lane s).dp.set = s.dp.set ∧
      (State.ownCancelDispense tag lane s).td.move = s.td.move ∧
      (State.ownCancelDispense tag lane s).td.queue = s.td.queue ∧
      (State.ownCancelDispense tag lane s).ss.stageHold = s.ss.stageHold := by
  unfold State.ownCancelDispense
  try dsimp only
  (repeat' split) <;> simp

@[simp] theorem State.takeDeferred_frame (s : State) :
    s.takeDeferred.pending = s.pending ∧ s.takeDeferred.now = s.now ∧ s.takeDeferred.phase = s.phase ∧
      s.takeDeferred.li = s.li ∧ s.takeDeferred.as = s.as ∧ s.takeDeferred.cu = s.cu ∧ s.takeDeferred.au = s.au ∧
      s.takeDeferred.store = s.store ∧ s.takeDeferred.jn.mem = s.jn.mem ∧
      s.takeDeferred.lc.outstanding = s.lc.outstanding ∧ s.takeDeferred.lc.rx = s.lc.rx ∧
      s.takeDeferred.lc.clock = s.lc.clock ∧ s.takeDeferred.td.bays = s.td.bays ∧ s.takeDeferred.dp.set = s.dp.set ∧
      s.takeDeferred.td.move = s.td.move ∧ s.takeDeferred.td.queue = s.td.queue ∧
      s.takeDeferred.ss.stageHold = s.ss.stageHold := by
  unfold State.takeDeferred
  try dsimp only
  (repeat' split) <;> simp

@[simp] theorem State.startTransfer_frame (s : State) :
    s.startTransfer.pending = s.pending ∧ s.startTransfer.now = s.now ∧ s.startTransfer.phase = s.phase ∧
      s.startTransfer.li = s.li ∧ s.startTransfer.td = s.td ∧ s.startTransfer.as = s.as ∧ s.startTransfer.nd = s.nd ∧
      s.startTransfer.dp = s.dp ∧ s.startTransfer.cu = s.cu ∧ s.startTransfer.au = s.au ∧
      s.startTransfer.store = s.store ∧ s.startTransfer.jn.mem = s.jn.mem ∧
      s.startTransfer.lc.outstanding = s.lc.outstanding ∧ s.startTransfer.lc.rx = s.lc.rx ∧
      s.startTransfer.lc.clock = s.lc.clock ∧ s.startTransfer.lc.replies = s.lc.replies ∧
      s.startTransfer.ss.stageHold = s.ss.stageHold := by
  unfold State.startTransfer
  try dsimp only
  (repeat' split) <;> simp

@[simp] theorem State.transferEnds_frame (s : State) (id : Nat) (seq : Nat) (programmed : Bool) :
    (s.transferEnds id seq programmed).pending = s.pending ∧ (s.transferEnds id seq programmed).now = s.now ∧
      (s.transferEnds id seq programmed).phase = s.phase ∧ (s.transferEnds id seq programmed).li = s.li ∧
      (s.transferEnds id seq programmed).td = s.td ∧ (s.transferEnds id seq programmed).as = s.as ∧
      (s.transferEnds id seq programmed).nd = s.nd ∧ (s.transferEnds id seq programmed).cu = s.cu ∧
      (s.transferEnds id seq programmed).jn = s.jn ∧ (s.transferEnds id seq programmed).au = s.au ∧
      (s.transferEnds id seq programmed).store = s.store ∧
      (s.transferEnds id seq programmed).lc.outstanding = s.lc.outstanding ∧
      (s.transferEnds id seq programmed).lc.rx = s.lc.rx ∧ (s.transferEnds id seq programmed).lc.clock = s.lc.clock ∧
      (s.transferEnds id seq programmed).dp.set = s.dp.set ∧
      (s.transferEnds id seq programmed).lc.replies = s.lc.replies ∧
      (s.transferEnds id seq programmed).ss.stageHold = s.ss.stageHold := by
  unfold State.transferEnds
  try dsimp only
  (repeat' split) <;> simp

@[simp] theorem State.askPresenting_frame (s : State) :
    s.askPresenting.pending = s.pending ∧ s.askPresenting.now = s.now ∧ s.askPresenting.phase = s.phase ∧
      s.askPresenting.li = s.li ∧ s.askPresenting.as = s.as ∧ s.askPresenting.nd = s.nd ∧ s.askPresenting.cu = s.cu ∧
      s.askPresenting.jn = s.jn ∧ s.askPresenting.au = s.au ∧ s.askPresenting.lc = s.lc ∧
      s.askPresenting.store = s.store ∧ s.askPresenting.td.bays = s.td.bays ∧ s.askPresenting.dp.set = s.dp.set ∧
      s.askPresenting.td.move = s.td.move ∧ s.askPresenting.td.queue = s.td.queue ∧
      s.askPresenting.ss.stageHold = s.ss.stageHold := by
  unfold State.askPresenting
  try dsimp only
  (repeat' split) <;> simp

@[simp] theorem State.onPushTimeout_frame (s : State) :
    s.onPushTimeout.pending = s.pending ∧ s.onPushTimeout.phase = s.phase ∧ s.onPushTimeout.li = s.li ∧
      s.onPushTimeout.td = s.td ∧ s.onPushTimeout.as = s.as ∧ s.onPushTimeout.nd = s.nd ∧ s.onPushTimeout.dp = s.dp ∧
      s.onPushTimeout.cu = s.cu ∧ s.onPushTimeout.jn = s.jn ∧ s.onPushTimeout.au = s.au ∧ s.onPushTimeout.lc = s.lc ∧
      s.onPushTimeout.store = s.store ∧ s.onPushTimeout.ss.stageHold = s.ss.stageHold := by
  unfold State.onPushTimeout
  try dsimp only
  (repeat' split) <;> simp

@[simp] theorem State.holdExpires_frame (s : State) (ld : Load) :
    (s.holdExpires ld).pending = s.pending ∧ (s.holdExpires ld).now = s.now ∧ (s.holdExpires ld).phase = s.phase ∧
      (s.holdExpires ld).li = s.li ∧ (s.holdExpires ld).as = s.as ∧ (s.holdExpires ld).cu = s.cu ∧
      (s.holdExpires ld).au = s.au ∧ (s.holdExpires ld).store = s.store ∧ (s.holdExpires ld).jn.mem = s.jn.mem ∧
      (s.holdExpires ld).lc.outstanding = s.lc.outstanding ∧ (s.holdExpires ld).lc.rx = s.lc.rx ∧
      (s.holdExpires ld).lc.clock = s.lc.clock ∧ (s.holdExpires ld).td.bays = s.td.bays ∧
      (s.holdExpires ld).dp.set = s.dp.set ∧ (s.holdExpires ld).lc.replies = s.lc.replies ∧
      (s.holdExpires ld).td.move = s.td.move ∧ (s.holdExpires ld).td.queue = s.td.queue ∧
      (s.holdExpires ld).ss.stageHold = s.ss.stageHold := by
  simp [State.holdExpires]

@[simp] theorem State.presentFails_frame (s : State) (ld : Load) :
    (s.presentFails ld).pending = s.pending ∧ (s.presentFails ld).now = s.now ∧ (s.presentFails ld).phase = s.phase ∧
      (s.presentFails ld).li = s.li ∧ (s.presentFails ld).as = s.as ∧ (s.presentFails ld).cu = s.cu ∧
      (s.presentFails ld).au = s.au ∧ (s.presentFails ld).store = s.store ∧ (s.presentFails ld).jn.mem = s.jn.mem ∧
      (s.presentFails ld).lc.outstanding = s.lc.outstanding ∧ (s.presentFails ld).lc.rx = s.lc.rx ∧
      (s.presentFails ld).lc.clock = s.lc.clock ∧ (s.presentFails ld).td.bays = s.td.bays ∧
      (s.presentFails ld).dp.set = s.dp.set ∧ (s.presentFails ld).lc.replies = s.lc.replies ∧
      (s.presentFails ld).td.move = s.td.move ∧ (s.presentFails ld).td.queue = s.td.queue ∧
      (s.presentFails ld).ss.stageHold = s.ss.stageHold := by
  simp [State.presentFails]

@[simp] theorem State.withdrawn_frame (s : State) (l : Lane) (why : WithdrawWhy) :
    (s.withdrawn l why).pending = s.pending ∧ (s.withdrawn l why).now = s.now ∧ (s.withdrawn l why).phase = s.phase ∧
      (s.withdrawn l why).li = s.li ∧ (s.withdrawn l why).as = s.as ∧ (s.withdrawn l why).cu = s.cu ∧
      (s.withdrawn l why).au = s.au ∧ (s.withdrawn l why).store = s.store ∧ (s.withdrawn l why).jn.mem = s.jn.mem ∧
      (s.withdrawn l why).lc.outstanding = s.lc.outstanding ∧ (s.withdrawn l why).lc.rx = s.lc.rx ∧
      (s.withdrawn l why).lc.clock = s.lc.clock ∧ (s.withdrawn l why).td.bays = s.td.bays ∧
      (s.withdrawn l why).dp.set = s.dp.set ∧ (s.withdrawn l why).lc.replies = s.lc.replies ∧
      (s.withdrawn l why).td.move = s.td.move ∧ (s.withdrawn l why).td.queue = s.td.queue ∧
      (s.withdrawn l why).ss.stageHold = s.ss.stageHold := by
  unfold State.withdrawn
  try dsimp only
  (repeat' split) <;> simp

@[simp] theorem State.onWithdrawalEnd_frame (s : State) :
    s.onWithdrawalEnd.pending = s.pending ∧ s.onWithdrawalEnd.phase = s.phase ∧ s.onWithdrawalEnd.li = s.li ∧
      s.onWithdrawalEnd.as = s.as ∧ s.onWithdrawalEnd.cu = s.cu ∧ s.onWithdrawalEnd.au = s.au ∧
      s.onWithdrawalEnd.store = s.store ∧ s.onWithdrawalEnd.jn.mem = s.jn.mem ∧
      s.onWithdrawalEnd.lc.outstanding = s.lc.outstanding ∧ s.onWithdrawalEnd.lc.rx = s.lc.rx ∧
      s.onWithdrawalEnd.lc.clock = s.lc.clock ∧ s.onWithdrawalEnd.td.bays = s.td.bays ∧
      s.onWithdrawalEnd.dp.set = s.dp.set ∧ s.onWithdrawalEnd.lc.replies = s.lc.replies ∧
      s.onWithdrawalEnd.td.move = s.td.move ∧ s.onWithdrawalEnd.td.queue = s.td.queue ∧
      s.onWithdrawalEnd.ss.stageHold = s.ss.stageHold := by
  unfold State.onWithdrawalEnd
  try dsimp only
  (repeat' split) <;> simp

@[simp] theorem State.onShuttleHome_frame (s : State) :
    s.onShuttleHome.pending = s.pending ∧ s.onShuttleHome.phase = s.phase ∧ s.onShuttleHome.li = s.li ∧
      s.onShuttleHome.td = s.td ∧ s.onShuttleHome.as = s.as ∧ s.onShuttleHome.nd = s.nd ∧ s.onShuttleHome.dp = s.dp ∧
      s.onShuttleHome.cu = s.cu ∧ s.onShuttleHome.jn = s.jn ∧ s.onShuttleHome.au = s.au ∧ s.onShuttleHome.lc = s.lc ∧
      s.onShuttleHome.store = s.store ∧ s.onShuttleHome.ss.stageHold = s.ss.stageHold := by
  unfold State.onShuttleHome
  try dsimp only
  (repeat' split) <;> simp

@[simp] theorem State.onStageHoldExpiry_frame (s : State) :
    s.onStageHoldExpiry.pending = s.pending ∧ s.onStageHoldExpiry.phase = s.phase ∧ s.onStageHoldExpiry.li = s.li ∧
      s.onStageHoldExpiry.as = s.as ∧ s.onStageHoldExpiry.cu = s.cu ∧ s.onStageHoldExpiry.au = s.au ∧
      s.onStageHoldExpiry.store = s.store ∧ s.onStageHoldExpiry.jn.mem = s.jn.mem ∧
      s.onStageHoldExpiry.lc.outstanding = s.lc.outstanding ∧ s.onStageHoldExpiry.lc.rx = s.lc.rx ∧
      s.onStageHoldExpiry.lc.clock = s.lc.clock ∧ s.onStageHoldExpiry.td.bays = s.td.bays ∧
      s.onStageHoldExpiry.dp.set = s.dp.set ∧ s.onStageHoldExpiry.lc.replies = s.lc.replies ∧
      s.onStageHoldExpiry.td.move = s.td.move ∧ s.onStageHoldExpiry.td.queue = s.td.queue ∧
      s.onStageHoldExpiry.ss.stageHold = s.ss.stageHold := by
  unfold State.onStageHoldExpiry
  try dsimp only
  (repeat' split) <;> simp

@[simp] theorem State.ownLoadStatus_frame (tag : Nat) (lane : Nat) (s : State) :
    (State.ownLoadStatus tag lane s).pending = s.pending ∧ (State.ownLoadStatus tag lane s).now = s.now ∧
      (State.ownLoadStatus tag lane s).phase = s.phase ∧ (State.ownLoadStatus tag lane s).li = s.li ∧
      (State.ownLoadStatus tag lane s).td = s.td ∧ (State.ownLoadStatus tag lane s).as = s.as ∧
      (State.ownLoadStatus tag lane s).nd = s.nd ∧ (State.ownLoadStatus tag lane s).dp = s.dp ∧
      (State.ownLoadStatus tag lane s).ss = s.ss ∧ (State.ownLoadStatus tag lane s).cu = s.cu ∧
      (State.ownLoadStatus tag lane s).jn = s.jn ∧ (State.ownLoadStatus tag lane s).au = s.au ∧
      (State.ownLoadStatus tag lane s).store = s.store ∧
      (State.ownLoadStatus tag lane s).lc.outstanding = s.lc.outstanding ∧
      (State.ownLoadStatus tag lane s).lc.rx = s.lc.rx ∧ (State.ownLoadStatus tag lane s).lc.clock = s.lc.clock := by
  unfold State.ownLoadStatus
  try dsimp only
  (repeat' split) <;> simp

@[simp] theorem State.ownLoadClose_frame (tag : Nat) (load : Nat) (outcome : Nat) (s : State) :
    (State.ownLoadClose tag load outcome s).pending = s.pending ∧
      (State.ownLoadClose tag load outcome s).now = s.now ∧ (State.ownLoadClose tag load outcome s).phase = s.phase ∧
      (State.ownLoadClose tag load outcome s).li = s.li ∧ (State.ownLoadClose tag load outcome s).as = s.as ∧
      (State.ownLoadClose tag load outcome s).nd = s.nd ∧ (State.ownLoadClose tag load outcome s).cu = s.cu ∧
      (State.ownLoadClose tag load outcome s).au = s.au ∧ (State.ownLoadClose tag load outcome s).store = s.store ∧
      (State.ownLoadClose tag load outcome s).jn.mem = s.jn.mem ∧
      (State.ownLoadClose tag load outcome s).lc.outstanding = s.lc.outstanding ∧
      (State.ownLoadClose tag load outcome s).lc.rx = s.lc.rx ∧
      (State.ownLoadClose tag load outcome s).lc.clock = s.lc.clock ∧
      (State.ownLoadClose tag load outcome s).td.bays = s.td.bays ∧
      (State.ownLoadClose tag load outcome s).dp.set = s.dp.set ∧
      (State.ownLoadClose tag load outcome s).td.move = s.td.move ∧
      (State.ownLoadClose tag load outcome s).td.queue = s.td.queue ∧
      (State.ownLoadClose tag load outcome s).ss.stageHold = s.ss.stageHold := by
  unfold State.ownLoadClose
  try dsimp only
  (repeat' split) <;> simp

@[simp] theorem State.ownStackerSettings_frame (tag : Nat) (hold : Nat) (s : State) :
    (State.ownStackerSettings tag hold s).pending = s.pending ∧ (State.ownStackerSettings tag hold s).now = s.now ∧
      (State.ownStackerSettings tag hold s).phase = s.phase ∧ (State.ownStackerSettings tag hold s).li = s.li ∧
      (State.ownStackerSettings tag hold s).td = s.td ∧ (State.ownStackerSettings tag hold s).as = s.as ∧
      (State.ownStackerSettings tag hold s).nd = s.nd ∧ (State.ownStackerSettings tag hold s).dp = s.dp ∧
      (State.ownStackerSettings tag hold s).cu = s.cu ∧ (State.ownStackerSettings tag hold s).jn = s.jn ∧
      (State.ownStackerSettings tag hold s).au = s.au ∧ (State.ownStackerSettings tag hold s).store = s.store ∧
      (State.ownStackerSettings tag hold s).lc.outstanding = s.lc.outstanding ∧
      (State.ownStackerSettings tag hold s).lc.rx = s.lc.rx ∧
      (State.ownStackerSettings tag hold s).lc.clock = s.lc.clock := by
  simp [State.ownStackerSettings]

end Sys2Proof.Machine
end

