-- ==== Sys2Proof/Laws/FramesD.lean ====
section
/-! SUPPORT. What the meanings of the capture, journal, alarm, start-up and link commands leave of the state, said once and in the
simp set. -/

namespace Sys2Proof.Machine

@[simp] theorem State.oweChange_frame (s : State) (c : CaptureChange) :
    (s.oweChange c).pending = s.pending ∧ (s.oweChange c).now = s.now ∧ (s.oweChange c).phase = s.phase ∧
      (s.oweChange c).li = s.li ∧ (s.oweChange c).td = s.td ∧ (s.oweChange c).as = s.as ∧ (s.oweChange c).nd = s.nd ∧
      (s.oweChange c).dp = s.dp ∧ (s.oweChange c).ss = s.ss ∧ (s.oweChange c).jn = s.jn ∧ (s.oweChange c).au = s.au ∧
      (s.oweChange c).lc = s.lc ∧ (s.oweChange c).store = s.store ∧ (s.oweChange c).cu.bin = s.cu.bin := by
  unfold State.oweChange
  try dsimp only
  (repeat' split) <;> simp

@[simp] theorem State.handOwedChange_frame (s : State) :
    s.handOwedChange.pending = s.pending ∧ s.handOwedChange.now = s.now ∧ s.handOwedChange.phase = s.phase ∧
      s.handOwedChange.li = s.li ∧ s.handOwedChange.td = s.td ∧ s.handOwedChange.as = s.as ∧
      s.handOwedChange.nd = s.nd ∧ s.handOwedChange.dp = s.dp ∧ s.handOwedChange.ss = s.ss ∧
      s.handOwedChange.au = s.au ∧ s.handOwedChange.lc = s.lc ∧ s.handOwedChange.store = s.store ∧
      s.handOwedChange.jn.mem = s.jn.mem ∧ s.handOwedChange.cu.bin = s.cu.bin := by
  unfold State.handOwedChange
  try dsimp only
  (repeat' split) <;> simp

@[simp] theorem State.changeRecord_frame (s : State) (c : CaptureChange) :
    (s.changeRecord c).pending = s.pending ∧ (s.changeRecord c).now = s.now ∧ (s.changeRecord c).phase = s.phase ∧
      (s.changeRecord c).li = s.li ∧ (s.changeRecord c).td = s.td ∧ (s.changeRecord c).as = s.as ∧
      (s.changeRecord c).nd = s.nd ∧ (s.changeRecord c).dp = s.dp ∧ (s.changeRecord c).ss = s.ss ∧
      (s.changeRecord c).au = s.au ∧ (s.changeRecord c).lc = s.lc ∧ (s.changeRecord c).store = s.store ∧
      (s.changeRecord c).jn.mem = s.jn.mem ∧ (s.changeRecord c).cu.bin = s.cu.bin := by
  unfold State.changeRecord
  try dsimp only
  (repeat' split) <;> simp

@[simp] theorem State.changeEnds_frame (s : State) (c : CaptureChange) (programmed : Bool) :
    (s.changeEnds c programmed).pending = s.pending ∧ (s.changeEnds c programmed).now = s.now ∧
      (s.changeEnds c programmed).phase = s.phase ∧ (s.changeEnds c programmed).li = s.li ∧
      (s.changeEnds c programmed).td = s.td ∧ (s.changeEnds c programmed).as = s.as ∧
      (s.changeEnds c programmed).nd = s.nd ∧ (s.changeEnds c programmed).dp = s.dp ∧
      (s.changeEnds c programmed).ss = s.ss ∧ (s.changeEnds c programmed).jn = s.jn ∧
      (s.changeEnds c programmed).au = s.au ∧ (s.changeEnds c programmed).lc = s.lc ∧
      (s.changeEnds c programmed).store = s.store ∧ (s.changeEnds c programmed).cu.bin = s.cu.bin := by
  unfold State.changeEnds
  try dsimp only
  (repeat' split) <;> simp

@[simp] theorem State.owedEnds_frame (s : State) (c : CaptureChange) (programmed : Bool) :
    (s.owedEnds c programmed).pending = s.pending ∧ (s.owedEnds c programmed).now = s.now ∧
      (s.owedEnds c programmed).phase = s.phase ∧ (s.owedEnds c programmed).li = s.li ∧
      (s.owedEnds c programmed).td = s.td ∧ (s.owedEnds c programmed).as = s.as ∧
      (s.owedEnds c programmed).nd = s.nd ∧ (s.owedEnds c programmed).dp = s.dp ∧
      (s.owedEnds c programmed).ss = s.ss ∧ (s.owedEnds c programmed).au = s.au ∧
      (s.owedEnds c programmed).lc = s.lc ∧ (s.owedEnds c programmed).store = s.store ∧
      (s.owedEnds c programmed).jn.mem = s.jn.mem ∧ (s.owedEnds c programmed).cu.bin = s.cu.bin := by
  unfold State.owedEnds
  try dsimp only
  (repeat' split) <;> simp

@[simp] theorem State.releaseCapturing_frame (s : State) (l : Lane) :
    (s.releaseCapturing l).pending = s.pending ∧ (s.releaseCapturing l).now = s.now ∧
      (s.releaseCapturing l).phase = s.phase ∧ (s.releaseCapturing l).li = s.li ∧ (s.releaseCapturing l).as = s.as ∧
      (s.releaseCapturing l).nd = s.nd ∧ (s.releaseCapturing l).dp = s.dp ∧ (s.releaseCapturing l).ss = s.ss ∧
      (s.releaseCapturing l).cu = s.cu ∧ (s.releaseCapturing l).jn = s.jn ∧ (s.releaseCapturing l).au = s.au ∧
      (s.releaseCapturing l).lc = s.lc ∧ (s.releaseCapturing l).store = s.store ∧
      (s.releaseCapturing l).td.bays = s.td.bays ∧ (s.releaseCapturing l).td.move = s.td.move ∧
      (s.releaseCapturing l).td.queue = s.td.queue := by
  unfold State.releaseCapturing
  try dsimp only
  (repeat' split) <;> simp

@[simp] theorem State.captureOver_frame (s : State) (h : Capture) :
    (s.captureOver h).pending = s.pending ∧ (s.captureOver h).now = s.now ∧ (s.captureOver h).phase = s.phase ∧
      (s.captureOver h).li = s.li ∧ (s.captureOver h).as = s.as ∧ (s.captureOver h).nd = s.nd ∧
      (s.captureOver h).dp = s.dp ∧ (s.captureOver h).ss = s.ss ∧ (s.captureOver h).jn = s.jn ∧
      (s.captureOver h).au = s.au ∧ (s.captureOver h).lc = s.lc ∧ (s.captureOver h).store = s.store ∧
      (s.captureOver h).td.bays = s.td.bays ∧ (s.captureOver h).cu.bin = s.cu.bin ∧
      (s.captureOver h).td.move = s.td.move ∧ (s.captureOver h).td.queue = s.td.queue := by
  simp [State.captureOver]

@[simp] theorem State.captureAborted_frame (s : State) (h : Capture) :
    (s.captureAborted h).pending = s.pending ∧ (s.captureAborted h).now = s.now ∧
      (s.captureAborted h).phase = s.phase ∧ (s.captureAborted h).li = s.li ∧ (s.captureAborted h).as = s.as ∧
      (s.captureAborted h).nd = s.nd ∧ (s.captureAborted h).dp = s.dp ∧ (s.captureAborted h).ss = s.ss ∧
      (s.captureAborted h).au = s.au ∧ (s.captureAborted h).lc = s.lc ∧ (s.captureAborted h).store = s.store ∧
      (s.captureAborted h).jn.mem = s.jn.mem ∧ (s.captureAborted h).td.bays = s.td.bays ∧
      (s.captureAborted h).cu.bin = s.cu.bin ∧ (s.captureAborted h).td.move = s.td.move ∧
      (s.captureAborted h).td.queue = s.td.queue := by
  simp [State.captureAborted]

@[simp] theorem State.captureNotOpened_frame (s : State) :
    s.captureNotOpened.pending = s.pending ∧ s.captureNotOpened.now = s.now ∧ s.captureNotOpened.phase = s.phase ∧
      s.captureNotOpened.li = s.li ∧ s.captureNotOpened.as = s.as ∧ s.captureNotOpened.nd = s.nd ∧
      s.captureNotOpened.dp = s.dp ∧ s.captureNotOpened.ss = s.ss ∧ s.captureNotOpened.jn = s.jn ∧
      s.captureNotOpened.au = s.au ∧ s.captureNotOpened.store = s.store ∧
      s.captureNotOpened.lc.outstanding = s.lc.outstanding ∧ s.captureNotOpened.lc.rx = s.lc.rx ∧
      s.captureNotOpened.lc.clock = s.lc.clock ∧ s.captureNotOpened.td.bays = s.td.bays ∧
      s.captureNotOpened.cu.bin = s.cu.bin ∧ s.captureNotOpened.td.move = s.td.move ∧
      s.captureNotOpened.td.queue = s.td.queue := by
  unfold State.captureNotOpened
  try dsimp only
  (repeat' split) <;> simp

@[simp] theorem State.openCapture_frame (s : State) (tag : Nat) (l : Lane) :
    (s.openCapture tag l).pending = s.pending ∧ (s.openCapture tag l).now = s.now ∧
      (s.openCapture tag l).phase = s.phase ∧ (s.openCapture tag l).li = s.li ∧ (s.openCapture tag l).as = s.as ∧
      (s.openCapture tag l).nd = s.nd ∧ (s.openCapture tag l).dp = s.dp ∧ (s.openCapture tag l).ss = s.ss ∧
      (s.openCapture tag l).au = s.au ∧ (s.openCapture tag l).store = s.store ∧
      (s.openCapture tag l).jn.mem = s.jn.mem ∧ (s.openCapture tag l).lc.outstanding = s.lc.outstanding ∧
      (s.openCapture tag l).lc.rx = s.lc.rx ∧ (s.openCapture tag l).lc.clock = s.lc.clock ∧
      (s.openCapture tag l).td.bays = s.td.bays ∧ (s.openCapture tag l).cu.bin = s.cu.bin ∧
      (s.openCapture tag l).td.move = s.td.move ∧ (s.openCapture tag l).td.queue = s.td.queue := by
  unfold State.openCapture
  try dsimp only
  (repeat' split) <;> simp

@[simp] theorem State.ownCapture_frame (tag : Nat) (bay : Nat) (s : State) :
    (State.ownCapture tag bay s).pending = s.pending ∧ (State.ownCapture tag bay s).now = s.now ∧
      (State.ownCapture tag bay s).phase = s.phase ∧ (State.ownCapture tag bay s).li = s.li ∧
      (State.ownCapture tag bay s).as = s.as ∧ (State.ownCapture tag bay s).nd = s.nd ∧
      (State.ownCapture tag bay s).dp = s.dp ∧ (State.ownCapture tag bay s).ss = s.ss ∧
      (State.ownCapture tag bay s).au = s.au ∧ (State.ownCapture tag bay s).store = s.store ∧
      (State.ownCapture tag bay s).jn.mem = s.jn.mem ∧
      (State.ownCapture tag bay s).lc.outstanding = s.lc.outstanding ∧ (State.ownCapture tag bay s).lc.rx = s.lc.rx ∧
      (State.ownCapture tag bay s).lc.clock = s.lc.clock ∧ (State.ownCapture tag bay s).td.bays = s.td.bays ∧
      (State.ownCapture tag bay s).cu.bin = s.cu.bin ∧ (State.ownCapture tag bay s).td.move = s.td.move ∧
      (State.ownCapture tag bay s).td.queue = s.td.queue := by
  unfold State.ownCapture
  try dsimp only
  (repeat' split) <;> simp

@[simp] theorem State.captureOpened_frame (s : State) (seq : Nat) (programmed : Bool) :
    (s.captureOpened seq programmed).pending = s.pending ∧ (s.captureOpened seq programmed).now = s.now ∧
      (s.captureOpened seq programmed).phase = s.phase ∧ (s.captureOpened seq programmed).li = s.li ∧
      (s.captureOpened seq programmed).as = s.as ∧ (s.captureOpened seq programmed).nd = s.nd ∧
      (s.captureOpened seq programmed).dp = s.dp ∧ (s.captureOpened seq programmed).ss = s.ss ∧
      (s.captureOpened seq programmed).au = s.au ∧ (s.captureOpened seq programmed).store = s.store ∧
      (s.captureOpened seq programmed).jn.mem = s.jn.mem ∧
      (s.captureOpened seq programmed).lc.outstanding = s.lc.outstanding ∧
      (s.captureOpened seq programmed).lc.rx = s.lc.rx ∧ (s.captureOpened seq programmed).lc.clock = s.lc.clock ∧
      (s.captureOpened seq programmed).td.bays = s.td.bays ∧ (s.captureOpened seq programmed).cu.bin = s.cu.bin ∧
      (s.captureOpened seq programmed).td.move = s.td.move ∧
      (s.captureOpened seq programmed).td.queue = s.td.queue := by
  unfold State.captureOpened
  try dsimp only
  (repeat' split) <;> simp

@[simp] theorem State.stamped_frame (s : State) (h : Capture) (printed : Bool) :
    (s.stamped h printed).pending = s.pending ∧ (s.stamped h printed).now = s.now ∧
      (s.stamped h printed).phase = s.phase ∧ (s.stamped h printed).li = s.li ∧ (s.stamped h printed).td = s.td ∧
      (s.stamped h printed).as = s.as ∧ (s.stamped h printed).nd = s.nd ∧ (s.stamped h printed).dp = s.dp ∧
      (s.stamped h printed).ss = s.ss ∧ (s.stamped h printed).au = s.au ∧ (s.stamped h printed).lc = s.lc ∧
      (s.stamped h printed).store = s.store ∧ (s.stamped h printed).jn.mem = s.jn.mem ∧
      (s.stamped h printed).cu.bin = s.cu.bin := by
  unfold State.stamped
  try dsimp only
  (repeat' split) <;> simp

@[simp] theorem State.released_frame (s : State) (h : Capture) :
    (s.released h).pending = s.pending ∧ (s.released h).now = s.now ∧ (s.released h).phase = s.phase ∧
      (s.released h).li = s.li ∧ (s.released h).td = s.td ∧ (s.released h).as = s.as ∧ (s.released h).nd = s.nd ∧
      (s.released h).dp = s.dp ∧ (s.released h).ss = s.ss ∧ (s.released h).au = s.au ∧ (s.released h).lc = s.lc ∧
      (s.released h).store = s.store ∧ (s.released h).jn.mem = s.jn.mem ∧ (s.released h).cu.bin = s.cu.bin := by
  unfold State.released
  try dsimp only
  (repeat' split) <;> simp

@[simp] theorem State.onArmRelease_frame (s : State) :
    s.onArmRelease.pending = s.pending ∧ s.onArmRelease.now = s.now ∧ s.onArmRelease.phase = s.phase ∧
      s.onArmRelease.li = s.li ∧ s.onArmRelease.td = s.td ∧ s.onArmRelease.as = s.as ∧ s.onArmRelease.nd = s.nd ∧
      s.onArmRelease.dp = s.dp ∧ s.onArmRelease.ss = s.ss ∧ s.onArmRelease.au = s.au ∧ s.onArmRelease.lc = s.lc ∧
      s.onArmRelease.store = s.store ∧ s.onArmRelease.jn.mem = s.jn.mem ∧ s.onArmRelease.cu.bin = s.cu.bin := by
  unfold State.onArmRelease
  try dsimp only
  (repeat' split) <;> simp

@[simp] theorem State.onLiftTimeout_frame (s : State) :
    s.onLiftTimeout.pending = s.pending ∧ s.onLiftTimeout.phase = s.phase ∧ s.onLiftTimeout.li = s.li ∧
      s.onLiftTimeout.td = s.td ∧ s.onLiftTimeout.as = s.as ∧ s.onLiftTimeout.nd = s.nd ∧ s.onLiftTimeout.dp = s.dp ∧
      s.onLiftTimeout.ss = s.ss ∧ s.onLiftTimeout.jn = s.jn ∧ s.onLiftTimeout.au = s.au ∧ s.onLiftTimeout.lc = s.lc ∧
      s.onLiftTimeout.store = s.store ∧ s.onLiftTimeout.cu.bin = s.cu.bin := by
  unfold State.onLiftTimeout
  try dsimp only
  (repeat' split) <;> simp

@[simp] theorem State.returned_frame (s : State) (h : Capture) (why : ReturnWhy) :
    (s.returned h why).pending = s.pending ∧ (s.returned h why).now = s.now ∧ (s.returned h why).phase = s.phase ∧
      (s.returned h why).li = s.li ∧ (s.returned h why).as = s.as ∧ (s.returned h why).nd = s.nd ∧
      (s.returned h why).dp = s.dp ∧ (s.returned h why).ss = s.ss ∧ (s.returned h why).au = s.au ∧
      (s.returned h why).store = s.store ∧ (s.returned h why).jn.mem = s.jn.mem ∧
      (s.returned h why).lc.outstanding = s.lc.outstanding ∧ (s.returned h why).lc.rx = s.lc.rx ∧
      (s.returned h why).lc.clock = s.lc.clock ∧ (s.returned h why).td.bays = s.td.bays ∧
      (s.returned h why).cu.bin = s.cu.bin ∧ (s.returned h why).lc.replies = s.lc.replies ∧
      (s.returned h why).td.move = s.td.move ∧ (s.returned h why).td.queue = s.td.queue := by
  unfold State.returned
  try dsimp only
  (repeat' split) <;> simp

@[simp] theorem State.onArmReturnEnd_frame (s : State) :
    s.onArmReturnEnd.pending = s.pending ∧ s.onArmReturnEnd.phase = s.phase ∧ s.onArmReturnEnd.li = s.li ∧
      s.onArmReturnEnd.as = s.as ∧ s.onArmReturnEnd.nd = s.nd ∧ s.onArmReturnEnd.dp = s.dp ∧
      s.onArmReturnEnd.ss = s.ss ∧ s.onArmReturnEnd.au = s.au ∧ s.onArmReturnEnd.store = s.store ∧
      s.onArmReturnEnd.jn.mem = s.jn.mem ∧ s.onArmReturnEnd.lc.outstanding = s.lc.outstanding ∧
      s.onArmReturnEnd.lc.rx = s.lc.rx ∧ s.onArmReturnEnd.lc.clock = s.lc.clock ∧
      s.onArmReturnEnd.td.bays = s.td.bays ∧ s.onArmReturnEnd.cu.bin = s.cu.bin ∧
      s.onArmReturnEnd.lc.replies = s.lc.replies ∧ s.onArmReturnEnd.td.move = s.td.move ∧
      s.onArmReturnEnd.td.queue = s.td.queue := by
  unfold State.onArmReturnEnd
  try dsimp only
  (repeat' split) <;> simp

@[simp] theorem State.onPrintReport_frame (completed : Bool) (s : State) :
    (State.onPrintReport completed s).pending = s.pending ∧ (State.onPrintReport completed s).now = s.now ∧
      (State.onPrintReport completed s).phase = s.phase ∧ (State.onPrintReport completed s).li = s.li ∧
      (State.onPrintReport completed s).td = s.td ∧ (State.onPrintReport completed s).as = s.as ∧
      (State.onPrintReport completed s).nd = s.nd ∧ (State.onPrintReport completed s).dp = s.dp ∧
      (State.onPrintReport completed s).ss = s.ss ∧ (State.onPrintReport completed s).au = s.au ∧
      (State.onPrintReport completed s).lc = s.lc ∧ (State.onPrintReport completed s).store = s.store ∧
      (State.onPrintReport completed s).jn.mem = s.jn.mem ∧ (State.onPrintReport completed s).cu.bin = s.cu.bin := by
  unfold State.onPrintReport
  try dsimp only
  (repeat' split) <;> simp

@[simp] theorem State.onPrintTimeout_frame (s : State) :
    s.onPrintTimeout.pending = s.pending ∧ s.onPrintTimeout.phase = s.phase ∧ s.onPrintTimeout.li = s.li ∧
      s.onPrintTimeout.td = s.td ∧ s.onPrintTimeout.as = s.as ∧ s.onPrintTimeout.nd = s.nd ∧
      s.onPrintTimeout.dp = s.dp ∧ s.onPrintTimeout.ss = s.ss ∧ s.onPrintTimeout.au = s.au ∧
      s.onPrintTimeout.lc = s.lc ∧ s.onPrintTimeout.store = s.store ∧ s.onPrintTimeout.jn.mem = s.jn.mem ∧
      s.onPrintTimeout.cu.bin = s.cu.bin := by
  unfold State.onPrintTimeout
  try dsimp only
  (repeat' split) <;> simp

@[simp] theorem State.noteBin_frame (s : State) :
    s.noteBin.pending = s.pending ∧ s.noteBin.now = s.now ∧ s.noteBin.phase = s.phase ∧ s.noteBin.li = s.li ∧
      s.noteBin.td = s.td ∧ s.noteBin.as = s.as ∧ s.noteBin.nd = s.nd ∧ s.noteBin.dp = s.dp ∧ s.noteBin.ss = s.ss ∧
      s.noteBin.cu = s.cu ∧ s.noteBin.jn = s.jn ∧ s.noteBin.au = s.au ∧ s.noteBin.store = s.store ∧
      s.noteBin.lc.outstanding = s.lc.outstanding ∧ s.noteBin.lc.rx = s.lc.rx ∧ s.noteBin.lc.clock = s.lc.clock ∧
      s.noteBin.lc.replies = s.lc.replies := by
  unfold State.noteBin
  try dsimp only
  (repeat' split) <;> simp

@[simp] theorem State.countEnvelope_frame (s : State) :
    s.countEnvelope.pending = s.pending ∧ s.countEnvelope.now = s.now ∧ s.countEnvelope.phase = s.phase ∧
      s.countEnvelope.li = s.li ∧ s.countEnvelope.td = s.td ∧ s.countEnvelope.as = s.as ∧ s.countEnvelope.nd = s.nd ∧
      s.countEnvelope.dp = s.dp ∧ s.countEnvelope.ss = s.ss ∧ s.countEnvelope.jn = s.jn ∧ s.countEnvelope.au = s.au ∧
      s.countEnvelope.lc = s.lc ∧ s.countEnvelope.store = s.store := by
  simp [State.countEnvelope]

@[simp] theorem State.dropped_frame (s : State) (h : Capture) :
    (s.dropped h).pending = s.pending ∧ (s.dropped h).now = s.now ∧ (s.dropped h).phase = s.phase ∧
      (s.dropped h).li = s.li ∧ (s.dropped h).as = s.as ∧ (s.dropped h).nd = s.nd ∧ (s.dropped h).dp = s.dp ∧
      (s.dropped h).ss = s.ss ∧ (s.dropped h).au = s.au ∧ (s.dropped h).store = s.store ∧
      (s.dropped h).jn.mem = s.jn.mem ∧ (s.dropped h).lc.outstanding = s.lc.outstanding ∧
      (s.dropped h).lc.rx = s.lc.rx ∧ (s.dropped h).lc.clock = s.lc.clock ∧ (s.dropped h).td.bays = s.td.bays ∧
      (s.dropped h).lc.replies = s.lc.replies ∧ (s.dropped h).td.move = s.td.move ∧
      (s.dropped h).td.queue = s.td.queue := by
  simp [State.dropped]

@[simp] theorem State.droppedLate_frame (s : State) (h : Capture) :
    (s.droppedLate h).pending = s.pending ∧ (s.droppedLate h).now = s.now ∧ (s.droppedLate h).phase = s.phase ∧
      (s.droppedLate h).li = s.li ∧ (s.droppedLate h).td = s.td ∧ (s.droppedLate h).as = s.as ∧
      (s.droppedLate h).nd = s.nd ∧ (s.droppedLate h).dp = s.dp ∧ (s.droppedLate h).ss = s.ss ∧
      (s.droppedLate h).jn = s.jn ∧ (s.droppedLate h).au = s.au ∧ (s.droppedLate h).store = s.store ∧
      (s.droppedLate h).lc.outstanding = s.lc.outstanding ∧ (s.droppedLate h).lc.rx = s.lc.rx ∧
      (s.droppedLate h).lc.clock = s.lc.clock ∧ (s.droppedLate h).lc.replies = s.lc.replies := by
  simp [State.droppedLate]

@[simp] theorem State.onDropSensed_frame (s : State) :
    s.onDropSensed.pending = s.pending ∧ s.onDropSensed.now = s.now ∧ s.onDropSensed.phase = s.phase ∧
      s.onDropSensed.li = s.li ∧ s.onDropSensed.as = s.as ∧ s.onDropSensed.nd = s.nd ∧ s.onDropSensed.dp = s.dp ∧
      s.onDropSensed.ss = s.ss ∧ s.onDropSensed.au = s.au ∧ s.onDropSensed.store = s.store ∧
      s.onDropSensed.jn.mem = s.jn.mem ∧ s.onDropSensed.lc.outstanding = s.lc.outstanding ∧
      s.onDropSensed.lc.rx = s.lc.rx ∧ s.onDropSensed.lc.clock = s.lc.clock ∧ s.onDropSensed.td.bays = s.td.bays ∧
      s.onDropSensed.lc.replies = s.lc.replies ∧ s.onDropSensed.td.move = s.td.move ∧
      s.onDropSensed.td.queue = s.td.queue := by
  unfold State.onDropSensed
  try dsimp only
  (repeat' split) <;> simp

@[simp] theorem State.dropFails_frame (s : State) (h : Capture) :
    (s.dropFails h).pending = s.pending ∧ (s.dropFails h).now = s.now ∧ (s.dropFails h).phase = s.phase ∧
      (s.dropFails h).as = s.as ∧ (s.dropFails h).nd = s.nd ∧ (s.dropFails h).dp = s.dp ∧ (s.dropFails h).ss = s.ss ∧
      (s.dropFails h).store = s.store ∧ (s.dropFails h).jn.mem = s.jn.mem ∧
      (s.dropFails h).lc.outstanding = s.lc.outstanding ∧ (s.dropFails h).lc.rx = s.lc.rx ∧
      (s.dropFails h).lc.clock = s.lc.clock ∧ laneCores (s.dropFails h).li.lanes = laneCores s.li.lanes ∧
      (s.dropFails h).td.bays = s.td.bays ∧ (s.dropFails h).cu.bin = s.cu.bin ∧
      (s.dropFails h).lc.replies = s.lc.replies ∧ (s.dropFails h).td.move = s.td.move ∧
      (s.dropFails h).au.missing = s.au.missing ∧ (s.dropFails h).au.period = s.au.period ∧
      (s.dropFails h).au.keySwitch = s.au.keySwitch := by
  simp [State.dropFails]

@[simp] theorem State.onDropTimeout_frame (s : State) :
    s.onDropTimeout.pending = s.pending ∧ s.onDropTimeout.phase = s.phase ∧ s.onDropTimeout.as = s.as ∧
      s.onDropTimeout.nd = s.nd ∧ s.onDropTimeout.dp = s.dp ∧ s.onDropTimeout.ss = s.ss ∧
      s.onDropTimeout.store = s.store ∧ s.onDropTimeout.jn.mem = s.jn.mem ∧
      s.onDropTimeout.lc.outstanding = s.lc.outstanding ∧ s.onDropTimeout.lc.rx = s.lc.rx ∧
      s.onDropTimeout.lc.clock = s.lc.clock ∧ laneCores s.onDropTimeout.li.lanes = laneCores s.li.lanes ∧
      s.onDropTimeout.td.bays = s.td.bays ∧ s.onDropTimeout.cu.bin = s.cu.bin ∧
      s.onDropTimeout.lc.replies = s.lc.replies ∧ s.onDropTimeout.td.move = s.td.move ∧
      s.onDropTimeout.au.missing = s.au.missing ∧ s.onDropTimeout.au.period = s.au.period ∧
      s.onDropTimeout.au.keySwitch = s.au.keySwitch := by
  unfold State.onDropTimeout
  try dsimp only
  (repeat' split) <;> simp

@[simp] theorem State.binDoor_frame (s : State) (closed : Bool) :
    (s.binDoor closed).pending = s.pending ∧ (s.binDoor closed).now = s.now ∧ (s.binDoor closed).phase = s.phase ∧
      (s.binDoor closed).as = s.as ∧ (s.binDoor closed).nd = s.nd ∧ (s.binDoor closed).dp = s.dp ∧
      (s.binDoor closed).ss = s.ss ∧ (s.binDoor closed).store = s.store ∧ (s.binDoor closed).jn.mem = s.jn.mem ∧
      (s.binDoor closed).lc.outstanding = s.lc.outstanding ∧ (s.binDoor closed).lc.rx = s.lc.rx ∧
      (s.binDoor closed).lc.clock = s.lc.clock ∧ laneCores (s.binDoor closed).li.lanes = laneCores s.li.lanes ∧
      (s.binDoor closed).td.bays = s.td.bays ∧ (s.binDoor closed).lc.replies = s.lc.replies ∧
      (s.binDoor closed).td.move = s.td.move ∧ (s.binDoor closed).au.missing = s.au.missing ∧
      (s.binDoor closed).au.period = s.au.period ∧ (s.binDoor closed).au.keySwitch = s.au.keySwitch := by
  unfold State.binDoor
  try dsimp only
  (repeat' split) <;> simp

@[simp] theorem State.binSensor_frame (s : State) (present : Bool) :
    (s.binSensor present).pending = s.pending ∧ (s.binSensor present).now = s.now ∧
      (s.binSensor present).phase = s.phase ∧ (s.binSensor present).li = s.li ∧ (s.binSensor present).td = s.td ∧
      (s.binSensor present).as = s.as ∧ (s.binSensor present).nd = s.nd ∧ (s.binSensor present).dp = s.dp ∧
      (s.binSensor present).ss = s.ss ∧ (s.binSensor present).jn = s.jn ∧ (s.binSensor present).au = s.au ∧
      (s.binSensor present).store = s.store ∧ (s.binSensor present).lc.outstanding = s.lc.outstanding ∧
      (s.binSensor present).lc.rx = s.lc.rx ∧ (s.binSensor present).lc.clock = s.lc.clock ∧
      (s.binSensor present).lc.replies = s.lc.replies := by
  unfold State.binSensor
  try dsimp only
  (repeat' split) <;> simp

@[simp] theorem State.clearFault_frame (s : State) (tag : Nat) (h : Capture) (inBin : Bool) :
    (s.clearFault tag h inBin).pending = s.pending ∧ (s.clearFault tag h inBin).now = s.now ∧
      (s.clearFault tag h inBin).phase = s.phase ∧ (s.clearFault tag h inBin).as = s.as ∧
      (s.clearFault tag h inBin).nd = s.nd ∧ (s.clearFault tag h inBin).dp = s.dp ∧
      (s.clearFault tag h inBin).ss = s.ss ∧ (s.clearFault tag h inBin).store = s.store ∧
      (s.clearFault tag h inBin).jn.mem = s.jn.mem ∧ (s.clearFault tag h inBin).lc.outstanding = s.lc.outstanding ∧
      (s.clearFault tag h inBin).lc.rx = s.lc.rx ∧ (s.clearFault tag h inBin).lc.clock = s.lc.clock ∧
      laneCores (s.clearFault tag h inBin).li.lanes = laneCores s.li.lanes ∧
      (s.clearFault tag h inBin).td.bays = s.td.bays ∧ (s.clearFault tag h inBin).td.move = s.td.move ∧
      (s.clearFault tag h inBin).au.missing = s.au.missing ∧ (s.clearFault tag h inBin).au.period = s.au.period ∧
      (s.clearFault tag h inBin).au.keySwitch = s.au.keySwitch := by
  unfold State.clearFault
  try dsimp only
  (repeat' split) <;> simp

@[simp] theorem State.ownCaptureClear_frame (tag : Nat) (disposition : Nat) (s : State) :
    (State.ownCaptureClear tag disposition s).pending = s.pending ∧
      (State.ownCaptureClear tag disposition s).now = s.now ∧
      (State.ownCaptureClear tag disposition s).phase = s.phase ∧
      (State.ownCaptureClear tag disposition s).as = s.as ∧ (State.ownCaptureClear tag disposition s).nd = s.nd ∧
      (State.ownCaptureClear tag disposition s).dp = s.dp ∧ (State.ownCaptureClear tag disposition s).ss = s.ss ∧
      (State.ownCaptureClear tag disposition s).store = s.store ∧
      (State.ownCaptureClear tag disposition s).jn.mem = s.jn.mem ∧
      (State.ownCaptureClear tag disposition s).lc.outstanding = s.lc.outstanding ∧
      (State.ownCaptureClear tag disposition s).lc.rx = s.lc.rx ∧
      (State.ownCaptureClear tag disposition s).lc.clock = s.lc.clock ∧
      laneCores (State.ownCaptureClear tag disposition s).li.lanes = laneCores s.li.lanes ∧
      (State.ownCaptureClear tag disposition s).td.bays = s.td.bays ∧
      (State.ownCaptureClear tag disposition s).td.move = s.td.move ∧
      (State.ownCaptureClear tag disposition s).au.missing = s.au.missing ∧
      (State.ownCaptureClear tag disposition s).au.period = s.au.period ∧
      (State.ownCaptureClear tag disposition s).au.keySwitch = s.au.keySwitch := by
  unfold State.ownCaptureClear
  try dsimp only
  (repeat' split) <;> simp

@[simp] theorem State.ownCaptureStatus_frame (tag : Nat) (s : State) :
    (State.ownCaptureStatus tag s).pending = s.pending ∧ (State.ownCaptureStatus tag s).now = s.now ∧
      (State.ownCaptureStatus tag s).phase = s.phase ∧ (State.ownCaptureStatus tag s).li = s.li ∧
      (State.ownCaptureStatus tag s).td = s.td ∧ (State.ownCaptureStatus tag s).as = s.as ∧
      (State.ownCaptureStatus tag s).nd = s.nd ∧ (State.ownCaptureStatus tag s).dp = s.dp ∧
      (State.ownCaptureStatus tag s).ss = s.ss ∧ (State.ownCaptureStatus tag s).cu = s.cu ∧
      (State.ownCaptureStatus tag s).jn = s.jn ∧ (State.ownCaptureStatus tag s).au = s.au ∧
      (State.ownCaptureStatus tag s).store = s.store ∧
      (State.ownCaptureStatus tag s).lc.outstanding = s.lc.outstanding ∧
      (State.ownCaptureStatus tag s).lc.rx = s.lc.rx ∧ (State.ownCaptureStatus tag s).lc.clock = s.lc.clock := by
  simp [State.ownCaptureStatus]

@[simp] theorem State.ownCaptureSettings_frame (tag : Nat) (stamp : Nat) (capacity : Nat) (s : State) :
    (State.ownCaptureSettings tag stamp capacity s).pending = s.pending ∧
      (State.ownCaptureSettings tag stamp capacity s).now = s.now ∧
      (State.ownCaptureSettings tag stamp capacity s).phase = s.phase ∧
      (State.ownCaptureSettings tag stamp capacity s).li = s.li ∧
      (State.ownCaptureSettings tag stamp capacity s).td = s.td ∧
      (State.ownCaptureSettings tag stamp capacity s).as = s.as ∧
      (State.ownCaptureSettings tag stamp capacity s).nd = s.nd ∧
      (State.ownCaptureSettings tag stamp capacity s).dp = s.dp ∧
      (State.ownCaptureSettings tag stamp capacity s).ss = s.ss ∧
      (State.ownCaptureSettings tag stamp capacity s).jn = s.jn ∧
      (State.ownCaptureSettings tag stamp capacity s).au = s.au ∧
      (State.ownCaptureSettings tag stamp capacity s).store = s.store ∧
      (State.ownCaptureSettings tag stamp capacity s).lc.outstanding = s.lc.outstanding ∧
      (State.ownCaptureSettings tag stamp capacity s).lc.rx = s.lc.rx ∧
      (State.ownCaptureSettings tag stamp capacity s).lc.clock = s.lc.clock := by
  unfold State.ownCaptureSettings
  try dsimp only
  (repeat' split) <;> simp

@[simp] theorem State.ownBinExchanged_frame (tag : Nat) (s : State) :
    (State.ownBinExchanged tag s).pending = s.pending ∧ (State.ownBinExchanged tag s).now = s.now ∧
      (State.ownBinExchanged tag s).phase = s.phase ∧ (State.ownBinExchanged tag s).li = s.li ∧
      (State.ownBinExchanged tag s).td = s.td ∧ (State.ownBinExchanged tag s).as = s.as ∧
      (State.ownBinExchanged tag s).nd = s.nd ∧ (State.ownBinExchanged tag s).dp = s.dp ∧
      (State.ownBinExchanged tag s).ss = s.ss ∧ (State.ownBinExchanged tag s).au = s.au ∧
      (State.ownBinExchanged tag s).store = s.store ∧ (State.ownBinExchanged tag s).jn.mem = s.jn.mem ∧
      (State.ownBinExchanged tag s).lc.outstanding = s.lc.outstanding ∧
      (State.ownBinExchanged tag s).lc.rx = s.lc.rx ∧ (State.ownBinExchanged tag s).lc.clock = s.lc.clock ∧
      (State.ownBinExchanged tag s).cu.bin = s.cu.bin := by
  unfold State.ownBinExchanged
  try dsimp only
  (repeat' split) <;> simp

@[simp] theorem State.binExchangeEnds_frame (s : State) (programmed : Bool) :
    (s.binExchangeEnds programmed).pending = s.pending ∧ (s.binExchangeEnds programmed).now = s.now ∧
      (s.binExchangeEnds programmed).phase = s.phase ∧ (s.binExchangeEnds programmed).li = s.li ∧
      (s.binExchangeEnds programmed).td = s.td ∧ (s.binExchangeEnds programmed).as = s.as ∧
      (s.binExchangeEnds programmed).nd = s.nd ∧ (s.binExchangeEnds programmed).dp = s.dp ∧
      (s.binExchangeEnds programmed).ss = s.ss ∧ (s.binExchangeEnds programmed).jn = s.jn ∧
      (s.binExchangeEnds programmed).au = s.au ∧ (s.binExchangeEnds programmed).store = s.store ∧
      (s.binExchangeEnds programmed).lc.outstanding = s.lc.outstanding ∧
      (s.binExchangeEnds programmed).lc.rx = s.lc.rx ∧ (s.binExchangeEnds programmed).lc.clock = s.lc.clock := by
  unfold State.binExchangeEnds
  try dsimp only
  (repeat' split) <;> simp

@[simp] theorem State.ownBinConfirm_frame (tag : Nat) (s : State) :
    (State.ownBinConfirm tag s).pending = s.pending ∧ (State.ownBinConfirm tag s).now = s.now ∧
      (State.ownBinConfirm tag s).phase = s.phase ∧ (State.ownBinConfirm tag s).li = s.li ∧
      (State.ownBinConfirm tag s).td = s.td ∧ (State.ownBinConfirm tag s).as = s.as ∧
      (State.ownBinConfirm tag s).nd = s.nd ∧ (State.ownBinConfirm tag s).dp = s.dp ∧
      (State.ownBinConfirm tag s).ss = s.ss ∧ (State.ownBinConfirm tag s).jn = s.jn ∧
      (State.ownBinConfirm tag s).au = s.au ∧ (State.ownBinConfirm tag s).store = s.store ∧
      (State.ownBinConfirm tag s).lc.outstanding = s.lc.outstanding ∧ (State.ownBinConfirm tag s).lc.rx = s.lc.rx ∧
      (State.ownBinConfirm tag s).lc.clock = s.lc.clock := by
  unfold State.ownBinConfirm
  try dsimp only
  (repeat' split) <;> simp

@[simp] theorem State.endWalk_frame (s : State) (w : Walk) (reached : Option Nat) (why : WalkStop) :
    (s.endWalk w reached why).pending = s.pending ∧ (s.endWalk w reached why).now = s.now ∧
      (s.endWalk w reached why).phase = s.phase ∧ (s.endWalk w reached why).li = s.li ∧
      (s.endWalk w reached why).td = s.td ∧ (s.endWalk w reached why).as = s.as ∧
      (s.endWalk w reached why).nd = s.nd ∧ (s.endWalk w reached why).dp = s.dp ∧
      (s.endWalk w reached why).ss = s.ss ∧ (s.endWalk w reached why).cu = s.cu ∧
      (s.endWalk w reached why).au = s.au ∧ (s.endWalk w reached why).store = s.store ∧
      (s.endWalk w reached why).jn.mem = s.jn.mem ∧ (s.endWalk w reached why).lc.outstanding = s.lc.outstanding ∧
      (s.endWalk w reached why).lc.rx = s.lc.rx ∧ (s.endWalk w reached why).lc.clock = s.lc.clock := by
  simp [State.endWalk]

@[simp] theorem State.walkOn_frame (s : State) (w : Walk) :
    (s.walkOn w).pending = s.pending ∧ (s.walkOn w).now = s.now ∧ (s.walkOn w).phase = s.phase ∧
      (s.walkOn w).li = s.li ∧ (s.walkOn w).td = s.td ∧ (s.walkOn w).as = s.as ∧ (s.walkOn w).nd = s.nd ∧
      (s.walkOn w).dp = s.dp ∧ (s.walkOn w).ss = s.ss ∧ (s.walkOn w).cu = s.cu ∧ (s.walkOn w).au = s.au ∧
      (s.walkOn w).store = s.store ∧ (s.walkOn w).jn.mem = s.jn.mem ∧
      (s.walkOn w).lc.outstanding = s.lc.outstanding ∧ (s.walkOn w).lc.rx = s.lc.rx ∧
      (s.walkOn w).lc.clock = s.lc.clock := by
  unfold State.walkOn
  try dsimp only
  (repeat' split) <;> simp

@[simp] theorem State.markEnds_frame (s : State) (seq : Nat) (programmed : Bool) :
    (s.markEnds seq programmed).pending = s.pending ∧ (s.markEnds seq programmed).now = s.now ∧
      (s.markEnds seq programmed).phase = s.phase ∧ (s.markEnds seq programmed).li = s.li ∧
      (s.markEnds seq programmed).td = s.td ∧ (s.markEnds seq programmed).as = s.as ∧
      (s.markEnds seq programmed).nd = s.nd ∧ (s.markEnds seq programmed).dp = s.dp ∧
      (s.markEnds seq programmed).ss = s.ss ∧ (s.markEnds seq programmed).cu = s.cu ∧
      (s.markEnds seq programmed).au = s.au ∧ (s.markEnds seq programmed).store = s.store ∧
      (s.markEnds seq programmed).jn.mem = s.jn.mem ∧ (s.markEnds seq programmed).lc.outstanding = s.lc.outstanding ∧
      (s.markEnds seq programmed).lc.rx = s.lc.rx ∧ (s.markEnds seq programmed).lc.clock = s.lc.clock := by
  unfold State.markEnds
  try dsimp only
  (repeat' split) <;> simp

@[simp] theorem State.closeEnds_frame (s : State) (programmed : Bool) :
    (s.closeEnds programmed).pending = s.pending ∧ (s.closeEnds programmed).now = s.now ∧
      (s.closeEnds programmed).phase = s.phase ∧ (s.closeEnds programmed).li = s.li ∧
      (s.closeEnds programmed).td = s.td ∧ (s.closeEnds programmed).as = s.as ∧ (s.closeEnds programmed).nd = s.nd ∧
      (s.closeEnds programmed).dp = s.dp ∧ (s.closeEnds programmed).cu = s.cu ∧ (s.closeEnds programmed).au = s.au ∧
      (s.closeEnds programmed).lc = s.lc ∧ (s.closeEnds programmed).store = s.store ∧
      (s.closeEnds programmed).jn.mem = s.jn.mem ∧ (s.closeEnds programmed).ss.stageHold = s.ss.stageHold := by
  unfold State.closeEnds
  try dsimp only
  (repeat' split) <;> simp

@[simp] theorem State.powerEnds_frame (s : State) (programmed : Bool) :
    (s.powerEnds programmed).pending = s.pending ∧ (s.powerEnds programmed).now = s.now ∧
      (s.powerEnds programmed).td = s.td ∧ (s.powerEnds programmed).as = s.as ∧ (s.powerEnds programmed).nd = s.nd ∧
      (s.powerEnds programmed).dp = s.dp ∧ (s.powerEnds programmed).ss = s.ss ∧ (s.powerEnds programmed).cu = s.cu ∧
      (s.powerEnds programmed).au = s.au ∧ (s.powerEnds programmed).lc = s.lc ∧
      (s.powerEnds programmed).store = s.store ∧ (s.powerEnds programmed).jn.mem = s.jn.mem := by
  unfold State.powerEnds
  try dsimp only
  (repeat' split) <;> simp

@[simp] theorem State.scanEndsOne_frame (s : State) (p : Program) (programmed : Bool) :
    (s.scanEndsOne p programmed).pending = s.pending ∧ (s.scanEndsOne p programmed).now = s.now ∧
      (s.scanEndsOne p programmed).phase = s.phase ∧ (s.scanEndsOne p programmed).li = s.li ∧
      (s.scanEndsOne p programmed).td = s.td ∧ (s.scanEndsOne p programmed).as = s.as ∧
      (s.scanEndsOne p programmed).nd = s.nd ∧ (s.scanEndsOne p programmed).dp = s.dp ∧
      (s.scanEndsOne p programmed).ss = s.ss ∧ (s.scanEndsOne p programmed).cu = s.cu ∧
      (s.scanEndsOne p programmed).au = s.au ∧ (s.scanEndsOne p programmed).lc = s.lc ∧
      (s.scanEndsOne p programmed).store = s.store ∧ (s.scanEndsOne p programmed).jn.mem = s.jn.mem := by
  unfold State.scanEndsOne
  try dsimp only
  (repeat' split) <;> simp

@[simp] theorem State.tellOwner_frame (s : State) (p : Program) (programmed : Bool) :
    (s.tellOwner p programmed).pending = s.pending ∧ (s.tellOwner p programmed).now = s.now ∧
      (s.tellOwner p programmed).as = s.as ∧ (s.tellOwner p programmed).store = s.store ∧
      (s.tellOwner p programmed).jn.mem = s.jn.mem ∧ (s.tellOwner p programmed).lc.outstanding = s.lc.outstanding ∧
      (s.tellOwner p programmed).lc.rx = s.lc.rx ∧ (s.tellOwner p programmed).lc.clock = s.lc.clock ∧
      (s.tellOwner p programmed).td.bays = s.td.bays ∧
      (s.tellOwner p programmed).au.zones.windows = s.au.zones.windows ∧
      (s.tellOwner p programmed).dp.set = s.dp.set ∧ (s.tellOwner p programmed).td.move = s.td.move ∧
      (s.tellOwner p programmed).td.queue = s.td.queue ∧ (s.tellOwner p programmed).au.missing = s.au.missing ∧
      (s.tellOwner p programmed).au.period = s.au.period ∧ (s.tellOwner p programmed).au.keySwitch = s.au.keySwitch ∧
      (s.tellOwner p programmed).ss.stageHold = s.ss.stageHold := by
  unfold State.tellOwner
  try dsimp only
  (repeat' split) <;> simp

@[simp] theorem State.raiseFailed_frame (s : State) (w : Work) :
    (s.raiseFailed w).pending = s.pending ∧ (s.raiseFailed w).now = s.now ∧ (s.raiseFailed w).phase = s.phase ∧
      (s.raiseFailed w).li = s.li ∧ (s.raiseFailed w).td = s.td ∧ (s.raiseFailed w).as = s.as ∧
      (s.raiseFailed w).nd = s.nd ∧ (s.raiseFailed w).dp = s.dp ∧ (s.raiseFailed w).ss = s.ss ∧
      (s.raiseFailed w).cu = s.cu ∧ (s.raiseFailed w).jn = s.jn ∧ (s.raiseFailed w).au = s.au ∧
      (s.raiseFailed w).store = s.store ∧ (s.raiseFailed w).lc.outstanding = s.lc.outstanding ∧
      (s.raiseFailed w).lc.rx = s.lc.rx ∧ (s.raiseFailed w).lc.clock = s.lc.clock ∧
      (s.raiseFailed w).lc.replies = s.lc.replies := by
  unfold State.raiseFailed
  try dsimp only
  (repeat' split) <;> simp

@[simp] theorem State.endUnmade_frame (s : State) (p : Program) :
    (s.endUnmade p).pending = s.pending ∧ (s.endUnmade p).now = s.now ∧ (s.endUnmade p).as = s.as ∧
      (s.endUnmade p).store = s.store ∧ (s.endUnmade p).jn.mem = s.jn.mem ∧
      (s.endUnmade p).lc.outstanding = s.lc.outstanding ∧ (s.endUnmade p).lc.rx = s.lc.rx ∧
      (s.endUnmade p).lc.clock = s.lc.clock ∧ (s.endUnmade p).td.bays = s.td.bays ∧
      (s.endUnmade p).au.zones.windows = s.au.zones.windows ∧ (s.endUnmade p).dp.set = s.dp.set ∧
      (s.endUnmade p).td.move = s.td.move ∧ (s.endUnmade p).td.queue = s.td.queue ∧
      (s.endUnmade p).au.missing = s.au.missing ∧ (s.endUnmade p).au.period = s.au.period ∧
      (s.endUnmade p).au.keySwitch = s.au.keySwitch ∧ (s.endUnmade p).ss.stageHold = s.ss.stageHold := by
  simp [State.endUnmade]

@[simp] theorem State.endAllUnmade_frame (s : State) (ps : List Program) :
    (s.endAllUnmade ps).pending = s.pending ∧ (s.endAllUnmade ps).now = s.now ∧ (s.endAllUnmade ps).as = s.as ∧
      (s.endAllUnmade ps).store = s.store ∧ (s.endAllUnmade ps).jn.mem = s.jn.mem ∧
      (s.endAllUnmade ps).lc.outstanding = s.lc.outstanding ∧ (s.endAllUnmade ps).lc.rx = s.lc.rx ∧
      (s.endAllUnmade ps).lc.clock = s.lc.clock ∧ (s.endAllUnmade ps).td.bays = s.td.bays ∧
      (s.endAllUnmade ps).au.zones.windows = s.au.zones.windows ∧ (s.endAllUnmade ps).dp.set = s.dp.set ∧
      (s.endAllUnmade ps).td.move = s.td.move ∧ (s.endAllUnmade ps).td.queue = s.td.queue ∧
      (s.endAllUnmade ps).au.missing = s.au.missing ∧ (s.endAllUnmade ps).au.period = s.au.period ∧
      (s.endAllUnmade ps).au.keySwitch = s.au.keySwitch ∧ (s.endAllUnmade ps).ss.stageHold = s.ss.stageHold := by
  unfold State.endAllUnmade
  induction ps generalizing s with
  | nil => simp
  | cons _ _ ih => simp [ih]

@[simp] theorem State.enterFailed_frame (s : State) (failed : Work) :
    (s.enterFailed failed).pending = s.pending ∧ (s.enterFailed failed).now = s.now ∧
      (s.enterFailed failed).as = s.as ∧ (s.enterFailed failed).store = s.store ∧
      (s.enterFailed failed).jn.mem = s.jn.mem ∧ (s.enterFailed failed).lc.outstanding = s.lc.outstanding ∧
      (s.enterFailed failed).lc.rx = s.lc.rx ∧ (s.enterFailed failed).lc.clock = s.lc.clock ∧
      (s.enterFailed failed).td.bays = s.td.bays ∧ (s.enterFailed failed).au.zones.windows = s.au.zones.windows ∧
      (s.enterFailed failed).dp.set = s.dp.set ∧ (s.enterFailed failed).td.move = s.td.move ∧
      (s.enterFailed failed).td.queue = s.td.queue ∧ (s.enterFailed failed).au.missing = s.au.missing ∧
      (s.enterFailed failed).au.period = s.au.period ∧ (s.enterFailed failed).au.keySwitch = s.au.keySwitch ∧
      (s.enterFailed failed).ss.stageHold = s.ss.stageHold := by
  simp [State.enterFailed]

@[simp] theorem State.programEnds_frame (s : State) (p : Program) (programmed : Bool) :
    (s.programEnds p programmed).pending = s.pending ∧ (s.programEnds p programmed).now = s.now ∧
      (s.programEnds p programmed).as = s.as ∧ (s.programEnds p programmed).store = s.store ∧
      (s.programEnds p programmed).jn.mem = s.jn.mem ∧
      (s.programEnds p programmed).lc.outstanding = s.lc.outstanding ∧ (s.programEnds p programmed).lc.rx = s.lc.rx ∧
      (s.programEnds p programmed).lc.clock = s.lc.clock ∧ (s.programEnds p programmed).td.bays = s.td.bays ∧
      (s.programEnds p programmed).au.zones.windows = s.au.zones.windows ∧
      (s.programEnds p programmed).dp.set = s.dp.set ∧ (s.programEnds p programmed).td.move = s.td.move ∧
      (s.programEnds p programmed).td.queue = s.td.queue ∧ (s.programEnds p programmed).au.missing = s.au.missing ∧
      (s.programEnds p programmed).au.period = s.au.period ∧
      (s.programEnds p programmed).au.keySwitch = s.au.keySwitch ∧
      (s.programEnds p programmed).ss.stageHold = s.ss.stageHold := by
  simp [State.programEnds]

@[simp] theorem State.appendMade_frame (s : State) (p : Program) (r : Record) (i : Nat) (k : Nat) (missed : List Byte) :
    (s.appendMade p r i k missed).pending = s.pending ∧ (s.appendMade p r i k missed).now = s.now ∧
      (s.appendMade p r i k missed).as = s.as ∧ (s.appendMade p r i k missed).store = s.store ∧
      (s.appendMade p r i k missed).lc.outstanding = s.lc.outstanding ∧
      (s.appendMade p r i k missed).lc.rx = s.lc.rx ∧ (s.appendMade p r i k missed).lc.clock = s.lc.clock ∧
      (s.appendMade p r i k missed).td.bays = s.td.bays ∧
      (s.appendMade p r i k missed).au.zones.windows = s.au.zones.windows ∧
      (s.appendMade p r i k missed).dp.set = s.dp.set ∧ (s.appendMade p r i k missed).td.move = s.td.move ∧
      (s.appendMade p r i k missed).td.queue = s.td.queue ∧ (s.appendMade p r i k missed).au.missing = s.au.missing ∧
      (s.appendMade p r i k missed).au.period = s.au.period ∧
      (s.appendMade p r i k missed).au.keySwitch = s.au.keySwitch ∧
      (s.appendMade p r i k missed).ss.stageHold = s.ss.stageHold := by
  unfold State.appendMade
  try dsimp only
  (repeat' split) <;> simp

@[simp] theorem State.changeMade_frame (s : State) (p : Program) (missed : List Byte) :
    (s.changeMade p missed).pending = s.pending ∧ (s.changeMade p missed).now = s.now ∧
      (s.changeMade p missed).as = s.as ∧ (s.changeMade p missed).store = s.store ∧
      (s.changeMade p missed).lc.outstanding = s.lc.outstanding ∧ (s.changeMade p missed).lc.rx = s.lc.rx ∧
      (s.changeMade p missed).lc.clock = s.lc.clock ∧ (s.changeMade p missed).td.bays = s.td.bays ∧
      (s.changeMade p missed).au.zones.windows = s.au.zones.windows ∧ (s.changeMade p missed).dp.set = s.dp.set ∧
      (s.changeMade p missed).td.move = s.td.move ∧ (s.changeMade p missed).td.queue = s.td.queue ∧
      (s.changeMade p missed).au.missing = s.au.missing ∧ (s.changeMade p missed).au.period = s.au.period ∧
      (s.changeMade p missed).au.keySwitch = s.au.keySwitch ∧
      (s.changeMade p missed).ss.stageHold = s.ss.stageHold := by
  unfold State.changeMade
  try dsimp only
  (repeat' split) <;> simp

@[simp] theorem State.programMade_frame (s : State) (missed : List Byte) :
    (s.programMade missed).pending = s.pending ∧ (s.programMade missed).now = s.now ∧
      (s.programMade missed).as = s.as ∧ (s.programMade missed).store = s.store ∧
      (s.programMade missed).lc.outstanding = s.lc.outstanding ∧ (s.programMade missed).lc.rx = s.lc.rx ∧
      (s.programMade missed).lc.clock = s.lc.clock ∧ (s.programMade missed).td.bays = s.td.bays ∧
      (s.programMade missed).au.zones.windows = s.au.zones.windows ∧ (s.programMade missed).dp.set = s.dp.set ∧
      (s.programMade missed).td.move = s.td.move ∧ (s.programMade missed).td.queue = s.td.queue ∧
      (s.programMade missed).au.missing = s.au.missing ∧ (s.programMade missed).au.period = s.au.period ∧
      (s.programMade missed).au.keySwitch = s.au.keySwitch ∧
      (s.programMade missed).ss.stageHold = s.ss.stageHold := by
  unfold State.programMade
  try dsimp only
  (repeat' split) <;> simp

@[simp] theorem State.onJournalProgramDone_frame (missed : List Byte) (s : State) :
    (State.onJournalProgramDone missed s).pending = s.pending ∧ (State.onJournalProgramDone missed s).now = s.now ∧
      (State.onJournalProgramDone missed s).as = s.as ∧ (State.onJournalProgramDone missed s).store = s.store ∧
      (State.onJournalProgramDone missed s).lc.outstanding = s.lc.outstanding ∧
      (State.onJournalProgramDone missed s).lc.rx = s.lc.rx ∧
      (State.onJournalProgramDone missed s).lc.clock = s.lc.clock ∧
      (State.onJournalProgramDone missed s).td.bays = s.td.bays ∧
      (State.onJournalProgramDone missed s).au.zones.windows = s.au.zones.windows ∧
      (State.onJournalProgramDone missed s).dp.set = s.dp.set ∧
      (State.onJournalProgramDone missed s).td.move = s.td.move ∧
      (State.onJournalProgramDone missed s).td.queue = s.td.queue ∧
      (State.onJournalProgramDone missed s).au.missing = s.au.missing ∧
      (State.onJournalProgramDone missed s).au.period = s.au.period ∧
      (State.onJournalProgramDone missed s).au.keySwitch = s.au.keySwitch ∧
      (State.onJournalProgramDone missed s).ss.stageHold = s.ss.stageHold := by
  simp [State.onJournalProgramDone]

@[simp] theorem State.answerRead_frame (s : State) (r : ReadJob) :
    (s.answerRead r).pending = s.pending ∧ (s.answerRead r).now = s.now ∧ (s.answerRead r).phase = s.phase ∧
      (s.answerRead r).li = s.li ∧ (s.answerRead r).td = s.td ∧ (s.answerRead r).as = s.as ∧
      (s.answerRead r).nd = s.nd ∧ (s.answerRead r).dp = s.dp ∧ (s.answerRead r).ss = s.ss ∧
      (s.answerRead r).cu = s.cu ∧ (s.answerRead r).jn = s.jn ∧ (s.answerRead r).au = s.au ∧
      (s.answerRead r).store = s.store ∧ (s.answerRead r).lc.outstanding = s.lc.outstanding ∧
      (s.answerRead r).lc.rx = s.lc.rx ∧ (s.answerRead r).lc.clock = s.lc.clock := by
  simp [State.answerRead]

@[simp] theorem State.ownJournalRead_frame (tag : Nat) (start : Nat) (count : Nat) (s : State) :
    (State.ownJournalRead tag start count s).pending = s.pending ∧
      (State.ownJournalRead tag start count s).now = s.now ∧
      (State.ownJournalRead tag start count s).phase = s.phase ∧ (State.ownJournalRead tag start count s).li = s.li ∧
      (State.ownJournalRead tag start count s).td = s.td ∧ (State.ownJournalRead tag start count s).as = s.as ∧
      (State.ownJournalRead tag start count s).nd = s.nd ∧ (State.ownJournalRead tag start count s).dp = s.dp ∧
      (State.ownJournalRead tag start count s).ss = s.ss ∧ (State.ownJournalRead tag start count s).cu = s.cu ∧
      (State.ownJournalRead tag start count s).au = s.au ∧ (State.ownJournalRead tag start count s).store = s.store ∧
      (State.ownJournalRead tag start count s).jn.mem = s.jn.mem ∧
      (State.ownJournalRead tag start count s).lc.outstanding = s.lc.outstanding ∧
      (State.ownJournalRead tag start count s).lc.rx = s.lc.rx ∧
      (State.ownJournalRead tag start count s).lc.clock = s.lc.clock := by
  unfold State.ownJournalRead
  try dsimp only
  (repeat' split) <;> simp

@[simp] theorem State.readEnds_frame (s : State) :
    s.readEnds.pending = s.pending ∧ s.readEnds.now = s.now ∧ s.readEnds.phase = s.phase ∧ s.readEnds.li = s.li ∧
      s.readEnds.td = s.td ∧ s.readEnds.as = s.as ∧ s.readEnds.nd = s.nd ∧ s.readEnds.dp = s.dp ∧
      s.readEnds.ss = s.ss ∧ s.readEnds.cu = s.cu ∧ s.readEnds.au = s.au ∧ s.readEnds.store = s.store ∧
      s.readEnds.jn.mem = s.jn.mem ∧ s.readEnds.lc.outstanding = s.lc.outstanding ∧ s.readEnds.lc.rx = s.lc.rx ∧
      s.readEnds.lc.clock = s.lc.clock := by
  unfold State.readEnds
  try dsimp only
  (repeat' split) <;> simp

@[simp] theorem State.eraseNext_frame (s : State) :
    s.eraseNext.pending = s.pending ∧ s.eraseNext.now = s.now ∧ s.eraseNext.phase = s.phase ∧ s.eraseNext.li = s.li ∧
      s.eraseNext.td = s.td ∧ s.eraseNext.as = s.as ∧ s.eraseNext.nd = s.nd ∧ s.eraseNext.dp = s.dp ∧
      s.eraseNext.ss = s.ss ∧ s.eraseNext.cu = s.cu ∧ s.eraseNext.au = s.au ∧ s.eraseNext.store = s.store ∧
      s.eraseNext.jn.mem = s.jn.mem ∧ s.eraseNext.lc.outstanding = s.lc.outstanding ∧ s.eraseNext.lc.rx = s.lc.rx ∧
      s.eraseNext.lc.clock = s.lc.clock ∧ s.eraseNext.lc.replies = s.lc.replies := by
  unfold State.eraseNext
  try dsimp only
  (repeat' split) <;> simp

@[simp] theorem State.onEraseWindowExpiry_frame (s : State) :
    s.onEraseWindowExpiry.pending = s.pending ∧ s.onEraseWindowExpiry.phase = s.phase ∧
      s.onEraseWindowExpiry.li = s.li ∧ s.onEraseWindowExpiry.td = s.td ∧ s.onEraseWindowExpiry.as = s.as ∧
      s.onEraseWindowExpiry.nd = s.nd ∧ s.onEraseWindowExpiry.dp = s.dp ∧ s.onEraseWindowExpiry.ss = s.ss ∧
      s.onEraseWindowExpiry.cu = s.cu ∧ s.onEraseWindowExpiry.au = s.au ∧ s.onEraseWindowExpiry.store = s.store ∧
      s.onEraseWindowExpiry.jn.mem = s.jn.mem ∧ s.onEraseWindowExpiry.lc.outstanding = s.lc.outstanding ∧
      s.onEraseWindowExpiry.lc.rx = s.lc.rx ∧ s.onEraseWindowExpiry.lc.clock = s.lc.clock ∧
      s.onEraseWindowExpiry.lc.replies = s.lc.replies := by
  unfold State.onEraseWindowExpiry
  try dsimp only
  (repeat' split) <;> simp

@[simp] theorem State.segmentEnds_frame (s : State) (run : EraseRun) (i : Nat) (good : Bool) :
    (s.segmentEnds run i good).pending = s.pending ∧ (s.segmentEnds run i good).now = s.now ∧
      (s.segmentEnds run i good).phase = s.phase ∧ (s.segmentEnds run i good).li = s.li ∧
      (s.segmentEnds run i good).td = s.td ∧ (s.segmentEnds run i good).as = s.as ∧
      (s.segmentEnds run i good).nd = s.nd ∧ (s.segmentEnds run i good).dp = s.dp ∧
      (s.segmentEnds run i good).ss = s.ss ∧ (s.segmentEnds run i good).cu = s.cu ∧
      (s.segmentEnds run i good).au = s.au ∧ (s.segmentEnds run i good).store = s.store ∧
      (s.segmentEnds run i good).lc.outstanding = s.lc.outstanding ∧ (s.segmentEnds run i good).lc.rx = s.lc.rx ∧
      (s.segmentEnds run i good).lc.clock = s.lc.clock ∧ (s.segmentEnds run i good).lc.replies = s.lc.replies := by
  unfold State.segmentEnds
  try dsimp only
  (repeat' split) <;> simp

@[simp] theorem State.onEraseVerify_frame (s : State) :
    s.onEraseVerify.pending = s.pending ∧ s.onEraseVerify.now = s.now ∧ s.onEraseVerify.phase = s.phase ∧
      s.onEraseVerify.li = s.li ∧ s.onEraseVerify.td = s.td ∧ s.onEraseVerify.as = s.as ∧ s.onEraseVerify.nd = s.nd ∧
      s.onEraseVerify.dp = s.dp ∧ s.onEraseVerify.ss = s.ss ∧ s.onEraseVerify.cu = s.cu ∧ s.onEraseVerify.au = s.au ∧
      s.onEraseVerify.store = s.store ∧ s.onEraseVerify.lc.outstanding = s.lc.outstanding ∧
      s.onEraseVerify.lc.rx = s.lc.rx ∧ s.onEraseVerify.lc.clock = s.lc.clock ∧
      s.onEraseVerify.lc.replies = s.lc.replies := by
  unfold State.onEraseVerify
  try dsimp only
  (repeat' split) <;> simp

@[simp] theorem State.onEraseLimit_frame (s : State) :
    s.onEraseLimit.pending = s.pending ∧ s.onEraseLimit.phase = s.phase ∧ s.onEraseLimit.li = s.li ∧
      s.onEraseLimit.td = s.td ∧ s.onEraseLimit.as = s.as ∧ s.onEraseLimit.nd = s.nd ∧ s.onEraseLimit.dp = s.dp ∧
      s.onEraseLimit.ss = s.ss ∧ s.onEraseLimit.cu = s.cu ∧ s.onEraseLimit.au = s.au ∧
      s.onEraseLimit.store = s.store ∧ s.onEraseLimit.lc.outstanding = s.lc.outstanding ∧
      s.onEraseLimit.lc.rx = s.lc.rx ∧ s.onEraseLimit.lc.clock = s.lc.clock ∧
      s.onEraseLimit.lc.replies = s.lc.replies := by
  unfold State.onEraseLimit
  try dsimp only
  (repeat' split) <;> simp

@[simp] theorem State.okErase_frame (s : State) (tag : Nat) (word : Nat) (i : Nat) :
    (s.okErase tag word i).pending = s.pending ∧ (s.okErase tag word i).now = s.now ∧
      (s.okErase tag word i).phase = s.phase ∧ (s.okErase tag word i).li = s.li ∧ (s.okErase tag word i).td = s.td ∧
      (s.okErase tag word i).as = s.as ∧ (s.okErase tag word i).nd = s.nd ∧ (s.okErase tag word i).dp = s.dp ∧
      (s.okErase tag word i).ss = s.ss ∧ (s.okErase tag word i).cu = s.cu ∧ (s.okErase tag word i).jn = s.jn ∧
      (s.okErase tag word i).au = s.au ∧ (s.okErase tag word i).store = s.store ∧
      (s.okErase tag word i).lc.outstanding = s.lc.outstanding ∧ (s.okErase tag word i).lc.rx = s.lc.rx ∧
      (s.okErase tag word i).lc.clock = s.lc.clock := by
  simp [State.okErase]

@[simp] theorem State.eraseSegment_frame (s : State) (tag : Nat) (i : Nat) :
    (s.eraseSegment tag i).pending = s.pending ∧ (s.eraseSegment tag i).now = s.now ∧
      (s.eraseSegment tag i).phase = s.phase ∧ (s.eraseSegment tag i).li = s.li ∧ (s.eraseSegment tag i).td = s.td ∧
      (s.eraseSegment tag i).as = s.as ∧ (s.eraseSegment tag i).nd = s.nd ∧ (s.eraseSegment tag i).dp = s.dp ∧
      (s.eraseSegment tag i).ss = s.ss ∧ (s.eraseSegment tag i).cu = s.cu ∧ (s.eraseSegment tag i).au = s.au ∧
      (s.eraseSegment tag i).store = s.store ∧ (s.eraseSegment tag i).jn.mem = s.jn.mem ∧
      (s.eraseSegment tag i).lc.outstanding = s.lc.outstanding ∧ (s.eraseSegment tag i).lc.rx = s.lc.rx ∧
      (s.eraseSegment tag i).lc.clock = s.lc.clock := by
  unfold State.eraseSegment
  try dsimp only
  (repeat' split) <;> simp

@[simp] theorem State.ownJournalErase_frame (tag : Nat) (segment : Nat) (s : State) :
    (State.ownJournalErase tag segment s).pending = s.pending ∧ (State.ownJournalErase tag segment s).now = s.now ∧
      (State.ownJournalErase tag segment s).phase = s.phase ∧ (State.ownJournalErase tag segment s).li = s.li ∧
      (State.ownJournalErase tag segment s).td = s.td ∧ (State.ownJournalErase tag segment s).as = s.as ∧
      (State.ownJournalErase tag segment s).nd = s.nd ∧ (State.ownJournalErase tag segment s).dp = s.dp ∧
      (State.ownJournalErase tag segment s).ss = s.ss ∧ (State.ownJournalErase tag segment s).cu = s.cu ∧
      (State.ownJournalErase tag segment s).au = s.au ∧ (State.ownJournalErase tag segment s).store = s.store ∧
      (State.ownJournalErase tag segment s).jn.mem = s.jn.mem ∧
      (State.ownJournalErase tag segment s).lc.outstanding = s.lc.outstanding ∧
      (State.ownJournalErase tag segment s).lc.rx = s.lc.rx ∧
      (State.ownJournalErase tag segment s).lc.clock = s.lc.clock := by
  unfold State.ownJournalErase
  try dsimp only
  (repeat' split) <;> simp

@[simp] theorem State.ownJournalReconcile_frame (tag : Nat) (through : Nat) (s : State) :
    (State.ownJournalReconcile tag through s).pending = s.pending ∧
      (State.ownJournalReconcile tag through s).now = s.now ∧
      (State.ownJournalReconcile tag through s).phase = s.phase ∧
      (State.ownJournalReconcile tag through s).li = s.li ∧ (State.ownJournalReconcile tag through s).td = s.td ∧
      (State.ownJournalReconcile tag through s).as = s.as ∧ (State.ownJournalReconcile tag through s).nd = s.nd ∧
      (State.ownJournalReconcile tag through s).dp = s.dp ∧ (State.ownJournalReconcile tag through s).ss = s.ss ∧
      (State.ownJournalReconcile tag through s).cu = s.cu ∧ (State.ownJournalReconcile tag through s).au = s.au ∧
      (State.ownJournalReconcile tag through s).store = s.store ∧
      (State.ownJournalReconcile tag through s).jn.mem = s.jn.mem ∧
      (State.ownJournalReconcile tag through s).lc.outstanding = s.lc.outstanding ∧
      (State.ownJournalReconcile tag through s).lc.rx = s.lc.rx ∧
      (State.ownJournalReconcile tag through s).lc.clock = s.lc.clock := by
  unfold State.ownJournalReconcile
  try dsimp only
  (repeat' split) <;> simp

@[simp] theorem State.ownJournalStatus_frame (tag : Nat) (s : State) :
    (State.ownJournalStatus tag s).pending = s.pending ∧ (State.ownJournalStatus tag s).now = s.now ∧
      (State.ownJournalStatus tag s).phase = s.phase ∧ (State.ownJournalStatus tag s).li = s.li ∧
      (State.ownJournalStatus tag s).td = s.td ∧ (State.ownJournalStatus tag s).as = s.as ∧
      (State.ownJournalStatus tag s).nd = s.nd ∧ (State.ownJournalStatus tag s).dp = s.dp ∧
      (State.ownJournalStatus tag s).ss = s.ss ∧ (State.ownJournalStatus tag s).cu = s.cu ∧
      (State.ownJournalStatus tag s).jn = s.jn ∧ (State.ownJournalStatus tag s).au = s.au ∧
      (State.ownJournalStatus tag s).store = s.store ∧
      (State.ownJournalStatus tag s).lc.outstanding = s.lc.outstanding ∧
      (State.ownJournalStatus tag s).lc.rx = s.lc.rx ∧ (State.ownJournalStatus tag s).lc.clock = s.lc.clock := by
  simp [State.ownJournalStatus]

@[simp] theorem State.handAgain_frame (s : State) (p : Program) :
    (s.handAgain p).pending = s.pending ∧ (s.handAgain p).now = s.now ∧ (s.handAgain p).phase = s.phase ∧
      (s.handAgain p).li = s.li ∧ (s.handAgain p).td = s.td ∧ (s.handAgain p).as = s.as ∧ (s.handAgain p).nd = s.nd ∧
      (s.handAgain p).dp = s.dp ∧ (s.handAgain p).ss = s.ss ∧ (s.handAgain p).cu = s.cu ∧ (s.handAgain p).au = s.au ∧
      (s.handAgain p).lc = s.lc ∧ (s.handAgain p).store = s.store ∧ (s.handAgain p).jn.mem = s.jn.mem := by
  simp [State.handAgain]

@[simp] theorem State.handAllAgain_frame (s : State) (ps : List Program) :
    (s.handAllAgain ps).pending = s.pending ∧ (s.handAllAgain ps).now = s.now ∧ (s.handAllAgain ps).phase = s.phase ∧
      (s.handAllAgain ps).li = s.li ∧ (s.handAllAgain ps).td = s.td ∧ (s.handAllAgain ps).as = s.as ∧
      (s.handAllAgain ps).nd = s.nd ∧ (s.handAllAgain ps).dp = s.dp ∧ (s.handAllAgain ps).ss = s.ss ∧
      (s.handAllAgain ps).cu = s.cu ∧ (s.handAllAgain ps).au = s.au ∧ (s.handAllAgain ps).lc = s.lc ∧
      (s.handAllAgain ps).store = s.store ∧ (s.handAllAgain ps).jn.mem = s.jn.mem := by
  unfold State.handAllAgain
  induction ps generalizing s with
  | nil => simp
  | cons _ _ ih => simp [ih]

@[simp] theorem State.handScanCloses_frame (s : State) :
    s.handScanCloses.pending = s.pending ∧ s.handScanCloses.now = s.now ∧ s.handScanCloses.phase = s.phase ∧
      s.handScanCloses.li = s.li ∧ s.handScanCloses.td = s.td ∧ s.handScanCloses.as = s.as ∧
      s.handScanCloses.nd = s.nd ∧ s.handScanCloses.dp = s.dp ∧ s.handScanCloses.ss = s.ss ∧
      s.handScanCloses.cu = s.cu ∧ s.handScanCloses.au = s.au ∧ s.handScanCloses.lc = s.lc ∧
      s.handScanCloses.store = s.store ∧ s.handScanCloses.jn.mem = s.jn.mem := by
  simp [State.handScanCloses]

@[simp] theorem State.recover_frame (s : State) (tag : Nat) :
    (s.recover tag).pending = s.pending ∧ (s.recover tag).now = s.now ∧ (s.recover tag).phase = s.phase ∧
      (s.recover tag).li = s.li ∧ (s.recover tag).td = s.td ∧ (s.recover tag).as = s.as ∧ (s.recover tag).nd = s.nd ∧
      (s.recover tag).dp = s.dp ∧ (s.recover tag).au = s.au ∧ (s.recover tag).store = s.store ∧
      (s.recover tag).jn.mem = s.jn.mem ∧ (s.recover tag).lc.outstanding = s.lc.outstanding ∧
      (s.recover tag).lc.rx = s.lc.rx ∧ (s.recover tag).lc.clock = s.lc.clock ∧ (s.recover tag).cu.bin = s.cu.bin ∧
      (s.recover tag).ss.stageHold = s.ss.stageHold := by
  unfold State.recover
  try dsimp only
  (repeat' split) <;> simp

@[simp] theorem State.ownJournalRecover_frame (tag : Nat) (s : State) :
    (State.ownJournalRecover tag s).pending = s.pending ∧ (State.ownJournalRecover tag s).now = s.now ∧
      (State.ownJournalRecover tag s).phase = s.phase ∧ (State.ownJournalRecover tag s).li = s.li ∧
      (State.ownJournalRecover tag s).td = s.td ∧ (State.ownJournalRecover tag s).as = s.as ∧
      (State.ownJournalRecover tag s).nd = s.nd ∧ (State.ownJournalRecover tag s).dp = s.dp ∧
      (State.ownJournalRecover tag s).au = s.au ∧ (State.ownJournalRecover tag s).store = s.store ∧
      (State.ownJournalRecover tag s).jn.mem = s.jn.mem ∧
      (State.ownJournalRecover tag s).lc.outstanding = s.lc.outstanding ∧
      (State.ownJournalRecover tag s).lc.rx = s.lc.rx ∧ (State.ownJournalRecover tag s).lc.clock = s.lc.clock ∧
      (State.ownJournalRecover tag s).cu.bin = s.cu.bin ∧
      (State.ownJournalRecover tag s).ss.stageHold = s.ss.stageHold := by
  unfold State.ownJournalRecover
  try dsimp only
  (repeat' split) <;> simp

@[simp] theorem State.keyReleases_frame (s : State) (z : ZoneId) :
    (s.keyReleases z).pending = s.pending ∧ (s.keyReleases z).now = s.now ∧ (s.keyReleases z).phase = s.phase ∧
      (s.keyReleases z).as = s.as ∧ (s.keyReleases z).nd = s.nd ∧ (s.keyReleases z).dp = s.dp ∧
      (s.keyReleases z).ss = s.ss ∧ (s.keyReleases z).cu = s.cu ∧ (s.keyReleases z).store = s.store ∧
      (s.keyReleases z).jn.mem = s.jn.mem ∧ (s.keyReleases z).lc.outstanding = s.lc.outstanding ∧
      (s.keyReleases z).lc.rx = s.lc.rx ∧ (s.keyReleases z).lc.clock = s.lc.clock ∧
      laneCores (s.keyReleases z).li.lanes = laneCores s.li.lanes ∧ (s.keyReleases z).td.bays = s.td.bays ∧
      (s.keyReleases z).au.zones.windows = s.au.zones.windows ∧ (s.keyReleases z).lc.replies = s.lc.replies ∧
      (s.keyReleases z).td.move = s.td.move ∧ (s.keyReleases z).au.missing = s.au.missing ∧
      (s.keyReleases z).au.period = s.au.period ∧ (s.keyReleases z).au.keySwitch = s.au.keySwitch := by
  unfold State.keyReleases
  try dsimp only
  (repeat' split) <;> simp

@[simp] theorem State.keyEdge_frame (s : State) (rising : Bool) :
    (s.keyEdge rising).pending = s.pending ∧ (s.keyEdge rising).now = s.now ∧ (s.keyEdge rising).phase = s.phase ∧
      (s.keyEdge rising).as = s.as ∧ (s.keyEdge rising).nd = s.nd ∧ (s.keyEdge rising).dp = s.dp ∧
      (s.keyEdge rising).ss = s.ss ∧ (s.keyEdge rising).cu = s.cu ∧ (s.keyEdge rising).store = s.store ∧
      (s.keyEdge rising).jn.mem = s.jn.mem ∧ (s.keyEdge rising).lc.outstanding = s.lc.outstanding ∧
      (s.keyEdge rising).lc.rx = s.lc.rx ∧ (s.keyEdge rising).lc.clock = s.lc.clock ∧
      laneCores (s.keyEdge rising).li.lanes = laneCores s.li.lanes ∧ (s.keyEdge rising).td.bays = s.td.bays ∧
      (s.keyEdge rising).au.zones.windows = s.au.zones.windows ∧ (s.keyEdge rising).lc.replies = s.lc.replies ∧
      (s.keyEdge rising).td.move = s.td.move ∧ (s.keyEdge rising).au.missing = s.au.missing ∧
      (s.keyEdge rising).au.period = s.au.period := by
  unfold State.keyEdge
  try dsimp only
  (repeat' split) <;> simp

@[simp] theorem State.onEntryDelayExpiry_frame (door : Door) (s : State) :
    (State.onEntryDelayExpiry door s).pending = s.pending ∧ (State.onEntryDelayExpiry door s).phase = s.phase ∧
      (State.onEntryDelayExpiry door s).as = s.as ∧ (State.onEntryDelayExpiry door s).nd = s.nd ∧
      (State.onEntryDelayExpiry door s).dp = s.dp ∧ (State.onEntryDelayExpiry door s).ss = s.ss ∧
      (State.onEntryDelayExpiry door s).cu = s.cu ∧ (State.onEntryDelayExpiry door s).store = s.store ∧
      (State.onEntryDelayExpiry door s).jn.mem = s.jn.mem ∧
      (State.onEntryDelayExpiry door s).lc.outstanding = s.lc.outstanding ∧
      (State.onEntryDelayExpiry door s).lc.rx = s.lc.rx ∧ (State.onEntryDelayExpiry door s).lc.clock = s.lc.clock ∧
      laneCores (State.onEntryDelayExpiry door s).li.lanes = laneCores s.li.lanes ∧
      (State.onEntryDelayExpiry door s).td.bays = s.td.bays ∧
      (State.onEntryDelayExpiry door s).au.zones.windows = s.au.zones.windows ∧
      (State.onEntryDelayExpiry door s).lc.replies = s.lc.replies ∧
      (State.onEntryDelayExpiry door s).td.move = s.td.move ∧
      (State.onEntryDelayExpiry door s).au.missing = s.au.missing ∧
      (State.onEntryDelayExpiry door s).au.period = s.au.period ∧
      (State.onEntryDelayExpiry door s).au.keySwitch = s.au.keySwitch := by
  unfold State.onEntryDelayExpiry
  try dsimp only
  (repeat' split) <;> simp

@[simp] theorem State.onWindowExpiry_frame (door : Door) (s : State) :
    (State.onWindowExpiry door s).pending = s.pending ∧ (State.onWindowExpiry door s).phase = s.phase ∧
      (State.onWindowExpiry door s).as = s.as ∧ (State.onWindowExpiry door s).nd = s.nd ∧
      (State.onWindowExpiry door s).dp = s.dp ∧ (State.onWindowExpiry door s).ss = s.ss ∧
      (State.onWindowExpiry door s).cu = s.cu ∧ (State.onWindowExpiry door s).store = s.store ∧
      (State.onWindowExpiry door s).jn.mem = s.jn.mem ∧
      (State.onWindowExpiry door s).lc.outstanding = s.lc.outstanding ∧
      (State.onWindowExpiry door s).lc.rx = s.lc.rx ∧ (State.onWindowExpiry door s).lc.clock = s.lc.clock ∧
      laneCores (State.onWindowExpiry door s).li.lanes = laneCores s.li.lanes ∧
      (State.onWindowExpiry door s).td.bays = s.td.bays ∧ (State.onWindowExpiry door s).lc.replies = s.lc.replies ∧
      (State.onWindowExpiry door s).td.move = s.td.move ∧ (State.onWindowExpiry door s).au.missing = s.au.missing ∧
      (State.onWindowExpiry door s).au.period = s.au.period ∧
      (State.onWindowExpiry door s).au.keySwitch = s.au.keySwitch := by
  unfold State.onWindowExpiry
  try dsimp only
  (repeat' split) <;> simp

@[simp] theorem State.onSounderPhaseEnd_frame (s : State) :
    s.onSounderPhaseEnd.pending = s.pending ∧ s.onSounderPhaseEnd.phase = s.phase ∧ s.onSounderPhaseEnd.li = s.li ∧
      s.onSounderPhaseEnd.td = s.td ∧ s.onSounderPhaseEnd.as = s.as ∧ s.onSounderPhaseEnd.nd = s.nd ∧
      s.onSounderPhaseEnd.dp = s.dp ∧ s.onSounderPhaseEnd.ss = s.ss ∧ s.onSounderPhaseEnd.cu = s.cu ∧
      s.onSounderPhaseEnd.jn = s.jn ∧ s.onSounderPhaseEnd.lc = s.lc ∧ s.onSounderPhaseEnd.store = s.store ∧
      s.onSounderPhaseEnd.au.zones.windows = s.au.zones.windows ∧ s.onSounderPhaseEnd.au.missing = s.au.missing ∧
      s.onSounderPhaseEnd.au.period = s.au.period ∧ s.onSounderPhaseEnd.au.keySwitch = s.au.keySwitch := by
  unfold State.onSounderPhaseEnd
  try dsimp only
  (repeat' split) <;> simp

@[simp] theorem State.onSounderCutoff_frame (s : State) :
    s.onSounderCutoff.pending = s.pending ∧ s.onSounderCutoff.phase = s.phase ∧ s.onSounderCutoff.li = s.li ∧
      s.onSounderCutoff.td = s.td ∧ s.onSounderCutoff.as = s.as ∧ s.onSounderCutoff.nd = s.nd ∧
      s.onSounderCutoff.dp = s.dp ∧ s.onSounderCutoff.ss = s.ss ∧ s.onSounderCutoff.cu = s.cu ∧
      s.onSounderCutoff.jn = s.jn ∧ s.onSounderCutoff.lc = s.lc ∧ s.onSounderCutoff.store = s.store ∧
      s.onSounderCutoff.au.zones.windows = s.au.zones.windows ∧ s.onSounderCutoff.au.missing = s.au.missing ∧
      s.onSounderCutoff.au.period = s.au.period ∧ s.onSounderCutoff.au.keySwitch = s.au.keySwitch := by
  unfold State.onSounderCutoff
  try dsimp only
  (repeat' split) <;> simp

@[simp] theorem State.ownZoneSettings_frame (tag : Nat) (zone : Nat) (delay : Nat) (s : State) :
    (State.ownZoneSettings tag zone delay s).pending = s.pending ∧
      (State.ownZoneSettings tag zone delay s).now = s.now ∧
      (State.ownZoneSettings tag zone delay s).phase = s.phase ∧ (State.ownZoneSettings tag zone delay s).li = s.li ∧
      (State.ownZoneSettings tag zone delay s).td = s.td ∧ (State.ownZoneSettings tag zone delay s).as = s.as ∧
      (State.ownZoneSettings tag zone delay s).nd = s.nd ∧ (State.ownZoneSettings tag zone delay s).dp = s.dp ∧
      (State.ownZoneSettings tag zone delay s).ss = s.ss ∧ (State.ownZoneSettings tag zone delay s).cu = s.cu ∧
      (State.ownZoneSettings tag zone delay s).jn = s.jn ∧ (State.ownZoneSettings tag zone delay s).store = s.store ∧
      (State.ownZoneSettings tag zone delay s).lc.outstanding = s.lc.outstanding ∧
      (State.ownZoneSettings tag zone delay s).lc.rx = s.lc.rx ∧
      (State.ownZoneSettings tag zone delay s).lc.clock = s.lc.clock ∧
      (State.ownZoneSettings tag zone delay s).au.zones.windows = s.au.zones.windows ∧
      (State.ownZoneSettings tag zone delay s).au.missing = s.au.missing ∧
      (State.ownZoneSettings tag zone delay s).au.period = s.au.period ∧
      (State.ownZoneSettings tag zone delay s).au.keySwitch = s.au.keySwitch := by
  unfold State.ownZoneSettings
  try dsimp only
  (repeat' split) <;> simp

@[simp] theorem State.openWindow_frame (s : State) (d : Door) (minutes : Nat) :
    (s.openWindow d minutes).pending = s.pending ∧ (s.openWindow d minutes).now = s.now ∧
      (s.openWindow d minutes).phase = s.phase ∧ (s.openWindow d minutes).as = s.as ∧
      (s.openWindow d minutes).nd = s.nd ∧ (s.openWindow d minutes).dp = s.dp ∧ (s.openWindow d minutes).ss = s.ss ∧
      (s.openWindow d minutes).cu = s.cu ∧ (s.openWindow d minutes).store = s.store ∧
      (s.openWindow d minutes).jn.mem = s.jn.mem ∧ (s.openWindow d minutes).lc.outstanding = s.lc.outstanding ∧
      (s.openWindow d minutes).lc.rx = s.lc.rx ∧ (s.openWindow d minutes).lc.clock = s.lc.clock ∧
      laneCores (s.openWindow d minutes).li.lanes = laneCores s.li.lanes ∧
      (s.openWindow d minutes).td.bays = s.td.bays ∧ (s.openWindow d minutes).lc.replies = s.lc.replies ∧
      (s.openWindow d minutes).td.move = s.td.move ∧ (s.openWindow d minutes).au.missing = s.au.missing ∧
      (s.openWindow d minutes).au.period = s.au.period ∧ (s.openWindow d minutes).au.keySwitch = s.au.keySwitch := by
  unfold State.openWindow
  try dsimp only
  (repeat' split) <;> simp

@[simp] theorem State.ownAuthorize_frame (tag : Nat) (zone : Nat) (minutes : Nat) (s : State) :
    (State.ownAuthorize tag zone minutes s).pending = s.pending ∧
      (State.ownAuthorize tag zone minutes s).now = s.now ∧ (State.ownAuthorize tag zone minutes s).phase = s.phase ∧
      (State.ownAuthorize tag zone minutes s).as = s.as ∧ (State.ownAuthorize tag zone minutes s).nd = s.nd ∧
      (State.ownAuthorize tag zone minutes s).dp = s.dp ∧ (State.ownAuthorize tag zone minutes s).ss = s.ss ∧
      (State.ownAuthorize tag zone minutes s).cu = s.cu ∧ (State.ownAuthorize tag zone minutes s).store = s.store ∧
      (State.ownAuthorize tag zone minutes s).jn.mem = s.jn.mem ∧
      (State.ownAuthorize tag zone minutes s).lc.outstanding = s.lc.outstanding ∧
      (State.ownAuthorize tag zone minutes s).lc.rx = s.lc.rx ∧
      (State.ownAuthorize tag zone minutes s).lc.clock = s.lc.clock ∧
      laneCores (State.ownAuthorize tag zone minutes s).li.lanes = laneCores s.li.lanes ∧
      (State.ownAuthorize tag zone minutes s).td.bays = s.td.bays ∧
      (State.ownAuthorize tag zone minutes s).td.move = s.td.move ∧
      (State.ownAuthorize tag zone minutes s).au.missing = s.au.missing ∧
      (State.ownAuthorize tag zone minutes s).au.period = s.au.period ∧
      (State.ownAuthorize tag zone minutes s).au.keySwitch = s.au.keySwitch := by
  unfold State.ownAuthorize
  try dsimp only
  (repeat' split) <;> simp

@[simp] theorem State.acknowledge_frame (s : State) (z : ZoneId) :
    (s.acknowledge z).pending = s.pending ∧ (s.acknowledge z).now = s.now ∧ (s.acknowledge z).phase = s.phase ∧
      (s.acknowledge z).as = s.as ∧ (s.acknowledge z).nd = s.nd ∧ (s.acknowledge z).dp = s.dp ∧
      (s.acknowledge z).ss = s.ss ∧ (s.acknowledge z).cu = s.cu ∧ (s.acknowledge z).store = s.store ∧
      (s.acknowledge z).jn.mem = s.jn.mem ∧ (s.acknowledge z).lc.outstanding = s.lc.outstanding ∧
      (s.acknowledge z).lc.rx = s.lc.rx ∧ (s.acknowledge z).lc.clock = s.lc.clock ∧
      laneCores (s.acknowledge z).li.lanes = laneCores s.li.lanes ∧ (s.acknowledge z).td.bays = s.td.bays ∧
      (s.acknowledge z).au.zones.windows = s.au.zones.windows ∧ (s.acknowledge z).lc.replies = s.lc.replies ∧
      (s.acknowledge z).td.move = s.td.move ∧ (s.acknowledge z).au.period = s.au.period ∧
      (s.acknowledge z).au.keySwitch = s.au.keySwitch := by
  unfold State.acknowledge
  try dsimp only
  (repeat' split) <;> simp

@[simp] theorem State.ownAckZone_frame (tag : Nat) (zone : Nat) (s : State) :
    (State.ownAckZone tag zone s).pending = s.pending ∧ (State.ownAckZone tag zone s).now = s.now ∧
      (State.ownAckZone tag zone s).phase = s.phase ∧ (State.ownAckZone tag zone s).as = s.as ∧
      (State.ownAckZone tag zone s).nd = s.nd ∧ (State.ownAckZone tag zone s).dp = s.dp ∧
      (State.ownAckZone tag zone s).ss = s.ss ∧ (State.ownAckZone tag zone s).cu = s.cu ∧
      (State.ownAckZone tag zone s).store = s.store ∧ (State.ownAckZone tag zone s).jn.mem = s.jn.mem ∧
      (State.ownAckZone tag zone s).lc.outstanding = s.lc.outstanding ∧
      (State.ownAckZone tag zone s).lc.rx = s.lc.rx ∧ (State.ownAckZone tag zone s).lc.clock = s.lc.clock ∧
      laneCores (State.ownAckZone tag zone s).li.lanes = laneCores s.li.lanes ∧
      (State.ownAckZone tag zone s).td.bays = s.td.bays ∧
      (State.ownAckZone tag zone s).au.zones.windows = s.au.zones.windows ∧
      (State.ownAckZone tag zone s).td.move = s.td.move ∧ (State.ownAckZone tag zone s).au.period = s.au.period ∧
      (State.ownAckZone tag zone s).au.keySwitch = s.au.keySwitch := by
  unfold State.ownAckZone
  try dsimp only
  (repeat' split) <;> simp

@[simp] theorem State.ownSounderSilence_frame (tag : Nat) (s : State) :
    (State.ownSounderSilence tag s).pending = s.pending ∧ (State.ownSounderSilence tag s).now = s.now ∧
      (State.ownSounderSilence tag s).phase = s.phase ∧ (State.ownSounderSilence tag s).li = s.li ∧
      (State.ownSounderSilence tag s).td = s.td ∧ (State.ownSounderSilence tag s).as = s.as ∧
      (State.ownSounderSilence tag s).nd = s.nd ∧ (State.ownSounderSilence tag s).dp = s.dp ∧
      (State.ownSounderSilence tag s).ss = s.ss ∧ (State.ownSounderSilence tag s).cu = s.cu ∧
      (State.ownSounderSilence tag s).jn = s.jn ∧ (State.ownSounderSilence tag s).store = s.store ∧
      (State.ownSounderSilence tag s).lc.outstanding = s.lc.outstanding ∧
      (State.ownSounderSilence tag s).lc.rx = s.lc.rx ∧ (State.ownSounderSilence tag s).lc.clock = s.lc.clock ∧
      (State.ownSounderSilence tag s).au.zones.windows = s.au.zones.windows ∧
      (State.ownSounderSilence tag s).au.missing = s.au.missing ∧
      (State.ownSounderSilence tag s).au.period = s.au.period ∧
      (State.ownSounderSilence tag s).au.keySwitch = s.au.keySwitch := by
  unfold State.ownSounderSilence
  cases h : s.au.run <;> simp [h]

@[simp] theorem State.ownSounderSettings_frame (tag : Nat) (period : Nat) (s : State) :
    (State.ownSounderSettings tag period s).pending = s.pending ∧
      (State.ownSounderSettings tag period s).now = s.now ∧ (State.ownSounderSettings tag period s).phase = s.phase ∧
      (State.ownSounderSettings tag period s).li = s.li ∧ (State.ownSounderSettings tag period s).td = s.td ∧
      (State.ownSounderSettings tag period s).as = s.as ∧ (State.ownSounderSettings tag period s).nd = s.nd ∧
      (State.ownSounderSettings tag period s).dp = s.dp ∧ (State.ownSounderSettings tag period s).ss = s.ss ∧
      (State.ownSounderSettings tag period s).cu = s.cu ∧ (State.ownSounderSettings tag period s).jn = s.jn ∧
      (State.ownSounderSettings tag period s).store = s.store ∧
      (State.ownSounderSettings tag period s).lc.outstanding = s.lc.outstanding ∧
      (State.ownSounderSettings tag period s).lc.rx = s.lc.rx ∧
      (State.ownSounderSettings tag period s).lc.clock = s.lc.clock ∧
      (State.ownSounderSettings tag period s).au.zones.windows = s.au.zones.windows ∧
      (State.ownSounderSettings tag period s).au.missing = s.au.missing ∧
      (State.ownSounderSettings tag period s).au.keySwitch = s.au.keySwitch := by
  simp [State.ownSounderSettings]

@[simp] theorem State.ownAlarmStatus_frame (tag : Nat) (s : State) :
    (State.ownAlarmStatus tag s).pending = s.pending ∧ (State.ownAlarmStatus tag s).now = s.now ∧
      (State.ownAlarmStatus tag s).phase = s.phase ∧ (State.ownAlarmStatus tag s).li = s.li ∧
      (State.ownAlarmStatus tag s).td = s.td ∧ (State.ownAlarmStatus tag s).as = s.as ∧
      (State.ownAlarmStatus tag s).nd = s.nd ∧ (State.ownAlarmStatus tag s).dp = s.dp ∧
      (State.ownAlarmStatus tag s).ss = s.ss ∧ (State.ownAlarmStatus tag s).cu = s.cu ∧
      (State.ownAlarmStatus tag s).jn = s.jn ∧ (State.ownAlarmStatus tag s).au = s.au ∧
      (State.ownAlarmStatus tag s).store = s.store ∧ (State.ownAlarmStatus tag s).lc.outstanding = s.lc.outstanding ∧
      (State.ownAlarmStatus tag s).lc.rx = s.lc.rx ∧ (State.ownAlarmStatus tag s).lc.clock = s.lc.clock := by
  simp [State.ownAlarmStatus]

@[simp] theorem State.scanBin_frame (s : State) (rs : List FoundRecord) :
    (s.scanBin rs).pending = s.pending ∧ (s.scanBin rs).now = s.now ∧ (s.scanBin rs).phase = s.phase ∧
      (s.scanBin rs).li = s.li ∧ (s.scanBin rs).td = s.td ∧ (s.scanBin rs).as = s.as ∧ (s.scanBin rs).nd = s.nd ∧
      (s.scanBin rs).dp = s.dp ∧ (s.scanBin rs).ss = s.ss ∧ (s.scanBin rs).jn = s.jn ∧ (s.scanBin rs).au = s.au ∧
      (s.scanBin rs).store = s.store ∧ (s.scanBin rs).lc.outstanding = s.lc.outstanding ∧
      (s.scanBin rs).lc.rx = s.lc.rx ∧ (s.scanBin rs).lc.clock = s.lc.clock ∧
      (s.scanBin rs).lc.replies = s.lc.replies := by
  unfold State.scanBin
  try dsimp only
  (repeat' split) <;> simp

@[simp] theorem State.scan_frame (s : State) :
    s.scan.pending = s.pending ∧ s.scan.now = s.now ∧ s.scan.td = s.td ∧ s.scan.as = s.as ∧ s.scan.nd = s.nd ∧
      s.scan.dp = s.dp ∧ s.scan.ss = s.ss ∧ s.scan.au = s.au ∧ s.scan.store = s.store ∧ s.scan.jn.mem = s.jn.mem ∧
      s.scan.lc.outstanding = s.lc.outstanding ∧ s.scan.lc.rx = s.lc.rx ∧ s.scan.lc.clock = s.lc.clock ∧
      s.scan.lc.replies = s.lc.replies := by
  unfold State.scan
  try dsimp only
  (repeat' split) <;> simp

@[simp] theorem State.beginStartUp_frame (s : State) (kind : StartKind) (kept : Retained) (storeFailed : Bool) :
    (s.beginStartUp kind kept storeFailed).pending = s.pending ∧ (s.beginStartUp kind kept storeFailed).now = s.now ∧
      (s.beginStartUp kind kept storeFailed).store = s.store ∧
      (s.beginStartUp kind kept storeFailed).jn.mem = s.jn.mem := by
  simp [State.beginStartUp, JN.initial]

@[simp] theorem State.powersOn_frame (s : State) (firstReads : Bool) (secondReads : Bool) :
    (s.powersOn firstReads secondReads).pending = s.pending ∧ (s.powersOn firstReads secondReads).now = s.now ∧
      (s.powersOn firstReads secondReads).jn.mem = s.jn.mem := by
  unfold State.powersOn
  try dsimp only
  (repeat' split) <;> simp

@[simp] theorem State.restarts_frame (s : State) :
    s.restarts.pending = s.pending ∧ s.restarts.now = s.now ∧ s.restarts.store = s.store ∧
      s.restarts.jn.mem = s.jn.mem := by
  simp [State.restarts]

@[simp] theorem State.onRestartStartUp_frame (s : State) :
    s.onRestartStartUp.pending = s.pending ∧ s.onRestartStartUp.now = s.now ∧ s.onRestartStartUp.store = s.store ∧
      s.onRestartStartUp.jn.mem = s.jn.mem := by
  unfold State.onRestartStartUp
  try dsimp only
  (repeat' split) <;> simp

@[simp] theorem State.ownConditionsEnable_frame (tag : Nat) (enabled : List Nat) (autoClear : List Nat) (s : State) :
    (State.ownConditionsEnable tag enabled autoClear s).pending = s.pending ∧
      (State.ownConditionsEnable tag enabled autoClear s).now = s.now ∧
      (State.ownConditionsEnable tag enabled autoClear s).phase = s.phase ∧
      (State.ownConditionsEnable tag enabled autoClear s).li = s.li ∧
      (State.ownConditionsEnable tag enabled autoClear s).td = s.td ∧
      (State.ownConditionsEnable tag enabled autoClear s).as = s.as ∧
      (State.ownConditionsEnable tag enabled autoClear s).nd = s.nd ∧
      (State.ownConditionsEnable tag enabled autoClear s).dp = s.dp ∧
      (State.ownConditionsEnable tag enabled autoClear s).ss = s.ss ∧
      (State.ownConditionsEnable tag enabled autoClear s).cu = s.cu ∧
      (State.ownConditionsEnable tag enabled autoClear s).jn = s.jn ∧
      (State.ownConditionsEnable tag enabled autoClear s).au = s.au ∧
      (State.ownConditionsEnable tag enabled autoClear s).store = s.store ∧
      (State.ownConditionsEnable tag enabled autoClear s).lc.outstanding = s.lc.outstanding ∧
      (State.ownConditionsEnable tag enabled autoClear s).lc.rx = s.lc.rx ∧
      (State.ownConditionsEnable tag enabled autoClear s).lc.clock = s.lc.clock := by
  unfold State.ownConditionsEnable
  try dsimp only
  (repeat' split) <;> simp

@[simp] theorem State.ownConditionsRead_frame (tag : Nat) (s : State) :
    (State.ownConditionsRead tag s).pending = s.pending ∧ (State.ownConditionsRead tag s).now = s.now ∧
      (State.ownConditionsRead tag s).phase = s.phase ∧ (State.ownConditionsRead tag s).li = s.li ∧
      (State.ownConditionsRead tag s).td = s.td ∧ (State.ownConditionsRead tag s).as = s.as ∧
      (State.ownConditionsRead tag s).nd = s.nd ∧ (State.ownConditionsRead tag s).dp = s.dp ∧
      (State.ownConditionsRead tag s).ss = s.ss ∧ (State.ownConditionsRead tag s).cu = s.cu ∧
      (State.ownConditionsRead tag s).jn = s.jn ∧ (State.ownConditionsRead tag s).au = s.au ∧
      (State.ownConditionsRead tag s).store = s.store ∧
      (State.ownConditionsRead tag s).lc.outstanding = s.lc.outstanding ∧
      (State.ownConditionsRead tag s).lc.rx = s.lc.rx ∧ (State.ownConditionsRead tag s).lc.clock = s.lc.clock := by
  simp [State.ownConditionsRead]

@[simp] theorem State.ownConditionsClear_frame (tag : Nat) (cleared : List Nat) (s : State) :
    (State.ownConditionsClear tag cleared s).pending = s.pending ∧
      (State.ownConditionsClear tag cleared s).now = s.now ∧
      (State.ownConditionsClear tag cleared s).phase = s.phase ∧ (State.ownConditionsClear tag cleared s).li = s.li ∧
      (State.ownConditionsClear tag cleared s).td = s.td ∧ (State.ownConditionsClear tag cleared s).as = s.as ∧
      (State.ownConditionsClear tag cleared s).nd = s.nd ∧ (State.ownConditionsClear tag cleared s).dp = s.dp ∧
      (State.ownConditionsClear tag cleared s).ss = s.ss ∧ (State.ownConditionsClear tag cleared s).cu = s.cu ∧
      (State.ownConditionsClear tag cleared s).jn = s.jn ∧ (State.ownConditionsClear tag cleared s).au = s.au ∧
      (State.ownConditionsClear tag cleared s).store = s.store ∧
      (State.ownConditionsClear tag cleared s).lc.outstanding = s.lc.outstanding ∧
      (State.ownConditionsClear tag cleared s).lc.rx = s.lc.rx ∧
      (State.ownConditionsClear tag cleared s).lc.clock = s.lc.clock := by
  unfold State.ownConditionsClear
  try dsimp only
  (repeat' split) <;> simp

@[simp] theorem State.ownSetTime_frame (tag : Nat) (seconds : Nat) (s : State) :
    (State.ownSetTime tag seconds s).pending = s.pending ∧ (State.ownSetTime tag seconds s).now = s.now ∧
      (State.ownSetTime tag seconds s).phase = s.phase ∧ (State.ownSetTime tag seconds s).li = s.li ∧
      (State.ownSetTime tag seconds s).td = s.td ∧ (State.ownSetTime tag seconds s).as = s.as ∧
      (State.ownSetTime tag seconds s).nd = s.nd ∧ (State.ownSetTime tag seconds s).dp = s.dp ∧
      (State.ownSetTime tag seconds s).ss = s.ss ∧ (State.ownSetTime tag seconds s).cu = s.cu ∧
      (State.ownSetTime tag seconds s).jn = s.jn ∧ (State.ownSetTime tag seconds s).au = s.au ∧
      (State.ownSetTime tag seconds s).store = s.store ∧
      (State.ownSetTime tag seconds s).lc.outstanding = s.lc.outstanding ∧
      (State.ownSetTime tag seconds s).lc.rx = s.lc.rx := by
  simp [State.ownSetTime]

@[simp] theorem State.ownIdentify_frame (tag : Nat) (s : State) :
    (State.ownIdentify tag s).pending = s.pending ∧ (State.ownIdentify tag s).now = s.now ∧
      (State.ownIdentify tag s).phase = s.phase ∧ (State.ownIdentify tag s).li = s.li ∧
      (State.ownIdentify tag s).td = s.td ∧ (State.ownIdentify tag s).as = s.as ∧
      (State.ownIdentify tag s).nd = s.nd ∧ (State.ownIdentify tag s).dp = s.dp ∧
      (State.ownIdentify tag s).ss = s.ss ∧ (State.ownIdentify tag s).cu = s.cu ∧
      (State.ownIdentify tag s).jn = s.jn ∧ (State.ownIdentify tag s).au = s.au ∧
      (State.ownIdentify tag s).store = s.store ∧ (State.ownIdentify tag s).lc.outstanding = s.lc.outstanding ∧
      (State.ownIdentify tag s).lc.rx = s.lc.rx ∧ (State.ownIdentify tag s).lc.clock = s.lc.clock := by
  simp [State.ownIdentify]

@[simp] theorem State.ownRestart_frame (tag : Nat) (s : State) :
    (State.ownRestart tag s).pending = s.pending ∧ (State.ownRestart tag s).now = s.now ∧
      (State.ownRestart tag s).li = s.li ∧ (State.ownRestart tag s).td = s.td ∧ (State.ownRestart tag s).as = s.as ∧
      (State.ownRestart tag s).nd = s.nd ∧ (State.ownRestart tag s).dp = s.dp ∧ (State.ownRestart tag s).ss = s.ss ∧
      (State.ownRestart tag s).cu = s.cu ∧ (State.ownRestart tag s).jn = s.jn ∧ (State.ownRestart tag s).au = s.au ∧
      (State.ownRestart tag s).store = s.store ∧ (State.ownRestart tag s).lc.outstanding = s.lc.outstanding ∧
      (State.ownRestart tag s).lc.rx = s.lc.rx ∧ (State.ownRestart tag s).lc.clock = s.lc.clock := by
  unfold State.ownRestart
  try dsimp only
  (repeat' split) <;> simp

@[simp] theorem State.serve_frame (s : State) (i : Instr) :
    (s.serve i).pending = s.pending ∧ (s.serve i).now = s.now ∧ (s.serve i).store = s.store ∧
      (s.serve i).jn.mem = s.jn.mem ∧ (s.serve i).lc.outstanding = s.lc.outstanding ∧ (s.serve i).lc.rx = s.lc.rx ∧
      (s.serve i).td.bays = s.td.bays ∧ (s.serve i).au.keySwitch = s.au.keySwitch := by
  unfold State.serve
  try dsimp only
  (repeat' split) <;> simp

@[simp] theorem State.dropFrame_frame (s : State) :
    s.dropFrame.pending = s.pending ∧ s.dropFrame.now = s.now ∧ s.dropFrame.phase = s.phase ∧ s.dropFrame.li = s.li ∧
      s.dropFrame.td = s.td ∧ s.dropFrame.as = s.as ∧ s.dropFrame.nd = s.nd ∧ s.dropFrame.dp = s.dp ∧
      s.dropFrame.ss = s.ss ∧ s.dropFrame.cu = s.cu ∧ s.dropFrame.jn = s.jn ∧ s.dropFrame.au = s.au ∧
      s.dropFrame.store = s.store ∧ s.dropFrame.lc.outstanding = s.lc.outstanding ∧
      s.dropFrame.lc.clock = s.lc.clock ∧ s.dropFrame.lc.replies = s.lc.replies := by
  simp [State.dropFrame]

@[simp] theorem State.breakFrame_frame (s : State) :
    s.breakFrame.pending = s.pending ∧ s.breakFrame.now = s.now ∧ s.breakFrame.phase = s.phase ∧
      s.breakFrame.li = s.li ∧ s.breakFrame.td = s.td ∧ s.breakFrame.as = s.as ∧ s.breakFrame.nd = s.nd ∧
      s.breakFrame.dp = s.dp ∧ s.breakFrame.ss = s.ss ∧ s.breakFrame.cu = s.cu ∧ s.breakFrame.jn = s.jn ∧
      s.breakFrame.au = s.au ∧ s.breakFrame.store = s.store ∧ s.breakFrame.lc.outstanding = s.lc.outstanding ∧
      s.breakFrame.lc.clock = s.lc.clock ∧ s.breakFrame.lc.replies = s.lc.replies := by
  unfold State.breakFrame
  try dsimp only
  (repeat' split) <;> simp

@[simp] theorem State.sent_frame (s : State) (f : Sending) :
    (s.sent f).pending = s.pending ∧ (s.sent f).now = s.now ∧ (s.sent f).li = s.li ∧ (s.sent f).td = s.td ∧
      (s.sent f).as = s.as ∧ (s.sent f).nd = s.nd ∧ (s.sent f).dp = s.dp ∧ (s.sent f).ss = s.ss ∧
      (s.sent f).cu = s.cu ∧ (s.sent f).jn = s.jn ∧ (s.sent f).au = s.au ∧ (s.sent f).store = s.store ∧
      (s.sent f).lc.rx = s.lc.rx ∧ (s.sent f).lc.clock = s.lc.clock := by
  unfold State.sent State.replySent
  dsimp only
  (repeat' split) <;> simp

@[simp] theorem State.onFrameSent_frame (s : State) :
    s.onFrameSent.pending = s.pending ∧ s.onFrameSent.now = s.now ∧ s.onFrameSent.li = s.li ∧
      s.onFrameSent.td = s.td ∧ s.onFrameSent.as = s.as ∧ s.onFrameSent.nd = s.nd ∧ s.onFrameSent.dp = s.dp ∧
      s.onFrameSent.ss = s.ss ∧ s.onFrameSent.cu = s.cu ∧ s.onFrameSent.jn = s.jn ∧ s.onFrameSent.au = s.au ∧
      s.onFrameSent.store = s.store ∧ s.onFrameSent.lc.rx = s.lc.rx ∧ s.onFrameSent.lc.clock = s.lc.clock := by
  unfold State.onFrameSent
  try dsimp only
  (repeat' split) <;> simp

end Sys2Proof.Machine
end

