-- ==== Sys2Proof/Laws/Memory.lean ====
section
/-! SUPPORT. The journal memory (R141): a read after a write, the canonical form that every operation keeps, and that
programming turns no bit back to 1 while an erase turns every bit of its range back. -/

namespace Sys2Proof.Machine

/-! ## Reading below the first entry, and weakening the lower bound -/

theorem Memory.wfFrom_mono {m : Memory} {lo lo' : Nat} (h : Memory.wfFrom lo m = true) (hle : lo' ≤ lo) :
    Memory.wfFrom lo' m = true := by
  cases m with
  | nil => rfl
  | cons c m =>
    obtain ⟨a, v⟩ := c
    simp only [Memory.wfFrom, Bool.and_eq_true, decide_eq_true_eq] at h ⊢
    exact ⟨⟨le_trans hle h.1.1, h.1.2⟩, h.2⟩

theorem Memory.read_below {m : Memory} {lo addr : Nat} (h : Memory.wfFrom lo m = true) (hlt : addr < lo) :
    m.read addr = Memory.erasedByte := by
  cases m with
  | nil => rfl
  | cons c m =>
    obtain ⟨a, v⟩ := c
    simp only [Memory.wfFrom, Bool.and_eq_true, decide_eq_true_eq] at h
    have hne : addr ≠ a := by omega
    have hlt' : addr < a := by omega
    simp [Memory.read, hne, hlt']

/-! ## One byte written -/

theorem Memory.entry_wfFrom {m : Memory} {lo addr : Nat} (v : Byte) (h : Memory.wfFrom (addr + 1) m = true) (hle : lo ≤ addr) :
    Memory.wfFrom lo (Memory.entry addr v m) = true := by
  unfold Memory.entry
  split
  · exact Memory.wfFrom_mono h (by omega)
  · next hv => simp [Memory.wfFrom, hle, hv, h]

theorem Memory.entry_read {m : Memory} {addr : Nat} (v : Byte) (h : Memory.wfFrom (addr + 1) m = true) (b : Nat) :
    (Memory.entry addr v m).read b = if b = addr then v else m.read b := by
  unfold Memory.entry
  by_cases hb : b = addr
  · subst hb
    split
    · next hv => simpa [hv] using Memory.read_below h (Nat.lt_succ_self b)
    · simp [Memory.read]
  · split
    · simp [hb]
    · simp only [Memory.read, hb, if_false]
      split
      · next hlt => exact (Memory.read_below h (by omega)).symm
      · rfl

theorem Memory.write_wfFrom {m : Memory} {lo addr : Nat} (v : Byte) (h : Memory.wfFrom lo m = true) (hle : lo ≤ addr) :
    Memory.wfFrom lo (m.write addr v) = true := by
  induction m generalizing lo with
  | nil => exact Memory.entry_wfFrom v rfl hle
  | cons c m ih =>
    obtain ⟨a, w⟩ := c
    have h' := h
    simp only [Memory.wfFrom, Bool.and_eq_true, decide_eq_true_eq] at h
    unfold Memory.write
    split
    · next ha => subst ha; exact Memory.entry_wfFrom v h.2 hle
    · split
      · next hlt =>
        refine Memory.entry_wfFrom v ?_ hle
        simp only [Memory.wfFrom, Bool.and_eq_true, decide_eq_true_eq]
        exact ⟨⟨hlt, h.1.2⟩, h.2⟩
      · next hne hge =>
        simp only [Memory.wfFrom, Bool.and_eq_true, decide_eq_true_eq]
        exact ⟨h.1, ih h.2 (by omega)⟩

/-- Every write keeps the canonical form. -/
theorem Memory.write_wf {m : Memory} (addr : Nat) (v : Byte) (h : m.wf = true) : (m.write addr v).wf = true :=
  Memory.write_wfFrom v h (Nat.zero_le _)

theorem Memory.read_writeFrom {m : Memory} {lo : Nat} (addr : Nat) (v : Byte) (h : Memory.wfFrom lo m = true) (b : Nat) :
    (m.write addr v).read b = if b = addr then v else m.read b := by
  induction m generalizing lo with
  | nil => exact Memory.entry_read v rfl b
  | cons c m ih =>
    obtain ⟨a, w⟩ := c
    have h' := h
    simp only [Memory.wfFrom, Bool.and_eq_true, decide_eq_true_eq] at h
    unfold Memory.write
    split
    · next ha =>
      subst ha
      rw [Memory.entry_read v h.2 b]
      by_cases hb : b = addr
      · simp [hb]
      · simp only [hb, if_false, Memory.read]
        split
        · exact Memory.read_below h.2 (by omega)
        · rfl
    · next hne =>
      split
      · next hlt =>
        refine Memory.entry_read v ?_ b
        simp only [Memory.wfFrom, Bool.and_eq_true, decide_eq_true_eq]
        exact ⟨⟨hlt, h.1.2⟩, h.2⟩
      · next hge =>
        simp only [Memory.read, ih h.2]
        by_cases hb : b = a
        · have : b ≠ addr := fun e => hne (e.symm.trans hb)
          simp [hb, Ne.symm hne]
        · by_cases hb' : b < a
          · have : b ≠ addr := by omega
            simp [hb, hb', this]
          · simp [hb, hb']

/-- A read after a write gives the byte written at its address, and elsewhere what it gave before. -/
theorem Memory.read_write {m : Memory} (h : m.wf = true) (addr : Nat) (v : Byte) (b : Nat) :
    (m.write addr v).read b = if b = addr then v else m.read b := Memory.read_writeFrom addr v h b

/-! ## Programming and erasing (R141) -/

theorem Memory.program_wf {m : Memory} (addr : Nat) (v : Byte) (h : m.wf = true) : (m.program addr v).wf = true :=
  Memory.write_wf addr _ h

theorem Memory.read_program {m : Memory} (h : m.wf = true) (addr : Nat) (v : Byte) (b : Nat) :
    (m.program addr v).read b = if b = addr then m.read addr &&& v else m.read b := Memory.read_write h _ _ _

/-- No bit of `after` reads 1 that reads 0 in `before`. -/
def Memory.onlyClears (before after : Memory) : Prop := ∀ a k, ((before.read a).getLsbD k) = false → ((after.read a).getLsbD k) = false

theorem Memory.onlyClears_refl (m : Memory) : Memory.onlyClears m m := fun _ _ h => h

theorem Memory.onlyClears_trans {m m' m'' : Memory} (h : Memory.onlyClears m m') (h' : Memory.onlyClears m' m'') :
    Memory.onlyClears m m'' := fun a k hb => h' a k (h a k hb)

theorem Memory.program_onlyClears {m : Memory} (h : m.wf = true) (addr : Nat) (v : Byte) :
    Memory.onlyClears m (m.program addr v) := by
  intro a k hb
  rw [Memory.read_program h]
  split
  · next ha => subst ha; simp [hb]
  · exact hb

theorem Memory.filter_wfFrom {m : Memory} {lo : Nat} (p : Host.Cell → Bool) (h : Memory.wfFrom lo m = true) :
    Memory.wfFrom lo (m.filter p) = true := by
  induction m generalizing lo with
  | nil => rfl
  | cons c m ih =>
    obtain ⟨a, v⟩ := c
    simp only [Memory.wfFrom, Bool.and_eq_true, decide_eq_true_eq] at h
    rw [List.filter_cons]
    split
    · simp only [Memory.wfFrom, Bool.and_eq_true, decide_eq_true_eq]
      exact ⟨h.1, ih h.2⟩
    · exact Memory.wfFrom_mono (ih h.2) (by omega)

theorem Memory.eraseRange_wf {m : Memory} (lo len : Nat) (h : m.wf = true) : (m.eraseRange lo len).wf = true :=
  Memory.filter_wfFrom _ h

theorem Memory.read_filterFrom {m : Memory} {lo : Nat} (p : Nat → Bool) (h : Memory.wfFrom lo m = true) (b : Nat) :
    Memory.read (m.filter fun c => p c.1) b = if p b then m.read b else Memory.erasedByte := by
  induction m generalizing lo with
  | nil => simp [Memory.read]
  | cons c m ih =>
    obtain ⟨a, v⟩ := c
    simp only [Memory.wfFrom, Bool.and_eq_true, decide_eq_true_eq] at h
    rw [List.filter_cons]
    by_cases hb : b = a
    · subst hb
      by_cases hp : p b = true
      · simp [hp, Memory.read]
      · simp [hp, ih h.2]
    · by_cases hlt : b < a
      · have hm : Memory.read m b = Memory.erasedByte := Memory.read_below h.2 (by omega)
        split
        · simp [Memory.read, hb, hlt]
        · rw [ih h.2]
          simp [Memory.read, hb, hlt, hm]
      · split
        · simp [Memory.read, hb, hlt, ih h.2]
        · simp [Memory.read, hb, hlt, ih h.2]

/-- An erase returns every byte of its range to FFh and leaves every other byte. -/
theorem Memory.read_eraseRange {m : Memory} (h : m.wf = true) (lo len b : Nat) :
    (m.eraseRange lo len).read b = if lo ≤ b ∧ b < lo + len then Memory.erasedByte else m.read b := by
  have := Memory.read_filterFrom (fun a => decide (a < lo ∨ lo + len ≤ a)) h b
  unfold Memory.eraseRange
  rw [this]
  by_cases hb : lo ≤ b ∧ b < lo + len
  · have : ¬ (b < lo ∨ lo + len ≤ b) := by omega
    simp [hb, this]
  · have : b < lo ∨ lo + len ≤ b := by omega
    simp [hb, this]

/-! ## Byte programs in a slot (R149, R209) -/

theorem programBytes_wf {m : Memory} (i k : Nat) (steps : List (Nat × Byte)) (missed : List Byte) (h : m.wf = true) :
    (programBytes m i k steps missed).1.wf = true := by
  induction steps generalizing m missed with
  | nil => exact h
  | cons c steps ih => exact ih missed.tail (Memory.program_wf _ _ h)

theorem programBytes_onlyClears {m : Memory} (i k : Nat) (steps : List (Nat × Byte)) (missed : List Byte) (h : m.wf = true) :
    Memory.onlyClears m (programBytes m i k steps missed).1 := by
  induction steps generalizing m missed with
  | nil => exact Memory.onlyClears_refl m
  | cons c steps ih =>
    exact Memory.onlyClears_trans (Memory.program_onlyClears h _ _) (ih missed.tail (Memory.program_wf _ _ h))

theorem cutBytes_wf {m : Memory} (i k : Nat) (steps : List (Nat × Byte)) (n : Nat) (left : Byte) (h : m.wf = true) :
    (cutBytes m i k steps n left).wf = true := by
  induction steps generalizing m n with
  | nil => exact h
  | cons c steps ih =>
    cases n with
    | zero => exact Memory.program_wf _ _ h
    | succ n => exact ih n (Memory.program_wf _ _ h)

theorem cutBytes_onlyClears {m : Memory} (i k : Nat) (steps : List (Nat × Byte)) (n : Nat) (left : Byte) (h : m.wf = true) :
    Memory.onlyClears m (cutBytes m i k steps n left) := by
  induction steps generalizing m n with
  | nil => exact Memory.onlyClears_refl m
  | cons c steps ih =>
    cases n with
    | zero => exact Memory.program_onlyClears h _ _
    | succ n => exact Memory.onlyClears_trans (Memory.program_onlyClears h _ _) (ih n (Memory.program_wf _ _ h))

end Sys2Proof.Machine
end

