-- ==== Sys2Proof/Laws/Link.lean ====
section
/-! SUPPORT. What a frame's way through the Link Controller leaves: every owner of a request keeps the queue, the elapsed
time, the store, the journal memory, the outstanding count and the receiver; so does the LC around it but for the count and
the receiver it steps. -/

namespace Sys2Proof.Machine

/-- What every request's owner keeps. -/
def State.keptByOwner (s t : State) : Prop :=
  t.pending = s.pending ∧ t.now = s.now ∧ t.store = s.store ∧ t.jn.mem = s.jn.mem ∧
    t.lc.outstanding = s.lc.outstanding ∧ t.lc.rx = s.lc.rx

theorem State.serve_keeps (s : State) (i : Instr) : State.keptByOwner s (s.serve i) := by
  cases i <;> simp [State.keptByOwner, State.serve]

/-- A taken frame keeps what its owner keeps, but for the outstanding count. -/
theorem State.takeFrame_keeps (s : State) (kind tag : Nat) (owner : State → State) (h : ∀ t, State.keptByOwner t (owner t)) :
    (s.takeFrame kind tag owner).pending = s.pending ∧ (s.takeFrame kind tag owner).now = s.now ∧
      (s.takeFrame kind tag owner).store = s.store ∧ (s.takeFrame kind tag owner).jn.mem = s.jn.mem ∧
      (s.takeFrame kind tag owner).lc.rx = s.lc.rx ∧
      (s.takeFrame kind tag owner).lc.outstanding =
        if Config.outstandingMax ≤ s.lc.outstanding then s.lc.outstanding else s.lc.outstanding + 1 := by
  unfold State.takeFrame
  dsimp only
  split
  · split <;> simp
  · (repeat' split) <;> first
      | (simp; done)
      | (obtain ⟨h1, h2, h3, h4, h5, h6⟩ := h { s with lc := { s.lc with outstanding := s.lc.outstanding + 1 } }
         exact ⟨h1, h2, h3, h4, h6, h5⟩)

@[simp] theorem State.frameArrives_frame (s : State) (kind tag : Nat) (body : List Byte) :
    (s.frameArrives kind tag body).pending = s.pending ∧ (s.frameArrives kind tag body).now = s.now ∧
      (s.frameArrives kind tag body).store = s.store ∧ (s.frameArrives kind tag body).jn.mem = s.jn.mem ∧
      (s.frameArrives kind tag body).lc.rx = s.lc.rx ∧
      (s.frameArrives kind tag body).lc.outstanding =
        if Config.outstandingMax ≤ s.lc.outstanding then s.lc.outstanding else s.lc.outstanding + 1 := by
  refine State.takeFrame_keeps s kind tag _ fun t => ?_
  split
  · exact State.serve_keeps t _
  · simp [State.keptByOwner]

@[simp] theorem State.checkFrame_frame (s : State) (buffer : List Byte) :
    (s.checkFrame buffer).pending = s.pending ∧ (s.checkFrame buffer).now = s.now ∧
      (s.checkFrame buffer).store = s.store ∧ (s.checkFrame buffer).jn.mem = s.jn.mem := by
  unfold State.checkFrame
  dsimp only
  split <;> simp

@[simp] theorem State.takeByte_frame (s : State) (v : Byte) :
    (s.takeByte v).pending = s.pending ∧ (s.takeByte v).now = s.now ∧ (s.takeByte v).store = s.store ∧
      (s.takeByte v).jn.mem = s.jn.mem := by
  unfold State.takeByte
  dsimp only
  (repeat' split) <;> simp

@[simp] theorem State.takeBytes_frame (s : State) (bytes : List Byte) :
    (s.takeBytes bytes).pending = s.pending ∧ (s.takeBytes bytes).now = s.now ∧ (s.takeBytes bytes).store = s.store ∧
      (s.takeBytes bytes).jn.mem = s.jn.mem := by
  unfold State.takeBytes
  induction bytes generalizing s with
  | nil => simp
  | cons v bytes ih => simp [ih]

@[simp] theorem State.onFrameTaken_frame (bytes : List Byte) (s : State) :
    (State.onFrameTaken bytes s).pending = s.pending ∧ (State.onFrameTaken bytes s).now = s.now ∧
      (State.onFrameTaken bytes s).store = s.store ∧ (State.onFrameTaken bytes s).jn.mem = s.jn.mem := by
  simp [State.onFrameTaken]

@[simp] theorem State.onFrameDropped_frame (bytes : List Byte) (framingError : Bool) (s : State) :
    (State.onFrameDropped bytes framingError s).pending = s.pending ∧
      (State.onFrameDropped bytes framingError s).now = s.now ∧
      (State.onFrameDropped bytes framingError s).store = s.store ∧
      (State.onFrameDropped bytes framingError s).jn.mem = s.jn.mem := by
  unfold State.onFrameDropped
  split <;> simp

end Sys2Proof.Machine
end

