-- ==== Sys2Proof/Laws/Requests.lean ====
section
/-! SUPPORT. A request's way, said once: every request is its frame taken at its owner, a request served runs its owner on
the counted state, and the replies `ok` and `refuse` of a request kind are `replied`. -/

namespace Sys2Proof.Machine

/-- A request is taken from the line under its frame's kind and tag, and served by its owner. -/
theorem exec_request {i : Instr} {kind tag : Nat} {body : List Byte} (h : requestFrame i = some (kind, tag, body)) (s : State) :
    exec i s = s.request kind tag fun s => s.serve i := by
  cases i <;> simp only [requestFrame, Option.some.injEq, Prod.mk.injEq, reduceCtorEq] at h <;>
    obtain ⟨rfl, rfl, -⟩ := h <;> rfl

/-- A request's frame has a request kind. -/
theorem requestFrame_kind {i : Instr} {kind tag : Nat} {body : List Byte} (h : requestFrame i = some (kind, tag, body)) :
    requestKinds.contains kind = true := by
  cases i <;> simp only [requestFrame, Option.some.injEq, Prod.mk.injEq, reduceCtorEq] at h <;>
    obtain ⟨rfl, -, -⟩ := h <;> rfl

/-- A served request runs its owner on the state in which it is counted. -/
theorem State.request_serves {s : State} {kind tag : Nat} (h : s.Serves tag) (hk : requestKinds.contains kind = true)
    (owner : State → State) : s.request kind tag owner = .next (owner s.counted).finish := by
  obtain ⟨hp, ho, ht⟩ := h
  have ho' : ¬ Config.outstandingMax ≤ s.lc.outstanding := by omega
  have hpow : s.powered = true := by simp [State.powered, hp]
  have hstart : s.counted.started = true := by simp [State.started, State.counted, hp]
  unfold State.request State.poweredStep State.takeFrame
  rw [if_pos hpow]
  beta_reduce
  rw [if_neg ho']
  show Host.Outcome.next (State.finish (if (!s.counted.started) = true then _ else _)) = _
  simp only [hstart, hk, ht, Bool.not_true, Bool.false_eq_true, if_false]
  rfl

/-- A well-formed request served: its owner on the counted state, then the finish of the step. -/
theorem exec_serves {i : Instr} {kind tag : Nat} {body : List Byte} {s : State} (hi : requestFrame i = some (kind, tag, body))
    (h : s.Serves tag) : exec i s = .next (s.counted.serve i).finish := by
  rw [exec_request hi s, State.request_serves h (requestFrame_kind hi)]

theorem State.reply_replied {kind : Nat} (hk : requestKinds.contains kind = true) (s : State) (tag : Nat) (body : List Byte) :
    s.reply kind tag body = s.replied kind tag body := by
  simp only [State.reply, State.replied, answer, replyKind, hk, if_true]

theorem State.ok_replied {kind : Nat} (hk : requestKinds.contains kind = true) (s : State) (tag : Nat) (values : List Byte) :
    s.ok kind tag values = s.replied kind tag (0x00#8 :: values) := State.reply_replied hk s tag _

theorem State.refuse_replied {kind : Nat} (hk : requestKinds.contains kind = true) (s : State) (tag : Nat) (code : Code) :
    s.refuse kind tag code [] = s.replied kind tag (u8 code.num) := by
  simp only [State.refuse, List.append_nil, State.reply_replied hk]

/-- An event of the powered part: its operation, then the finish of the step. -/
theorem State.poweredStep_on {s : State} (h : s.phase ≠ .off) (f : State → State) : s.poweredStep f = .next (f s).finish := by
  simp [State.poweredStep, State.powered, h]

/-- An unpowered part is at rest. -/
theorem State.poweredStep_off {s : State} (h : s.phase = .off) (f : State → State) : s.poweredStep f = .next s := by
  simp [State.poweredStep, State.powered, h]

@[simp] theorem State.powered_on {s : State} (h : s.phase ≠ .off) : s.powered = true := by simp [State.powered, h]

theorem Serves.powered {s : State} {tag : Nat} (h : s.Serves tag) : s.phase ≠ .off := by simp [h.1]

@[simp] theorem Ix4.ofNum_num (l : Ix4) : Ix4.ofNum l.num = some l := by cases l <;> rfl

/-- A number outside 1 to 4 names nothing. -/
theorem Ix4.ofNum_none {n : Nat} (h : n < 1 ∨ 4 < n) : Ix4.ofNum n = none := by
  unfold Ix4.ofNum
  split <;> simp_all

end Sys2Proof.Machine
end

