-- ==== Sys2Proof/Laws/Reads.lean ====
section
/-! SUPPORT. What a read of one record gives after an update: a lane, carrier, bay, cassette, zone or load after the update of
one of its kind, a condition instance after a rise, and every read after the finish of a step. -/

namespace Sys2Proof.Machine

/-! ## One of four -/

@[simp] theorem Four.get_modify {α : Type} (f : Four α) (i k : Ix4) (g : α → α) :
    (f.modify i g).get k = if k = i then g (f.get k) else f.get k := by
  cases i <;> cases k <;> rfl

@[simp] theorem Four.get_map {α β : Type} (f : Four α) (g : α → β) (k : Ix4) : (f.map g).get k = g (f.get k) := by
  cases k <;> rfl

@[simp] theorem Four.get_const {α : Type} (a : α) (k : Ix4) : (Four.const a).get k = a := by cases k <;> rfl

/-- Four records are one record, entry by entry. -/
theorem Four.ext_get {α : Type} {f g : Four α} (h : ∀ k, f.get k = g.get k) : f = g := by
  have h1 := h .i1
  have h2 := h .i2
  have h3 := h .i3
  have h4 := h .i4
  cases f
  cases g
  simp_all [Four.get]

/-! ## Reads of a state after an update of one record -/

theorem State.laneRec_modLane (s : State) (l k : Lane) (f : LaneRec → LaneRec) :
    (s.modLane l f).laneRec k = if k = l then f (s.laneRec k) else s.laneRec k := Four.get_modify ..

theorem State.carrier_modCarrier (s : State) (l k : Lane) (f : Carrier → Carrier) :
    (s.modCarrier l f).carrier k = if k = l then f (s.carrier k) else s.carrier k := Four.get_modify ..

theorem State.bay_modBay (s : State) (l k : Lane) (f : Bay → Bay) :
    (s.modBay l f).bay k = if k = l then f (s.bay k) else s.bay k := Four.get_modify ..

theorem State.cass_modCass (s : State) (c k : Cass) (f : Cassette → Cassette) :
    (s.modCass c f).cass k = if k = c then f (s.cass k) else s.cass k := Four.get_modify ..

@[simp] theorem Zones.get_set (z : Zones) (i k : ZoneId) (r : Zone) :
    (z.set i r).get k = if k = i then r else z.get k := by
  cases i <;> cases k <;> try rfl
  case tamper.tamper l m => cases l <;> cases m <;> rfl

theorem State.zone_modZone (s : State) (i k : ZoneId) (f : Zone → Zone) :
    (s.modZone i f).zone k = if k = i then f (s.zone k) else s.zone k := by
  simp only [State.zone, State.modZone, Zones.get_set]
  split
  · next h => rw [h]
  · rfl

/-- A load changed by a function that keeps its id is read changed; every other load as before. -/
theorem State.load_modLoad (s : State) (id k : Nat) (f : Load → Load) (hf : ∀ ld, (f ld).id = ld.id) :
    (s.modLoad id f).load k = if k = id then (s.load k).map f else s.load k := by
  simp only [State.load, State.modLoad]
  induction s.dp.loads with
  | nil => simp
  | cons ld lds ih =>
    simp only [List.map_cons, List.find?_cons]
    by_cases h : ld.id = id
    · by_cases hk : ld.id = k
      · simp [h ▸ hk, hf, h]
      · have : ¬ k = id := fun e => hk (h.trans e.symm)
        simp_all
    · by_cases hk : ld.id = k
      · have : ¬ k = id := fun e => h (hk.trans e)
        simp [hk, this]
      · simp_all

/-- A load taken out of the table is read no more. -/
theorem find_filter_ne (lds : List Load) (id k : Nat) :
    (lds.filter fun ld => ld.id != id).find? (fun ld => ld.id = k) =
      if k = id then none else lds.find? fun ld => ld.id = k := by
  induction lds with
  | nil => simp
  | cons ld lds ih =>
    by_cases h : ld.id = id <;> by_cases hk : ld.id = k <;> simp_all

/-! ## Condition instances -/

theorem getElem?_modifyAt {α : Type} (g : α → α) (n : Nat) (l : List α) (k : Nat) :
    (modifyAt g n l)[k]? = if k = n then l[k]?.map g else l[k]? := by
  induction l generalizing n k with
  | nil => simp [modifyAt]
  | cons x l ih => cases n <;> cases k <;> simp [modifyAt, ih]

@[simp] theorem length_modifyAt {α : Type} (g : α → α) (n : Nat) (l : List α) : (modifyAt g n l).length = l.length := by
  induction l generalizing n with
  | nil => simp [modifyAt]
  | cons x l ih => cases n <;> simp [modifyAt, ih]

@[simp] theorem LC.raise_length (lc : LC) (n : Nat) (o : Option (List Byte)) : (lc.raise n o).conds.length = lc.conds.length := by
  unfold LC.raise
  split <;> simp

/-- A rise leaves every other instance; its own is pending, with the rise's snapshot (R195). -/
theorem LC.raise_conds (lc : LC) (n : Nat) (o : Option (List Byte)) (k : Nat) :
    (lc.raise n o).conds[k]? =
      if k = n - 1 then lc.conds[k]?.map fun c => { c with isPending := true, snapshot := o } else lc.conds[k]? := by
  unfold LC.raise
  split
  · next h => split <;> simp_all
  · simp [getElem?_modifyAt]

theorem LC.raise_pending (lc : LC) (n k : Nat) (o : Option (List Byte)) :
    (lc.raise n o).isPending k = (if k - 1 = n - 1 then decide (k - 1 < lc.conds.length) else lc.isPending k) := by
  by_cases h : k - 1 = n - 1
  · rw [if_pos h]
    unfold LC.isPending
    rw [LC.raise_conds, if_pos h]
    rcases hc : lc.conds[k - 1]? with _ | c
    · rw [List.getElem?_eq_none_iff] at hc
      simp [Nat.not_lt.mpr hc]
    · simp [(List.getElem?_eq_some_iff.mp hc).1]
  · rw [if_neg h]
    unfold LC.isPending
    rw [LC.raise_conds, if_neg h]

/-- A rise of an instance leaves pending what was pending. -/
theorem LC.raise_keeps (lc : LC) (n k : Nat) (o : Option (List Byte)) (h : lc.isPending k = true) :
    (lc.raise n o).isPending k = true := by
  rw [LC.raise_pending]
  split
  · simp only [decide_eq_true_eq]
    unfold LC.isPending at h
    rcases hc : lc.conds[k - 1]? with _ | c
    · simp [hc] at h
    · exact (List.getElem?_eq_some_iff.mp hc).1
  · exact h

/-- An instance's number is one of 1 to 69, and no other instance's (section 11.4). -/
theorem Cond.num_bounds (c : Cond) : 1 ≤ c.num ∧ c.num ≤ 69 := by
  cases c <;> try decide
  case lane l k => cases l <;> cases k <;> decide

theorem Cond.num_injective {c d : Cond} (h : c.num = d.num) : c = d := by
  have key : ∀ c : Cond, ∃ l k, c = .lane l k ∨ 56 < c.num := by
    intro c
    cases c <;> first | exact ⟨_, _, .inl rfl⟩ | exact ⟨.i1, .call, .inr (by decide)⟩
  cases c <;> cases d <;> first | rfl | (exfalso; revert h; decide) | skip
  case lane.lane l k l' k' => cases l <;> cases k <;> cases l' <;> cases k' <;> first | rfl | (exfalso; revert h; decide)
  all_goals (exfalso; rename_i l k; cases l <;> cases k <;> revert h <;> decide)

/-! ## After the finish of a step -/

/-- The finish of a step changes the store and the line alone. -/
theorem State.finish_eq (s : State) :
    s.finish = { s with store := s.finish.store, lc := { s.lc with sending := s.finish.lc.sending } } := by
  unfold State.finish State.transmit State.writeStore
  (repeat' split) <;> rfl

@[simp] theorem State.finish_conds (s : State) : s.finish.lc.conds = s.lc.conds ∧ s.finish.lc.notices = s.lc.notices ∧
    s.finish.lc.dropped = s.lc.dropped ∧ s.finish.lc.auto = s.lc.auto ∧ s.finish.lc.clockSet = s.lc.clockSet := by
  rw [State.finish_eq]
  exact ⟨rfl, rfl, rfl, rfl, rfl⟩

@[simp] theorem State.finish_laneRec (s : State) (l : Lane) : s.finish.laneRec l = s.laneRec l := by simp [State.laneRec]
@[simp] theorem State.finish_carrier (s : State) (l : Lane) : s.finish.carrier l = s.carrier l := by simp [State.carrier]
@[simp] theorem State.finish_bay (s : State) (l : Lane) : s.finish.bay l = s.bay l := by simp [State.bay]
@[simp] theorem State.finish_cass (s : State) (c : Cass) : s.finish.cass c = s.cass c := by simp [State.cass]
@[simp] theorem State.finish_zone (s : State) (z : ZoneId) : s.finish.zone z = s.zone z := by simp [State.zone]
@[simp] theorem State.finish_load (s : State) (id : Nat) : s.finish.load id = s.load id := by simp [State.load]
@[simp] theorem State.finish_outstandingState (s : State) (l : Lane) : s.finish.outstandingState l = s.outstandingState l := by
  simp [State.outstandingState]
@[simp] theorem State.finish_isPending (s : State) (n : Nat) : s.finish.lc.isPending n = s.lc.isPending n := by
  simp [LC.isPending]

/-- Both copies of the store hold the retained items after the finish of a step (R204). -/
theorem State.finish_store (s : State) :
    s.finish.store.first.content = s.retained ∧ s.finish.store.first.sound = true ∧
      s.finish.store.second.content = s.retained ∧ s.finish.store.second.sound = true := by
  have h : s.finish.store = s.writeStore.store := by simp [State.finish]
  rw [h]
  unfold State.writeStore
  split
  · next hs => exact hs
  · exact ⟨rfl, rfl, rfl, rfl⟩

end Sys2Proof.Machine
end

