-- ==== Sys2Proof/Laws/Conditions.lean ====
section
/-! SUPPORT. The condition set under CONDITIONS_ENABLE and CONDITIONS_CLEAR (R196 to R200), and what RESTART waits for
(R207). -/

namespace Sys2Proof.Machine

/-- A number outside its range. -/
theorem within_false {hi : Nat} {ns : List Nat} (h : ∃ n ∈ ns, n < 1 ∨ hi < n) : within hi ns = false := by
  obtain ⟨n, hn, h⟩ := h
  simp [within]
  exact ⟨n, hn, by omega⟩

/-- Every number in its range. -/
theorem within_true {hi : Nat} {ns : List Nat} (h : ∀ n ∈ ns, 1 ≤ n ∧ n ≤ hi) : within hi ns = true := by
  simpa [within] using h

/-- An enable leaves what is pending. -/
theorem LC.isPending_enabled (lc : LC) (n : Nat) (b : Bool) :
    ({ lc with conds := modifyAt (fun c => { c with enabled := b }) (n - 1) lc.conds } : LC).isPending n =
      lc.isPending n := by
  simp only [LC.isPending, getElem?_modifyAt, if_true]
  cases lc.conds[n - 1]? <;> rfl

/-- Turning an instance on or off sets its enable alone (R196). -/
theorem LC.setEnable_conds (lc : LC) (n : Nat) (on : Bool) (c : CondRec) (hc : lc.conds[n - 1]? = some c) (k : Nat) :
   (lc.setEnable n on).conds[k]? = if k = n - 1 then some { c with enabled := on } else lc.conds[k]? := by
  have hen : lc.isEnabled n = c.enabled := by simp [LC.isEnabled, hc]
  unfold LC.setEnable
  by_cases h : lc.isEnabled n = on
  · rw [if_pos h]
    split
    · next hk => subst hk; rw [hc]; rw [hen] at h; subst h; rfl
    · rfl
  · rw [if_neg h]
    dsimp only
    (repeat' split)
    all_goals (next hk => simp [LC.dropEntry, getElem?_modifyAt, hk, hc])

/-- Where an entry stands after an instance was turned on or off (R196, R198). -/
theorem LC.setEnable_notices (lc : LC) (n : Nat) (on : Bool) (c : CondRec) (hc : lc.conds[n - 1]? = some c) (m : Nat) :
   (.cond m) ∈ (lc.setEnable n on).notices ↔ if m = n then ((on = true ∧ c.enabled = false ∧ c.isPending = true) ∨
         ((.cond n) ∈ lc.notices ∧ (on = true ∨ c.enabled = false))) else (.cond m) ∈ lc.notices := by
  have hen : lc.isEnabled n = c.enabled := by simp [LC.isEnabled, hc]
  have hpe : lc.isPending n = c.isPending := by simp [LC.isPending, hc]
  unfold LC.setEnable
  by_cases h : lc.isEnabled n = on
  · rw [if_pos h]
    rw [hen] at h; subst h
    split
    · next hm => subst hm; cases c.enabled <;> simp
    · rfl
  · rw [if_neg h]
    rw [hen] at h
    dsimp only
    rw [LC.isPending_enabled, hpe]
    cases on
    · have h' : c.enabled = true := by simpa using h
      by_cases hm : m = n <;> simp [LC.dropEntry, h', hm]
    · have h' : c.enabled = false := by simpa using h
      by_cases hpn : c.isPending = true
      · by_cases hin : (NoticeEntry.cond n) ∈ lc.notices
        · by_cases hm : m = n <;> simp_all
        · by_cases hm : m = n <;> simp_all
      · simp [h', hpn]; intro hm; subst hm; rfl

/-- A list of instances turned on or off by a set, one after another (R198). -/
theorem LC.foldl_setEnable (enabled : List Nat) (ns : List Nat) : ns.Nodup → (∀ n ∈ ns, 1 ≤ n) →
      ∀ lc : LC, (∀ n ∈ ns, n ≤ lc.conds.length) →
   let r := ns.foldl (fun lc n => lc.setEnable n (enabled.contains n)) lc
   (∀ n, 1 ≤ n → n ∉ ns → r.conds[n-1]? = lc.conds[n-1]? ∧ ((.cond n) ∈ r.notices ↔ (.cond n) ∈ lc.notices)) ∧
   (∀ n ∈ ns, r.conds[n - 1]? = lc.conds[n - 1]?.map (fun c => { c with enabled := enabled.contains n }) ∧
     ((.cond n) ∈ r.notices ↔
            (enabled.contains n = true ∧ lc.isEnabled n = false ∧ lc.isPending n = true) ∨
            ((.cond n) ∈ lc.notices ∧ (enabled.contains n = true ∨ lc.isEnabled n = false)))) := by
  induction ns with
  | nil => intro _ _ lc _; simp
  | cons a ns ih =>
    intro hnd hge lc hlen
    simp only [List.foldl_cons]
    have ha : 1 ≤ a := hge a (by simp)
    have hal : a ≤ lc.conds.length := hlen a (by simp)
    obtain ⟨c, hc⟩ : ∃ c, lc.conds[a - 1]? = some c := by
      rw [List.getElem?_eq_getElem (by omega)]; exact ⟨_, rfl⟩
    have hs1 := LC.setEnable_conds lc a (enabled.contains a) c hc
    have hs2 := LC.setEnable_notices lc a (enabled.contains a) c hc
    have hlen' : (lc.setEnable a (enabled.contains a)).conds.length = lc.conds.length := by
      apply le_antisymm
      · by_contra hcon
        have h1 := hs1 lc.conds.length
        rw [if_neg (by omega)] at h1
        rw [List.getElem?_eq_none (le_refl lc.conds.length)] at h1
        rw [List.getElem?_eq_none_iff] at h1; omega
      · by_contra hcon
        have h1 := hs1 (lc.setEnable a (enabled.contains a)).conds.length
        rw [List.getElem?_eq_none (le_refl (lc.setEnable a (enabled.contains a)).conds.length)] at h1
        split at h1
        · simp at h1
        · rw [eq_comm, List.getElem?_eq_none_iff] at h1; omega
    have hnd' := List.nodup_cons.mp hnd
    have := ih hnd'.2 (fun n h => hge n (by simp [h])) (lc.setEnable a (enabled.contains a))
          (fun n h => by rw [hlen']; exact hlen n (by simp [h]))
    dsimp only at this
    obtain ⟨t1, t2⟩ := this
    refine ⟨fun n h1 h2 => ?_, fun n hn => ?_⟩
    · simp at h2
      have := t1 n h1 h2.2
      rw [this.1, this.2, hs1, hs2, if_neg (by omega), if_neg h2.1]
      exact ⟨rfl, Iff.rfl⟩
    · rcases List.mem_cons.mp hn with rfl | hn
      · have := t1 n ha hnd'.1
        rw [this.1, this.2, hs1, hs2, if_pos rfl, if_pos rfl, hc]
        simp [LC.isEnabled, LC.isPending, hc]
      · have hne : n ≠ a := fun h => hnd'.1 (h ▸ hn)
        have hn1 := hge n (by simp [hn])
        have := t2 n hn
        have e : (lc.setEnable a (enabled.contains a)).conds[n-1]? = lc.conds[n-1]? := by rw [hs1, if_neg (by omega)]
        have e1 : (lc.setEnable a (enabled.contains a)).isEnabled n = lc.isEnabled n := by simp only [LC.isEnabled, e]
        have e2 : (lc.setEnable a (enabled.contains a)).isPending n = lc.isPending n := by simp only [LC.isPending, e]
        rw [this.1, this.2, hs2, if_neg hne, e, e1, e2]
        exact ⟨rfl, Iff.rfl⟩

/-- 1 to 69 are the numbers of the instances. -/
theorem mem_instanceNumbers {n : Nat} (h : 1 ≤ n) (h' : n ≤ 69) : n ∈ instanceNumbers := by
  simp [instanceNumbers, Config.conditions]; exact ⟨n - 1, by omega, by omega⟩

/-- No instance is numbered twice. -/
theorem instanceNumbers_nodup : instanceNumbers.Nodup := by
  unfold instanceNumbers
  exact List.Nodup.map (fun a b h => by omega) (List.nodup_range)

/-- The numbers of the instances are 1 to 69. -/
theorem instanceNumbers_bounds {n : Nat} (h : n ∈ instanceNumbers) : 1 ≤ n ∧ n ≤ 69 := by
  simp [instanceNumbers, Config.conditions] at h; obtain ⟨a, ha, rfl⟩ := h; omega

/-- A clear of one instance: its pending flag and its entry, and nothing else (R197). -/
theorem LC.clear_spec (lc : LC) (n : Nat) (c : CondRec) (hc : lc.conds[n - 1]? = some c) :
   (∀ k, (lc.clear n).conds[k]? = if k = n - 1 then some { c with isPending := false } else lc.conds[k]?) ∧
   (∀ m, (.cond m) ∈ (lc.clear n).notices ↔ (.cond m) ∈ lc.notices ∧ ¬ (m = n ∧ c.isPending = true)) := by
  unfold LC.clear
  rw [hc]
  by_cases h : c.isPending = true
  · simp [h, getElem?_modifyAt, LC.dropEntry]
    intro k
    split
    · next hk => subst hk; simp [hc]
    · rfl
  · have hf : c.isPending = false := by simpa using h
    simp only [hf]
    refine ⟨fun k => ?_, fun m => by simp⟩
    by_cases hk : k = n - 1
    · subst hk
      cases c
      simp_all
    · simp [hk]

/-- A list of instances cleared one after another (R197, R200). -/
theorem LC.foldl_clear (ns : List Nat) : ns.Nodup → (∀ n ∈ ns, 1 ≤ n) → ∀ lc : LC, (∀ n ∈ ns, n ≤ lc.conds.length) →
   let r := ns.foldl LC.clear lc
   (∀ n, 1 ≤ n → r.conds[n - 1]? = lc.conds[n - 1]?.map (fun c => { c with isPending := c.isPending && !decide (n ∈ ns) }) ∧
     ((.cond n) ∈ r.notices ↔ (.cond n) ∈ lc.notices ∧ ¬ (n ∈ ns ∧ lc.isPending n = true))) := by
  induction ns with
  | nil => intro _ _ lc _; simp
  | cons a ns ih =>
    intro hnd hge lc hlen
    simp only [List.foldl_cons]
    have ha : 1 ≤ a := hge a (by simp)
    have hal : a ≤ lc.conds.length := hlen a (by simp)
    obtain ⟨c, hc⟩ : ∃ c, lc.conds[a - 1]? = some c := by
      rw [List.getElem?_eq_getElem (by omega)]; exact ⟨_, rfl⟩
    obtain ⟨hs1, hs2⟩ := LC.clear_spec lc a c hc
    have hlen' : (lc.clear a).conds.length = lc.conds.length := by
      apply le_antisymm
      · by_contra hcon
        have h1 := hs1 lc.conds.length
        rw [if_neg (by omega)] at h1
        rw [List.getElem?_eq_none (le_refl lc.conds.length)] at h1
        rw [List.getElem?_eq_none_iff] at h1; omega
      · by_contra hcon
        have h1 := hs1 (lc.clear a).conds.length
        rw [List.getElem?_eq_none (le_refl (lc.clear a).conds.length)] at h1
        split at h1
        · simp at h1
        · rw [eq_comm, List.getElem?_eq_none_iff] at h1; omega
    have hnd' := List.nodup_cons.mp hnd
    have := ih hnd'.2 (fun n h => hge n (by simp [h])) (lc.clear a) (fun n h => by rw [hlen']; exact hlen n (by simp [h]))
    dsimp only at this
    intro n hn
    obtain ⟨t1, t2⟩ := this n hn
    rw [t1, t2, hs1, hs2]
    by_cases hna : n = a
    · subst hna
      simp [hc, hnd'.1, LC.isPending]
    · have e : (lc.clear a).conds[n-1]? = lc.conds[n-1]? := by rw [hs1, if_neg (by omega)]
      rw [if_neg (by omega)]
      simp [hna, LC.isPending, e]

/-- Nothing is at work that a RESTART would disturb (R207). -/
theorem State.quiet_iff (s : State) : s.quiet = true ↔ (s.td.move = none ∧ s.nd.state = .idle ∧ s.cu.state = .idle ∧
      s.cu.hand = none ∧ s.ss.transfer = none ∧
      s.ss.shuttle = .home ∧ s.jn.run = none ∧ s.li.rescan = none ∧ (∀ c, (s.cass c).pending = none) ∧
      s.nd.emptying = none ∧ s.cu.exchange = none) := by
  have : (∀ c, (s.cass c).pending = none) ↔ (s.nd.cassettes.v1.pending = none ∧ s.nd.cassettes.v2.pending = none ∧
        s.nd.cassettes.v3.pending = none ∧ s.nd.cassettes.v4.pending = none) :=
    ⟨fun h => ⟨h .i1, h .i2, h .i3, h .i4⟩, fun h c => by cases c <;> simp [State.cass, Four.get, h]⟩
  simp [State.quiet, this, Four.toList]
  tauto

end Sys2Proof.Machine
end

