-- ==== Sys2Proof/Laws/Receiver.lean ====
section
/-! SUPPORT. The receiver (R190): what a byte, a body and a whole frame do to it. -/

namespace Sys2Proof.Machine

/-- A byte of the body is kept; with the last the check bytes follow (R190). -/
theorem State.takeByte_body (s : State) (a b : Byte) (rest : List Byte) (v : Byte) (h : s.lc.rx = ⟨.body, a :: b :: rest⟩) :
    s.takeByte v = s.receive (if rest.length + 1 < number [a, b] then .body else .check) (a :: b :: rest ++ [v]) := by
  unfold State.takeByte
  simp [h, frameLength]
  have : rest.length + 1 + 1 + 1 < 2 + number [a, b] ↔ rest.length + 1 < number [a,b] := by omega
  simp [this]

/-- The bytes of a body that is as long as the length bytes say are kept, and the check bytes follow (R190). -/
theorem State.takeBytes_body (xs : List Byte) : ∀ (s : State) (a b : Byte) (rest : List Byte), s.lc.rx =
      ⟨.body, a :: b :: rest⟩ → xs ≠ [] →
   rest.length + xs.length = number [a, b] → s.takeBytes xs = s.receive .check (a :: b :: rest ++ xs) := by
  induction xs with
  | nil => intro s a b rest h h' ; exact absurd rfl h'
  | cons v xs ih =>
    intro s a b rest h _ hl
    show (s.takeByte v).takeBytes xs = _
    rw [State.takeByte_body s a b rest v h]
    simp at hl
    by_cases hx : xs = []
    · subst hx
      simp at hl
      rw [if_neg (by omega)]
      rfl
    · have : xs.length ≠ 0 := by simpa using hx
      rw [if_pos (by omega)]
      rw [ih (s.receive .body (a :: b :: rest ++ [v])) a b (rest ++ [v]) rfl hx (by simp; omega)]
      simp [State.receive, State.modLC]

/-- A whole frame, taken byte by byte from HUNT, ends in the comparison of its check bytes (R190). -/
theorem State.takeBytes_whole (s : State) (kind tag : Nat) (body : List Byte) (hr : s.lc.rx = ⟨.hunt, []⟩)
      (hb : body.length ≤ 232) (c1 c0 : Byte) :
    s.takeBytes (Config.startByte :: (u16 (2 + body.length) ++ u8 kind ++ u8 tag ++ body) ++ [c1, c0]) =
      (s.receive .check (u16 (2 + body.length) ++ u8 kind ++ u8 tag ++ body ++
            [c1])).checkFrame (u16 (2 + body.length) ++ u8 kind ++ u8 tag ++ body ++ [c1, c0]) := by
  have hn : number (u16 (2 + body.length)) = 2 + body.length := number_u16 (by omega)
  generalize hA : BitVec.ofNat 8 ((2 + body.length) / 256) = a
  generalize hB : BitVec.ofNat 8 (2 + body.length) = b
  have hu : u16 (2 + body.length) = [a, b] := by simp [u16, hA, hB]
  rw [hu] at hn ⊢
  show ((((s.takeByte Config.startByte).takeByte a).takeByte b).takeBytes ((u8 kind ++ u8 tag ++ body) ++ [c1, c0])) = _
  have e1 : s.takeByte Config.startByte = s.receive .length [] := by unfold State.takeByte; simp [hr]
  have e2 : (s.receive .length []).takeByte a =
        s.receive .length [a] := by unfold State.takeByte; simp [State.receive, State.modLC]
  have e3 : (s.receive .length [a]).takeByte b = s.receive .body [a, b] := by
    unfold State.takeByte
    simp [frameLength, hn, Config.bodyMax]
    rw [if_neg (by omega)]
    simp [State.receive, State.modLC]
  rw [e1, e2, e3]
  have e4 := State.takeBytes_body (u8 kind ++ u8 tag ++ body) (s.receive .body [a, b]) a b [] rfl (by simp [u8])
        (by simp [hn]; omega)
  have : (s.receive .body [a, b]).takeBytes (u8 kind ++ u8 tag ++ body ++ [c1, c0]) =
        ((s.receive .body [a, b]).takeBytes (u8 kind ++ u8 tag ++ body)).takeBytes [c1, c0] := by
    simp [State.takeBytes]
  rw [this, e4]
  have e5 : (s.receive .body [a, b]).receive .check (a :: b :: [] ++ (u8 kind ++ u8 tag ++ body)) =
        s.receive .check (a :: b :: (u8 kind ++ u8 tag ++ body)) := rfl
  rw [e5]
  show ((s.receive .check _).takeByte c1).takeByte c0 = _
  generalize hX : u8 kind ++ u8 tag ++ body = X
  have hlen : X.length = 2 + body.length := by rw [← hX]; simp; omega
  have e6 : (s.receive .check (a :: b :: X)).takeByte c1 = s.receive .check (a :: b :: X ++ [c1]) := by
    unfold State.takeByte
    simp [frameLength, hn, hlen]
    rw [if_pos (by omega)]
    rfl
  rw [e6]
  unfold State.takeByte
  simp [frameLength, hn, hlen]
  rw [if_neg (by omega)]
  rw [← hX]; simp

/-- The comparison of the check bytes: a match hands the frame on, a mismatch drops it (R190). -/
theorem State.checkFrame_whole (s : State) (kind tag : Nat) (body : List Byte) (hb : body.length ≤ 232) (c1 c0 : Byte) :
    s.checkFrame (u16 (2 + body.length) ++ u8 kind ++ u8 tag ++ body ++ [c1, c0]) =
     if [c1, c0] = crcBytes (u16 (2 + body.length) ++ u8 kind ++ u8 tag ++ body)
           then (s.receive .hunt []).frameArrives (nat (BitVec.ofNat 8 kind)) (nat (BitVec.ofNat 8 tag)) body
           else s.dropFrame := by
  have hn : number (u16 (2 + body.length)) = 2 + body.length := number_u16 (by omega)
  have hl : frameLength (u16 (2 + body.length) ++ u8 kind ++ u8 tag ++ body ++ [c1, c0]) = 2 + body.length := by
    rw [frameLength]; simpa [u16] using hn
  unfold State.checkFrame
  rw [hl]
  have ht : (u16 (2 + body.length) ++ u8 kind ++ u8 tag ++ body ++ [c1, c0]).take (2 + (2 + body.length)) =
        u16 (2 + body.length) ++ u8 kind ++ u8 tag ++ body := by
    rw [List.take_append_of_le_length (by simp; omega), List.take_of_length_le (by simp; omega)]
  have hd : (u16 (2 + body.length) ++ u8 kind ++ u8 tag ++ body ++ [c1, c0]).drop (2 + (2 + body.length)) = [c1, c0] := by
    rw [List.drop_append_of_le_length (by simp; omega), List.drop_eq_nil_of_le (by simp; omega)]; rfl
  simp only [ht, hd]
  split
  · simp [u16, u8]
  · rfl

/-- The receiver is back in HUNT with nothing read. -/
theorem State.receive_hunt (s : State) (st) (buf) (hr : s.lc.rx = ⟨.hunt, []⟩) : (s.receive st buf).receive .hunt [] =
      s := by
  rcases s with ⟨p, n, ph, li, td, as, nd, dp, ss, cu, jn, au, lc, store⟩
  rcases lc with ⟨⟩
  simp at hr
  simp [State.receive, State.modLC, hr]

/-- A frame whose check matches, taken from HUNT, arrives with its kind, tag and body (R190). -/
theorem State.takeBytes_request (s : State) (kind tag : Nat) (body : List Byte) (hr : s.lc.rx = ⟨.hunt, []⟩)
      (hb : body.length ≤ 232) (hk : kind < 256) (ht : tag < 256) :
   s.takeBytes (frameBytes kind tag body) = s.frameArrives kind tag body := by
  unfold frameBytes
  have : crcBytes (u16 (2 + body.length) ++ u8 kind ++ u8 tag ++ body) =
        [BitVec.ofNat 8 ((crc16 (u16 (2 + body.length) ++ u8 kind ++ u8 tag ++
        body)).toNat / 256), BitVec.ofNat 8 (crc16 (u16 (2 + body.length) ++ u8 kind ++ u8 tag ++ body)).toNat] := rfl
  have h := State.takeBytes_whole s kind tag body hr hb (BitVec.ofNat 8 ((crc16 (u16 (2 + body.length) ++ u8 kind ++
        u8 tag ++ body)).toNat / 256)) (BitVec.ofNat 8 (crc16 (u16 (2 + body.length) ++ u8 kind ++ u8 tag ++ body)).toNat)
  rw [← this] at h
  dsimp only
  rw [h, this, State.checkFrame_whole _ kind tag body hb]
  rw [if_pos this.symm, State.receive_hunt s _ _ hr]
  have e1 : nat (BitVec.ofNat 8 kind) = kind := toNat_ofNat_byte hk
  have e2 : nat (BitVec.ofNat 8 tag) = tag := toNat_ofNat_byte ht
  rw [e1, e2]

/-- Every request kind is a byte. -/
theorem requestKinds_lt {k : Nat} (h : requestKinds.contains k = true) : k < 256 := by
  have : ∀ k ∈ requestKinds, k < 256 := by decide
  exact this k (by simpa using h)

end Sys2Proof.Machine
end

