-- ==== Sys2Proof/Tests/Slice0.lean ====
section
/-! SUPPORT. Tests: ill-formed commands refused, the manual's worked values, and for every statement with hypotheses a
witness that meets them, clause by clause, on small states. Expected values are the manual's own (its worked sequences and
tables) or worked by hand from its rules. -/

namespace Sys2Proof.Machine.Tests

set_option Elab.async false

/-! ## Small states -/

/-- A part that serves requests, everything else as at reset. -/
def running : State := { State.reset with phase := .running }

/-- The state after a command, or the same where there is none. -/
def after (c : Instr) (s : State) : State :=
  match exec c s with
  | .next t => t
  | _ => s

/-- The claim holds of the state. -/
abbrev At (s : State) (claim : State → Prop) : Prop := claim s

/-- Lane 1 open, its carrier in its bay, the door shut. -/
def ready : State :=
  ((running.modLane .i1 fun r => { r with set := { r.set with isOpen := true } }).modCarrier .i1 fun c =>
    { c with location := .atBay }).modBay .i1 fun b => { b with present := true }

/-- A load of lane 1 of three notes from C2, none yet accepted. -/
def aLoad (id : Nat) (state : LoadState) : Load :=
  { id := id, lane := .i1, reference := 0, autoSend := false, index := 1, count := 1, planned := ⟨0, 3, 0, 0⟩,
    accepted := ⟨0, 0, 0, 0⟩, order := [.i2], amount := 6000, state := state, outcome := none, seq := some 9,
    holdDue := some 5, expiryMarked := false, autoSendResult := none, lastRefusal := none }

def withLoad (s : State) (ld : Load) : State := { s with dp := { s.dp with loads := [ld] } }
def withMove (s : State) (m : Move) : State := { s with td := { s.td with move := some m } }
def aMove (dir : Dir) (phase : MovePhase) : Move :=
  { lane := .i1, dir := dir, origin := .host, isPurge := false, phase := phase }
def withCU (s : State) (state : CUState) (h : Option Capture) : State :=
  { s with cu := { s.cu with state := state, hand := h } }
def aCapture (due : Nat) : Capture :=
  { bay := .i1, number := 5031, seq := some 61207, opening := none, returning := none, duress := false, stamp := none,
    uncounted := true, due := some due }
def withJN (s : State) (f : JN → JN) : State := { s with jn := f s.jn }
def withND (s : State) (f : ND → ND) : State := { s with nd := f s.nd }
def withSS (s : State) (f : SS → SS) : State := { s with ss := f s.ss }
def withAS (s : State) (f : AS → AS) : State := { s with as := f s.as }
def withLI (s : State) (f : LI → LI) : State := { s with li := f s.li }
def withLC (s : State) (f : LC → LC) : State := { s with lc := f s.lc }

/-- The cassettes of the worked cases of chapter 5. -/
def stocked (s : State) : State :=
  let put := fun (d e : Nat) (st : CassState) (c : Cassette) =>
    { c with kept := { c.kept with denomination := some d, estimate := e, state := st } }
  (((s.modCass .i1 (put 5000 120 .present)).modCass .i2 (put 2000 300 .present)).modCass .i3 (put 1000 0 .empty)).modCass .i4
    (put 2000 40 .present)

/-! ## Well-formedness: an ill-formed term for each check -/

theorem test_wf_refuses_lines_and_lanes :
    ([.frameTaken [], .frameDropped [] false, .laneSettings 256 1 0 0 0 0, .laneSettings 1 256 0 0 0 0,
      .laneSettings 1 1 256 0 0 0, .laneSettings 1 1 0 256 0 0, .laneSettings 1 1 0 0 65536 0, .laneSettings 1 1 0 0 0 256,
      .openLane 256 1, .openLane 1 256, .closeLane 256 1, .closeLane 1 256, .laneText 256 1 [], .laneText 1 256 [],
      .laneText 1 1 (List.replicate 231 0#8), .laneStatus 256 1, .laneStatus 1 256, .rescan 256 1, .rescan 1 256,
      .rescanAllLanes 256] : List Instr).all (fun i => !i.wf) = true := by decide +kernel

theorem test_wf_refuses_drive_and_air :
    ([.send 256 1, .send 1 256, .recall 256 1, .recall 1 256, .purge 256 1 1, .purge 1 256 1, .purge 1 1 256,
      .waypointPass .i1 0, .waypointPass .i1 4, .airSettings 256 1 1 1 0 1, .airSettings 1 256 1 1 0 1,
      .airSettings 1 1 65536 1 0 1, .airSettings 1 1 1 65536 0 1, .airSettings 1 1 1 1 256 1, .airSettings 1 1 1 1 0 256,
      .airEconomy 256, .airWake 256, .airReset 256 1, .airReset 1 256, .airStatus 256] : List Instr).all (fun i => !i.wf) =
      true := by decide +kernel

theorem test_wf_refuses_notes_and_loads :
    ([.noteAtGauge 1024, .replenish 256 1 1 1 1 1, .replenish 1 256 1 1 1 1, .replenish 1 1 16777216 1 1 1,
      .replenish 1 1 1 65536 1 1, .replenish 1 1 1 1 65536 1, .replenish 1 1 1 1 1 65536, .confirm 256 1, .confirm 1 256,
      .cassetteStatus 256, .clearPath 256, .boxEmptied 256, .dispenseSettings 256 1 1 1 1 1, .dispenseSettings 1 256 1 1 1 1,
      .dispenseSettings 1 1 256 1 1 1, .dispenseSettings 1 1 1 16777216 1 1, .dispenseSettings 1 1 1 1 256 1,
      .dispenseSettings 1 1 1 1 1 256, .dispense 256 1 1 0 0, .dispense 1 256 1 0 0, .dispense 1 1 4294967296 0 0,
      .dispense 1 1 1 256 0, .dispense 1 1 1 0 65536, .cancelDispense 256 1, .cancelDispense 1 256, .loadStatus 256 1,
      .loadStatus 1 256, .loadClose 256 1 1, .loadClose 1 256 1, .loadClose 1 1 256, .stackerSettings 256 1,
      .stackerSettings 1 65536] : List Instr).all (fun i => !i.wf) = true := by decide +kernel

theorem test_wf_refuses_capture_and_journal :
    ([.capture 256 1, .capture 1 256, .captureClear 256 1, .captureClear 1 256, .captureStatus 256, .captureSettings 256 1 1,
      .captureSettings 1 256 1, .captureSettings 1 1 65536, .binExchanged 256, .binConfirm 256, .journalStatus 256,
      .journalRead 256 1 1, .journalRead 1 4294967296 1, .journalRead 1 1 256, .journalReconcile 256 1,
      .journalReconcile 1 4294967296, .journalErase 256 1, .journalErase 1 256, .journalRecover 256] : List Instr).all
      (fun i => !i.wf) = true := by decide +kernel

theorem test_wf_refuses_alarm_and_link :
    ([.zoneSettings 256 3 1, .zoneSettings 1 256 1, .zoneSettings 1 3 256, .authorize 256 3 1, .authorize 1 256 1,
      .authorize 1 3 256, .ackZone 256 1, .ackZone 1 256, .sounderSilence 256, .sounderSettings 256 1, .sounderSettings 1 256,
      .alarmStatus 256, .conditionsEnable 256 [] [], .conditionsEnable 1 [256] [], .conditionsEnable 1 [] [256],
      .conditionsEnable 1 (List.replicate 231 1) [], .conditionsRead 256, .conditionsClear 256 [], .conditionsClear 1 [256],
      .conditionsClear 1 (List.replicate 232 1), .setTime 256 1, .setTime 1 4294967296, .identify 256, .restart 256] :
      List Instr).all (fun i => !i.wf) = true := by decide +kernel

theorem test_wf_accepts :
    ([.waypointPass .i1 1, .waypointPass .i1 3, .noteAtGauge 1023, .laneText 1 1 (List.replicate 230 0#8),
      .conditionsClear 255 (List.replicate 231 255), .setTime 255 4294967295, .frameTaken [0#8], .powerOn true true] :
      List Instr).all Instr.wf = true := by decide +kernel

/-! ## The manual's worked values -/

/-- Section 4.4: the four notes of the worked sequence, by their readings of 108, 205, 50 and 115 micrometres over R = 1,760. -/
theorem test_gauge_worked_sequence :
    At (withND (stocked running) fun nd => { nd with
        state := .picking, box := 12, current := some 5, ceiling := 10, pick := some .i2, arrivalDue := some 9 }) (fun s =>
      At ((withLoad s { aLoad 5 .picking with planned := ⟨0, 9, 0, 0⟩ }).modCass .i2 fun c =>
          { c with kept := { c.kept with thickness := 1760, inPath := 1, estimate := 299 } }) fun s =>
        let s1 := after .noteLeavesGauge (after (.noteAtGauge 108) s)
        let s2 := after .noteLeavesGauge (after (.noteAtGauge 205) s1)
        let s3 := after .noteLeavesGauge (after (.noteAtGauge 50) s2)
        let s4 := after .noteLeavesGauge (after (.noteAtGauge 115) s3)
        (s1.cass .i2).kept.thickness = 1756 ∧ (s2.cass .i2).kept.doubles = 1 ∧ s2.nd.box = 14 ∧ s2.nd.rejects = 2 ∧
          (s3.cass .i2).kept.rejected = 3 ∧ s3.nd.box = 15 ∧ (s4.cass .i2).kept.thickness = 1766 ∧
          (s4.cass .i2).kept.accepted = 2 ∧ s4.ss.pick = .filling 5 2) := by decide +kernel

/-- The four notes of a plan, by cassette, or the code it is refused with. -/
def planned (s : State) (amount : Nat) : Sum Code (List Nat × List Nat) :=
  match s.plan amount with
  | .ok p => .inr (p.notes.toList, p.loads.map Four.sum)
  | .error c => .inl c

/-- Section 5.5, cases 1, 2 and 3. -/
theorem test_mix_cases_1_to_3 :
    planned (stocked running) 13000 = .inr ([1, 4, 0, 0], [5]) ∧ planned (stocked running) 320000 = .inr ([64, 0, 0, 0], [40, 24]) ∧
      planned (stocked running) 20000 = .inr ([4, 0, 0, 0], [4]) := by decide +kernel

/-- Section 5.5, case 4: NOTE_CEILING, with N at 150 and at 200. -/
theorem test_mix_case_4 :
    At ((stocked running).modCass .i1 fun c => { c with kept := { c.kept with estimate := 3 } }) (fun s =>
      planned s 400000 = .inl .noteCeiling ∧
        planned { s with dp := { s.dp with set := { s.dp.set with noteCeiling := 200 } } } 400000 = .inl .noteCeiling) := by
  decide +kernel

/-- Section 5.5, case 5: three pools. -/
theorem test_mix_case_5 :
    At (((((stocked running).modCass .i1 fun c => { c with kept := { c.kept with denomination := some 10000, estimate := 2 } }).modCass
        .i2 fun c => { c with kept := { c.kept with denomination := some 5000, estimate := 1 } }).modCass .i3 fun c =>
          { c with kept := { c.kept with denomination := some 2000, estimate := 50, state := .present } }).modCass .i4 fun c =>
            { c with kept := { c.kept with state := .absent } })
      (fun s => planned s 36000 = .inr ([2, 0, 8, 0], [10])) := by decide +kernel

/-- R145 and section 5.9: the headroom sums of the worked sequence, 332 and 292, against the box's 300. -/
theorem test_headroom_worked_sequence : 240 + 40 + 40 + 10 + 2 = 332 ∧ Config.boxCapacity = 300 ∧
    At (withLoad ({ running with nd := { running.nd with box := 240 }, ss := { running.ss with delivery := .holding 8 40 } })
      { aLoad 9 .planned with planned := ⟨0, 40, 0, 0⟩ })
      (fun s => (after .loadHandOver { s with dp := { s.dp with queue := [⟨.i1, 0, false, 0, 0, false, [9]⟩] } }).nd.state =
        .waiting) := by decide +kernel

/-- R181: a period of 7 has phases of 400 and 300 ms. -/
theorem test_sounder_odd_period :
    At { running with au := { running.au with period := 7, run := .pulsing false 0 9000 } } (fun s =>
      (after .sounderPhaseEnd s).au.run = .pulsing true 400 9000 ∧
        (after .sounderPhaseEnd { s with au := { s.au with run := .pulsing true 0 9000 } }).au.run = .pulsing false 300 9000) := by
  decide +kernel

/-- R190: CRC-16/CCITT of the digits 1 to 9, with the start value FFFFh, is 29B1h. -/
theorem test_crc16 : crc16 [0x31#8, 0x32#8, 0x33#8, 0x34#8, 0x35#8, 0x36#8, 0x37#8, 0x38#8, 0x39#8] = 0x29B1#16 := by
  decide +kernel

/-- Section 11.1: IDENTIFY, tag 5, is C3 00 02 54 05 and its check. -/
theorem test_frame_of_identify : (frameBytes 0x54 5 []).take 5 = [0xC3#8, 0x00#8, 0x02#8, 0x54#8, 0x05#8] ∧
    requestOf 0x54 5 [] = some (.identify 5) := by decide +kernel

/-- Sections 11.1 and 11.2: bodies of six requests written out by hand. -/
theorem test_bodies_by_hand :
    requestOf 0x10 1 [0x02#8, 0x0F#8, 0x02#8, 0x1F#8, 0x40#8, 0x01#8] = some (.laneSettings 1 2 15 2 8000 1) ∧
    requestOf 0x1A 2 [0x03#8, 0x01#8] = some (.purge 2 3 1) ∧
    requestOf 0x31 3 [0x01#8, 0x00#8, 0x04#8, 0xE2#8, 0x00#8, 0x01#8, 0x00#8, 0x07#8] = some (.dispense 3 1 320000 1 7) ∧
    requestOf 0x41 4 [0x00#8, 0x00#8, 0xEF#8, 0x17#8, 0x06#8] = some (.journalRead 4 61207 6) ∧
    requestOf 0x49 5 [0x03#8, 0x0F#8] = some (.authorize 5 3 15) ∧
    requestOf 0x52 6 [0x02#8, 0x01#8, 0x45#8] = some (.conditionsClear 6 [1, 69]) := by decide +kernel

/-- Section 11.4: the first and last numbers of the per-lane instances and of the global ones. -/
theorem test_condition_numbers : (Cond.lane .i1 .call).num = 1 ∧ (Cond.lane .i1 .dispenseFailed).num = 14 ∧
    (Cond.lane .i4 .dispenseFailed).num = 56 ∧ Cond.cassette.num = 57 ∧ Cond.retainedLost.num = 69 := by decide

/-- Section 7.8: a sensed drop at 719 of 800 counts 720 and raises CAPTURE_DONE and BIN_HIGH. -/
theorem test_drop_reaches_bin_high :
    At (withCU ({ running with cu := { running.cu with bin := ⟨719, 800, .confirmed⟩ } }) .dropping (some (aCapture 4900))) (fun s =>
      (after .dropSensed s).cu.bin.count = 720 ∧ (after .dropSensed s).lc.isPending 60 = true ∧
        (after .dropSensed s).lc.isPending 62 = true) := by decide +kernel

/-- Section 1.5: a drive-off with auto-recall on asks for a DOWN move and raises DRIVE_OFF. -/
theorem test_drive_off_recalls :
    At (((withLoad running (aLoad 17 .delivered)).modLane .i1 fun r =>
        { r with set := { r.set with autoRecall := true }, carrier := .yes, clearDue := some 1900, vehicle := true }).modCarrier .i1
          fun c => { c with location := .atLane, outstanding := some 17 })
      (fun s => (after (.vehicleClearExpiry .i1) s).td.queue.map (fun e => (e.dir, e.origin)) = [(.down, .autoRecall)] ∧
        (after (.vehicleClearExpiry .i1) s).lc.isPending 3 = true) := by decide +kernel

/-- Section 3.8: the refresh run that failed swaps the roles and begins a new run. -/
theorem test_refresh_failure_swaps :
    At { running with now := 902000, as := { running.as with state := .refresh, started := some 900000 } } (fun s =>
      (after .refreshRunEnd s).as.state = .refresh ∧ (after .refreshRunEnd s).as.set.duty = .b ∧
        (after .refreshRunEnd s).as.blowerA.failed = true ∧ (after .refreshRunEnd s).lc.isPending 68 = true) := by decide +kernel

/-- No row of the table gives bits, so no word spells a command. -/
theorem test_no_word_spells_a_command : decodeTableWord 8 0xC3 = none ∧ State.reset.withFetchWord 8 0xC3 = State.reset := by
  decide +kernel

/-! ## Witnesses: for every statement with hypotheses, states and operands that meet them, clause by clause -/

theorem witness_StepTakesTheFront : ({ running with pending := [.arbiterGrant, .frameSent] } : State).pending =
    .arbiterGrant :: [.frameSent] ∧ running.pending = [] := by decide

theorem witness_FinishWritesTheStoreAndSends :
    At (withLC running fun lc => { lc with sending := some { what := .orphan, kind := 0xE0, tag := 0, body := [] } })
      (fun s => s.lc.sending ≠ none) ∧
    At (withLC running fun lc => { lc with replies := [answer 0x54 1 []] }) (fun s => s.lc.sending = none ∧ s.lc.replies =
      answer 0x54 1 [] :: []) ∧
    At (withLC running fun lc => { lc with notices := [.cond 69] }) (fun s => s.lc.sending = none ∧ s.lc.replies = [] ∧
      s.lc.notices = .cond 69 :: []) ∧
    At (withLC running fun lc => { lc with notices := [.start] }) (fun s => s.lc.sending = none ∧ s.lc.replies = [] ∧
      s.lc.notices = .start :: []) := by decide +kernel

theorem witness_StoreCurrentAfterEveryStep :
    (exec .arbiterGrant running = .next (after .arbiterGrant running) ∧ running.phase ≠ .off) ∧
    exec (.powerOn true true) State.reset = .next (after (.powerOn true true) State.reset) := by
  exact ⟨⟨rfl, by decide⟩, rfl⟩

theorem witness_RequestFrames : (Instr.setTime 255 4294967295).wf = true ∧
    requestFrame (.setTime 255 4294967295) = some (0x53, 255, [0xFF#8, 0xFF#8, 0xFF#8, 0xFF#8]) ∧
    running.lc.rx = { state := .hunt, buffer := [] } := by decide +kernel

theorem witness_RequestsTheLinkAnswers : requestFrame (.identify 0) = some (0x54, 0, []) ∧
    At { State.reset with phase := .startUp .air } (fun s => s.phase ≠ .off ∧ s.lc.outstanding < 4 ∧ s.phase ≠ .running) ∧
    At running (fun s => s.lc.outstanding < 4 ∧ s.phase = .running) ∧
    At (withLC running fun lc => { lc with outstanding := 4 }) (fun s => 4 ≤ s.lc.outstanding ∧
      s.lc.replies.any (·.refusal) = false) ∧
    At (withLC running fun lc => { lc with outstanding := 4, replies := [⟨0xD4, 1, [0x01#8], true, false⟩] }) (fun s =>
      4 ≤ s.lc.outstanding ∧ s.lc.replies.any (·.refusal) = true) := by decide +kernel

theorem witness_FramesThatAreNoRequest :
    (running.phase = .running ∧ running.lc.outstanding < 4 ∧ running.lc.rx = { state := .hunt, buffer := [] }) ∧
    requestKinds.contains 0 = false ∧ requestKinds.contains 0x55 = true ∧ requestOf 0x55 1 [0x00#8] = none ∧
    ((0x00#8 : Byte).toNat * 256 + (0x01#8 : Byte).toNat < 2) ∧ (234 < (0x00#8 : Byte).toNat * 256 + (0xEB#8 : Byte).toNat) ∧
    [0x00#8, 0x00#8] ≠ crcBytes (u16 2 ++ u8 0x54 ++ u8 1) := by decide +kernel

theorem witness_FrameSentFreesTheLine :
    At (withLC running fun lc => { lc with
        sending := some { what := .reply, kind := 0xD5, tag := 1, body := [0x00#8] }, replies := [⟨0xD5, 1, [0x00#8], false, true⟩] })
      (fun s => s.phase ≠ .off ∧ s.lc.sending.map (·.what) = some .reply ∧ s.lc.replies ≠ []) ∧
    At (withLC running fun lc => { lc with sending := some { what := .notice (.cond 1), kind := 0xE0, tag := 0, body := [] } })
      (fun s => s.lc.sending.map (·.what) = some (.notice (.cond 1))) ∧
    At (withLC running fun lc => { lc with sending := some { what := .orphan, kind := 0xE0, tag := 0, body := [] } })
      (fun s => s.lc.sending.map (·.what) = some .orphan) := by decide +kernel

theorem witness_Conditions : running.lc.conds[0]? = some ⟨false, false, none⟩ ∧ running.lc.conds[68]? = some ⟨false, false, none⟩ ∧
    running.Serves 1 ∧ running.lc.conds.length = 69 ∧ (∃ n ∈ [0], n < 1 ∨ 69 < n) ∧ (∃ n ∈ [9], n < 1 ∨ 8 < n) ∧
    (∀ n ∈ [1, 69], 1 ≤ n ∧ n ≤ 69) ∧ (∀ n ∈ [1, 8], 1 ≤ n ∧ n ≤ 8) := by decide +kernel

theorem witness_RestartIsTakenWhenQuietAndStartsAfresh :
    At running (fun s => s.Serves 1 ∧ s.td.move = none ∧ s.nd.state = .idle ∧ s.cu.state = .idle ∧ s.cu.hand = none ∧
      s.ss.transfer = none ∧ s.ss.shuttle = .home ∧ s.jn.run = none ∧ s.li.rescan = none ∧
      (∀ c ∈ Ix4.all, (s.cass c).pending = none) ∧ s.nd.emptying = none ∧ s.cu.exchange = none) ∧
    At (withMove running (aMove .up .air)) (fun s => s.Serves 1 ∧ s.td.move ≠ none) ∧
    At { State.reset with phase := .restarting true } (fun s => s.phase = .restarting true ∧ s.jn.busy = false) := by
  decide +kernel

theorem witness_PowerLossAndTheUnpoweredPart : running.phase ≠ .off ∧ running.jn.busy = false ∧ State.reset.phase = .off ∧
    isLevelChange .arbiterGrant = false := by decide

theorem witness_Invariants : running.memoryFormed ∧ step { running with pending := [.eraseVerify] } =
      .next (after .eraseVerify running) ∧ running.withinLimit ∧ running.binFormed ∧ running.windowsFormed ∧
    At { running with au := { running.au with zones := { running.au.zones with holdupA :=
        { running.au.zones.holdupA with state := .locked } } } } (fun s => (s.zone (holdupZone .a)).state = .locked) := by
  refine ⟨by decide +kernel, rfl, by decide, by decide +kernel, ?_, by decide⟩
  intro _
  exact ⟨rfl, rfl⟩

theorem witness_CommandsStayWithinTheirReach : exec (.zoneSettings 1 3 60) running = .next (after (.zoneSettings 1 3 60) running) ∧
    Block.tube ∉ reach (.zoneSettings 1 3 60) ∧ (after (.zoneSettings 1 3 60) running).au.safeDelay ≠ running.au.safeDelay :=
  ⟨rfl, by decide, by decide +kernel⟩

theorem witness_Lanes : running.Serves 1 ∧ (0 < 1 ∨ 4 < 0 ∨ 1 < 0) ∧ (5 < 1 ∨ 4 < 5 ∨ 1 < 0) ∧ (1 < 1 ∨ 4 < 1 ∨ 1 < 2) ∧
    4 = Ix4.num .i4 ∧ (running.laneRec .i1).reasons.jam = false ∧
    At (ready.modLane .i1 fun r => { r with reasons := { r.reasons with jam := true } }) (fun s => s.Serves 1 ∧
      (s.laneRec .i1).reasons.jam = true ∧ (s.carrier .i1).location = .atBay) := by decide +kernel

theorem witness_RescanWaitsForTheBus :
    At running (fun s => s.Serves 1 ∧ s.td.move = none ∧ s.li.rescan = none ∧ (.enrol .i1 .lost) ∉ s.li.enrolWaiting) ∧
    At (withLI running fun li => { li with enrolWaiting := [.enrol .i1 .lost] }) (fun s =>
      s.li.rescan = none ∧ (.enrol .i1 .lost) ∈ s.li.enrolWaiting) ∧
    At (withMove running (aMove .up .air)) (fun s => s.td.move.map (·.lane) = some .i1) := by decide +kernel

theorem witness_Enrolment :
    At (withLI running fun li => { li with enrolWaiting := [.enrol .i1 .startUp] }) (fun s => s.li.bus = .free ∧
      s.li.enrolWaiting = .enrol .i1 .startUp :: []) ∧
    At (withLI running fun li => { li with enrolWaiting := [.busReset, .enrol .i1 .rescanAll] }) (fun s => s.li.bus = .free ∧
      s.li.enrolWaiting = .busReset :: .enrol .i1 .rescanAll :: []) ∧
    At (withLI running fun li => { li with bus := .ident .i1 .startUp 2 50 }) (fun s => s.li.bus = .ident .i1 .startUp 2 50 ∧
      2 < 3) ∧
    At (withLI running fun li => { li with bus := .ident .i1 .startUp 3 50 }) (fun s => s.li.bus = .ident .i1 .startUp 3 50 ∧
      3 ≤ 3) := by decide +kernel

theorem witness_PollsFollowTheStation :
    At (running.modLane .i1 fun r => { r with kind := .full, missed := 2 }) (fun s => (s.laneRec .i1).kind = .full ∧
      s.li.rescan = none ∧ s.li.bus = .free ∧ s.li.enrolWaiting = [] ∧
      At (withLI s fun li => { li with bus := .poll .i2 20 }) (fun s => s.li.bus ≠ .free ∧ .i1 ∉ s.li.pollsWaiting) ∧
      At (withLI s fun li => { li with bus := .poll .i2 20, pollsWaiting := [.i1] }) (fun s => s.li.bus ≠ .free ∧
        .i1 ∈ s.li.pollsWaiting) ∧
      At (withLI s fun li => { li with bus := .poll .i1 20 }) (fun s => s.li.bus = .poll .i1 20 ∧
        (s.laneRec .i1).reasons.stationLost = false ∧ (s.laneRec .i1).missed = 2 ∧ s.lc.conds.length = 69)) := by decide +kernel

theorem witness_BasicInputsAct :
    At ((running.modLane .i1 fun r => { r with kind := .basic }).modCarrier .i1 fun c => { c with location := .atLane }) (fun s =>
      (s.laneRec .i1).kind = .basic ∧ (s.carrier .i1).location = .atLane ∧ (s.laneRec .i1).reasons = Reasons.none ∧
        (s.carrier .i1).reservation = .none ∧ s.td.entry .i1 = none) ∧
    At (running.modLane .i1 fun r => { r with kind := .basic }) (fun s => (s.carrier .i1).location ≠ .atLane) ∧
    (running.laneRec .i1).kind ≠ .basic := by decide +kernel

theorem witness_DepartureIsJudged :
    At (running.modLane .i1 fun r => { r with clearDue := some 5 }) (fun s => (s.laneRec .i1).clearDue = some 5 ∧
      (s.carrier .i1).location ≠ .atLane) ∧
    At ((running.modLane .i1 fun r => { r with clearDue := some 5, carrier := .no }).modCarrier .i1 fun c =>
      { c with location := .atLane }) (fun s => (s.carrier .i1).location = .atLane ∧ (s.laneRec .i1).carrier = .no) ∧
    At (((withLoad running (aLoad 17 .delivered)).modLane .i1 fun r => { r with clearDue := some 5, carrier := .yes }).modCarrier
      .i1 fun c => { c with location := .atLane, outstanding := some 17 }) (fun s => (s.carrier .i1).location = .atLane ∧
        (s.laneRec .i1).carrier = .yes ∧ s.outstandingState .i1 = some .delivered ∧ (s.laneRec .i1).set.autoRecall = false) := by
  decide +kernel

theorem witness_SendAndRecallAreCheckedInOrder :
    At ready (fun s => s.Serves 1 ∧ (s.laneRec .i1).state = .opened ∧ (∀ e ∈ s.td.queue, e.lane ≠ .i1) ∧
      (s.carrier .i1).location = .atBay ∧ (s.carrier .i1).reservation ∈ [.none, .queued] ∧ (s.carrier .i1).outstanding = none ∧
      (running.laneRec .i1).state = .closed ∧
      At (s.modLane .i1 fun r => { r with reasons := { r.reasons with jam := true } }) (fun s =>
        (s.laneRec .i1).state = .outOfService) ∧
      At { s with td := { s.td with queue := [⟨.i1, .up, .host, 0⟩] } } (fun s => ∃ e ∈ s.td.queue, e.lane = .i1 ∧ e.dir = .up) ∧
      At { s with td := { s.td with queue := [⟨.i1, .down, .host, 0⟩] } } (fun s => ∃ e ∈ s.td.queue, e.lane = .i1 ∧ e.dir = .down) ∧
      At (s.modCarrier .i1 fun c => { c with location := .atLane }) (fun s => (s.carrier .i1).location ≠ .atBay ∧
        (s.carrier .i1).location = .atLane ∧ (s.laneRec .i1).reasons.stationLost = false ∧ (s.laneRec .i1).reasons.jam = false ∧
        (s.laneRec .i1).reasons.carrierUnknown = false ∧ (s.carrier .i1).reservation ≠ .moving) ∧
      At (s.modCarrier .i1 fun c => { c with reservation := .moving }) (fun s => (s.carrier .i1).reservation = .moving) ∧
      At ((withLoad s (aLoad 5 .sent)).modCarrier .i1 fun c => { c with outstanding := some 5 }) (fun s =>
        (s.carrier .i1).outstanding ≠ none ∧ s.outstandingState .i1 ≠ some .presented)) := by decide +kernel

theorem witness_GrantsTakeTheDrive :
    At { ready with td := { ready.td with queue := [⟨.i1, .up, .host, 0⟩] } } (fun s => s.phase = .running ∧ s.td.move = none ∧
      s.td.queue = [] ++ ⟨.i1, .up, .host, 0⟩ :: [] ∧ (s.carrier .i1).location = .atBay ∧ (s.bay .i1).present = true ∧
      (s.bay .i1).doorClosed = true ∧ (s.laneRec .i1).state = .opened ∧ s.as.state = .economy ∧ s.as.duty.switchClosed = false ∧
      At (withAS s fun as => { as with state := .ready }) (fun s => s.as.state = .ready ∧ s.td.diverter ≠ some .i1)) ∧
    (∀ q ∈ running.td.queue, running.canLaunch q = false) ∧ running.Serves 1 ∧ (0 ≠ 1 ∧ 0 ≠ 2) ∧
    (ready.td.move = none ∧ (ready.carrier .i1).location ≠ .unknown) ∧ (withMove running (aMove .up .air)).td.move ≠ none ∧
    (running.td.move = none ∧ (running.carrier .i1).location = .unknown) := by decide +kernel

theorem witness_DriveTimersDoTheirWork : running.lc.conds.length = 69 ∧
    At (withMove ready { aMove .up (.divert 5) with isPurge := true }) (fun s => s.td.move = some { aMove .up (.divert 5) with
      isPurge := true }) ∧
    At (withMove ready (aMove .up (.divert 5))) (fun s => s.leftOrigin .i1 .up = false ∧ s.atDestination .i1 .up = false) ∧
    At (withMove (running.modLane .i1 fun r => { r with set := { r.set with waypoints := 3 } }) (aMove .up (.transit 5))) (fun s =>
      (1 ≤ 1 ∧ 1 ≤ (s.laneRec .i1).set.waypoints) ∧ (1 ≤ 3 ∧ 3 ≤ (s.laneRec .i1).set.waypoints) ∧
        (s.laneRec .i1).set.waypoints < 4 ∧ s.td.move.map (·.phase) = some (.transit 5)) ∧
    At (withMove running (aMove .up (.launch 5))) (fun s => s.td.move.map (·.phase) = some (.launch 5)) ∧
    At (withMove running { aMove .up (.purging 5) with isPurge := true }) (fun s => s.td.move.map (·.phase) = some (.purging 5)) ∧
    At { withMove running (aMove .up .air) with td := { (withMove running (aMove .up .air)).td with
        queue := [⟨.i2, .down, .host, 0⟩] } } (fun s => s.td.entry .i2 = some ⟨.i2, .down, .host, 0⟩ ∧ (.i2 : Lane) ≠ .i1) := by
  decide +kernel

theorem witness_SettleEndsTheMove :
    At ((withLoad (withMove ready (aMove .down (.settle 5 .arrival))) (aLoad 5 .delivered)).modCarrier .i1 fun c =>
        { c with outstanding := some 5 }) (fun s => s.td.move = some (aMove .down (.settle 5 .arrival)) ∧ s.lc.conds.length = 69 ∧
      (s.carrier .i1).location = .atBay ∧ (s.bay .i1).present = true ∧ (s.carrier .i1).outstanding = some 5 ∧
      s.load 5 = some (aLoad 5 .delivered) ∧ (s.bay .i1).content = false ∧
      ((s.modBay .i1 fun b => { b with content := true }).bay .i1).content = true) ∧
    At ((withLoad (withMove running (aMove .up (.settle 5 .arrival))) (aLoad 5 .sent)).modCarrier .i1 fun c =>
        { c with location := .atLane, outstanding := some 5 }) (fun s => (s.carrier .i1).location = .atLane ∧
      s.outstandingState .i1 = some .sent) := by decide +kernel

theorem witness_BayPresenceFollowsTheCarrier :
    (running.bay .i1).present = false ∧ (ready.bay .i1).present = true ∧
    At (withMove running (aMove .down (.transit 5))) (fun s => (s.bay .i1).present = false ∧ s.td.move =
      some (aMove .down (.transit 5)) ∧ s.lc.conds.length = 69) ∧
    At (withMove ready (aMove .up (.launch 5))) (fun s => s.td.move = some (aMove .up (.launch 5)) ∧ (s.laneRec .i1).carrier ≠ .yes ∧
      s.ss.shuttle = .home ∧ s.cu.hand = none) ∧
    At running (fun s => (s.carrier .i1).location = .unknown ∧ (s.carrier .i1).outstanding = none ∧ s.td.move = none ∧
      s.td.entry .i1 = none) ∧
    At ready (fun s => s.td.move = none ∧ s.ss.shuttle = .home ∧ s.cu.hand = none) := by decide +kernel

theorem witness_BayContentAndDoorAct :
    At (withLoad (withSS ready fun ss => { ss with shuttle := .pushing .i1 5, delivery := .presenting 5 3 }) (aLoad 5 .presenting))
      (fun s => s.ss.shuttle = .pushing .i1 5 ∧ s.ss.delivery = .presenting 5 3 ∧ (s.bay .i1).present = true ∧
        (s.carrier .i1).location = .atBay ∧ s.td.move = none ∧ s.load 5 = some (aLoad 5 .presenting) ∧
        (aLoad 5 .presenting).autoSend = false ∧ s.cu.hand = none ∧ (s.bay .i1).doorClosed = true) ∧
    At ready (fun s => s.ss.shuttle = .home ∧ s.cu.hand = none ∧ (s.bay .i1).doorClosed = true ∧ s.td.move = none) ∧
    ((ready.modBay .i1 fun b => { b with doorClosed := false }).bay .i1).doorClosed = false ∧
    At (withCU ready .lifting (some (aCapture 5))) (fun s => s.cu.hand = some (aCapture 5) ∧ s.cu.state = .lifting ∧
      (aCapture 5).bay = .i1 ∧ (aCapture 5).returning = none) ∧
    At (withMove ready (aMove .up (.launch 5))) (fun s => s.td.move = some (aMove .up (.launch 5))) := by decide +kernel

theorem witness_AirRequestsGoByTheState : running.Serves 1 ∧ ((0 ≠ 1 ∧ 0 ≠ 2) ∨ 1 < 0 ∨ (1 ≠ 1 ∧ 1 ≠ 2)) ∧
    ((withAS running fun as => { as with state := .driving }).as.state ∈ [.driving, .spinUp, .refresh]) ∧
    ((withAS running fun as => { as with state := .fault }).as.state = .fault) ∧
    At (withAS running fun as => { as with state := .spinUp, demand := true }) (fun s => s.as.state = .spinUp ∧ s.as.demand = true) ∧
    (running.as.state ∈ [.economy, .refresh]) ∧
    At (withAS running fun as => { as with state := .ready }) (fun s => s.as.state = .ready ∧ s.as.driveHeld = false) ∧
    (running.as.state = .economy ∧ running.as.duty.switchClosed = false) ∧
    At (withAS running fun as => { as with state := .refresh }) (fun s => s.as.state = .refresh ∧ s.as.duty.switchClosed = false) ∧
    (running.as.blower .a).failed = false ∧
    At (withAS running fun as => { as with state := .fault, blowerA := ⟨true, false⟩ }) (fun s => (s.as.blower .a).failed = true ∧
      s.lc.conds.length = 69 ∧ s.as.set.duty = .a) := by decide +kernel

theorem witness_AirEventsMoveTheSupply : running.as.set.duty ≠ .b ∧
    At (withAS running fun as => { as with state := .spinUp, started := some 0 }) (fun s => s.as.state = .spinUp ∧
      s.as.demand = false ∧ s.as.started ≠ none ∧ s.as.set.autoSwitch = true ∧ s.as.standby.failed = false ∧
      s.as.standby.switchClosed = false ∧ s.lc.conds.length = 69) ∧
    At (withAS (withMove running (aMove .up .air)) fun as => { as with state := .spinUp, demand := true }) (fun s =>
      s.td.move = some (aMove .up .air) ∧ (s.td.diverter ≠ some .i1 ∨ s.td.valve ≠ some .up)) ∧
    ((running.as.blower .a).switchClosed = false) ∧
    At (withAS running fun as => { as with state := .ready, blowerA := ⟨false, true⟩, blowerB := ⟨true, false⟩ }) (fun s =>
      s.as.state = .ready ∧ s.as.duty.switchClosed = true ∧ s.as.standby.failed = true ∧ s.td.move = none) ∧
    At (withAS running fun as => { as with state := .ready, idle := ⟨0, some 0⟩ }) (fun s => s.as.set.directed = false ∧
      s.as.idle.since = some 0) ∧
    At (withAS running fun as => { as with refresh := ⟨0, some 0⟩ }) (fun s => s.as.state = .economy ∧
      s.as.refresh.since = some 0) ∧
    At (withAS running fun as => { as with
        state := .refresh, started := some 0, closedInRun := true, blowerA := ⟨false, true⟩ }) (fun s => s.as.state = .refresh ∧
      s.as.started = some 0 ∧ s.as.closedInRun = true ∧ s.as.duty.switchClosed = true) := by decide +kernel

theorem witness_PicksAndMisses :
    At (withLoad (stocked running) (aLoad 5 .planned)) (fun s => s.load 5 = some (aLoad 5 .planned) ∧ s.nd.gauge = none ∧
      s.nd.state = .idle ∧ s.ss.pick = .empty ∧
      ({ s with dp := { s.dp with queue := [⟨.i1, 0, false, 0, 0, false, [5]⟩] } } : State).dp.nextLoad = some 5 ∧
      s.nd.box + s.ss.notes + (aLoad 5 .planned).planned.sum + s.dp.set.rejectCeiling + 2 ≤ 300 ∧
      300 < 286 + s.ss.notes + (aLoad 5 .planned).planned.sum + s.dp.set.rejectCeiling + 2 ∧
      (aLoad 5 .planned).order = [] ++ .i2 :: [] ∧ (aLoad 5 .planned).accepted.get .i2 < (aLoad 5 .planned).planned.get .i2 ∧
      (s.cass .i2).kept.state ∈ [.present, .low]) ∧
    At (withND (withLoad (stocked running) (aLoad 5 .picking)) fun nd => { nd with
        state := .picking, current := some 5, pick := some .i2, arrivalDue := some 5 }) (fun s => s.nd.stopping = false ∧
      (s.cass .i2).kept.misses < 2 ∧ (aLoad 5 .picking).nextCass = some .i2 ∧
      ((s.modCass .i2 fun c => { c with kept := { c.kept with misses := 2 } }).cass .i2).kept.misses = 2) := by decide +kernel

theorem witness_GaugeJudgesNotes :
    At (withND (withLoad (stocked running) { aLoad 5 .picking with accepted := ⟨0, 2, 0, 0⟩ }) fun nd => { nd with
        state := .picking, current := some 5, pick := some .i2, ceiling := 2 }) (fun s => s.nd.state = .picking ∧ s.nd.gauge = none ∧
      (16 * 49 < (s.cass .i2).kept.thickness * 50 / 100) ∧ ((s.cass .i2).kept.thickness * 50 / 100 ≤ 16 * 50) ∧
      ((s.cass .i2).kept.thickness * s.dp.set.doubleThreshold / 100 ≤ 16 * 170) ∧
      (16 * 169 < (s.cass .i2).kept.thickness * s.dp.set.doubleThreshold / 100) ∧
      At (withND s fun nd => { nd with gauge := some ⟨some .i2, false, .single, 1600, 5⟩ }) (fun s => s.nd.stopping = false ∧
        (s.cass .i2).kept.doubles < 4 ∧ s.nd.rejects ≤ s.nd.ceiling ∧ s.lc.conds.length = 69 ∧ s.nd.current = some 5 ∧
        (∀ c ∈ [Ix4.i2], (aLoad 5 .picking).planned.get c ≤ ((⟨0, 2, 0, 0⟩ : Four Nat).modify .i2 (· + 1)).get c) ∧
        s.nd.rejects + 2 ≤ s.nd.ceiling ∧ s.nd.ceiling < 1 + 2)) ∧
    (running.nd.state ∈ [.idle, .waiting] ∧ running.nd.gauge = none ∧ running.nd.pick = none) ∧
    At (withND running fun nd => { nd with gauge := some ⟨some .i2, true, .thin, 16, 5⟩ }) (fun s =>
      s.nd.gauge = some ⟨some .i2, true, .thin, 16, 5⟩) := by decide +kernel

/-- A journal with an append point and room. -/
def journaled (s : State) : State :=
  withJN s fun jn => { jn with filling := some (0, 0), segs := jn.segs.set 0 { state := .filling, records := [], torn := false } }

theorem witness_CassettesAndPathAreServed :
    At (journaled (stocked running)) (fun s => s.Serves 1 ∧ s.phase = .running ∧ s.lc.conds.length = 69 ∧ s.nd.safeDoorOpen = false ∧
      s.nd.state ∈ [.idle, .waiting, .clearing, .fault] ∧ s.ss.pick = .empty ∧ s.nd.emptying = none ∧ s.jn.failed = false ∧
      16 < s.jn.free ∧ s.jn.exhausted = false ∧ s.nd.current = none ∧ (s.cass .i1).slot = false ∧
      (s.cass .i2).kept.state ≠ .absent ∧ (s.cass .i2).kept.denomination ≠ none ∧ (s.cass .i2).pending = none ∧
      (s.cass .i2).kept.inPath = 0 ∧ (s.cass .i2).committed = 0) ∧
    At (withND running fun nd => { nd with safeDoorOpen := true, state := .halted }) (fun s => s.nd.safeDoorOpen = true ∧
      s.nd.state = .halted) ∧
    At (withND running fun nd => { nd with state := .clearing, clearingDue := some 5 }) (fun s => s.nd.clearingDue = some 5 ∧
      s.nd.state = .clearing ∧ s.nd.strayInPath = false) ∧
    (withND running fun nd => { nd with emptying := some ⟨1, 0, 0⟩ }).nd.emptying ≠ none ∧
    (withJN running fun jn => { jn with failed := true }).jn.failed = true ∧
    (withND running fun nd => { nd with state := .picking }).nd.state ∈ [.picking, .waiting] ∧
    (running.cass .i1).kept.denomination = none ∧
    At (running.modCass .i1 fun c => { c with pending := some ⟨1, 100, 1, 1, 1⟩ }) (fun s => (s.cass .i1).pending ≠ none) := by
  decide +kernel

theorem witness_PlansPayTheAmountExactly : (match (stocked running).plan 13000 with | .ok _ => true | .error _ => false) = true := by
  decide +kernel

theorem witness_DispenseIsCheckedAndPlanned :
    At (journaled (stocked ready)) (fun s => s.Serves 1 ∧ (s.carrier .i1).location ≠ .unknown ∧ (s.laneRec .i1).state = .opened ∧
      s.nd.state ∉ [.halted, .fault] ∧ s.jn.failed = false ∧ 16 < s.jn.free ∧ planned s 13000 = .inr ([1, 4, 0, 0], [5]) ∧
      planned s 1 = .inl .noMix ∧ s.nd.box + 5 + s.dp.set.rejectCeiling + 2 ≤ 300 ∧ 300 < 284 + 5 + s.dp.set.rejectCeiling + 2 ∧
      s.dp.queue.length < 3 ∧ s.dp.loads.length + 1 ≤ 8 ∧
      At (withND s fun nd => { nd with state := .clearing }) (fun s => s.nd.state ≠ .idle) ∧
      At { s with dp := { s.dp with queue := List.replicate 3 ⟨.i1, 0, false, 0, 0, false, []⟩ } } (fun s => 3 ≤ s.dp.queue.length) ∧
      At { s with dp := { s.dp with loads := List.replicate 8 (aLoad 5 .held) } } (fun s => 8 < s.dp.loads.length + 1)) ∧
    (running.carrier .i1).location = .unknown ∧ (running.laneRec .i1).state = .closed := by decide +kernel

theorem witness_CancelGoesByTheLoadsState : running.Serves 1 ∧ (∀ ld ∈ running.dp.loads, ld.lane ≠ .i1) ∧
    running.transferLane ≠ some .i1 ∧
    At (withSS (withLoad running (aLoad 5 .staged)) fun ss => { ss with transfer := some 5 }) (fun s => s.transferLane = some .i1) ∧
    At (withLoad running (aLoad 5 .planned)) (fun s => s.dp.loads.filter (fun x => x.lane = .i1) = [aLoad 5 .planned] ∧
      s.load 5 = some (aLoad 5 .planned) ∧ s.transferLane ≠ some .i1) ∧
    At ((withLoad running (aLoad 5 .presented)).modCarrier .i1 fun c => { c with outstanding := some 5 }) (fun s =>
      (s.carrier .i1).reservation = .none ∧ (s.carrier .i1).outstanding = some 5 ∧ (aLoad 5 .presented).seq = some 9) ∧
    At (withND (withLoad running (aLoad 5 .picking)) fun nd => { nd with pick := some .i2 }) (fun s => s.nd.pick ≠ none) ∧
    At (withSS (withLoad running (aLoad 5 .presenting)) fun ss => { ss with shuttle := .pushing .i1 5 }) (fun s =>
      s.ss.shuttle = .pushing .i1 5) ∧
    At (withSS (withLoad running (aLoad 5 .held)) fun ss => { ss with deferred := [(1, .i1)] }) (fun s =>
      s.ss.deferred = (1, .i1) :: [] ∧ s.ss.transfer = none) := by decide +kernel

theorem witness_TransferAndPresentationBegin :
    At (withSS (withLoad (journaled ready) (aLoad 5 .staged)) fun ss => { ss with pick := .full 5 3 }) (fun s => s.phase = .running ∧
      s.load 5 = some (aLoad 5 .staged) ∧ s.ss.pick = .full 5 3 ∧ s.ss.delivery = .empty ∧ s.ss.transfer = none ∧ s.ss.owed = [] ∧
      s.ss.deferred = [] ∧ s.jn.failed = false ∧ 16 < s.jn.free ∧ s.jn.exhausted = false) ∧
    At (withSS (withLoad ready (aLoad 5 .held)) fun ss => { ss with delivery := .holding 5 3 }) (fun s => s.ss.shuttle = .home ∧
      (aLoad 5 .held).expiryMarked = false ∧ (s.carrier .i1).location = .atBay ∧ (s.bay .i1).present = true ∧
      (s.carrier .i1).reservation = .none ∧ (s.carrier .i1).outstanding = none ∧ s.bayContent .i1 = .empty ∧
      (s.bay .i1).doorClosed = true ∧ ((s.modBay .i1 fun b => { b with doorClosed := false }).bay .i1).doorClosed = false ∧
      (s.modBay .i1 fun b => { b with content := true }).bayContent .i1 ≠ .empty) ∧
    ((running.carrier .i1).location ≠ .atBay) := by decide +kernel

theorem witness_ShuttleAndStageHoldRun :
    At ((withSS (withLoad running (aLoad 5 .presenting)) fun ss => { ss with
        shuttle := .withdrawing .i1 5 .aborted, delivery := .presenting 5 3 }).modCarrier .i1 fun c =>
          { c with reservation := .presenting }) (fun s => s.load 5 = some (aLoad 5 .presenting) ∧
      s.ss.shuttle = .withdrawing .i1 5 .aborted ∧ s.ss.delivery = .presenting 5 3 ∧ (s.carrier .i1).reservation = .presenting ∧
      (aLoad 5 .presenting).holdDue = some 5) ∧
    At (withSS running fun ss => { ss with shuttle := .pushing .i1 5 }) (fun s => s.ss.shuttle = .pushing .i1 5) ∧
    At (withSS running fun ss => { ss with shuttle := .returning .i1 5 }) (fun s => s.ss.shuttle = .returning .i1 5) ∧
    At (withSS (withLoad running (aLoad 5 .held)) fun ss => { ss with delivery := .holding 5 3 }) (fun s =>
      s.ss.delivery = .holding 5 3 ∧ s.load 5 = some (aLoad 5 .held)) := by decide +kernel

theorem witness_LoadCloseEndsATrip : running.Serves 1 ∧ ((0 ≠ 1 ∧ 0 ≠ 2) ∨ 5 = 0) ∧ running.load 255 = none ∧
    (withLoad running (aLoad 5 .held)).load 5 = some (aLoad 5 .held) ∧
    At ((withLoad running (aLoad 5 .awaitingClose)).modCarrier .i1 fun c => { c with outstanding := some 5 }) (fun s =>
      s.load 5 = some (aLoad 5 .awaitingClose) ∧ (aLoad 5 .awaitingClose).seq = some 9 ∧ (s.carrier .i1).outstanding = some 5) := by
  decide +kernel

theorem witness_CaptureIsCheckedAndOpened :
    At (withCU ((journaled ready).modBay .i1 fun b => { b with content := true }) .idle none) (fun s =>
      At { s with cu := { s.cu with bin := ⟨719, 800, .confirmed⟩ } } (fun s => s.Serves 1 ∧ s.cu.set.exhausted = false ∧
        s.cu.exchange = none ∧ s.cu.bin.count < s.cu.bin.capacity ∧ s.jn.failed = false ∧ 16 < s.jn.free ∧ s.cu.owed = none ∧
        s.cu.printerReady = true ∧ (s.carrier .i1).location = .atBay ∧ (s.bay .i1).present = true ∧
        (s.carrier .i1).reservation = .none ∧ (s.carrier .i1).outstanding = none ∧ s.bayContent .i1 = .content ∧
        s.jn.exhausted = false ∧ s.cu.set.next < 4294967295)) ∧
    running.cu.bin.state ≠ .confirmed ∧ (withCU running .fault (some (aCapture 5))).cu.state ≠ .idle ∧ (800 : Nat) ≤ 800 ∧
    ({ running with cu := { running.cu with printerReady := false } } : State).cu.set.stampRequired = true ∧
    ({ running with cu := { running.cu with set := ⟨4294967295, true, true⟩ } } : State).cu.set.exhausted = true := by
  decide +kernel

theorem witness_CaptureRunsToItsEnd :
    At ((withCU running .dropping (some (aCapture 5))).modCarrier .i1 fun c => { c with reservation := .capturing }) (fun s =>
      s.cu.hand = some (aCapture 5) ∧ (aCapture 5).seq = some 61207 ∧ (aCapture 5).opening = none ∧ s.cu.owed = none ∧
      s.jn.failed = false ∧ s.lc.conds.length = 69 ∧ (s.carrier .i1).reservation = .capturing ∧ (aCapture 5).due = some 5) ∧
    At (withCU running .lifting (some (aCapture 5))) (fun s => s.cu.state = .lifting ∧ (aCapture 5).returning = none ∧
      s.cu.printerReady = true) ∧
    At (withCU running .lifting (some { aCapture 5 with returning := some .aborted })) (fun s => s.cu.hand.map (·.returning) =
      some (some .aborted)) ∧
    (withCU running .stamping (some (aCapture 5))).cu.state = .stamping ∧
    At (withCU running .fault (some { aCapture 5 with uncounted := false })) (fun s => s.cu.state = .fault ∧
      s.cu.hand.map (·.uncounted) = some false) ∧ (aCapture 5).uncounted = true := by decide +kernel

theorem witness_BinAndCaptureRequestsAct :
    At running (fun s => s.Serves 1 ∧ s.cu.binDoorClosed = true ∧ s.cu.bin.state ∈ [.confirmed, .unconfirmed] ∧
      s.cu.state = .idle ∧ s.cu.hand = none ∧ s.cu.exchange = none) ∧
    At { running with cu := { running.cu with binDoorClosed := false, bin := ⟨0, 800, .doorOpen⟩ } } (fun s =>
      s.cu.binDoorClosed = false ∧ s.cu.bin.state = .doorOpen ∧ s.cu.binPresent = true ∧ s.cu.bin.state ∈ [.doorOpen, .removed]) ∧
    (withCU running .stamping (some (aCapture 5))).cu.state ∈ [.lifting, .stamping, .dropping] ∧
    At (withCU running .fault (some (aCapture 5))) (fun s => s.cu.state = .fault ∧ s.cu.hand = some (aCapture 5) ∧
      s.cu.state ∈ [.idle, .fault]) ∧
    At (journaled running) (fun s => s.cu.bin.state = .unconfirmed ∧ s.jn.failed = false ∧ 16 < s.jn.free ∧
      s.jn.exhausted = false) ∧ (withJN running fun jn => { jn with failed := true }).jn.failed = true := by decide +kernel

/-- The record and the programs of the journal's witnesses. -/
def aRecord : Record := { kind := .load, lane := 1, seq := 7, clock := 0, body := [], duress := false, closed := false }

def programming (work : Work) (failures : Nat) : State :=
  withJN (journaled running) fun jn => { jn with busy := true, queue := [⟨.walk, work, none⟩], failures := failures }

/-- The record with sequence 7 stands CLOSED in slot 0 of the first segment. -/
def marked (s : State) : State :=
  withJN s fun jn => { jn with
    mem := jn.mem.write (slotAddress 0 0 0) 0x3F#8
    segs := jn.segs.set 0 { state := .full, records := [(0, 7)], torn := false } }

theorem witness_ProgramsEndAsTheyVerify :
    At (programming (.append aRecord) 2) (fun s => s.phase = .running ∧ s.jn.busy = true ∧ s.jn.queue.head?.map (·.work) =
      some (.append aRecord) ∧ s.jn.filling = some (0, 0) ∧ s.jn.failures = 2 ∧ s.lc.conds.length = 69 ∧
      ∀ off ∈ List.range 32, s.jn.mem.read (slotAddress 0 0 off) = 0xFF#8) ∧
    At (marked (programming (.mark 7) 1)) (fun s => s.jn.find 7 = some (0, 0) ∧ s.jn.mem.read (slotAddress 0 0 0) = 0x3F#8 ∧
      s.jn.failures < 2) := by decide +kernel

theorem witness_ErasesAndReadsEnd : running.jn.segs.length = 16 ∧ running.lc.conds.length = 69 ∧
    At (withJN running fun jn => { jn with run := some ⟨.a, [0, 7], some 500, none, Count.zero, []⟩ }) (fun s =>
      s.jn.run.map (fun r => (r.windowDue, r.waiting)) = some (some 500, 0 :: [7])) ∧
    At (withJN running fun jn => { jn with run := some ⟨.b, [], none, some 15, ⟨0, some 0⟩, []⟩ }) (fun s =>
      s.jn.run.map (fun r => (r.erasing, r.spent.since)) = some (some 15, some 0) ∧ s.jn.suspended .b = false) ∧
    At (withJN (programming (.append aRecord) 0) fun jn => { jn with run := some ⟨.a, [], none, some 3, ⟨0, some 0⟩, []⟩ }) (fun s =>
      s.jn.suspended .a = true) ∧
    At (withJN running fun jn => { jn with reading := true, reads := [⟨1, []⟩] }) (fun s => s.jn.reading = true ∧
      s.jn.reads = ⟨1, []⟩ :: []) := by decide +kernel

theorem witness_JournalRequestsAct : running.Serves 1 ∧ ((0 : Nat) < 1 ∨ 6 < 0) ∧ ((7 : Nat) < 1 ∨ 6 < 7) ∧
    (∀ e ∈ running.jn.bySeq, e.1 < 0) ∧ (∀ e ∈ running.jn.bySeq, 4294967295 < e.1) ∧
    At (marked running) (fun s => s.jn.bySeq = (7, 0, 0) :: [] ∧ (s.jn.seg 0).state ≠ .erasing ∧ s.jn.failed = false ∧
      s.jn.walk = none ∧ s.jn.status 0 0 = some .closed ∧ (s.jn.seg 0).state = .full ∧ s.jn.run = none ∧
      (s.jn.seg 0).records = [(0, 7)] ∧
      At (withJN s fun jn => { jn with mem := jn.mem.write (slotAddress 0 0 0) 0x1F#8 }) (fun s =>
        ∀ r ∈ (s.jn.seg 0).records, s.jn.status 0 r.1 = some .reconciled) ∧
      At (withJN s fun jn => { jn with mem := jn.mem.write (slotAddress 0 0 0) 0x7F#8 }) (fun s => s.jn.status 0 0 = some .written) ∧
      At (withJN s fun jn => { jn with run := some ⟨.a, [1], some 500, none, Count.zero, []⟩ }) (fun s =>
        s.jn.run.map (fun r => (r.bank, r.windowDue)) = some (bankOf 0, some 500)) ∧
      At (withJN s fun jn => { jn with run := some ⟨.b, [8], some 500, none, Count.zero, []⟩ }) (fun s =>
        s.jn.run.map (·.bank) ≠ some (bankOf 0))) ∧
    ((journaled running).jn.seg 0).state = .filling ∧ (running.jn.seg 15).state ∉ [.filling, .full, .pendingErase] ∧
    At (withJN (journaled running) fun jn => { jn with failed := true }) (fun s => s.jn.failed = true ∧ s.jn.filling = some (0, 0) ∧
      s.jn.scanCloses = [] ∧ s.ss.owed = [] ∧ s.cu.owed = none) ∧
    At (withJN running fun jn => { jn with failed := true, segs := List.replicate 16 { state := .full, records := [], torn := false } })
      (fun s => s.jn.filling = none ∧ ∀ i ∈ List.range 16, (s.jn.seg i).state ≠ .erased) := by decide +kernel

def zoned (s : State) (z : ZoneId) (f : Zone → Zone) : State := s.modZone z f

theorem witness_AlarmEventsMoveTheZones : running.phase = .running ∧ running.lc.conds.length = 69 ∧
    (running.zone .holdupA).cause = false ∧ (running.zone .holdupA).state = .idle ∧ running.au.duress = false ∧
    At (zoned running .holdupA fun z => { z with state := .locked, cause := true }) (fun s => (s.zone .holdupA).cause ≠ false ∧
      (s.zone .holdupA).state = .locked) ∧
    At (zoned running .safeDoor fun z => { z with state := .delay, delayDue := some 5 }) (fun s => (s.zone .safeDoor).state = .delay ∧
      (s.zone .safeDoor).delayDue = some 5) ∧
    At (zoned running .binDoor fun z => { z with windowUntil := some 5, cause := true }) (fun s =>
      (s.zone .binDoor).windowUntil = some 5 ∧ (s.zone .binDoor).state = .idle ∧ (s.zone .binDoor).cause = true ∧
      0 < s.au.entryDelay .bin ∧ (zoned s .binDoor fun z => { z with cause := false }).zone .binDoor ≠ s.zone .binDoor) := by
  decide +kernel

theorem witness_AuthorizeAndAcknowledge : running.Serves 1 ∧ ((2 : Nat) ≠ 3 ∧ (2 : Nat) ≠ 4) ∧ ((5 : Nat) ≠ 3 ∧ (5 : Nat) ≠ 4) ∧
    (zoned running .holdupA fun z => { z with state := .locked }).au.duress = true ∧ running.au.duress = false ∧
    (running.zone .safeDoor).state ≠ .delay ∧ (zoned running .safeDoor fun z => { z with state := .delay }).zone .safeDoor ≠
      running.zone .safeDoor ∧ (running.zone .safeDoor).cause = false ∧ ((13 : Nat) = 0 ∨ 12 < 13) ∧
    ((zoned running .holdupB fun z => { z with state := .locked }).zone .holdupB).state = .locked ∧
    (running.zone (.tamper .i1)).state ∈ [.idle, .delay, .unsupervised] ∧
    At (zoned running .tubeJam fun z => { z with state := .alarm, cause := true }) (fun s => (s.zone .tubeJam).state = .alarm ∧
      (s.zone .tubeJam).cause = true) ∧
    At (zoned running .tubeJam fun z => { z with state := .latched }) (fun s => (s.zone .tubeJam).state = .latched) ∧
    At (zoned running .carrierMissing fun z => { z with state := .alarm }) (fun s => (s.zone .carrierMissing).state ∈ [.alarm, .latched]) := by
  decide +kernel

theorem witness_SounderPeriodAndSilence : running.Serves 1 ∧ running.au.run = .idle ∧
    ({ running with au := { running.au with run := .pulsing true 5 9 } } : State).au.run = .pulsing true 5 9 := by decide +kernel

/-! ## Witnesses of the widened clauses -/

theorem witness_PowerOnStartsFromTheStore : State.reset.memoryFormed ∧ State.reset.jn.segs.length = 16 ∧ State.reset.jn.mem = [] ∧
    (∀ i ∈ List.range 16, (State.reset.jn.seg i).torn = false) ∧
    At (withJN State.reset fun jn => { jn with segs := jn.segs.set 3 { state := .erasing, records := [], torn := true } }) (fun s =>
      s.memoryFormed ∧ s.jn.segs.length = 16 ∧ (s.jn.seg 3).torn = true) ∧
    (State.reset.store.first.sound = true ∧
      ({ State.reset with store := State.reset.store.cut .inFirst } : State).store.first.sound = false) := by decide +kernel

theorem witness_PowerLossCutsAProgram :
    At (programming (.append aRecord) 0) (fun s => s.phase ≠ .off ∧ s.memoryFormed ∧ s.jn.busy = true ∧
      s.jn.queue = [⟨.walk, .append aRecord, none⟩] ∧ s.jn.filling = some (0, 0)) ∧
    At (marked (programming (.mark 7) 0)) (fun s => s.memoryFormed ∧ s.jn.busy = true ∧
      s.jn.queue = [⟨.walk, .mark 7, none⟩] ∧ s.jn.find 7 = some (0, 0)) := by decide +kernel

/-- Lane 1's UP entry waits while lane 2's carrier is on its move. -/
def driving : State :=
  ((withMove { ready with td := { ready.td with queue := [⟨.i1, .up, .host, 0⟩] } } { aMove .up (.transit 5) with lane := .i2 }).modCarrier
    .i1 fun c => { c with reservation := .queued }).modCarrier .i2 fun c => { c with reservation := .moving, location := .movingUp }

theorem witness_tubeFormed : driving.tubeFormed := by
  refine ⟨by decide +kernel, by decide +kernel, ?_, ?_, by decide +kernel, fun h => absurd h (by decide +kernel)⟩
  · intro l
    cases l <;> decide +kernel
  · intro l
    refine ⟨fun h => ⟨_, rfl, ?_⟩, fun ⟨m, h, k⟩ => ?_⟩
    · revert h; cases l <;> decide +kernel
    · cases h; cases k; rfl

/-- A load of three notes from C2 is picked, its first note in the path and its cassette's ledger in balance. -/
def picking : State :=
  (withND (withLoad running (aLoad 5 .picking)) fun nd => { nd with
    state := .picking, current := some 5, pick := some .i2, arrivalDue := some 250 }).modCass .i2 fun c =>
      { c with kept := { c.kept with loaded := 40, estimate := 39, inPath := 1, denomination := some 2000, state := .present } }

theorem witness_loadsFormed : picking.boxFormed ∧ picking.loadsFormed := by
  unfold State.boxFormed State.loadsFormed; decide +kernel

theorem witness_ledgersFormed : picking.ledgersFormed := by
  refine ⟨⟨?_, ?_⟩, ⟨?_, ?_⟩, ⟨?_, ?_⟩, ?_, ?_⟩ <;> intro c <;> first | (intro d; cases c <;> cases d <;> decide +kernel) | (cases c <;> decide +kernel)

theorem witness_pathFormed : picking.pathFormed ∧ picking.noneAwaitsReplenish := by
  refine ⟨fun _ => ⟨?_, ?_, by decide +kernel, by decide +kernel, by decide +kernel, ?_⟩, ?_⟩
  · intro c h; cases h; decide +kernel
  · intro g h; cases h
  · intro _ _ c; cases c <;> decide +kernel
  · intro ld _ _ c h; exact absurd (by cases c <;> rfl) h

/-- The last enrolment of start-up waits for its third answer. -/
theorem witness_startUpDerives :
    At (withLI { State.reset with phase := .startUp .enrolment } fun li => { li with bus := .ident .i4 .startUp 3 50 }) (fun s =>
      s.phase = .startUp .enrolment ∧ s.li.bus = .ident .i4 .startUp 3 50 ∧ s.nd.safeDoorOpen = false ∧
      (withND s fun nd => { nd with safeDoorOpen := true }).nd.safeDoorOpen = true) := by decide +kernel

theorem witness_pollsWithALoop :
    At (withLI ready fun li => { li with bus := .poll .i1 20 }) (fun s => (s.laneRec .i1).resolved.vehicleLoop = false ∧
      s.td.entry .i1 = none ∧ (s.carrier .i1).location ≠ .atLane ∧
      At ((s.modLane .i1 fun r => { r with carrier := .yes, advertised := Features.ofNat 15 }).modCarrier .i1 fun c =>
          { c with location := .atLane }) (fun s => (s.laneRec .i1).resolved.vehicleLoop = true ∧ (s.laneRec .i1).carrier = sense true ∧
        (s.carrier .i1).location = .atLane ∧ (s.laneRec .i1).reasons.jam = false ∧
        (s.laneRec .i1).reasons.carrierUnknown = false ∧ (s.carrier .i1).reservation = .none)) := by decide +kernel

theorem witness_driveOffRecalls :
    At (((withLoad running (aLoad 17 .delivered)).modLane .i1 fun r => { r with
        clearDue := some 5, carrier := .yes, set := { r.set with autoRecall := true } }).modCarrier .i1 fun c =>
          { c with location := .atLane, outstanding := some 17 }) (fun s => (s.laneRec .i1).clearDue = some 5 ∧
      (s.carrier .i1).location = .atLane ∧ (s.laneRec .i1).carrier = .yes ∧ s.outstandingState .i1 = some .delivered ∧
      (s.laneRec .i1).set.autoRecall = true ∧ (s.laneRec .i1).reasons.forbid .down = false ∧ s.td.entry .i1 = none ∧
      (s.carrier .i1).reservation ≠ .moving) := by decide +kernel

theorem witness_queueWaitOnAnIdleDrive :
    At { ready with td := { ready.td with queue := [⟨.i1, .up, .host, 0⟩] } } (fun s => s.td.move = none ∧
      s.td.entry .i1 = some ⟨.i1, .up, .host, 0⟩ ∧ s.lc.conds.length = 69) := by decide +kernel

theorem witness_settleOfAFallBackAndAFind :
    At ((withLoad (withMove ready (aMove .up (.settle 5 .fallBack))) (aLoad 5 .sent)).modCarrier .i1 fun c =>
        { c with outstanding := some 5 }) (fun s => s.td.move = some (aMove .up (.settle 5 .fallBack)) ∧
      (s.bay .i1).present = true ∧ (s.carrier .i1).outstanding = some 5 ∧ s.load 5 = some (aLoad 5 .sent)) ∧
    At (withMove ready { aMove .up (.settle 5 .find) with isPurge := true }) (fun s => (s.carrier .i1).location = .atBay) ∧
    At ((withLoad (withMove running { aMove .up (.settle 5 .find) with isPurge := true }) (aLoad 5 .sent)).modCarrier .i1 fun c =>
        { c with location := .atLane, outstanding := some 5 }) (fun s => (s.carrier .i1).location = .atLane ∧
      s.outstandingState .i1 = some .sent) := by decide +kernel

theorem witness_bayRises :
    At (withMove running (aMove .up (.transit 5))) (fun s => (s.bay .i1).present = false ∧
      s.td.move = some (aMove .up (.transit 5)) ∧ s.lc.conds.length = 69) ∧
    At (withMove running { aMove .down (.purging 5) with isPurge := true }) (fun s => (s.bay .i1).present = false ∧
      s.td.move = some { aMove .down (.purging 5) with isPurge := true }) ∧
    At ((withLoad (withMove running (aMove .up (.settle 5 .arrival))) (aLoad 5 .sent)).modCarrier .i1 fun c =>
        { c with outstanding := some 5 }) (fun s => s.td.move = some (aMove .up (.settle 5 .arrival)) ∧
      (s.carrier .i1).location = .unknown ∧ s.td.entry .i1 = none ∧ (s.carrier .i1).outstanding = some 5 ∧
      s.load 5 = some (aLoad 5 .sent)) ∧
    At (({ withLoad running (aLoad 5 .delivered) with td := { running.td with queue := [⟨.i1, .down, .host, 0⟩] } } : State).modCarrier
        .i1 fun c => { c with location := .atLane, outstanding := some 5 }) (fun s => (s.bay .i1).present = false ∧
      (s.carrier .i1).location = .atLane ∧ s.td.move = none ∧ s.td.entry .i1 = some ⟨.i1, .down, .host, 0⟩ ∧
      (s.carrier .i1).outstanding = some 5 ∧ s.load 5 = some (aLoad 5 .delivered)) := by decide +kernel

theorem witness_autoSendAndTheDoor :
    At ((withLoad (withSS ready fun ss => { ss with shuttle := .pushing .i1 5, delivery := .presenting 5 3 })
        { aLoad 5 .presenting with autoSend := true }).modCarrier .i1 fun c => { c with reservation := .presenting }) (fun s =>
      s.load 5 = some { aLoad 5 .presenting with autoSend := true } ∧ (s.carrier .i1).reservation = .presenting ∧
      (s.laneRec .i1).state = .opened ∧ s.td.entry .i1 = none ∧
      ((s.modLane .i1 fun r => { r with set := { r.set with isOpen := false } }).laneRec .i1).state = .closed) ∧
    At (withMove ready (aMove .up (.divert 5))) (fun s => s.td.move = some (aMove .up (.divert 5)) ∧ s.td.diverter ≠ some .i1 ∧
      s.td.valve ≠ some .up ∧ (s.bay .i1).doorClosed = true) ∧
    (withMove ready (aMove .up .air)).td.move = some (aMove .up .air) := by decide +kernel

theorem witness_airSettingsByState :
    At (withAS running fun as => { as with state := .ready, idle := ⟨700000, some 0⟩ }) (fun s => s.as.state = .ready ∧
      s.as.idle.since ≠ none ∧ 600 * 1000 ≤ s.as.idle.value s.now ∧ s.lc.conds.length = 69) ∧
    At (withAS running fun as => { as with state := .ready }) (fun s => s.as.idle.since = none) ∧
    (running.as.state = .economy ∧ AB.b ≠ running.as.set.duty ∧ running.as.refresh.since = none) ∧
    At (withAS running fun as => { as with refresh := ⟨3600000, some 0⟩ }) (fun s => s.as.refresh.since ≠ none ∧
      3600 * 1000 ≤ s.as.refresh.value s.now) ∧
    At (withAS running fun as => { as with state := .fault, blowerA := ⟨true, false⟩ }) (fun s => s.as.state = .fault ∧
      (s.as.blower .b).failed = false ∧ (s.as.blower .a).failed = true ∧ (s.as.blower AB.a.other).failed = false) := by
  decide +kernel

theorem witness_lossesOfPressure :
    At (withAS running fun as => { as with state := .driving, blowerA := ⟨false, true⟩ }) (fun s => s.as.state = .driving ∧
      s.as.duty.switchClosed = true ∧ s.as.set.autoSwitch = true ∧ s.as.standby.failed = false ∧
      At (withAS (withMove s (aMove .up (.transit 5))) fun as => { as with demand := true, blowerB := ⟨true, false⟩ }) (fun s =>
        s.as.standby.failed = true ∧ s.as.demand = true ∧ s.td.move = some (aMove .up (.transit 5)))) ∧
    At (withAS running fun as => { as with state := .refresh, started := some 0 }) (fun s => s.as.closedInRun = false ∧
      s.as.started = some 0 ∧ s.as.set.autoSwitch = true ∧ s.as.standby.failed = false ∧ s.as.demand = false) ∧
    At (withAS { running with phase := .startUp .air } fun as => { as with
        state := .refresh, started := some 0, closedInRun := true, blowerA := ⟨false, true⟩ }) (fun s => s.phase = .startUp .air ∧
      s.as.state = .refresh ∧ s.as.started = some 0 ∧ s.as.closedInRun = true ∧ s.as.duty.switchClosed = true) := by
  decide +kernel

theorem witness_nextPickAndFifthDouble :
    At ((withND (withLoad (stocked running) (aLoad 5 .picking)) fun nd => { nd with
        state := .picking, current := some 5, pick := some .i2, ceiling := 2,
        gauge := some ⟨some .i2, false, .single, 1600, 5⟩ }).modCass .i2 fun c => { c with kept := { c.kept with doubles := 4 } })
      (fun s => s.nd.current = some 5 ∧ s.load 5 = some (aLoad 5 .picking) ∧ s.nd.stopping = false ∧ s.nd.rejects ≤ s.nd.ceiling ∧
        ({ aLoad 5 .picking with accepted := ⟨0, 1, 0, 0⟩ } : Load).nextCass = some .i2 ∧
        (s.cass .i2).kept.state ∈ [.present, .low] ∧ (s.cass .i2).kept.doubles = 4) := by decide +kernel

theorem witness_pickingHalts :
    At (withND (withLoad running (aLoad 5 .picking)) fun nd => { nd with state := .picking, current := some 5 }) (fun s =>
      s.nd.safeDoorOpen = false ∧ s.nd.state = .picking ∧ s.nd.current = some 5 ∧ s.load 5 = some (aLoad 5 .picking)) ∧
    At (withND { running with phase := .startUp .notePath } fun nd => { nd with state := .clearing, clearingDue := some 5 }) (fun s =>
      s.phase = .startUp .notePath ∧ s.nd.clearingDue = some 5) := by decide +kernel

theorem witness_dispenseFillsTheBox :
    At (journaled (stocked ready)) (fun s => s.nd.state = .idle ∧ s.dp.queue = [] ∧ s.nd.gauge = none ∧ s.ss.pick = .empty ∧
      At (withND s fun nd => { nd with box := 284 }) (fun s => s.nd.box + 4 + s.dp.set.rejectCeiling + 2 ≤ 300 ∧
        planned s 20000 = .inr ([4, 0, 0, 0], [4])) ∧
      At (withSS (withND s fun nd => { nd with box := 250 }) fun ss => { ss with delivery := .holding 8 40 }) (fun s =>
        s.nd.box + 4 + s.dp.set.rejectCeiling + 2 ≤ 300 ∧ 300 < s.nd.box + s.ss.notes + 4 + s.dp.set.rejectCeiling + 2)) := by
  decide +kernel

theorem witness_cancelOfSeveral :
    At { running with dp := { running.dp with loads := [aLoad 5 .planned, aLoad 6 .sent] } } (fun s =>
      s.dp.loads.filter (fun x => x.lane = .i1) = [aLoad 5 .planned, aLoad 6 .sent] ∧ (s.dp.loads.map (·.id)).Nodup ∧
      (∀ ld ∈ s.dp.loads, ld.state ∈ [.planned, .sent, .delivered, .awaitingClose]) ∧ s.transferLane ≠ some .i1) := by decide +kernel

theorem witness_expiredAbort : ({ aLoad 5 .presenting with expiryMarked := true } : Load).expiryMarked = true ∧
    At ((withSS (withLoad running { aLoad 5 .presenting with expiryMarked := true }) fun ss => { ss with
        shuttle := .withdrawing .i1 5 .aborted, delivery := .presenting 5 3 }).modCarrier .i1 fun c => { c with reservation := .presenting })
      (fun s => s.load 5 = some { aLoad 5 .presenting with expiryMarked := true } ∧ s.ss.shuttle = .withdrawing .i1 5 .aborted ∧
        (s.carrier .i1).reservation = .presenting) := by decide +kernel

theorem witness_exchangeEnds :
    At (programming (.append aRecord) 0) (fun s =>
      At { withJN s fun jn => { jn with queue := [⟨.binExchange, .append aRecord, none⟩] } with
          cu := { s.cu with exchange := some ⟨1, 700, true⟩ } } (fun s => s.jn.busy = true ∧
        s.jn.queue = [⟨.binExchange, .append aRecord, none⟩] ∧ s.jn.filling = some (0, 0) ∧
        s.cu.exchange = some ⟨1, 700, true⟩)) := by decide +kernel

/-- The record with sequence 7 stands WRITTEN in slot 0 of the first segment. -/
def written (s : State) : State :=
  withJN s fun jn => { jn with
    mem := jn.mem.write (slotAddress 0 0 0) 0x7F#8
    segs := jn.segs.set 0 { state := .filling, records := [(0, 7)], torn := false } }

theorem witness_closesFlagsAndRetries :
    At (programming (.append aRecord) 1) (fun s => s.memoryFormed ∧ s.jn.failures < 2 ∧ s.jn.reading = false ∧
      ({ s.jn with filling := some (0, 1), claims := s.jn.claims - 1 } : JN).roomFor aRecord.kind = true ∧
      ∀ off ∈ List.range 32, s.jn.mem.read (slotAddress 0 0 off) = 0xFF#8) ∧
    At (written (programming (.change ⟨7, [(29, 3#8), (28, 1#8)], RecFlags.none, true⟩) 0)) (fun s => s.memoryFormed ∧
      s.jn.queue = [⟨.walk, .change ⟨7, [(29, 3#8), (28, 1#8)], RecFlags.none, true⟩, none⟩] ∧ s.jn.find 7 = some (0, 0) ∧
      s.jn.mem.read (slotAddress 0 0 0) = 0x7F#8 ∧ s.jn.mem.read (slotAddress 0 0 28) = 0xFF#8 ∧
      s.jn.mem.read (slotAddress 0 0 29) = 0xFF#8) := by decide +kernel

theorem witness_eraseRunsEnd :
    At (withJN running fun jn => { jn with run := some ⟨.b, [9], none, some 15, ⟨0, some 0⟩, []⟩ }) (fun s =>
      s.jn.run.map (fun r => (r.erasing, r.waiting.head?)) = some (some 15, some 9) ∧ s.jn.suspended .b = false ∧
      s.jn.filling.map (·.1) ≠ some 15 ∧ s.jn.queue = []) ∧
    (∀ j ∈ List.range 16, (running.jn.seg j).state ≠ .pendingErase) := by decide +kernel

theorem witness_joinPendingAndRecoverErased :
    At (withJN (marked running) fun jn => { jn with
        segs := jn.segs.set 0 { state := .pendingErase, records := [(0, 7)], torn := false }
        run := some ⟨.a, [0, 1], some 500, none, Count.zero, []⟩ }) (fun s => (s.jn.seg 0).state = .pendingErase ∧
      s.jn.run.map (fun r => (r.bank, r.windowDue, r.waiting)) = some (bankOf 0, some 500, [0, 1])) ∧
    At (withJN running fun jn => { jn with failed := true }) (fun s => s.jn.failed = true ∧ s.jn.filling = none ∧
      (s.jn.seg 0).state = .erased ∧ s.jn.segs.length = 16 ∧ s.jn.scanCloses = [] ∧ s.ss.owed = [] ∧ s.cu.owed = none) := by
  decide +kernel

theorem witness_tamperZones :
    At (withLI (zoned (running.modLane .i1 fun r => { r with advertised := Features.ofNat 15 }) (.tamper .i1) fun z =>
        { z with supervised := true, state := .idle }) fun li => { li with bus := .poll .i1 20 }) (fun s =>
      s.li.bus = .poll .i1 20 ∧ (s.laneRec .i1).resolved.tamperSwitch = true ∧ (s.zone (.tamper .i1)).cause = false ∧
      (s.zone (.tamper .i1)).state ∈ [.idle, .latched] ∧ (s.zone (.tamper .i1)).supervised = true) ∧
    (running.laneRec .i1).resolved.tamperSwitch = false ∧
    At (zoned running (.tamper .i1) fun z => { z with supervised := true, cause := true, state := .alarm, acked := true }) (fun s =>
      (s.zone (.tamper .i1)).cause = true ∧ (s.zone (.tamper .i1)).state = .alarm ∧ (s.zone (.tamper .i1)).acked = true) ∧
    ((running.zone (.tamper .i1)).supervised = false ∧ (running.zone (.tamper .i1)).state = .unsupervised ∧
      (Features.ofNat 15).tamperSwitch = true ∧ Nat.testBit 15 1 = true ∧ Nat.testBit 13 1 = false) := by decide +kernel

/-! ## Two rules of the state the exchange and the print keep -/

/-- R139: a bin door that opened and closed while the exchange was in hand leaves the bin UNCONFIRMED. -/
theorem test_exchange_with_the_door_moved :
    At { programming (.append aRecord) 0 with cu := { running.cu with
        exchange := some ⟨1, 700, false⟩, bin := ⟨700, 800, .unconfirmed⟩ } } (fun s =>
      At (withJN s fun jn => { jn with queue := [⟨.binExchange, .append aRecord, none⟩] }) (fun s =>
        (after (.journalProgramDone []) s).cu.bin = ⟨0, 800, .confirmed⟩ ∧
          (after (.journalProgramDone []) (after (.binDoorChange true) (after (.binDoorChange false)
            { s with cu := { s.cu with binPresent := true } }))).cu.bin = ⟨0, 800, .unconfirmed⟩)) := by decide +kernel

/-- R131: the print carries the clock as it stood at the release (R201). -/
theorem test_print_keeps_its_clock :
    At (withCU (withLC running fun lc => { lc with clock := 77 }) .lifting (some (aCapture 5))) (fun s =>
      (after .deviceClockTick (after .armRelease s)).cu.print = some ⟨5031, .i1, 77⟩) := by decide +kernel

/-! ## The ends of the appends, the walk, the reads and the starts -/

/-- The append of the record is in progress for an owner, alone in the queue, after two failures. -/
def appendingFor (owner : Owner) (s : State) : State :=
  withJN (journaled s) fun jn => { jn with busy := true, queue := [⟨owner, .append aRecord, none⟩], failures := 2 }

theorem witness_ownersHearOfTheirAppends :
    At (appendingFor .power { running with phase := .startUp .powerRecord }) (fun s => s.phase = .startUp .powerRecord ∧
      s.appending .power aRecord ∧ s.lastChance) ∧
    At (appendingFor (.replenish .i2) (running.modCass .i2 fun r => { r with pending := some ⟨1, 2000, 300, 110, 50⟩ })) (fun s =>
      s.appending (.replenish .i2) aRecord ∧ s.lastChance ∧ (s.cass .i2).pending = some ⟨1, 2000, 300, 110, 50⟩) ∧
    At (appendingFor .boxEmptied (withND running fun nd => { nd with emptying := some ⟨1, 240, 0⟩ })) (fun s =>
      s.appending .boxEmptied aRecord ∧ s.lastChance ∧ s.nd.emptying = some ⟨1, 240, 0⟩) ∧
    At (appendingFor (.transfer 5) (withSS (withLoad running (aLoad 5 .staged)) fun ss => { ss with pick := .full 5 3 })) (fun s =>
      s.appending (.transfer 5) aRecord ∧ s.lastChance ∧ s.load 5 = some (aLoad 5 .staged) ∧ s.ss.pick = .full 5 3) := by
  decide +kernel

theorem witness_openingsEnd :
    At (appendingFor .captureOpening (withCU ready .idle (some { aCapture 5 with opening := some 1 }))) (fun s =>
      s.appending .captureOpening aRecord ∧ s.lastChance ∧ (s.bay .i1).doorClosed = true ∧ (s.bay .i1).present = true ∧
      s.cu.hand = some { aCapture 5 with opening := some 1 } ∧ s.cu.owed = none ∧ s.jn.failed = false ∧
      (s.carrier .i1).reservation ≠ .capturing) ∧
    At (appendingFor .captureOpening (withCU running .idle (some { aCapture 5 with opening := some 1 }))) (fun s =>
      s.appending .captureOpening aRecord ∧ (s.bay .i1).present = false) := by decide +kernel

/-- A walk through sequence 9 has its mark of sequence 7 in progress; sequence 8 stands with the status given. -/
def walking (status : Byte) : State :=
  withJN (marked (programming (.mark 7) 2)) fun jn => { jn with
    walk := some ⟨1, 9, none, 0⟩
    mem := jn.mem.write (slotAddress 0 1 0) status
    segs := jn.segs.set 0 { state := .full, records := [(0, 7), (1, 8)], torn := false } }

theorem witness_walksGoOn :
    At (walking 0x3F#8) (fun s => s.memoryFormed ∧ s.jn.failed = false ∧ s.jn.walk = some ⟨1, 9, none, 0⟩ ∧ s.jn.busy = true ∧
      s.jn.queue = [⟨.walk, .mark 7, none⟩] ∧ s.jn.find 7 = some (0, 0) ∧ s.jn.status 0 0 = some .closed ∧ s.jn.failures = 2 ∧
      s.jn.bySeq.filter (fun e => decide (7 < e.1 ∧ e.1 ≤ 9)) = (8, 0, 1) :: [] ∧ (s.jn.seg 0).state ≠ .erasing ∧
      slotAddress 0 1 0 ≠ slotAddress 0 0 0 ∧ s.jn.status 0 1 = some .closed) ∧
    (walking 0x7F#8).jn.status 0 1 = some .written ∧
    (marked running).jn.bySeq.filter (fun e => decide (7 < e.1 ∧ e.1 ≤ 9)) = [] := by decide +kernel

theorem witness_readsGoFirst :
    At (withJN (walking 0x3F#8) fun jn => { jn with
        queue := jn.queue ++ [⟨.walk, .mark 8, none⟩], reads := [⟨2, [(8, 0, 1, false)]⟩] }) (fun s =>
      s.jn.busy = true ∧ s.jn.queue = ⟨.walk, .mark 7, none⟩ :: [⟨.walk, .mark 8, none⟩] ∧
      s.jn.reads = ⟨2, [(8, 0, 1, false)]⟩ :: [] ∧ s.jn.works (.mark 8) .a = true ∧
      (⟨2, [(8, 0, 1, false)]⟩ : ReadJob).uses .a = true ∧ (after (.journalProgramDone []) s).jn.queue ≠ []) ∧
    At (withJN running fun jn => { jn with
        run := some ⟨.a, [0, 7], some 500, none, Count.zero, []⟩, reads := [⟨2, [(8, 0, 1, false), (9, 8, 0, false)]⟩] }) (fun s =>
      s.jn.queue = [] ∧ s.jn.filling.map (·.1) ≠ some 0 ∧ ∀ r ∈ s.jn.reads, ∀ f ∈ r.found,
        f.2.1 = 0 ∨ f.2.2.2 = true ∨ bankOf f.2.1 ≠ .a) := by decide +kernel

/-- R153: the read waits for the program's end, and not for the next program. R159: a read of the segment that turns ERASING
does not suspend its erase. -/
theorem test_reads_wait_for_one_program :
    At (withJN (walking 0x3F#8) fun jn => { jn with reads := [⟨2, [(8, 0, 1, false)]⟩] }) (fun s =>
      (after (.journalProgramDone []) s).jn.reading = true ∧ (after (.journalProgramDone []) s).jn.busy = false ∧
      (after .journalReadDone (after (.journalProgramDone []) s)).jn.busy = true) ∧
    At (withJN running fun jn => { jn with
        run := some ⟨.a, [0], some 500, none, Count.zero, []⟩, reads := [⟨2, [(8, 0, 1, false)]⟩] }) (fun s =>
      s.jn.suspended .a = true ∧ (after .eraseWindowExpiry s).jn.suspended .a = false) := by decide +kernel

theorem witness_erasesAreCheckedByTheRecords :
    At (withJN (walking 0x3F#8) fun jn => { jn with run := some ⟨.a, [1], some 500, none, Count.zero, []⟩ }) (fun s =>
      (s.jn.seg 0).state = .full ∧ s.jn.run = some ⟨.a, [1], some 500, none, Count.zero, []⟩ ∧
      (0, 7) ∈ (s.jn.seg 0).records ∧ s.jn.status 0 0 ∈ [some .written, some .closed] ∧
      (∀ e ∈ (s.jn.seg 0).records, s.jn.status 0 e.1 ∈ [some .written, some .closed] → 7 ≤ e.2)) ∧
    At (withJN running fun jn => { jn with
        segs := jn.segs.set 0 { state := .pendingErase, records := [], torn := false }
        run := some ⟨.a, [0, 1], none, some 3, Count.zero, []⟩ }) (fun s => (s.jn.seg 0).state ∉ [.filling, .full] ∧
      s.jn.run.map (fun r => (r.bank, r.windowDue)) = some (bankOf 0, none)) := by decide +kernel

theorem witness_lostStationsAnswer :
    At (withLI (running.modLane .i1 fun r => { r with reasons := { r.reasons with stationLost := true } }) fun li =>
        { li with bus := .poll .i1 20 }) (fun s => s.li.bus = .poll .i1 20 ∧ (s.laneRec .i1).reasons.stationLost = true ∧
      s.li.enrolWaits .i1 = false ∧ (withLI s fun li => { li with enrolWaiting := [.enrol .i1 .lost] }).li.enrolWaits .i1 = true) ∧
    At (withLI running fun li => { li with bus := .ident .i4 .rescanAll 3 150, rescan := some ⟨1, true, true⟩ }) (fun s =>
      s.li.bus = .ident .i4 .rescanAll 3 150 ∧ s.li.rescan = some ⟨1, true, true⟩) ∧
    At (withLI running fun li => { li with bus := .ident .i1 .rescanOne 1 50, rescan := some ⟨1, false, false⟩ }) (fun s =>
      s.li.bus = .ident .i1 .rescanOne 1 50 ∧ s.li.rescan = some ⟨1, false, false⟩) := by decide +kernel

/-- The memory holds one CAPTURE record, WRITTEN, with capture number 5. -/
def capturedOnce : State :=
  let r : Record := { kind := .capture, lane := 1, seq := 7, clock := 0, body := u32 5, duress := false, closed := false }
  withJN State.reset fun jn => { jn with mem := (programBytes [] 0 0 r.writing []).1 }

/-- R135: a WRITTEN CAPTURE record makes the bin UNCONFIRMED and raises the capture counter above its number. -/
theorem test_scan_acts_on_the_capture_unit :
    At (after (.powerOn true true) { capturedOnce with
        cu := { capturedOnce.cu with binPresent := true, binDoorClosed := true }
        store := Store.both { Retained.default with bin := { Bin.default with state := .confirmed } } }) (fun t =>
      t.phase = .startUp .scan ∧ t.cu.bin.state = .unconfirmed ∧ t.cu.set.next = 6) := by decide +kernel

theorem witness_startsFrom : capturedOnce.memoryFormed ∧ capturedOnce.jn.segs.length = 16 ∧
    (after (.powerOn true true) capturedOnce).holdsCapture (· = some .written) 5 ∧
    ¬ ∃ n, (after (.powerOn true true) State.reset).holdsCapture (fun _ => True) n := by
  refine ⟨by decide +kernel, by decide +kernel, ⟨0, 0, 7, by decide +kernel⟩, ?_⟩
  rintro ⟨n, i, k, q, below, inList, -⟩
  have none : ∀ i ∈ List.range 16, ((after (.powerOn true true) State.reset).jn.seg i).records = [] := by decide +kernel
  rw [none i (List.mem_range.2 below)] at inList
  cases inList

/-- R78: the reply gives the reference applied: 110 µm are 1,760 sixteenths, and 2,000 µm are cut to 16,383. -/
theorem test_replenish_answers_the_reference_applied : [110, 2000].map (fun nominal =>
    ((after (.journalProgramDone []) (appendingFor (.replenish .i2) (running.modCass .i2 fun r =>
      { r with kept := { r.kept with state := .present }, pending := some ⟨1, 2000, 300, nominal, 50⟩ }))).lc.replies.map
        (·.body))) =
    [[[0x00#8, 0x02#8, 0x00#8, 0x07#8, 0xD0#8, 0x01#8, 0x2C#8, 0x06#8, 0xE0#8, 0x00#8, 0x32#8, 0x03#8]],
     [[0x00#8, 0x02#8, 0x00#8, 0x07#8, 0xD0#8, 0x01#8, 0x2C#8, 0x3F#8, 0xFF#8, 0x00#8, 0x32#8, 0x03#8]]] := by decide +kernel

end Sys2Proof.Machine.Tests
end

section
/-! The three settings requests of chapters 5, 6 and 9: DISPENSE_SETTINGS (R84), STACKER_SETTINGS (R122) and ZONE_SETTINGS
(R184). What each owner does is said once, on any state; a served request is that owner on the counted state, and the finish
of its step writes the setting to both copies of the store (R204). -/

namespace Sys2Proof.Machine

/-! ## Clamping and keeping -/

/-- A range that begins at 0 clamps from above alone. -/
theorem clamp_zero (hi n : Nat) : clamp 0 hi n = min hi n := Nat.zero_max _

/-- Any one retained item stands in both copies of the store after the finish of a step, as it stood before it (R204). -/
theorem State.finish_keeps_item {α : Type} (item : Retained → α) (s : State) :
    item s.finish.store.first.content = item s.retained ∧ item s.finish.store.second.content = item s.retained := by
  obtain ⟨first, -, second, -⟩ := s.finish_store
  exact ⟨congrArg item first, congrArg item second⟩

theorem State.finish_au (s : State) : s.finish.au = s.au := by simp

/-! ## The owners -/

/-- DISPENSE_SETTINGS at its owner replaces the DP's settings and answers with them (R84). -/
theorem State.ownDispenseSettings_replied {capacity notes duress rejects double : Nat} {set : DispenseSettings}
    (hset : set = DispenseSettings.mk (max 1 (min 60 capacity)) (max 1 (min 200 notes)) (min 10000000 duress)
      (min 30 rejects) (max 140 (min 190 double))) (tag : Nat) (s : State) :
    State.ownDispenseSettings tag capacity notes duress rejects double s =
      ({ s with dp := { s.dp with set := set } } : State).replied 0x30 tag (0x00#8 :: (u8 set.capacity ++
        u8 set.noteCeiling ++ u24 set.duressCeiling ++ u8 set.rejectCeiling ++ u8 set.doubleThreshold)) := by
  subst hset
  unfold State.ownDispenseSettings
  simp only [State.ok_replied (kind := 0x30) rfl, clamp_zero]
  rfl

/-- STACKER_SETTINGS at its owner replaces the stage hold, which is the time of later holds, and answers with it (R122). -/
theorem State.ownStackerSettings_replied (tag hold : Nat) (s : State) :
    State.ownStackerSettings tag hold s =
      ({ s with ss := { s.ss with stageHold := max 30 (min 600 hold) } } : State).replied 0x36 tag
        (0x00#8 :: u16 (max 30 (min 600 hold))) :=
  State.ok_replied rfl _ tag _

/-- A number other than 3 or 4 is no door zone's (R184). -/
theorem doorOf_none {zone : Nat} (h3 : zone ≠ 3) (h4 : zone ≠ 4) : doorOf zone = none := by
  unfold doorOf
  split
  · exact absurd rfl h3
  · exact absurd rfl h4
  · rfl

/-- ZONE_SETTINGS for a zone that is no door's is MALFORMED at its owner (R184). -/
theorem State.ownZoneSettings_malformed {zone : Nat} (h3 : zone ≠ 3) (h4 : zone ≠ 4) (tag delay : Nat) (s : State) :
    State.ownZoneSettings tag zone delay s = s.replied 0x48 tag (u8 Code.malformed.num) := by
  unfold State.ownZoneSettings
  rw [doorOf_none h3 h4]
  exact State.refuse_replied rfl s tag .malformed

/-- ZONE_SETTINGS for a door's zone replaces that door's delay, leaves the other's, and answers with the zone and the delay
(R184). -/
theorem State.ownZoneSettings_replied {zone : Nat} (hz : zone = 3 ∨ zone = 4) (tag delay : Nat) (s : State) :
    State.ownZoneSettings tag zone delay s =
      ({ s with au := { s.au with
        safeDelay := if zone = 3 then min 120 delay else s.au.safeDelay
        binDelay := if zone = 4 then min 120 delay else s.au.binDelay } } : State).replied 0x48 tag
          (0x00#8 :: (u8 zone ++ u8 (min 120 delay))) := by
  unfold State.ownZoneSettings
  simp only [State.ok_replied (kind := 0x48) rfl, clamp_zero]
  rcases hz with rfl | rfl <;> rfl

/-! ## The requests -/

section
variable {s : State} {tag : Nat}

theorem exec_dispenseSettings_serves (h : s.Serves tag) (capacity notes duress rejects double : Nat) :
    exec (.dispenseSettings tag capacity notes duress rejects double) s =
      .next (State.ownDispenseSettings tag capacity notes duress rejects double s.counted).finish :=
  exec_serves rfl h

theorem exec_stackerSettings_serves (h : s.Serves tag) (hold : Nat) :
    exec (.stackerSettings tag hold) s = .next (State.ownStackerSettings tag hold s.counted).finish :=
  exec_serves rfl h

theorem exec_zoneSettings_serves (h : s.Serves tag) (zone delay : Nat) :
    exec (.zoneSettings tag zone delay) s = .next (State.ownZoneSettings tag zone delay s.counted).finish :=
  exec_serves rfl h

end

/-- Settles O57: each request is its owner on the counted state, and the finish of the step keeps the setting. -/
theorem settingsAreClampedAndKept : Obligations.SettingsAreClampedAndKept := by
  unfold Obligations.SettingsAreClampedAndKept
  intro tag s h
  refine ⟨?dispense, ?stacker, ?malformed, ?zone⟩
  case dispense =>
    intro capacity notes duress rejects double set hset
    refine ⟨_, ?_, rfl, State.finish_keeps_item Retained.dispense _⟩
    rw [exec_dispenseSettings_serves h, State.ownDispenseSettings_replied hset]
    rfl
  case stacker =>
    intro hold
    refine ⟨_, ?_, rfl, State.finish_keeps_item Retained.stageHold _⟩
    rw [exec_stackerSettings_serves h, State.ownStackerSettings_replied]
    rfl
  case malformed =>
    intro zone delay h3 h4
    rw [exec_zoneSettings_serves h, State.ownZoneSettings_malformed h3 h4]
    rfl
  case zone =>
    intro zone delay hz
    refine ⟨_, ?_, rfl, ?_⟩
    · rw [exec_zoneSettings_serves h, State.ownZoneSettings_replied hz]
      rfl
    · rw [State.finish_au]
      exact ⟨(State.finish_keeps_item (·.alarm.safeDelay) _).1, (State.finish_keeps_item (·.alarm.binDelay) _).1⟩

end Sys2Proof.Machine
end

section
/-! The sounder of chapter 9: the end of a phase and the cutoff of a PULSING run (R181), SOUNDER_SILENCE (R187) and
SOUNDER_SETTINGS (R188). What each event and each owner does to a run is said once, on any state. -/

namespace Sys2Proof.Machine

/-! ## The events of a PULSING run -/

/-- The phase after a phase, in milliseconds: the off-phase is half the period in force, the on-phase is rounded up (R181). -/
theorem phaseLength_not (period : Nat) (on : Bool) :
    phaseLength period (!on) = (if on then period / 2 else (period + 1) / 2) * 100 := by
  cases on <;> rfl

section
variable {s : State} {on : Bool} {due cutoff : Nat}

/-- A phase's end switches the output, and the next phase runs from it for its length in the period in force (R181). -/
theorem State.onSounderPhaseEnd_pulsing (h : s.au.run = .pulsing on due cutoff) :
    s.onSounderPhaseEnd = { s with
      now := max s.now due
      au := { s.au with run := .pulsing (!on) (max s.now due + phaseLength s.au.period (!on)) cutoff } } := by
  unfold State.onSounderPhaseEnd
  rw [h]
  rfl

/-- The cutoff stops a PULSING run and leaves the rest of the AU, the zones among it (R181). -/
theorem State.onSounderCutoff_pulsing (h : s.au.run = .pulsing on due cutoff) :
    s.onSounderCutoff = { s with now := max s.now cutoff, au := { s.au with run := .stopped } } := by
  unfold State.onSounderCutoff
  rw [h]
  rfl

/-! ## The owners -/

/-- SOUNDER_SILENCE at its owner stops a PULSING run, and answers STOPPED (R187). -/
theorem State.ownSounderSilence_pulsing (h : s.au.run = .pulsing on due cutoff) (tag : Nat) :
    State.ownSounderSilence tag s =
      ({ s with au := { s.au with run := .stopped } } : State).replied 0x4B tag [0x00#8, 0x03#8] := by
  simp only [State.ownSounderSilence, State.modAU, h]
  exact State.ok_replied rfl _ tag _

end

/-- SOUNDER_SILENCE at its owner leaves a run that is not PULSING, and answers its state (R187). -/
theorem State.ownSounderSilence_silent {s : State} (h : s.au.run = .idle ∨ s.au.run = .stopped) (tag : Nat) :
    State.ownSounderSilence tag s = s.replied 0x4B tag (0x00#8 :: u8 s.au.run.code) := by
  rcases h with h | h <;> simp only [State.ownSounderSilence, State.modAU, h] <;> exact State.ok_replied rfl s tag _

/-- SOUNDER_SETTINGS at its owner replaces the period, leaving a run to its phase, and answers with it (R188). -/
theorem State.ownSounderSettings_replied (tag period : Nat) (s : State) :
    State.ownSounderSettings tag period s =
      ({ s with au := { s.au with period := max 2 (min 40 period) } } : State).replied 0x4C tag
        (0x00#8 :: u8 (max 2 (min 40 period))) :=
  State.ok_replied rfl _ tag _

/-! ## The requests -/

section
variable {s : State} {tag : Nat}

theorem exec_sounderSettings_serves (h : s.Serves tag) (period : Nat) :
    exec (.sounderSettings tag period) s = .next (State.ownSounderSettings tag period s.counted).finish :=
  exec_serves rfl h

theorem exec_sounderSilence_serves (h : s.Serves tag) :
    exec (.sounderSilence tag) s = .next (State.ownSounderSilence tag s.counted).finish :=
  exec_serves rfl h

end

/-- The state byte of a run that is not PULSING: 1 IDLE, 3 STOPPED (R187). -/
theorem SounderRun.code_silent {run : SounderRun} (h : run = .idle ∨ run = .stopped) :
    run.code = if run = .idle then 1 else 3 := by
  rcases h with rfl | rfl <;> rfl

/-- Settles O60: each event and each request of the sounder is its rule above, and the finish of the step keeps the period. -/
theorem sounderPeriodAndSilence : Obligations.SounderPeriodAndSilence := by
  unfold Obligations.SounderPeriodAndSilence
  refine ⟨?settings, ?pulsing, ?silent, rfl⟩
  case settings =>
    intro tag period s h
    refine ⟨_, ?_, rfl, State.finish_keeps_item (·.alarm.period) _⟩
    rw [exec_sounderSettings_serves h, State.ownSounderSettings_replied]
    rfl
  case pulsing =>
    intro on due cutoff s hon hrun
    refine ⟨?phaseEnd, ?cutoff, fun tag h => ?silence⟩
    case phaseEnd =>
      rw [← phaseLength_not, ← State.onSounderPhaseEnd_pulsing hrun]
      exact State.poweredStep_on hon State.onSounderPhaseEnd
    case cutoff =>
      rw [← State.onSounderCutoff_pulsing hrun]
      exact State.poweredStep_on hon State.onSounderCutoff
    case silence =>
      have hcounted : s.counted.au.run = .pulsing on due cutoff := hrun
      rw [exec_sounderSilence_serves h, State.ownSounderSilence_pulsing hcounted]
      rfl
  case silent =>
    intro tag s h hrun
    have hcounted : s.counted.au.run = .idle ∨ s.counted.au.run = .stopped := hrun
    rw [exec_sounderSilence_serves h, State.ownSounderSilence_silent hcounted, ← SounderRun.code_silent hrun]
    rfl

end Sys2Proof.Machine
end

section
/-! What a command is, said once: on a powered part an operation of its own and the finish of the step, on an unpowered part
at most a level. What every command keeps is proved over these operations. -/

namespace Sys2Proof.Machine

/-! ## The operation of a command -/

/-- The operation of an event on a powered part. A request, the clock's tick and the loss of power have none here. -/
def State.eventDoes (s : State) (i : Instr) : State :=
  match i with
  | .powerOn firstReads secondReads => s.powersOn firstReads secondReads
  | .restartStartUp => s.onRestartStartUp
  | .frameTaken bytes => State.onFrameTaken bytes s
  | .frameDropped bytes framingError => State.onFrameDropped bytes framingError s
  | .interByteTimeout => s.breakFrame
  | .frameSent => s.onFrameSent
  | .enrolmentStart => s.startEnrolment
  | .identAnswer report => State.onIdentAnswer report s
  | .identTimeout loopClosed => State.onIdentTimeout loopClosed s
  | .pollDue lane => State.onPollDue lane s
  | .pollAnswer report => State.onPollAnswer report s
  | .pollAnswerTimeout => s.onPollAnswerTimeout
  | .basicSendEdge lane => State.onBasicSendEdge lane s
  | .basicCallEdge lane => State.onBasicCallEdge lane s
  | .basicCarrierPresentChange lane present => s.basicCarrier lane present
  | .vehicleClearExpiry lane => State.onVehicleClearExpiry lane s
  | .arbiterGrant => s.arbitrate
  | .divertSettleDone => s.onDivertSettleDone
  | .launchTimeout => s.onLaunchTimeout
  | .bayCarrierPresentChange lane present => s.bayPresent lane present
  | .bayContentChange lane content => s.bayContentLevel lane content
  | .bayDoorChange lane closed => s.bayDoor lane closed
  | .waypointPass lane waypoint => State.onWaypointPass lane waypoint s
  | .transitTimeout => s.onTransitTimeout
  | .settleEnd => s.onSettleEnd
  | .purgeTimeout => s.onPurgeTimeout
  | .queueWaitExpiry lane => State.onQueueWaitExpiry lane s
  | .pressureSwitchClose blower => s.switchCloses blower
  | .pressureSwitchOpen blower => s.switchOpens blower
  | .spinUpLimit => s.onSpinUpLimit
  | .idleThresholdReached => s.onIdleThresholdReached
  | .refreshDue => s.onRefreshDue
  | .refreshRunEnd => s.onRefreshRunEnd
  | .cassetteSensorChange cassette present => s.slotSensor cassette present
  | .loadHandOver => s.handOverLoad
  | .pickingStart => s.pickWaiting
  | .pickMiss => s.onPickMiss
  | .noteAtGauge reading => State.onNoteAtGauge reading s
  | .noteLeavesGauge => s.onNoteLeavesGauge
  | .gaugeTimeout => s.onGaugeTimeout
  | .safeDoorChange opened => s.safeDoor opened
  | .clearingEnd pathClear => State.onClearingEnd pathClear s
  | .deferredCancelDispense => s.takeDeferred
  | .transferStart => s.startTransfer
  | .presentingReservationRequest => s.askPresenting
  | .pushTimeout => s.onPushTimeout
  | .withdrawalEnd => s.onWithdrawalEnd
  | .shuttleHome => s.onShuttleHome
  | .stageHoldExpiry => s.onStageHoldExpiry
  | .armRelease => s.onArmRelease
  | .liftTimeout => s.onLiftTimeout
  | .armReturnEnd => s.onArmReturnEnd
  | .printReport completed => State.onPrintReport completed s
  | .printTimeout => s.onPrintTimeout
  | .printerStateChange ready => s.modCU fun cu => { cu with printerReady := ready }
  | .dropSensed => s.onDropSensed
  | .dropTimeout => s.onDropTimeout
  | .binDoorChange closed => s.binDoor closed
  | .binPresentChange present => s.binSensor present
  | .journalProgramDone missed => State.onJournalProgramDone missed s
  | .eraseWindowExpiry => s.onEraseWindowExpiry
  | .eraseVerify => s.onEraseVerify
  | .eraseLimit => s.onEraseLimit
  | .journalReadDone => s.readEnds
  | .holdupInputChange input active => s.setCause (holdupZone input) active
  | .keySwitchEdge rising => s.keyEdge rising
  | .entryDelayExpiry door => State.onEntryDelayExpiry door s
  | .windowExpiry door => State.onWindowExpiry door s
  | .sounderPhaseEnd => s.onSounderPhaseEnd
  | .sounderCutoff => s.onSounderCutoff
  | _ => s

/-- The operation of a command on a powered part, before the finish of the step: a request is taken from the line (R191),
an event does its own. -/
def State.does (s : State) (i : Instr) : State :=
  match requestFrame i with
  | some (kind, tag, _) => s.takeFrame kind tag fun s => s.serve i
  | none => s.eventDoes i

/-- What the change of a level does to an unpowered part: the level stands (notes/assumptions/5.md). -/
def State.follows (s : State) (i : Instr) : State :=
  match i with
  | .basicCarrierPresentChange lane present => s.modLane lane fun r => { r with carrierInput := present }
  | .bayCarrierPresentChange lane present => s.modBay lane fun r => { r with present := present }
  | .bayContentChange lane content => s.modBay lane fun r => { r with content := content }
  | .bayDoorChange lane closed => s.modBay lane fun r => { r with doorClosed := closed }
  | .pressureSwitchClose blower => s.modAS fun as => as.modBlower blower fun r => { r with switchClosed := true }
  | .pressureSwitchOpen blower => s.modAS fun as => as.modBlower blower fun r => { r with switchClosed := false }
  | .cassetteSensorChange cassette present => s.modCass cassette fun r => { r with slot := present }
  | .safeDoorChange opened =>
    (s.modND fun nd => { nd with safeDoorOpen := opened }).modZone .safeDoor fun z => { z with cause := opened }
  | .printerStateChange ready => s.modCU fun cu => { cu with printerReady := ready }
  | .binDoorChange closed =>
    (s.modCU fun cu => { cu with binDoorClosed := closed }).modZone .binDoor fun z => { z with cause := !closed }
  | .binPresentChange present => s.modCU fun cu => { cu with binPresent := present }
  | .holdupInputChange input active => s.modZone (holdupZone input) fun z => { z with cause := active }
  | .keySwitchEdge rising => s.modAU fun au => { au with keySwitch := rising }
  | _ => s

/-- The commands that end without the finish of a step: the clock's tick and the loss of power. -/
def leavesUnfinished : Instr → Bool
  | .deviceClockTick => true
  | .powerLoss _ _ _ => true
  | _ => false

/-- POWER_ON, which alone starts an unpowered part. -/
def isPowerOn : Instr → Bool
  | .powerOn _ _ => true
  | _ => false

theorem exec_levelChange {c : Instr} (h : isLevelChange c = true) (s : State) :
    exec c s = .next (if s.powered then (s.does c).finish else s.follows c) := by
  cases c <;> cases h <;> exact (apply_ite Host.Outcome.next _ _ _).symm

theorem exec_event {c : Instr} (hr : requestFrame c = none) (hl : isLevelChange c = false) (hu : leavesUnfinished c = false)
    (hp : isPowerOn c = false) (s : State) : exec c s = s.poweredStep fun s => s.does c := by
  cases c <;> simp only [requestFrame, isLevelChange, leavesUnfinished, isPowerOn, reduceCtorEq] at hr hl hu hp <;> rfl

/-- A request's operation takes its frame and serves it (R191). -/
theorem State.does_request {c : Instr} {kind tag : Nat} {body : List Byte} (h : requestFrame c = some (kind, tag, body))
    (s : State) : s.does c = s.takeFrame kind tag fun s => s.serve c := by
  rw [State.does, h]

/-- A request's and an event's operation, on a part with or without power. -/
theorem exec_poweredStep {c : Instr} (hl : isLevelChange c = false) (hu : leavesUnfinished c = false)
    (hp : isPowerOn c = false) (s : State) : exec c s = s.poweredStep fun s => s.does c := by
  cases hr : requestFrame c with
  | some f =>
    obtain ⟨kind, tag, body⟩ := f
    rw [exec_request hr s]
    exact congrArg s.poweredStep (funext fun s => (State.does_request hr s).symm)
  | none => exact exec_event hr hl hu hp s

/-- A command of a powered part, and POWER_ON, is its operation and the finish of the step. -/
theorem exec_powered {c : Instr} {s : State} (hu : leavesUnfinished c = false) (h : s.phase ≠ .off ∨ isPowerOn c = true) :
    exec c s = .next (s.does c).finish := by
  cases hp : isPowerOn c with
  | true => cases c <;> cases hp; rfl
  | false =>
    have hon : s.phase ≠ .off := h.resolve_right (by simp [hp])
    cases hl : isLevelChange c with
    | true => rw [exec_levelChange hl, if_pos (State.powered_on hon)]
    | false => rw [exec_poweredStep hl hu hp, State.poweredStep_on hon]

/-- A command of an unpowered part other than POWER_ON changes a level or nothing (notes/assumptions/5.md). -/
theorem exec_unpowered {c : Instr} {s : State} (hu : leavesUnfinished c = false) (hp : isPowerOn c = false)
    (hoff : s.phase = .off) : exec c s = .next (s.follows c) := by
  cases hl : isLevelChange c with
  | true => rw [exec_levelChange hl, if_neg (by simp [State.powered, hoff])]
  | false =>
    rw [exec_poweredStep hl hu hp, State.poweredStep_off hoff]
    cases c <;> cases hl <;> rfl

/-- What a command can do. -/
theorem exec_cases {c : Instr} {s t : State} (h : exec c s = .next t) :
    (leavesUnfinished c = false ∧ (s.phase ≠ .off ∨ isPowerOn c = true) ∧ t = (s.does c).finish) ∨
    (leavesUnfinished c = false ∧ s.phase = .off ∧ t = s.follows c) ∨
    (c = .deviceClockTick ∧ t = { s with lc := { s.lc with clock := clockNext s.lc.clock }, store := s.store.tick }) ∨
    ∃ cut n b, c = .powerLoss cut n b ∧
      t = if s.powered then { s with phase := .off, store := s.store.cut cut, jn := s.jn.cut n b } else s := by
  cases hu : leavesUnfinished c with
  | true =>
    cases c <;> cases hu
    case deviceClockTick.refl => exact .inr (.inr (.inl ⟨rfl, (Host.Outcome.next.inj h).symm⟩))
    case powerLoss.refl cut n b => exact .inr (.inr (.inr ⟨cut, n, b, rfl, (Host.Outcome.next.inj h).symm⟩))
  | false =>
    by_cases hon : s.phase ≠ .off ∨ isPowerOn c = true
    · rw [exec_powered hu hon] at h
      exact .inl ⟨rfl, hon, (Host.Outcome.next.inj h).symm⟩
    · obtain ⟨hoff, hp⟩ := not_or.mp hon
      rw [exec_unpowered hu (Bool.not_eq_true _ ▸ hp) (not_not.mp hoff)] at h
      exact .inr (.inl ⟨rfl, not_not.mp hoff, (Host.Outcome.next.inj h).symm⟩)

/-! ## What every operation keeps -/

/-- A taken frame keeps what the link alone leaves and what every owner of a running part keeps (R191). -/
theorem State.takeFrame_preserves {P : State → Prop} (hlc : ∀ (s : State) (lc : LC), P s → P { s with lc := lc })
    {owner : State → State} (howner : ∀ s : State, s.phase = .running → P s → P (owner s)) (s : State) (kind tag : Nat)
    (h : P s) : P (s.takeFrame kind tag owner) := by
  unfold State.takeFrame
  dsimp only
  split
  · split <;> exact hlc s _ h
  · have hcounted : P { s with lc := { s.lc with outstanding := s.lc.outstanding + 1 } } := hlc s _ h
    split
    · exact hlc _ _ hcounted
    · next hstarted =>
      have hrunning : s.phase = .running := by simpa [State.started] using hstarted
      split
      · exact hlc _ _ hcounted
      · split
        · exact hlc _ _ hcounted
        · exact howner _ hrunning hcounted

/-- Bytes from the line keep what the link alone leaves and what every request served keeps (R190, R191). -/
theorem State.takeBytes_preserves {P : State → Prop} (hlc : ∀ (s : State) (lc : LC), P s → P { s with lc := lc })
    (hserve : ∀ (s : State) (i : Instr), s.phase = .running → P s → P (s.serve i)) (bytes : List Byte) (s : State)
    (h : P s) : P (s.takeBytes bytes) := by
  unfold State.takeBytes
  induction bytes generalizing s with
  | nil => exact h
  | cons v bytes ih =>
    refine ih _ ?_
    unfold State.takeByte
    dsimp only
    split
    · split
      · exact hlc s _ h
      · exact h
    · split
      · exact hlc s _ h
      · split <;> exact hlc s _ h
    · exact hlc s _ h
    · split
      · exact hlc s _ h
      · unfold State.checkFrame
        dsimp only
        split
        · refine State.takeFrame_preserves hlc (fun u hu hP => ?_) _ _ _ (hlc s _ h)
          split
          · exact hserve u _ hu hP
          · exact hlc u _ hP
        · exact hlc s _ h

/-- The command is bytes from the host line, which can carry any request. -/
def isBytes : Instr → Bool
  | .frameTaken _ => true
  | .frameDropped _ _ => true
  | .interByteTimeout => true
  | _ => false

/-- A command's operation keeps what the link alone leaves, what every request served keeps and what the event it may be
keeps. -/
theorem State.does_keeps {P : State → Prop} (hlc : ∀ (s : State) (lc : LC), P s → P { s with lc := lc })
    (hserve : ∀ (s : State) (i : Instr), s.phase = .running → P s → P (s.serve i)) (s : State) (c : Instr)
    (hevent : requestFrame c = none → isBytes c = false → P s → P (s.eventDoes c)) (h : P s) : P (s.does c) := by
  cases hr : requestFrame c with
  | some f =>
    obtain ⟨kind, tag, body⟩ := f
    rw [State.does_request hr]
    exact State.takeFrame_preserves hlc (fun u hu hP => hserve u c hu hP) s kind tag h
  | none =>
    rw [State.does, hr]
    cases hb : isBytes c with
    | false => exact hevent hr hb h
    | true =>
      have hbreak : ∀ u : State, P u → P u.breakFrame := fun u hu => by
        unfold State.breakFrame
        split
        · exact hu
        · exact hlc u _ hu
      cases c <;> cases hb
      case frameTaken.refl bytes => exact State.takeBytes_preserves hlc hserve bytes s h
      case frameDropped.refl bytes framingError =>
        have hbytes := State.takeBytes_preserves hlc hserve bytes s h
        cases framingError
        · exact hbytes
        · exact hbreak _ hbytes
      case interByteTimeout.refl => exact hbreak s h

/-- An operation keeps what the link alone leaves, what every request served keeps and what every event keeps. -/
theorem State.does_preserves {P : State → Prop} (hlc : ∀ (s : State) (lc : LC), P s → P { s with lc := lc })
    (hserve : ∀ (s : State) (i : Instr), s.phase = .running → P s → P (s.serve i))
    (hevent : ∀ (s : State) (i : Instr), requestFrame i = none → isBytes i = false → P s → P (s.eventDoes i))
    (s : State) (c : Instr) (h : P s) : P (s.does c) :=
  State.does_keeps hlc hserve s c (hevent s c) h

end Sys2Proof.Machine
end

section
/-! What every step keeps by the frames of the operations: the queue, the store's write, the journal memory, the blocks
outside a command's reach. -/

namespace Sys2Proof.Machine

/-! ## The queue -/

theorem State.eventDoes_pending (s : State) (i : Instr) : (s.eventDoes i).pending = s.pending := by
  cases i <;> simp [State.eventDoes]

theorem State.does_pending (s : State) (i : Instr) : (s.does i).pending = s.pending := by
  cases hr : requestFrame i with
  | some f =>
    rw [State.does_request hr]
    exact (State.takeFrame_keeps s _ _ _ fun u => State.serve_keeps u i).1
  | none =>
    rw [State.does, hr]
    exact s.eventDoes_pending i

theorem State.follows_pending (s : State) (i : Instr) : (s.follows i).pending = s.pending := by
  cases i <;> rfl

theorem exec_completes (c : Instr) (s : State) : ∃ t, exec c s = .next t := by
  cases hu : leavesUnfinished c with
  | true => cases c <;> cases hu <;> exact ⟨_, rfl⟩
  | false =>
    by_cases hon : s.phase ≠ .off ∨ isPowerOn c = true
    · exact ⟨_, exec_powered hu hon⟩
    · obtain ⟨hoff, hp⟩ := not_or.mp hon
      exact ⟨_, exec_unpowered hu (Bool.not_eq_true _ ▸ hp) (not_not.mp hoff)⟩

/-- Settles O1: by the equations of `step`. -/
theorem stepTakesTheFront : Obligations.StepTakesTheFront := by
  unfold Obligations.StepTakesTheFront
  refine ⟨fun c rest s h => ?_, fun s h => ?_⟩
  · rw [step, h]
  · unfold step
    simp only [h]
    exact congrArg Host.Outcome.next (by simp only [State.idle, h])

/-- Settles O2: every operation, and the finish of a step, keeps the queue. -/
theorem everyCommandCompletes : Obligations.EveryCommandCompletes := by
  unfold Obligations.EveryCommandCompletes
  intro c s
  obtain ⟨t, h⟩ := exec_completes c s
  refine ⟨t, h, ?_⟩
  obtain ⟨-, -, rfl⟩ | ⟨-, -, rfl⟩ | ⟨-, rfl⟩ | ⟨cut, n, b, -, rfl⟩ := exec_cases h
  · rw [s.does c |>.finish_frame.1, s.does_pending c]
  · exact s.follows_pending c
  · rfl
  · split <;> rfl

/-! ## The finish of a step -/

theorem State.finish_retained (s : State) : s.finish.retained = s.retained := by
  rw [State.finish_eq]
  rfl

theorem State.finish_storeCurrent (s : State) : s.finish.storeCurrent := by
  unfold State.storeCurrent
  rw [State.finish_retained]
  exact s.finish_store

theorem State.writeStore_startBody (s : State) : startBody s.writeStore = startBody s := by
  unfold startBody
  simp

/-- Settles O3: the write of the store, and the transmitter's choice by the line, the replies and the notices. -/
theorem finishWritesTheStoreAndSends : Obligations.FinishWritesTheStoreAndSends := by
  unfold Obligations.FinishWritesTheStoreAndSends
  intro s
  refine ⟨s.finish_storeCurrent, s.finish_retained, s.finish_eq, ?busy, ?reply, ?notice, ?start, ?nothing⟩
  case busy =>
    intro f hf
    simp [State.finish, State.transmit, hf]
  case reply =>
    intro r rest hline hreplies
    simp [State.finish, State.transmit, hline, hreplies]
  case notice =>
    intro n rest hline hreplies hnotices
    simp [State.finish, State.transmit, hline, hreplies, hnotices]
  case start =>
    intro rest hline hreplies hnotices
    have hlc : s.writeStore.lc = s.lc := by simp
    simp only [State.finish, State.transmit, hlc, hline, hreplies, hnotices, State.writeStore_startBody]
    rfl
  case nothing =>
    intro hline hreplies hnotices
    simp [State.finish, State.transmit, hline, hreplies, hnotices]

/-- The clock's tick keeps copies that are current so (R201). -/
theorem tick_storeCurrent {s : State} (h : s.storeCurrent) :
    ({ s with lc := { s.lc with clock := clockNext s.lc.clock }, store := s.store.tick } : State).storeCurrent := by
  obtain ⟨hfirst, hfirstSound, hsecond, hsecondSound⟩ := h
  refine ⟨?_, hfirstSound, ?_, hsecondSound⟩
  · simp only [Store.tick_first, hfirst]
    rfl
  · simp only [Store.tick_second, hsecond]
    rfl

/-- Settles O4: the finish of the step writes both copies, and a tick counts the clock in each. -/
theorem storeCurrentAfterEveryStep : Obligations.StoreCurrentAfterEveryStep := by
  unfold Obligations.StoreCurrentAfterEveryStep
  refine ⟨fun c s t h htick hloss hon => ?_, fun s t hs h => ?_⟩
  · obtain ⟨-, -, rfl⟩ | ⟨hu, hoff, -⟩ | ⟨rfl, -⟩ | ⟨cut, n, b, rfl, -⟩ := exec_cases h
    · exact State.finish_storeCurrent _
    · obtain ⟨a, b, rfl⟩ := hon.resolve_left (not_not.mpr hoff)
      rw [exec_powered rfl (.inr rfl)] at h
      exact Host.Outcome.next.inj h ▸ State.finish_storeCurrent _
    · exact absurd rfl htick
    · exact absurd rfl (hloss cut n b)
  · exact Host.Outcome.next.inj h ▸ tick_storeCurrent hs

/-! ## The journal memory (R141) -/

theorem State.eraseNext_mem (s : State) : s.eraseNext.jn.mem = s.jn.mem := by simp

/-- A segment that ends verified is erased; one that ends at the limit keeps its bytes (R158, notes/assumptions/22.md). -/
theorem State.segmentEnds_mem (s : State) (run : EraseRun) (i : Nat) (good : Bool) :
    (s.segmentEnds run i good).jn.mem =
      if good then s.jn.mem.eraseRange (segmentAddress i) segmentBytes else s.jn.mem := by
  rw [State.segmentEnds, State.eraseNext_mem]
  rfl

theorem State.onEraseLimit_mem (s : State) : s.onEraseLimit.jn.mem = s.jn.mem := by
  unfold State.onEraseLimit
  (repeat' split) <;> simp [State.segmentEnds_mem]

/-- Only the end of a program and an erase's verify reach the journal memory from an event. -/
theorem State.eventDoes_mem (s : State) (i : Instr) (hdone : ∀ missed, i ≠ .journalProgramDone missed)
    (hverify : i ≠ .eraseVerify) : (s.eventDoes i).jn.mem = s.jn.mem := by
  cases i <;> simp_all [State.eventDoes, State.onEraseLimit_mem]

theorem State.does_mem (s : State) (i : Instr) (hdone : ∀ missed, i ≠ .journalProgramDone missed)
    (hverify : i ≠ .eraseVerify) : (s.does i).jn.mem = s.jn.mem := by
  cases hr : requestFrame i with
  | some f =>
    rw [State.does_request hr]
    exact (State.takeFrame_keeps s _ _ _ fun u => State.serve_keeps u i).2.2.2.1
  | none =>
    rw [State.does, hr]
    exact s.eventDoes_mem i hdone hverify

theorem State.follows_mem (s : State) (i : Instr) : (s.follows i).jn.mem = s.jn.mem := by
  cases i <;> rfl

/-! ## The zones that report nothing to the lanes -/

@[simp] theorem doorZone_ne_tamper (d : Door) (l : Lane) : doorZone d ≠ .tamper l := by cases d <;> nofun

@[simp] theorem holdupZone_ne_tamper (input : AB) (l : Lane) : holdupZone input ≠ .tamper l := by cases input <;> nofun

/-- Only a TAMPER zone's transition is reported to the lanes (R177). -/
@[simp] theorem State.tellTamper_other {z : ZoneId} (hz : ∀ l, z ≠ .tamper l) (s : State) (entered : ZoneState) :
    s.tellTamper z entered = s := by
  unfold State.tellTamper
  split
  · exact absurd rfl (hz _)
  · exact absurd rfl (hz _)
  · rfl

@[simp] theorem State.zoneTo_other {z : ZoneId} (hz : ∀ l, z ≠ .tamper l) (s : State) (entered : ZoneState) :
    (s.zoneTo z entered).li = s.li ∧ (s.zoneTo z entered).td = s.td := by
  unfold State.zoneTo
  dsimp only
  (repeat' split) <;> simp [hz]

@[simp] theorem State.zoneIdle_other {z : ZoneId} (hz : ∀ l, z ≠ .tamper l) (s : State) :
    (s.zoneIdle z).li = s.li ∧ (s.zoneIdle z).td = s.td := by
  unfold State.zoneIdle
  dsimp only
  split
  · exact absurd rfl (hz _)
  · simp [hz]

@[simp] theorem State.startDelay_lanes (s : State) (d : Door) :
    (s.startDelay d).li = s.li ∧ (s.startDelay d).td = s.td := by
  unfold State.startDelay
  split <;> simp

@[simp] theorem State.closeWindow_lanes (s : State) (d : Door) :
    (s.closeWindow d).li = s.li ∧ (s.closeWindow d).td = s.td := by
  unfold State.closeWindow
  dsimp only
  split <;> simp

@[simp] theorem State.lockIn_other {z : ZoneId} (hz : ∀ l, z ≠ .tamper l) (s : State) :
    (s.lockIn z).li = s.li ∧ (s.lockIn z).td = s.td := by
  unfold State.lockIn
  dsimp only
  split <;> simp [hz]

@[simp] theorem State.doorOpens_lanes (s : State) (d : Door) : (s.doorOpens d).li = s.li ∧ (s.doorOpens d).td = s.td := by
  unfold State.doorOpens
  dsimp only
  (repeat' split) <;> simp

@[simp] theorem State.causeRises_other {z : ZoneId} (hz : ∀ l, z ≠ .tamper l) (s : State) :
    (s.causeRises z).li = s.li ∧ (s.causeRises z).td = s.td := by
  unfold State.causeRises
  (repeat' split) <;> simp_all

@[simp] theorem State.causeFalls_other {z : ZoneId} (hz : ∀ l, z ≠ .tamper l) (s : State) :
    (s.causeFalls z).li = s.li ∧ (s.causeFalls z).td = s.td := by
  unfold State.causeFalls
  (repeat' split) <;> simp [hz]

@[simp] theorem State.setCause_other {z : ZoneId} (hz : ∀ l, z ≠ .tamper l) (s : State) (active : Bool) :
    (s.setCause z active).li = s.li ∧ (s.setCause z active).td = s.td := by
  unfold State.setCause
  dsimp only
  (repeat' split) <;> simp [hz]

@[simp] theorem State.airLeavesFault_lanes (s : State) : s.airLeavesFault.li = s.li ∧ s.airLeavesFault.td = s.td := by
  simp [State.airLeavesFault]

@[simp] theorem State.airReexamine_lanes (s : State) : s.airReexamine.li = s.li ∧ s.airReexamine.td = s.td := by
  unfold State.airReexamine
  (repeat' split) <;> simp

@[simp] theorem State.airApply_lanes (s : State) (directed : Bool) (idle refresh : Nat) (auto : Bool) :
    (s.airApply directed idle refresh auto).li = s.li ∧ (s.airApply directed idle refresh auto).td = s.td := by
  unfold State.airApply State.airCompare
  dsimp only
  (repeat' split) <;> simp

@[simp] theorem State.airChoose_lanes (s : State) (duty : AB) :
    (s.airChoose duty).li = s.li ∧ (s.airChoose duty).td = s.td := by
  unfold State.airChoose
  dsimp only
  split <;> simp

@[simp] theorem State.ownAirSettings_lanes (tag mode idle refresh auto duty : Nat) (s : State) :
    (State.ownAirSettings tag mode idle refresh auto duty s).li = s.li ∧
      (State.ownAirSettings tag mode idle refresh auto duty s).td = s.td := by
  unfold State.ownAirSettings
  dsimp only
  split <;> simp

@[simp] theorem State.ownAirReset_lanes (tag blower : Nat) (s : State) :
    (State.ownAirReset tag blower s).li = s.li ∧ (State.ownAirReset tag blower s).td = s.td := by
  unfold State.ownAirReset State.airResets
  dsimp only
  (repeat' split) <;> simp

@[simp] theorem State.ownCaptureClear_lanes (tag disposition : Nat) (s : State) :
    (State.ownCaptureClear tag disposition s).li = s.li ∧ (State.ownCaptureClear tag disposition s).td = s.td := by
  unfold State.ownCaptureClear State.clearFault
  dsimp only
  (repeat' split) <;> simp

@[simp] theorem State.ownAuthorize_lanes (tag zone minutes : Nat) (s : State) :
    (State.ownAuthorize tag zone minutes s).li = s.li ∧ (State.ownAuthorize tag zone minutes s).td = s.td := by
  unfold State.ownAuthorize State.openWindow
  dsimp only
  (repeat' split) <;> simp

@[simp] theorem State.onDropTimeout_lanes (s : State) : s.onDropTimeout.li = s.li := by
  unfold State.onDropTimeout State.dropFails
  dsimp only
  (repeat' split) <;> simp

@[simp] theorem State.binDoor_lanes (s : State) (closed : Bool) :
    (s.binDoor closed).li = s.li ∧ (s.binDoor closed).td = s.td := by
  unfold State.binDoor
  dsimp only
  (repeat' split) <;> simp

@[simp] theorem State.keyReleases_other {z : ZoneId} (hz : ∀ l, z ≠ .tamper l) (s : State) :
    (s.keyReleases z).li = s.li ∧ (s.keyReleases z).td = s.td := by
  unfold State.keyReleases
  split <;> simp [hz]

@[simp] theorem State.keyEdge_lanes (s : State) (rising : Bool) :
    (s.keyEdge rising).li = s.li ∧ (s.keyEdge rising).td = s.td := by
  unfold State.keyEdge
  dsimp only
  split <;> simp

@[simp] theorem State.onEntryDelayExpiry_lanes (door : Door) (s : State) :
    (State.onEntryDelayExpiry door s).li = s.li ∧ (State.onEntryDelayExpiry door s).td = s.td := by
  unfold State.onEntryDelayExpiry
  split <;> simp

@[simp] theorem State.onWindowExpiry_lanes (door : Door) (s : State) :
    (State.onWindowExpiry door s).li = s.li ∧ (State.onWindowExpiry door s).td = s.td := by
  unfold State.onWindowExpiry
  split <;> simp

/-! ## A station that is lost or no longer sensed -/

/-- A door that becomes unsensed opens nothing (R6). -/
@[simp] theorem State.reportDoor_unsensed (s : State) (l : Lane) :
    s.reportDoor l .unsensed = s.modLane l fun r => { r with door := .unsensed } := by
  simp [State.reportDoor]

@[simp] theorem State.ownLaneSettings_as (tag lane features waypoints timeout auto : Nat) (s : State) :
    (State.ownLaneSettings tag lane features waypoints timeout auto s).as = s.as := by
  unfold State.ownLaneSettings State.reresolve
  dsimp only
  (repeat' split) <;> simp

/-- What a carrier's leaving the lane's end of its tube touches: the drive and the pressure, and no load (R30). -/
theorem State.launch_down {s : State} {m : Move} (hm : s.td.move = some m) (hd : m.dir = .down) :
    s.launch.nd = s.nd ∧ s.launch.dp = s.dp ∧ s.launch.ss = s.ss ∧ s.launch.jn = s.jn := by
  unfold State.launch
  simp only [hm, hd, reduceCtorEq, if_false]
  split <;> simp

/-- A fall of carrier present at the lane can only be a DOWN move's launch (R30). -/
theorem State.presentFalls_atLane (s : State) (l : Lane) :
    (s.presentFalls l .atLane).nd = s.nd ∧ (s.presentFalls l .atLane).dp = s.dp ∧
      (s.presentFalls l .atLane).ss = s.ss ∧ (s.presentFalls l .atLane).jn = s.jn := by
  unfold State.presentFalls
  split
  · exact ⟨rfl, rfl, rfl, rfl⟩
  split
  case h_2 => exact ⟨rfl, rfl, rfl, rfl⟩
  next m hm =>
  split
  case h_2 => exact ⟨rfl, rfl, rfl, rfl⟩
  split
  case isFalse => exact ⟨rfl, rfl, rfl, rfl⟩
  next h =>
  obtain ⟨-, -, horigin⟩ := h
  cases hd : m.dir with
  | up => rw [hd] at horigin; cases horigin
  | down => exact State.launch_down hm hd

@[simp] theorem State.reportStation_unsensed (s : State) (l : Lane) :
    (s.reportStation l .unsensed).nd = s.nd ∧ (s.reportStation l .unsensed).dp = s.dp ∧
      (s.reportStation l .unsensed).ss = s.ss ∧ (s.reportStation l .unsensed).jn = s.jn := by
  unfold State.reportStation
  dsimp only
  split
  · simp
  · rw [if_neg (by simp)]
    split
    · simpa using (s.modLane l fun r => { r with carrier := .unsensed }).presentFalls_atLane l
    · simp

@[simp] theorem State.onPollAnswerTimeout_loads (s : State) :
    s.onPollAnswerTimeout.nd = s.nd ∧ s.onPollAnswerTimeout.dp = s.dp ∧ s.onPollAnswerTimeout.ss = s.ss ∧
      s.onPollAnswerTimeout.jn = s.jn := by
  unfold State.onPollAnswerTimeout State.missPoll State.loseStation
  dsimp only
  (repeat' split) <;> simp

/-! ## A command's reach -/

theorem Block.same_refl (b : Block) (s : State) : b.same s s := by
  cases b <;> rfl

/-- The link and the store are no part of a block. -/
theorem Block.same_congr (b : Block) {s t t' : State} (h : b.same s t)
    (ht : t' = { t with lc := t'.lc, store := t'.store }) : b.same s t' := by
  rw [ht]
  cases b <;> exact h

theorem State.serve_reach (s : State) (i : Instr) (b : Block) (h : b ∉ Machine.reach i) : b.same s (s.serve i) := by
  cases i <;> cases b <;> simp_all [Machine.reach, Block.same, State.serve]

theorem State.eventDoes_reach (s : State) (i : Instr) (b : Block) (h : b ∉ Machine.reach i) : b.same s (s.eventDoes i) := by
  cases i <;> cases b <;> simp_all [Machine.reach, Block.same, State.eventDoes]

theorem State.follows_reach (s : State) (i : Instr) (b : Block) (h : b ∉ Machine.reach i) : b.same s (s.follows i) := by
  cases i <;> cases b <;> simp_all [Machine.reach, Block.same, State.follows]

theorem State.does_reach (s : State) (i : Instr) (b : Block) (h : b ∉ Machine.reach i) : b.same s (s.does i) := by
  cases hr : requestFrame i with
  | some f =>
    rw [State.does_request hr]
    refine State.takeFrame_preserves (P := fun t => b.same s t) (fun t lc ht => b.same_congr ht rfl) (fun t _ ht => ?_) s _ _
      (b.same_refl s)
    have := t.serve_reach i b h
    cases b <;> exact Eq.trans this ht
  | none =>
    rw [State.does, hr]
    exact s.eventDoes_reach i b h

/-- Settles O24: by the reach of each operation; the journal memory by its own frames. -/
theorem commandsStayWithinTheirReach : Obligations.CommandsStayWithinTheirReach := by
  unfold Obligations.CommandsStayWithinTheirReach
  intro c s t h
  obtain ⟨-, -, rfl⟩ | ⟨-, -, rfl⟩ | ⟨rfl, rfl⟩ | ⟨cut, n, left, rfl, rfl⟩ := exec_cases h
  · refine ⟨fun b hb => ?_, fun hdone hverify _ => ?_⟩
    · exact b.same_congr (s.does_reach c b hb) (by rw [State.finish_eq])
    · rw [(s.does c).finish_frame.2.2.2.2.2.2.2.2.2.2.1]
      exact s.does_mem c hdone hverify
  · exact ⟨fun b hb => s.follows_reach c b hb, fun _ _ _ => s.follows_mem c⟩
  · exact ⟨fun b _ => b.same_congr (b.same_refl s) rfl, fun _ _ _ => rfl⟩
  · refine ⟨fun b hb => ?_, fun _ _ hloss => absurd rfl (hloss cut n left)⟩
    split
    · cases b <;> first | rfl | exact absurd (by simp [Machine.reach]) hb
    · exact b.same_refl s

/-! ## What a command does to the journal memory -/

/-- A memory that programming and no erase has changed: in its canonical form, no bit turned back to 1 (R141). -/
def Memory.programmedTo (m m' : Memory) : Prop := m.wf = true → m'.wf = true ∧ Memory.onlyClears m m'

theorem Memory.programmedTo_refl (m : Memory) : m.programmedTo m := fun h => ⟨h, m.onlyClears_refl⟩

theorem Memory.programmedTo_trans {m m' m'' : Memory} (h : m.programmedTo m') (h' : m'.programmedTo m'') :
    m.programmedTo m'' := fun hm =>
  have ⟨hm', hc⟩ := h hm
  have ⟨hm'', hc'⟩ := h' hm'
  ⟨hm'', Memory.onlyClears_trans hc hc'⟩

theorem Memory.program_programmedTo (m : Memory) (addr : Nat) (v : Byte) : m.programmedTo (m.program addr v) := fun h =>
  ⟨Memory.program_wf addr v h, Memory.program_onlyClears h addr v⟩

theorem programBytes_programmedTo (m : Memory) (i k : Nat) (steps : List (Nat × Byte)) (missed : List Byte) :
    m.programmedTo (programBytes m i k steps missed).1 := fun h =>
  ⟨programBytes_wf i k steps missed h, programBytes_onlyClears i k steps missed h⟩

theorem cutBytes_programmedTo (m : Memory) (i k : Nat) (steps : List (Nat × Byte)) (n : Nat) (left : Byte) :
    m.programmedTo (cutBytes m i k steps n left) := fun h =>
  ⟨cutBytes_wf i k steps n left h, cutBytes_onlyClears i k steps n left h⟩

theorem State.enterFailed_mem (s : State) (w : Work) : (s.enterFailed w).jn.mem = s.jn.mem := by simp

theorem State.appendMade_programmedTo (s : State) (p : Program) (r : Record) (i k : Nat) (missed : List Byte) :
    s.jn.mem.programmedTo (s.appendMade p r i k missed).jn.mem := by
  unfold State.appendMade
  dsimp only
  have hmade := Memory.programmedTo_trans (programBytes_programmedTo s.jn.mem i k r.writing missed)
    (programBytes_programmedTo _ i k (if (programBytes s.jn.mem i k r.writing missed).2 then r.closing else [])
      (missed.drop r.writing.length))
  generalize (programBytes s.jn.mem i k r.writing missed).2 = first at hmade ⊢
  generalize programBytes _ i k _ _ = second at hmade ⊢
  have hvoid := Memory.programmedTo_trans hmade (Memory.program_programmedTo _ (slotAddress i k 0) 0xF7#8)
  (repeat' split)
  · simpa using hmade
  all_goals simpa using hvoid

theorem State.changeMade_programmedTo (s : State) (p : Program) (missed : List Byte) :
    s.jn.mem.programmedTo (s.changeMade p missed).jn.mem := by
  unfold State.changeMade
  dsimp only
  split
  · simpa using s.jn.mem.programmedTo_refl
  · next i k _ =>
    have hmade := programBytes_programmedTo s.jn.mem i k (s.jn.stepsOf p) missed
    (repeat' split) <;> simpa using hmade

theorem State.programMade_programmedTo (s : State) (missed : List Byte) :
    s.jn.mem.programmedTo (s.programMade missed).jn.mem := by
  unfold State.programMade
  split
  · split
    · simpa using s.appendMade_programmedTo _ _ _ _ missed
    · simpa using s.jn.mem.programmedTo_refl
    · simpa using s.changeMade_programmedTo _ missed
  · exact s.jn.mem.programmedTo_refl

theorem JN.cut_programmedTo (jn : JN) (n : Nat) (left : Byte) : jn.mem.programmedTo (jn.cut n left).mem := by
  unfold JN.cut
  (repeat' split) <;> first
    | exact cutBytes_programmedTo _ _ _ _ _ _
    | exact jn.mem.programmedTo_refl

theorem State.onEraseVerify_wf (s : State) (h : s.memoryFormed) : s.onEraseVerify.memoryFormed := by
  unfold State.onEraseVerify State.memoryFormed
  (repeat' split) <;> first
    | exact h
    | (rw [State.segmentEnds_mem]; exact Memory.eraseRange_wf _ _ h)

/-- Every command but ERASE_VERIFY changes the journal memory by programming alone (R141). -/
theorem exec_programmedTo {c : Instr} {s t : State} (hverify : c ≠ .eraseVerify) (h : exec c s = .next t) :
    s.jn.mem.programmedTo t.jn.mem := by
  obtain ⟨-, -, rfl⟩ | ⟨-, -, rfl⟩ | ⟨rfl, rfl⟩ | ⟨cut, n, left, rfl, rfl⟩ := exec_cases h
  · rw [(s.does c).finish_frame.2.2.2.2.2.2.2.2.2.2.1]
    by_cases hdone : ∃ missed, c = .journalProgramDone missed
    · obtain ⟨missed, rfl⟩ := hdone
      exact s.programMade_programmedTo missed
    · rw [s.does_mem c (not_exists.mp hdone) hverify]
      exact s.jn.mem.programmedTo_refl
  · rw [s.follows_mem c]
    exact s.jn.mem.programmedTo_refl
  · exact s.jn.mem.programmedTo_refl
  · split
    · exact s.jn.cut_programmedTo n left
    · exact s.jn.mem.programmedTo_refl

/-- Settles O19: programming turns no bit back to 1. -/
theorem onlyAnEraseRaisesABit : Obligations.OnlyAnEraseRaisesABit := by
  unfold Obligations.OnlyAnEraseRaisesABit
  intro c s t hs hc h
  exact (exec_programmedTo hc h hs).2

theorem exec_memoryFormed {c : Instr} {s t : State} (hs : s.memoryFormed) (h : exec c s = .next t) : t.memoryFormed := by
  by_cases hc : c = .eraseVerify
  · subst hc
    obtain ⟨-, -, rfl⟩ | ⟨-, -, rfl⟩ | ⟨hc, -⟩ | ⟨_, _, _, hc, -⟩ := exec_cases h
    · rw [State.memoryFormed, (s.does .eraseVerify).finish_frame.2.2.2.2.2.2.2.2.2.2.1]
      exact s.onEraseVerify_wf hs
    · exact hs
    · cases hc
    · cases hc
  · exact (exec_programmedTo hc h hs).1

/-- Settles O18: programming and erasing keep the canonical form, and so does a step that takes no command. -/
theorem journalMemoryStaysCanonical : Obligations.JournalMemoryStaysCanonical := by
  unfold Obligations.JournalMemoryStaysCanonical
  intro s t hs h
  cases hp : s.pending with
  | nil =>
    rw [stepTakesTheFront.2 s hp] at h
    exact Host.Outcome.next.inj h ▸ hs
  | cons c rest =>
    rw [stepTakesTheFront.1 c rest s hp] at h
    exact exec_memoryFormed (s := { s with pending := rest }) hs h

end Sys2Proof.Machine
end

section
/-! The link and the power supply (chapter 10): requests read back from their frames, what the LC answers itself, the
condition set, the status reads, what a power loss cuts off, and the values at reset. -/

open Sys2Proof.Machine
namespace Sys2Proof

theorem fits_byte {n : Nat} (h : fits 1 n = true) : nat (BitVec.ofNat 8 n) = n :=
  toNat_ofNat_byte (by simpa [fits] using h)

theorem fits_two {n : Nat} (h : fits 2 n = true) : number [BitVec.ofNat 8 (n / 256), BitVec.ofNat 8 n] = n :=
  number_u16 (by simpa [fits] using h)

theorem fits_three {n : Nat} (h : fits 3 n = true) :
    number [BitVec.ofNat 8 (n / 65536), BitVec.ofNat 8 (n / 256), BitVec.ofNat 8 n] = n :=
  number_u24 (by simpa [fits] using h)

theorem fits_four {n : Nat} (h : fits 4 n = true) :
    number [BitVec.ofNat 8 (n / 16777216), BitVec.ofNat 8 (n / 65536), BitVec.ofNat 8 (n / 256), BitVec.ofNat 8 n] = n :=
  number_u32 (by simpa [fits] using h)

theorem allFit_lt {ns : List Nat} (h : allFit ns = true) : ∀ n ∈ ns, n < 256 := by
  simpa [allFit, fits] using h

/-- A set is read back from its bytes -/
theorem wholeList_numberSet {ns : List Nat} (h : ns.length < 256) : wholeList (numberSet ns) = some (ns.flatMap u8) := by
  have := wholeList_counted (ns := ns.flatMap u8) (by simpa using h)
  rwa [flatMap_u8_length] at this

theorem twoLists_numberSets {ns ms : List Nat} (hn : ns.length < 256) (hm : ms.length < 256) :
    twoLists (numberSet ns ++ numberSet ms) = some (ns.flatMap u8, ms.flatMap u8) := by
  have h := countedList_append (ns := ns.flatMap u8) (rest := numberSet ms) (by simpa using hn)
  rw [flatMap_u8_length] at h
  simp only [twoLists, numberSet, List.append_assoc] at h ⊢
  rw [h]
  simpa [numberSet] using wholeList_numberSet hm

theorem requestOf_requestFrame {i : Instr} {kind tag : Nat} {body : List Byte} (hw : i.wf = true)
    (h : requestFrame i = some (kind, tag, body)) : requestOf kind tag body = some i := by
  cases i <;> simp only [requestFrame, Option.some.injEq, Prod.mk.injEq, reduceCtorEq] at h <;>
    obtain ⟨rfl, rfl, rfl⟩ := h <;>
    simp only [Instr.wf, Bool.and_eq_true, decide_eq_true_eq] at hw
  case laneText tag lane text =>
    obtain ⟨⟨-, hl⟩, ht⟩ := hw
    have hb : text.length < 256 := by simp only [Config.bodyMax] at ht; omega
    show (wholeList (textBytes text)).map _ = _
    simp [textBytes, wholeList_counted hb, fits_byte hl]
  case conditionsEnable tag ns ms =>
    obtain ⟨⟨⟨-, hn⟩, hm⟩, hb⟩ := hw
    simp only [Config.bodyMax] at hb
    show (twoLists (numberSet ns ++ numberSet ms)).map _ = _
    simp [twoLists_numberSets (ns := ns) (ms := ms) (by omega) (by omega), map_nat_flatMap_u8 (allFit_lt hn), map_nat_flatMap_u8 (allFit_lt hm)]
  case conditionsClear tag ns =>
    obtain ⟨⟨-, hn⟩, hb⟩ := hw
    simp only [Config.bodyMax] at hb
    show (wholeList (numberSet ns)).map _ = _
    simp [wholeList_numberSet (ns := ns) (by omega), map_nat_flatMap_u8 (allFit_lt hn)]
  all_goals simp [requestOf, requestRows, laneRows, noteRows, recordRows, unitRows, oneByte, twoBytes, noFields, oneNumber, readLaneSettings,
    readRescan, readAirSettings, readReplenish, readDispenseSettings, readDispense, readStackerSettings, readCaptureSettings, readJournalRead, 
    u8, u16, u24, u32, fits_byte, fits_two, fits_three, fits_four, hw]

theorem requestFrame_length {i : Instr} {kind tag : Nat} {body : List Byte} (hw : i.wf = true)
    (h : requestFrame i = some (kind, tag, body)) : body.length ≤ Config.bodyMax := by
  cases i <;> simp only [requestFrame, Option.some.injEq, Prod.mk.injEq, reduceCtorEq] at h <;>
    obtain ⟨rfl, rfl, rfl⟩ := h <;>
    simp [Instr.wf, Config.bodyMax, textBytes, numberSet] at hw ⊢ <;> omega

theorem requestFrame_tag {i : Instr} {kind tag : Nat} {body : List Byte} (hw : i.wf = true)
    (h : requestFrame i = some (kind, tag, body)) : tag < 256 := by
  have hf : fits 1 tag = true := by
    cases i <;> simp only [requestFrame, Option.some.injEq, Prod.mk.injEq, reduceCtorEq] at h <;>
      obtain ⟨-, rfl, -⟩ := h <;> simp only [Instr.wf, Bool.and_eq_true] at hw <;> simp only [hw]
  simpa [fits] using hf

end Sys2Proof

namespace Sys2Proof.Machine

/-! ## Requests and frames (R190, R191) -/

/-- Settles O5: a field is read back from its bytes, and a list from its count and members. -/
theorem requestFramesReadBack : Obligations.RequestFramesReadBack := fun _ _ _ _ hw h =>
  ⟨requestOf_requestFrame hw h, requestFrame_kind h, requestFrame_length hw h⟩

/-- A frame read from HUNT arrives as its kind, tag and body. -/
theorem exec_frameTaken {s : State} (hs : s.phase ≠ .off) (hr : s.lc.rx = ⟨.hunt, []⟩) {kind tag : Nat} {body : List Byte}
    (hk : kind < 256) (ht : tag < 256) (hb : body.length ≤ 232) :
    exec (.frameTaken (frameBytes kind tag body)) s = .next (s.frameArrives kind tag body).finish := by
  rw [show exec (.frameTaken (frameBytes kind tag body)) s = s.poweredStep (State.onFrameTaken _) from rfl,
    State.poweredStep_on hs, State.onFrameTaken, State.takeBytes_request s kind tag body hr hb hk ht]

theorem State.frameArrives_some {kind tag : Nat} {body : List Byte} {i : Instr} (h : requestOf kind tag body = some i)
    (s : State) : s.frameArrives kind tag body = s.takeFrame kind tag fun s => s.serve i := by
  simp only [State.frameArrives, h]

theorem State.frameArrives_none {kind tag : Nat} {body : List Byte} (h : requestOf kind tag body = none)
    (s : State) : s.frameArrives kind tag body = s.takeFrame kind tag fun s => s.refuse kind tag .malformed [] := by
  simp only [State.frameArrives, h]

/-- Settles O6: an unpowered part is at rest; a powered one reads the frame back as the request and hands it to its owner. -/
theorem requestFramesDoWhatTheySpell : Obligations.RequestFramesDoWhatTheySpell := by
  intro i kind tag body s hw h hr
  have hx := exec_request h s
  rw [State.request] at hx
  by_cases hs : s.phase = .off
  · rw [State.poweredStep_off hs] at hx
    exact ⟨s, State.poweredStep_off hs _, hx⟩
  · rw [State.poweredStep_on hs, ← State.frameArrives_some (requestOf_requestFrame hw h)] at hx
    exact ⟨_, exec_frameTaken hs hr (requestKinds_lt (requestFrame_kind h)) (requestFrame_tag hw h)
      (requestFrame_length hw h), hx⟩

/-! ## What the LC answers itself (R191, R192) -/

/-- A frame at four requests outstanding is answered LINK_BUSY, or only counted where a LINK_BUSY waits (R192). -/
theorem State.takeFrame_full {s : State} (h : 4 ≤ s.lc.outstanding) (kind tag : Nat) (owner : State → State) :
    s.takeFrame kind tag owner = if s.lc.replies.any (·.refusal) then { s with lc := s.lc.countDrop }
      else { s with lc := { s.lc with replies := s.lc.replies ++
        [{ kind := replyKind kind, tag := tag, body := u8 Code.linkBusy.num, refusal := true, restart := false }] } } :=
  if_pos h

/-- A frame before the end of start-up is answered STARTING. -/
theorem State.takeFrame_starting {s : State} (h : s.lc.outstanding < 4) (hs : s.phase ≠ .running) (kind tag : Nat)
    (owner : State → State) : s.takeFrame kind tag owner = s.counted.refuse kind tag .starting [] := by
  have hst : s.counted.started = false := by simp [State.started, State.counted, hs]
  have ho : ¬ Config.outstandingMax ≤ s.lc.outstanding := Nat.not_le.mpr h
  rw [State.takeFrame, if_neg ho]
  exact if_pos (show (!s.counted.started) = true by rw [hst]; rfl)

/-- A frame of the running part is counted, then judged by its kind and its tag. -/
theorem State.takeFrame_running {s : State} (h : s.lc.outstanding < 4) (hs : s.phase = .running) (kind tag : Nat)
    (owner : State → State) : s.takeFrame kind tag owner =
      if !requestKinds.contains kind then s.counted.refuse kind tag .unknownKind []
      else if tag = 0 then s.counted.refuse kind tag .malformed [] else owner s.counted := by
  have hst : s.counted.started = true := by simp [State.started, State.counted, hs]
  have ho : ¬ Config.outstandingMax ≤ s.lc.outstanding := Nat.not_le.mpr h
  rw [State.takeFrame, if_neg ho]
  exact if_neg (show ¬ (!s.counted.started) = true by rw [hst]; decide)

/-- Settles O7: the four ways of a request that does not reach its owner, in the order of R191. -/
theorem requestsTheLinkAnswers : Obligations.RequestsTheLinkAnswers := by
  intro i kind tag body s h hs
  have hk := requestFrame_kind h
  have hx : exec i s = .next (s.takeFrame kind tag fun s => s.serve i).finish := by
    rw [exec_request h, State.request, State.poweredStep_on hs]
  have hrefused : ∀ code, s.counted.refuse kind tag code [] = s.refused kind tag code := fun code =>
    State.refuse_replied hk _ tag code
  refine ⟨fun ho hp => ?_, fun ho hp ht => ?_, fun ho hr => ?_, fun ho hr => ?_⟩ <;> rw [hx]
  · rw [State.takeFrame_starting ho hp, hrefused]
  · rw [State.takeFrame_running ho hp, if_neg (by simp only [hk]; decide), if_pos ht, hrefused]
  · rw [State.takeFrame_full ho, if_neg (by simp only [hr]; decide), replyKind, if_pos hk]
    rfl
  · rw [State.takeFrame_full ho, if_pos hr]
    rfl

/-! ## Frames that are no request, and dropped frames (R190) -/

theorem State.dropFrame_hunt {s : State} (hr : s.lc.rx = ⟨.hunt, []⟩) :
    s.dropFrame = { s with lc := { s.lc with dropped := min 65535 (s.lc.dropped + 1) } } := by
  simp only [State.dropFrame, State.modLC, LC.countDrop, Config.droppedMax, ← hr]

/-- What the receiver has read of a frame is gone with the frame. -/
theorem State.dropFrame_receive (s : State) (st : RxState) (buffer : List Byte) :
    (s.receive st buffer).dropFrame = s.dropFrame := rfl

theorem State.takeBytes_cons (s : State) (v : Byte) (bytes : List Byte) :
    s.takeBytes (v :: bytes) = (s.takeByte v).takeBytes bytes := rfl

theorem State.takeBytes_nil (s : State) : s.takeBytes [] = s := rfl

/-- The start byte begins the reading of the length (R190). -/
theorem State.takeByte_start {s : State} (hr : s.lc.rx = ⟨.hunt, []⟩) : s.takeByte 0xC3#8 = s.receive .length [] := by
  simp [State.takeByte, hr, Config.startByte]

theorem State.takeByte_high (s : State) (high : Byte) :
    (s.receive .length []).takeByte high = s.receive .length [high] := by
  simp [State.takeByte, State.receive, State.modLC]

/-- A length out of range drops the frame with its second byte (R190). -/
theorem State.takeByte_low (s : State) (high low : Byte)
    (h : high.toNat * 256 + low.toNat < 2 ∨ 234 < high.toNat * 256 + low.toNat) :
    (s.receive .length [high]).takeByte low = s.dropFrame := by
  have hl : frameLength [high, low] = high.toNat * 256 + low.toNat := by simp [frameLength, number]
  simp only [State.takeByte, State.receive, State.modLC, List.singleton_append, List.length_cons, List.length_nil,
    Nat.reduceAdd, Nat.lt_irrefl, if_false, hl, Config.bodyMax]
  rw [if_pos h]
  rfl

theorem exec_frameDropped {s : State} (hs : s.phase ≠ .off) (bytes : List Byte) :
    exec (.frameDropped bytes false) s = .next (s.takeBytes bytes).finish := State.poweredStep_on hs _

theorem exec_frameDropped_broken {s : State} (hs : s.phase ≠ .off) (bytes : List Byte) :
    exec (.frameDropped bytes true) s = .next (s.takeBytes bytes).breakFrame.finish := State.poweredStep_on hs _

/-- Settles O8: the LC's own two answers, then the four ways a frame is dropped, byte by byte. -/
theorem framesThatAreNoRequest : Obligations.FramesThatAreNoRequest := by
  refine ⟨fun kind tag body s hk ht hb hp ho hr => ?_, fun high low s hs hr hl => ?_, fun kind tag body c1 c0 s hb hs hr hc => ?_,
    fun high s hs hr => ?_, fun s hs => ?_⟩
  · have hs : s.phase ≠ .off := by simp [hp]
    have hx := exec_frameTaken hs hr hk ht hb
    refine ⟨fun hn => ?_, fun hn h0 hq => ?_⟩
    · rw [hx, State.frameArrives, State.takeFrame_running ho hp, if_pos (by simp only [hn]; decide)]
      simp only [State.refuse, State.reply, replyKind, hn, Bool.false_eq_true, if_false]
      rfl
    · rw [hx, State.frameArrives_none hq, State.takeFrame_running ho hp, if_neg (by simp only [hn]; decide), if_neg h0,
        State.refuse_replied hn]
      rfl
  · rw [exec_frameDropped hs, State.takeBytes_cons, State.takeByte_start hr, State.takeBytes_cons, State.takeByte_high,
      State.takeBytes_cons, State.takeByte_low s high low hl, State.takeBytes_nil, State.dropFrame_hunt hr]
  · rw [exec_frameDropped hs]
    rw [show (0xC3#8 : Byte) = Config.startByte from rfl, State.takeBytes_whole s kind tag body hr hb,
      State.checkFrame_whole _ kind tag body hb, if_neg hc, State.dropFrame_receive, State.dropFrame_hunt hr]
  · rw [exec_frameDropped_broken hs, State.takeBytes_cons, State.takeByte_start hr, State.takeBytes_cons, State.takeByte_high,
      State.takeBytes_nil, State.breakFrame, if_neg (by simp [State.receive, State.modLC]), State.dropFrame_receive,
      State.dropFrame_hunt hr]
  · exact State.poweredStep_on hs _

/-! ## The end of a sent frame (R192, R194) -/

theorem exec_frameSent {s : State} (hs : s.phase ≠ .off) {f : Sending} (h : s.lc.sending = some f) :
    exec .frameSent s = .next (s.sent f).finish := by
  rw [show exec .frameSent s = s.poweredStep State.onFrameSent from rfl, State.poweredStep_on hs, State.onFrameSent, h]

/-- Settles O9: one case for each thing the frame on the line can be. -/
theorem frameSentFreesTheLine : Obligations.FrameSentFreesTheLine := by
  intro s hs
  refine ⟨fun f r rest hf hw hr => ?_, fun f e hf hw => ?_, fun f hf hw => ?_⟩ <;>
    simp only [exec_frameSent hs hf, State.sent, hw]
  · simp only [State.replySent, State.modLC, hr]
  · rfl
  · rfl

/-! ## The condition set (R195 to R200) -/

/-- Settles O10. -/
theorem risesSetPendingAndAnnounce : Obligations.RisesSetPendingAndAnnounce := by
  intro lc n o c hc
  refine ⟨by simp [LC.raise_conds, hc], fun k hk => by simp [LC.raise_conds, hk], ?_, ?_⟩
  · simp only [LC.raise, hc]
    cases c.isPending <;> cases c.enabled <;> simp
  · simp only [LC.raise, hc]

/-- The instances CONDITIONS_ENABLE turns on that then have an entry to come. -/
def LC.announces (lc : LC) (enabled : List Nat) (n : Nat) : Bool :=
  enabled.contains n && !lc.isEnabled n && lc.isPending n && !lc.notices.contains (.cond n)

/-- The instances CONDITIONS_ENABLE turns off. -/
def LC.turnsOff (lc : LC) (enabled : List Nat) (n : Nat) : Bool := lc.isEnabled n && !enabled.contains n

/-- The notice list after one instance's enable is set: an entry goes with an instance turned off, and comes at the tail with
one turned on (R198). -/
theorem LC.setEnable_list (lc : LC) (enabled : List Nat) (n : Nat) :
    (lc.setEnable n (enabled.contains n)).notices =
      (lc.notices.filter fun e => !(lc.turnsOff enabled n && e == .cond n)) ++
        if lc.announces enabled n then [.cond n] else [] := by
  cases hon : enabled.contains n <;> cases hen : lc.isEnabled n <;>
    simp only [LC.setEnable, LC.announces, LC.turnsOff, hon, hen, LC.isPending_enabled, LC.dropEntry, reduceIte,
      Bool.false_eq_true, Bool.not_true, Bool.not_false, Bool.and_false, Bool.and_true, Bool.true_and, Bool.false_and,
      List.append_nil, List.filter_true]
  · rfl
  · cases lc.isPending n <;> cases hx : lc.notices.contains (.cond n) <;> simp_all

theorem LC.setEnable_other (lc : LC) {a n : Nat} (on : Bool) (h : n - 1 ≠ a - 1) :
    (lc.setEnable a on).conds[n - 1]? = lc.conds[n - 1]? := by
  unfold LC.setEnable
  dsimp only
  (repeat' split) <;> simp [LC.dropEntry, getElem?_modifyAt, h]

theorem LC.turnsOff_setEnable (lc : LC) (enabled : List Nat) {a n : Nat} (h : n - 1 ≠ a - 1) :
    (lc.setEnable a (enabled.contains a)).turnsOff enabled n = lc.turnsOff enabled n := by
  simp only [LC.turnsOff, LC.isEnabled, LC.setEnable_other lc _ h]

theorem LC.announces_setEnable (lc : LC) (enabled : List Nat) {a n : Nat} (h : n - 1 ≠ a - 1) :
    (lc.setEnable a (enabled.contains a)).announces enabled n = lc.announces enabled n := by
  have hne : n ≠ a := fun e => h (by rw [e])
  have hc : (lc.setEnable a (enabled.contains a)).notices.contains (.cond n) = lc.notices.contains (.cond n) := by
    rw [LC.setEnable_list, Bool.eq_iff_iff]
    split <;> simp [hne]
  simp only [LC.announces, LC.isEnabled, LC.isPending, LC.setEnable_other lc _ h, hc]

/-- The notice list after a list of instances was turned on or off by a set: the entries of those turned off are gone, and
those to come stand at the tail in the list's order (R198). -/
theorem LC.foldl_setEnable_list (enabled : List Nat) (ns : List Nat) (hn : ns.Nodup) (h1 : ∀ n ∈ ns, 1 ≤ n) (lc : LC) :
    (ns.foldl (fun lc n => lc.setEnable n (enabled.contains n)) lc).notices =
      (lc.notices.filter fun e => !((ns.filter (lc.turnsOff enabled)).map NoticeEntry.cond).contains e) ++
        (ns.filter (lc.announces enabled)).map .cond := by
  induction ns generalizing lc with
  | nil => simp
  | cons a ns ih =>
    obtain ⟨ha, hns⟩ := List.nodup_cons.mp hn
    have hother : ∀ n ∈ ns, n - 1 ≠ a - 1 := fun n hm e => ha (by
      have := h1 n (List.mem_cons_of_mem _ hm)
      have := h1 a List.mem_cons_self
      rwa [show a = n by omega])
    have hoff : ns.filter ((lc.setEnable a (enabled.contains a)).turnsOff enabled) = ns.filter (lc.turnsOff enabled) :=
      List.filter_congr fun n hm => LC.turnsOff_setEnable lc enabled (hother n hm)
    have hon : ns.filter ((lc.setEnable a (enabled.contains a)).announces enabled) = ns.filter (lc.announces enabled) :=
      List.filter_congr fun n hm => LC.announces_setEnable lc enabled (hother n hm)
    have hkeep : ¬ (NoticeEntry.cond a) ∈ (ns.filter (lc.turnsOff enabled)).map NoticeEntry.cond := by
      simpa using fun h => absurd h ha
    rw [List.foldl_cons, ih hns (fun n hm => h1 n (List.mem_cons_of_mem _ hm)), hoff, hon, LC.setEnable_list,
      List.filter_append, List.filter_filter, List.filter_cons (p := lc.turnsOff enabled),
      List.filter_cons (p := lc.announces enabled), List.append_assoc]
    congr 1
    · refine List.filter_congr fun e _ => ?_
      cases lc.turnsOff enabled a <;> simp [Bool.and_comm]
    · cases lc.announces enabled a
      · simp
      · simp [ha]

/-- An instance enabled by CONDITIONS_ENABLE is one of the request's set (R198). -/
theorem LC.isEnabled_of_conds {lc lc' : LC} {n : Nat} {b : Bool} (hn : n - 1 < lc.conds.length)
    (h : lc'.conds[n - 1]? = lc.conds[n - 1]?.map fun c => { c with enabled := b }) : lc'.isEnabled n = b := by
  rw [LC.isEnabled, h, List.getElem?_eq_getElem hn]
  rfl

/-- The auto-clear groups in force are the codes of the request (R198, R208). -/
theorem codes_groupsOf (groups : List Nat) :
    (groupsOf groups).codes = ([1, 2, 3, 4, 5, 6, 7, 8] : List Nat).filter groups.contains := by
  show ((([1, 2, 3, 4, 5, 6, 7, 8] : List Nat).map fun k => (k, groups.contains k)).filter (·.2)).map (·.1) = _
  rw [List.filter_map, List.map_map]
  exact List.map_id _

/-- The set replaced instance by instance, in the numbers' order (R198). -/
theorem LC.enableAll_spec (lc : LC) (enabled groups : List Nat) (hl : lc.conds.length = 69) (n : Nat) (h1 : 1 ≤ n)
    (h2 : n ≤ 69) :
    (lc.enableAll enabled groups).conds[n - 1]? =
        lc.conds[n - 1]?.map (fun c => { c with enabled := enabled.contains n }) ∧
      ((.cond n) ∈ (lc.enableAll enabled groups).notices ↔
        (enabled.contains n = true ∧ lc.isEnabled n = false ∧ lc.isPending n = true) ∨
          ((.cond n) ∈ lc.notices ∧ (enabled.contains n = true ∨ lc.isEnabled n = false))) := by
  have hspec := LC.foldl_setEnable enabled instanceNumbers instanceNumbers_nodup (fun _ h => (instanceNumbers_bounds h).1) lc
    fun _ h => by rw [hl]; exact (instanceNumbers_bounds h).2
  simp only [LC.enableAll]
  exact hspec.2 n (mem_instanceNumbers h1 h2)

theorem LC.enableAll_auto (lc : LC) (enabled groups : List Nat) : (lc.enableAll enabled groups).auto = groupsOf groups := rfl

theorem LC.enableAll_notices (lc : LC) (enabled groups : List Nat) :
    (lc.enableAll enabled groups).notices =
      (lc.notices.filter fun e => !((instanceNumbers.filter (lc.turnsOff enabled)).map NoticeEntry.cond).contains e) ++
        (instanceNumbers.filter (lc.announces enabled)).map .cond := by
  simp only [LC.enableAll]
  exact LC.foldl_setEnable_list enabled _ instanceNumbers_nodup (fun _ h => (instanceNumbers_bounds h).1) lc

theorem LC.enabledSet_enableAll (lc : LC) (enabled groups : List Nat) (hl : lc.conds.length = 69) :
    (lc.enableAll enabled groups).enabledSet = instanceNumbers.filter enabled.contains :=
  List.filter_congr fun n hn => by
    obtain ⟨h1, h2⟩ := instanceNumbers_bounds hn
    exact LC.isEnabled_of_conds (by omega) (lc.enableAll_spec enabled groups hl n h1 h2).1

theorem State.ownConditionsEnable_ok {tag : Nat} {enabled groups : List Nat} {s : State} (hl : s.lc.conds.length = 69)
    (he : ∀ n ∈ enabled, 1 ≤ n ∧ n ≤ 69) (hg : ∀ n ∈ groups, 1 ≤ n ∧ n ≤ 8) :
    State.ownConditionsEnable tag enabled groups s =
      (s.modLC fun lc => lc.enableAll enabled groups).replied 0x50 tag (0x00#8 ::
        (numberSet (instanceNumbers.filter enabled.contains) ++
          numberSet (([1, 2, 3, 4, 5, 6, 7, 8] : List Nat).filter groups.contains) ++ u8 (s.lc.entriesAdded enabled))) := by
  rw [State.ownConditionsEnable, if_pos ⟨within_true he, within_true hg⟩, State.ok_replied rfl]
  show State.replied _ _ _ (0x00#8 :: (numberSet (s.lc.enableAll enabled groups).enabledSet ++
    numberSet (groupsOf groups).codes ++ _)) = _
  rw [LC.enabledSet_enableAll _ _ _ hl, codes_groupsOf]

theorem State.ownConditionsEnable_malformed {tag : Nat} {enabled groups : List Nat} {s : State}
    (h : (∃ n ∈ enabled, n < 1 ∨ 69 < n) ∨ (∃ n ∈ groups, n < 1 ∨ 8 < n)) :
    State.ownConditionsEnable tag enabled groups s = s.replied 0x50 tag (u8 Code.malformed.num) := by
  rw [State.ownConditionsEnable, if_neg, State.refuse_replied rfl]
  rintro ⟨he, hg⟩
  rcases h with h | h
  · exact absurd he (by rw [show Config.conditions = 69 from rfl, within_false h]; decide)
  · exact absurd hg (by rw [within_false h]; decide)

/-- A reply after a change of the link is a change of the link. -/
theorem State.replied_modLC_counted (s : State) (f : LC → LC) (kind tag : Nat) (body : List Byte) :
    (s.counted.modLC f).replied kind tag body =
      { s with lc := { f s.counted.lc with replies := (f s.counted.lc).replies ++ [answer kind tag body] } } := rfl

/-- Settles O11: the set is replaced instance by instance, in the numbers' order. -/
theorem conditionsEnableReplacesTheSets : Obligations.ConditionsEnableReplacesTheSets := by
  intro tag enabled groups s hs hl
  have hx := exec_serves (i := .conditionsEnable tag enabled groups) rfl hs
  refine ⟨fun h => ?_, fun he hg added dropped ha hd => ?_⟩
  · rw [hx]
    exact congrArg (fun t => Host.Outcome.next t.finish) (State.ownConditionsEnable_malformed h)
  · rw [show s.counted.serve (.conditionsEnable tag enabled groups) =
      State.ownConditionsEnable tag enabled groups s.counted from rfl, State.ownConditionsEnable_ok (s := s.counted) hl he hg,
      State.replied_modLC_counted] at hx
    have hadded : s.counted.lc.entriesAdded enabled = added.length := by
      simp only [LC.entriesAdded, LC.isEnabled, LC.isPending, State.counted, ha]
    have hspec := LC.enableAll_spec s.counted.lc enabled groups hl
    have hauto := LC.enableAll_auto s.counted.lc enabled groups
    have hnotices := LC.enableAll_notices s.counted.lc enabled groups
    obtain ⟨-, houtstanding, hreplies, -⟩ := LC.enableAll_frame s.counted.lc enabled groups
    rw [hadded] at hx
    generalize s.counted.lc.enableAll enabled groups = lc at hx hspec hauto hnotices houtstanding hreplies
    refine ⟨_, hx, congrArg (· ++ _) hreplies, ?_, houtstanding, hauto, hspec⟩
    rw [ha, hd]
    exact hnotices

/-! ## CONDITIONS_CLEAR (R200) -/

/-- Settles O12: the instances named and pending are cleared one after another. -/
theorem conditionsClearClears : Obligations.ConditionsClearClears := by
  intro tag cleared s hs hl
  have hx := exec_serves (i := .conditionsClear tag cleared) rfl hs
  rw [show s.counted.serve (.conditionsClear tag cleared) = State.ownConditionsClear tag cleared s.counted from rfl,
    State.ownConditionsClear] at hx
  refine ⟨fun h => ?_, fun h => ?_⟩
  · rw [hx, if_neg (by rw [show Config.conditions = 69 from rfl, within_false h]; decide), State.refuse_replied rfl]
    rfl
  · rw [if_pos (by exact within_true h), State.ok_replied rfl] at hx
    have hm : ∀ n, n ∈ instanceNumbers.filter (fun n => cleared.contains n && s.lc.isPending n) ↔
        n ∈ instanceNumbers ∧ (cleared.contains n = true ∧ s.lc.isPending n = true) := fun n => by
      rw [List.mem_filter, Bool.and_eq_true]
    have hc := LC.foldl_clear (instanceNumbers.filter fun n => cleared.contains n && s.lc.isPending n)
      (instanceNumbers_nodup.filter _) (fun n hn => (instanceNumbers_bounds ((hm n).mp hn).1).1) s.counted.lc
      (fun n hn => hl ▸ (instanceNumbers_bounds ((hm n).mp hn).1).2)
    obtain ⟨-, houtstanding, hreplies, -⟩ := LC.clears_frame s.counted.lc
      (instanceNumbers.filter fun n => cleared.contains n && s.lc.isPending n)
    refine ⟨_, hx, ?_, ?_, fun n h1 h2 => ?_⟩
    · exact congrArg (· ++ _) hreplies
    · exact houtstanding
    · obtain ⟨hr, hn⟩ := hc n h1
      have hin := mem_instanceNumbers h1 h2
      refine ⟨hr.trans ?_, hn.trans ?_⟩
      · show Option.map _ s.lc.conds[n - 1]? = _
        have hp : s.lc.isPending n = match s.lc.conds[n - 1]? with | some c => c.isPending | none => false := rfl
        simp only [hm, hin, true_and]
        cases hcond : s.lc.conds[n - 1]? with
        | none => rfl
        | some c =>
          rw [hcond] at hp
          simp only [hp]
          cases hcp : c.isPending <;> cases cleared.contains n <;> simp [hcp]
      · show _ ∈ s.lc.notices ∧ ¬ (_ ∧ s.lc.isPending n = true) ↔ _
        simp only [hm, hin, true_and]
        tauto


/-! ## Clock and identity (R199 to R203) -/

/-- Settles O13: each request at its owner, and the tick's step as it stands. -/
theorem clockAndLinkReads : Obligations.ClockAndLinkReads := by
  refine ⟨⟨fun tag seconds s hs => ?_, fun s => ⟨_, rfl, rfl, rfl, rfl⟩⟩, fun tag s hs => ⟨?_, ?_⟩⟩
  · rw [exec_serves (i := .setTime tag seconds) rfl hs]
    exact congrArg (fun t => Host.Outcome.next t.finish) (State.ok_replied (kind := 0x53) rfl _ tag _)
  · rw [exec_serves (i := .conditionsRead tag) rfl hs]
    exact congrArg (fun t => Host.Outcome.next t.finish) (State.ok_replied (kind := 0x51) rfl _ tag _)
  · rw [exec_serves (i := .identify tag) rfl hs]
    exact congrArg (fun t => Host.Outcome.next t.finish) (State.ok_replied (kind := 0x54) rfl _ tag _)


/-! ## A request and an event carried out -/

/-- A request that is served, carried out. -/
theorem exec_serves_to {i : Instr} {kind tag : Nat} {body : List Byte} {s t : State}
    (hi : requestFrame i = some (kind, tag, body)) (h : s.Serves tag) (ht : s.counted.serve i = t) :
    exec i s = .next t.finish := ht ▸ exec_serves hi h

/-- An event of the powered part, carried out. -/
theorem exec_event_to {i : Instr} {s t : State} (hi : requestFrame i = none) (hu : leavesUnfinished i = false)
    (h : s.phase ≠ .off) (ht : s.eventDoes i = t) : exec i s = .next t.finish := by
  rw [exec_powered hu (.inl h), State.does, hi]
  exact ht ▸ rfl

/-- A request refused before it changes anything. -/
theorem State.counted_refuse {kind : Nat} (hk : requestKinds.contains kind = true) (s : State) (tag : Nat) (code : Code) :
    s.counted.refuse kind tag code [] = s.refused kind tag code := State.refuse_replied hk _ tag code

theorem Ix4.ofNum_none' {n : Nat} (h : n = 0 ∨ 4 < n) : Ix4.ofNum n = none := Ix4.ofNum_none (by omega)

/-! ## The status reads -/

/-- Settles O27: each read is its owner's answer and its group's auto-clear. -/
theorem statusReadsChangeNothingElse : Obligations.StatusReadsChangeNothingElse := by
  intro tag s hs
  refine ⟨fun l => ⟨?_, ?_⟩, ?_, rfl, ?_, ?_, ?_, ?_, fun n hn => ⟨?_, ?_⟩⟩
  · refine exec_serves_to rfl hs ?_
    show State.ownLaneStatus tag l.num s.counted = _
    rw [State.ownLaneStatus, Ix4.ofNum_num]
    dsimp only
    rw [State.ok_replied rfl]
    rfl
  · refine exec_serves_to rfl hs ?_
    show State.ownLoadStatus tag l.num s.counted = _
    rw [State.ownLoadStatus, Ix4.ofNum_num]
    dsimp only
    rw [State.reply_replied rfl]
    rfl
  · exact exec_serves_to rfl hs (congrArg (·.autoClear .air .i1) (State.ok_replied (kind := 0x24) rfl _ tag _))
  · exact exec_serves_to rfl hs (congrArg (·.autoClear .dispenser .i1) (State.ok_replied (kind := 0x2A) rfl _ tag _))
  · exact exec_serves_to rfl hs (congrArg (·.autoClear .capture .i1) (State.ok_replied (kind := 0x3A) rfl _ tag _))
  · exact exec_serves_to rfl hs (congrArg (·.autoClear .journal .i1) (State.ok_replied (kind := 0x40) rfl _ tag _))
  · exact exec_serves_to rfl hs (congrArg (·.autoClear .alarm .i1) (State.ok_replied (kind := 0x4D) rfl _ tag _))
  · refine exec_serves_to rfl hs ?_
    show State.ownLaneStatus tag n s.counted = _
    rw [State.ownLaneStatus, Ix4.ofNum_none' hn]
    exact State.counted_refuse rfl s tag _
  · refine exec_serves_to rfl hs ?_
    show State.ownLoadStatus tag n s.counted = _
    rw [State.ownLoadStatus, Ix4.ofNum_none' hn]
    exact State.counted_refuse rfl s tag _

/-! ## Power loss (R204, R209) -/

theorem cutBytes_elsewhere {m : Memory} (h : m.wf = true) (i k : Nat) {steps : List (Nat × Byte)} (n : Nat) (left : Byte)
    {address : Nat} (ha : ∀ p ∈ steps, address ≠ slotAddress i k p.1) :
    (cutBytes m i k steps n left).read address = m.read address := by
  induction steps generalizing m n with
  | nil => cases n <;> rfl
  | cons p steps ih =>
    have hp : address ≠ slotAddress i k p.1 := ha p List.mem_cons_self
    have hread : ∀ v, (m.program (slotAddress i k p.1) v).read address = m.read address := fun v => by
      rw [Memory.read_program h, if_neg hp]
    cases n with
    | zero => exact hread _
    | succ n =>
      exact (ih (Memory.program_wf _ _ h) n fun q hq => ha q (List.mem_cons_of_mem _ hq)).trans (hread _)

/-- An append programs the first 28 bytes of its slot (R209). -/
theorem Record.writing_offsets (r : Record) : ∀ p ∈ r.writing ++ r.closing, p.1 < 28 := by
  intro p hp
  simp only [Record.writing, List.cons_append, List.mem_cons, List.mem_append] at hp
  rcases hp with rfl | rfl | hp | hp
  · decide
  · exact Nat.one_lt_ofNat
  · have := (List.of_mem_zip hp).1
    simp only [List.mem_map, List.mem_range] at this
    omega
  · unfold Record.closing at hp
    split at hp <;> simp_all

/-- An append point with a slot left is where the next append goes (R144). -/
theorem JN.advance_room {jn : JN} {i k : Nat} (h : jn.filling = some (i, k)) (hk : k < 128) : jn.advance = jn := by
  have hk' : k < Config.slotsPerSegment := hk
  simp only [JN.advance, h, if_pos hk']

theorem JN.target_append {jn : JN} {i k : Nat} (h : jn.filling = some (i, k)) (hk : k < 128) (r : Record) :
    jn.target (.append r) = some (i, k) := by
  rw [JN.target, JN.advance_room h hk, h]

/-- The queue's head that is being programmed, cut off: its bytes are those of `cutBytes` in its slot. -/
theorem JN.cut_append {jn : JN} {p : Program} {rest : List Program} {r : Record} {i k : Nat} (hb : jn.busy = true)
    (hq : jn.queue = p :: rest) (hw : p.work = .append r) (ht : jn.target (.append r) = some (i, k)) (n : Nat) (b : Byte) :
    (jn.cut n b).mem = cutBytes jn.mem i k (r.writing ++ r.closing) n b := by
  simp only [JN.cut, hb, hq, hw, ht]

theorem JN.cut_mark {jn : JN} {p : Program} {rest : List Program} {q i k : Nat} (hb : jn.busy = true)
    (hq : jn.queue = p :: rest) (hw : p.work = .mark q) (hf : jn.find q = some (i, k)) (n : Nat) (b : Byte) :
    (jn.cut n b).mem = cutBytes jn.mem i k (jn.stepsOf p) n b := by
  simp only [JN.cut, hb, hq, hw, JN.target, hf]

/-- A reconcile mark programs the status alone (R209). -/
theorem JN.stepsOf_mark {jn : JN} {p : Program} {q : Nat} (hw : p.work = .mark q) (hr : p.redo = none) :
    ∀ x ∈ jn.stepsOf p, x.1 = 0 := by
  cases ht : jn.target (.mark q) with
  | none => simp [JN.stepsOf, JN.changeSteps, hr, hw, ht]
  | some f =>
    simp only [JN.stepsOf, JN.changeSteps, hr, hw, ht, Option.getD_none]
    split <;> simp

theorem JN.cut_mem (jn : JN) (n : Nat) (b : Byte) : jn.cut n b = { jn with mem := (jn.cut n b).mem } := by
  unfold JN.cut
  (repeat' split) <;> rfl

theorem JN.cut_idle {jn : JN} (h : jn.busy = false) (n : Nat) (b : Byte) : jn.cut n b = jn := by
  simp only [JN.cut, h]

theorem exec_powerLoss {s : State} (h : s.phase ≠ .off) (cut : StoreCut) (n : Nat) (b : Byte) :
    exec (.powerLoss cut n b) s = .next { s with phase := .off, store := s.store.cut cut, jn := s.jn.cut n b } := by
  show Host.Outcome.next (if s.powered = true then _ else s) = _
  rw [if_pos (State.powered_on h)]

/-- A command that is no level's change leaves an unpowered part as it is. -/
theorem exec_at_rest {c : Instr} {s : State} (h : s.phase = .off) (hl : isLevelChange c = false) (ht : c ≠ .deviceClockTick)
    (hp : ∀ a b, c ≠ .powerOn a b) : exec c s = .next s := by
  by_cases hloss : ∃ cut n b, c = .powerLoss cut n b
  · obtain ⟨cut, n, b, rfl⟩ := hloss
    show Host.Outcome.next (if s.powered = true then _ else s) = _
    rw [if_neg (by simp [State.powered, h])]
  · have hu : leavesUnfinished c = false := by cases c <;> simp_all [leavesUnfinished]
    have hn : isPowerOn c = false := by cases c <;> simp_all [isPowerOn]
    rw [exec_unpowered hu hn h]
    exact congrArg _ (by cases c <;> simp_all [State.follows, isLevelChange])

/-- Settles O16: the cut store and the cut program, and the rest of a part without supply. -/
theorem powerLossAndTheUnpoweredPart : Obligations.PowerLossAndTheUnpoweredPart := by
  refine ⟨fun n b s hs => ⟨fun hb => ?_, fun hb => ?_, fun hb => ?_, fun cut => exec_powerLoss hs cut n b,
    JN.cut_mem s.jn n b, fun p rest r i k hm hb hq hw hf hk address ha => ?_, fun p rest q i k hm hb hq hw hr hf address ha => ?_⟩,
    fun c s hs hl ht hp => exec_at_rest hs hl ht hp⟩
  · rw [exec_powerLoss hs, JN.cut_idle hb]
    rfl
  · rw [exec_powerLoss hs, JN.cut_idle hb]
    rfl
  · rw [exec_powerLoss hs, JN.cut_idle hb]
    rfl
  · rw [JN.cut_append hb hq hw (JN.target_append hf hk r)]
    exact cutBytes_elsewhere hm i k n b fun x hx => ha x.1 (r.writing_offsets x hx)
  · rw [JN.cut_mark hb hq hw hf]
    exact cutBytes_elsewhere hm i k n b fun x hx => by rwa [JN.stepsOf_mark hw hr x hx]

/-! ## Reset -/

theorem reset_laneRec (l : Lane) : State.reset.laneRec l = .initial LaneSettings.default false := by cases l <;> rfl

theorem reset_carrier (l : Lane) : State.reset.carrier l = ⟨.unknown, .none, none⟩ := by cases l <;> rfl

/-- Every instance of a set that was just made is neither pending nor enabled. -/
theorem LC.initial_condition (clock : Nat) (clockSet : Bool) (kind : StartKind) (failed : Bool) (n : Nat) :
    (LC.initial clock clockSet kind failed).isPending n = false ∧ (LC.initial clock clockSet kind failed).isEnabled n = false := by
  simp only [LC.isPending, LC.isEnabled, LC.initial, List.getElem?_replicate]
  by_cases h : n - 1 < Config.conditions <;> simp [h]

theorem reset_tubeFormed : State.reset.tubeFormed := by
  refine ⟨List.nodup_nil, Nat.zero_le _, fun l => ?_, fun l => ?_, fun e he => ?_, fun _ => ⟨rfl, fun l => ?_⟩⟩
  · rw [reset_carrier]
    exact ⟨nofun, fun ⟨_, he, _⟩ => nomatch he⟩
  · rw [reset_carrier]
    exact ⟨nofun, fun ⟨_, he, _⟩ => nomatch he⟩
  · exact nomatch he
  · rw [reset_carrier]

theorem reset_loadsFormed : State.reset.loadsFormed :=
  ⟨by decide, by decide, List.nodup_nil, fun _ h => (List.not_mem_nil h).elim, by decide, by decide⟩

/-- Four ledgers at their defaults balance. -/
theorem default_ledgersBalance : ledgersBalance (Four.const Ledger.default).get := by
  refine ⟨fun c => ?_, fun c d h => ?_⟩
  · rw [Four.get_const]
    decide
  · rw [Four.get_const] at h
    exact absurd h (by decide)

theorem reset_ledgersFormed : State.reset.ledgersFormed := by
  refine ⟨?_, default_ledgersBalance, default_ledgersBalance, default_ledgersBalance⟩
  have : (fun c => (State.reset.cass c).kept) = (Four.const Ledger.default).get := by
    funext c
    cases c <;> rfl
  rw [this]
  exact default_ledgersBalance

/-- Settles O17. -/
theorem resetLeavesTheStatedValues : Obligations.ResetLeavesTheStatedValues := by
  refine ⟨rfl, rfl, rfl, fun l => ?_, rfl, rfl, rfl, rfl, rfl, rfl, rfl, rfl, rfl, rfl, rfl, rfl, rfl, rfl, rfl, rfl,
    LC.initial_condition 0 false .powerOn false, rfl, by decide, by decide, fun _ => ⟨rfl, rfl⟩, ⟨rfl, rfl, rfl, rfl⟩,
    reset_tubeFormed, reset_loadsFormed, ⟨by decide, by decide, by decide, by decide⟩, reset_ledgersFormed,
    fun h => absurd rfl h, fun _ h => (List.not_mem_nil h).elim⟩
  rw [reset_laneRec, reset_carrier]
  exact ⟨rfl, rfl, rfl, rfl⟩

end Sys2Proof.Machine
end

section
/-! The start-ups (chapters 8 and 10): what the scan of the journal finds and sets, the retained items at a start-up,
RESTART and POWER_ON. -/

namespace Sys2Proof.Machine

/-! ## Reading a slot of a segment (R160, R161) -/

/-- The bytes of a segment read as those of the memory. -/
theorem read_segmentCells {m : Memory} (hm : m.wf = true) {i k off : Nat} (hk : k < 128) (ho : off < 32) :
    Memory.read (segmentCells m i) (slotAddress i k off) = m.read (slotAddress i k off) := by
  have h := Memory.read_filterFrom (fun a => decide (segmentAddress i ≤ a ∧ a < segmentAddress i + segmentBytes)) hm
    (slotAddress i k off)
  have hin : segmentAddress i ≤ slotAddress i k off ∧ slotAddress i k off < segmentAddress i + segmentBytes := by
    simp only [segmentAddress, segmentBytes, slotAddress, Config.slotsPerSegment, Config.slotBytes]
    omega
  simpa [segmentCells, hin] using h

theorem slotRead_segmentCells {m : Memory} (hm : m.wf = true) {i k off len : Nat} (hk : k < 128) (ho : off + len ≤ 32) :
    slotRead (segmentCells m i) i k off len = slotRead m i k off len :=
  List.map_congr_left fun x hx => read_segmentCells hm hk (by have := List.mem_range.mp hx; omega)

theorem readSlot_segmentCells {m : Memory} (hm : m.wf = true) {i k : Nat} (hk : k < 128) :
    readSlot (segmentCells m i) i k = readSlot m i k := by
  simp only [readSlot, read_segmentCells hm hk (show 0 < 32 by decide), read_segmentCells hm hk (show 2 < 32 by decide),
    slotRead_segmentCells hm hk (show 26 + 2 ≤ 32 by decide), slotRead_segmentCells hm hk (show 2 + 24 ≤ 32 by decide),
    slotRead_segmentCells hm hk (show 4 + 4 ≤ 32 by decide), slotRead_segmentCells hm hk (show 12 + 4 ≤ 32 by decide)]

/-- A record found in a slot: its status is a record's, its check matches, and its fields are its bytes' (R161, R209). -/
theorem readSlot_record {m : Memory} {i k seq kind capture : Nat} {written : Bool}
    (h : readSlot m i k = .record seq kind capture written) :
    (slotState (m.read (slotAddress i k 0)) = some .written ∨ slotState (m.read (slotAddress i k 0)) = some .closed ∨
        slotState (m.read (slotAddress i k 0)) = some .reconciled) ∧
      slotRead m i k 26 2 = crcBytes (slotRead m i k 2 24) ∧ number (slotRead m i k 4 4) = seq ∧
      (m.read (slotAddress i k 2)).toNat = kind ∧ number (slotRead m i k 12 4) = capture ∧
      (written = true ↔ slotState (m.read (slotAddress i k 0)) = some .written) := by
  unfold readSlot at h
  split at h
  · cases h
  · cases h
  · cases h
  · next st hvoid herased hst =>
    split at h
    · next hcrc =>
      injection h with hseq hkind hcapture hwritten
      refine ⟨?_, hcrc, hseq, hkind, hcapture, ?_⟩
      · rw [hst]
        cases st <;> simp_all
      · rw [hst, ← hwritten]
        cases st <;> simp
    · cases h

/-! ## What the scan finds in a segment (R160, R161) -/

/-- A segment that is not well formed holds no record. -/
theorem JN.scanSegment_unformed {jn : JN} {i : Nat} (h : ∀ run, jn.classify i ≠ .formed run) :
    (jn.scanSegment i).cls = jn.classify i ∧ (jn.scanSegment i).records = [] := by
  unfold JN.scanSegment
  split
  · next run hrun => exact absurd hrun (h run)
  · exact ⟨rfl, rfl⟩

theorem JN.scanSegment_cls (jn : JN) (i : Nat) : (jn.scanSegment i).cls = jn.classify i := by
  unfold JN.scanSegment
  split
  · next h => exact h.symm
  · rfl

/-- A segment whose erase was begun and not verified is in neither clean form (R160). -/
theorem JN.classify_torn {jn : JN} {i : Nat} (h : (jn.seg i).torn = true) : jn.classify i = .interrupted := by
  rw [JN.classify, if_pos h]

/-- A run is no longer than its segment (R160). -/
theorem JN.classify_run {jn : JN} {i run : Nat} (h : jn.classify i = .formed run) : run ≤ 128 := by
  have hlen : ∀ p : Nat → Bool, (((List.range Config.slotsPerSegment).map fun k => (k, p k)).takeWhile (·.2)).length ≤ 128 :=
    fun p => le_trans (List.takeWhile_prefix _).length_le (by simp [Config.slotsPerSegment])
  unfold JN.classify at h
  dsimp only at h
  (repeat' split at h) <;> cases h
  exact hlen _

/-- A record found in a segment stands in one of its slots and is read from it. -/
theorem JN.scanSegment_record {jn : JN} (hm : jn.mem.wf = true) {i : Nat} {r : FoundRecord}
    (h : r ∈ (jn.scanSegment i).records) :
    r.segment = i ∧ r.slot < 128 ∧ readSlot jn.mem i r.slot = .record r.seq r.kind r.capture r.written := by
  unfold JN.scanSegment at h
  split at h
  · next run hrun =>
    simp only [List.mem_filterMap, List.mem_map, List.mem_range] at h
    obtain ⟨x, ⟨k, hk, rfl⟩, hx⟩ := h
    have hk' : k < 128 := lt_of_lt_of_le hk (JN.classify_run hrun)
    rw [readSlot_segmentCells hm hk'] at hx
    dsimp only at hx
    split at hx
    · next hread =>
      cases hx
      exact ⟨rfl, hk', hread⟩
    · cases hx
  · cases h

/-! ## The scan's lists -/

/-- The higher of two records, the first where their sequences are equal. -/
def FoundRecord.higher (b r : FoundRecord) : FoundRecord := if b.seq < r.seq then r else b

/-- The best of a run of records, from a first one on. -/
theorem highest_cons (r : FoundRecord) (rs : List FoundRecord) :
    highest (r :: rs) = some (rs.foldl FoundRecord.higher r) := by
  rw [highest, List.foldl_cons]
  dsimp only
  induction rs generalizing r with
  | nil => rfl
  | cons x rs ih =>
    rw [List.foldl_cons, List.foldl_cons, FoundRecord.higher]
    dsimp only
    split
    · exact ih x
    · exact ih r

theorem foldl_higher (rs : List FoundRecord) (b : FoundRecord) :
    (rs.foldl FoundRecord.higher b = b ∨ rs.foldl FoundRecord.higher b ∈ rs) ∧
      b.seq ≤ (rs.foldl FoundRecord.higher b).seq ∧ ∀ r ∈ rs, r.seq ≤ (rs.foldl FoundRecord.higher b).seq := by
  induction rs generalizing b with
  | nil => simp
  | cons r rs ih =>
    obtain ⟨hmem, hb, hle⟩ := ih (b.higher r)
    have hhigher : (b.higher r = b ∨ b.higher r = r) ∧ b.seq ≤ (b.higher r).seq ∧ r.seq ≤ (b.higher r).seq := by
      unfold FoundRecord.higher
      split
      · next h => exact ⟨.inr rfl, Nat.le_of_lt h, Nat.le_refl _⟩
      · next h => exact ⟨.inl rfl, Nat.le_refl _, Nat.not_lt.mp h⟩
    obtain ⟨hwhich, hb', hr'⟩ := hhigher
    rw [List.foldl_cons]
    refine ⟨?_, le_trans hb' hb, List.forall_mem_cons.mpr ⟨le_trans hr' hb, hle⟩⟩
    rcases hmem with h | h
    · rw [h]
      exact hwhich.imp id fun h => by rw [h]; exact List.mem_cons_self
    · exact .inr (List.mem_cons_of_mem _ h)

/-- The highest record is one of the records, and none has a higher sequence. -/
theorem highest_some {rs : List FoundRecord} {t : FoundRecord} (h : highest rs = some t) :
    t ∈ rs ∧ ∀ r ∈ rs, r.seq ≤ t.seq := by
  cases rs with
  | nil => cases h
  | cons r rs =>
    rw [highest_cons] at h
    cases h
    obtain ⟨hmem, hb, hle⟩ := foldl_higher rs r
    exact ⟨List.mem_cons.mpr hmem, List.forall_mem_cons.mpr ⟨hb, hle⟩⟩

theorem highest_none {rs : List FoundRecord} (h : highest rs = none) : rs = [] := by
  cases rs with
  | nil => rfl
  | cons r rs =>
    rw [highest_cons] at h
    cases h

theorem mem_insertFound {e x : FoundRecord} {rs : List FoundRecord} : x ∈ insertFound e rs ↔ x = e ∨ x ∈ rs := by
  induction rs with
  | nil => simp [insertFound]
  | cons f fs ih =>
    unfold insertFound
    split
    · simp
    · simp only [List.mem_cons, ih]
      tauto

/-- Sorted by sequence, the records are the records. -/
theorem mem_foldr_insertFound {x : FoundRecord} {rs : List FoundRecord} : x ∈ rs.foldr insertFound [] ↔ x ∈ rs := by
  induction rs with
  | nil => simp
  | cons r rs ih => simp [mem_insertFound, ih]

/-! ## The scan in two halves (R160 to R165) -/

/-- What the scan finds, segment by segment. -/
def JN.found (jn : JN) : List (Nat × SegFound) := (List.range Config.segments).map fun i => (i, jn.scanSegment i)

/-- The records the scan finds. -/
def JN.foundRecords (jn : JN) : List FoundRecord := jn.found.flatMap fun f => f.2.records

/-- The journal as the scan sets it, its programs in the queue (R160 to R163). -/
def JN.scanned (jn : JN) : JN :=
  { jn with
    segs := jn.found.map fun f => { state := scanState (scanFilling jn.found) f.1 f.2.cls,
                                    records := f.2.records.map fun r => (r.slot, r.seq), torn := (jn.seg f.1).torn }
    filling := scanFilling jn.found
    queue := (jn.found.flatMap fun f => f.2.bad.map fun k => { owner := .scan, work := .voidSlot f.1 k }) ++
      ((jn.foundRecords.filter (·.written)).foldr insertFound []).map scanClose
    failed := (scanFilling jn.found).isNone
    counter := match highest jn.foundRecords with
      | some r => if r.seq = Config.max32 then Config.max32 else r.seq + 1
      | none => 1
    exhausted := (highest jn.foundRecords).any fun r => r.seq = Config.max32 }

/-- The journal and the capture counter as the scan sets them. -/
def State.scanSets (s : State) : State :=
  { s with jn := s.jn.scanned, cu := { s.cu with set := s.cu.set.raisedBy (highestCapture s.jn.foundRecords) } }

/-- What the scan tells the bin and the host. -/
def State.scanTells (s : State) (rs : List FoundRecord) : State :=
  let s := s.scanBin rs
  let s := if s.jn.free ≤ Config.journalLow then s.raise .journalLow (u16 s.jn.free) else s
  if s.jn.failed then s.raiseBare .journalFailed else s

theorem State.scan_eq (s : State) : s.scan = ((s.scanSets.scanTells s.jn.foundRecords).jnRun).scanStepEnds := rfl

/-! ## The segments the scan leaves -/

theorem JN.mem_found {jn : JN} {i : Nat} {g : SegFound} : (i, g) ∈ jn.found ↔ i < 16 ∧ g = jn.scanSegment i := by
  simp only [JN.found, List.mem_map, List.mem_range, Prod.mk.injEq, Config.segments]
  constructor
  · rintro ⟨a, ha, rfl, rfl⟩
    exact ⟨ha, rfl⟩
  · rintro ⟨hi, rfl⟩
    exact ⟨i, hi, rfl, rfl⟩

theorem JN.mem_foundRecords {jn : JN} {r : FoundRecord} :
    r ∈ jn.foundRecords ↔ ∃ i, i < 16 ∧ r ∈ (jn.scanSegment i).records := by
  simp only [JN.foundRecords, List.mem_flatMap, Prod.exists, JN.mem_found]
  constructor
  · rintro ⟨i, g, ⟨hi, rfl⟩, hr⟩
    exact ⟨i, hi, hr⟩
  · rintro ⟨i, hi, hr⟩
    exact ⟨i, _, ⟨hi, rfl⟩, hr⟩

theorem JN.scanned_seg {jn : JN} {i : Nat} (hi : i < 16) :
    jn.scanned.seg i = { state := scanState (scanFilling jn.found) i (jn.classify i),
                         records := (jn.scanSegment i).records.map fun r => (r.slot, r.seq), torn := (jn.seg i).torn } := by
  have hi' : i < Config.segments := hi
  simp [JN.scanned, JN.seg, JN.found, hi', JN.scanSegment_cls]

theorem JN.scanned_seg_none {jn : JN} {i : Nat} (hi : ¬ i < 16) : (jn.scanned.seg i).records = [] := by
  have hi' : Config.segments ≤ i := Nat.not_lt.mp hi
  simp [JN.scanned, JN.seg, JN.found, hi']

/-- A record of the directory that the scan sets is one it found. -/
theorem JN.scanned_records {jn : JN} {i k q : Nat} :
    (k, q) ∈ (jn.scanned.seg i).records ↔ i < 16 ∧ ∃ r ∈ (jn.scanSegment i).records, r.slot = k ∧ r.seq = q := by
  by_cases hi : i < 16
  · rw [JN.scanned_seg hi]
    simp [hi]
  · rw [JN.scanned_seg_none hi]
    simp [hi]

/-- The segment that takes the appends is one of the ring's, well formed or erased (R162). -/
theorem scanFilling_spec {jn : JN} (hm : jn.mem.wf = true) {i k : Nat} (h : scanFilling jn.found = some (i, k)) :
    i < 16 ∧ jn.classify i ≠ .interrupted := by
  unfold scanFilling at h
  split at h
  · next r hr =>
    obtain ⟨f, hf, hfi⟩ := Option.map_eq_some_iff.mp h
    cases hfi
    obtain ⟨j, g⟩ := f
    obtain ⟨hj, rfl⟩ := JN.mem_found.mp (List.mem_of_find?_eq_some hf)
    have hseg := List.find?_some hf
    simp only [decide_eq_true_eq] at hseg
    obtain ⟨l, hl, hrl⟩ := JN.mem_foundRecords.mp (highest_some hr).1
    have hrj : r.segment = l := (JN.scanSegment_record hm hrl).1
    refine ⟨hj, fun hcls => ?_⟩
    have hnone := (JN.scanSegment_unformed (jn := jn) (i := j) fun run => by rw [hcls]; nofun).2
    rw [← hrj, ← hseg, hnone] at hrl
    cases hrl
  · obtain ⟨f, hf, hfi⟩ := Option.map_eq_some_iff.mp h
    cases hfi
    obtain ⟨j, g⟩ := f
    obtain ⟨hj, rfl⟩ := JN.mem_found.mp (List.mem_of_find?_eq_some hf)
    have hcls := List.find?_some hf
    rw [JN.scanSegment_cls] at hcls
    exact ⟨hj, by simpa using hcls⟩

/-- A segment whose erase was begun and not verified waits for erase, with no records (R160). -/
theorem JN.scanned_torn {jn : JN} (hm : jn.mem.wf = true) {i : Nat} (hi : i < 16) (h : (jn.seg i).torn = true) :
    (jn.scanned.seg i).state = .pendingErase ∧ (jn.scanned.seg i).records = [] := by
  have hcls := JN.classify_torn h
  rw [JN.scanned_seg hi, (JN.scanSegment_unformed fun run => by rw [hcls]; nofun).2, hcls]
  refine ⟨?_, rfl⟩
  have hfill : (scanFilling jn.found).any (fun f => f.1 = i) = false := by
    cases hf : scanFilling jn.found with
    | none => rfl
    | some f =>
      obtain ⟨j, k⟩ := f
      have hne : j ≠ i := fun e => (scanFilling_spec hm hf).2 (e ▸ hcls)
      simp [hne]
  rw [scanState, hfill]
  rfl

/-- A segment the scan leaves ERASED holds no record. -/
theorem JN.scanned_erased {jn : JN} {i : Nat} (h : (jn.scanned.seg i).state = .erased) : (jn.scanned.seg i).records = [] := by
  by_cases hi : i < 16
  · rw [JN.scanned_seg hi] at h ⊢
    have hcls : ∀ run, jn.classify i ≠ .formed run := fun run hrun => by
      simp only [hrun, scanState] at h
      split at h <;> cases h
    rw [(JN.scanSegment_unformed hcls).2]
    rfl
  · exact JN.scanned_seg_none hi

/-- The sequence counter stands above every record found, or is exhausted (R146, R162). -/
theorem JN.scanned_counter {jn : JN} {r : FoundRecord} (h : r ∈ jn.foundRecords) :
    r.seq < jn.scanned.counter ∨ jn.scanned.exhausted = true := by
  cases ht : highest jn.foundRecords with
  | none =>
    rw [highest_none ht] at h
    cases h
  | some t =>
    have hle := (highest_some ht).2 r h
    by_cases hmax : t.seq = Config.max32
    · exact .inr (by simp [JN.scanned, ht, hmax])
    · exact .inl (by simp only [JN.scanned, ht, if_neg hmax]; omega)

/-! ## The directory after the start-up's programs begin -/

/-- Every ERASED segment is without records, and the segment that takes the appends waits for no erase. -/
def JN.tidy (jn : JN) : Prop :=
  (∀ i, (jn.seg i).state = .erased → (jn.seg i).records = []) ∧
    ∀ i k, jn.filling = some (i, k) → (jn.seg i).state ≠ .pendingErase

/-- The directory, the segments that wait for erase, and the counter, kept by what follows the scan. -/
def JN.keepsDirectory (jn jn' : JN) : Prop :=
  jn.tidy → jn'.tidy ∧ (∀ i, (jn'.seg i).records = (jn.seg i).records) ∧
    (∀ i, (jn.seg i).state = .pendingErase → (jn'.seg i).state = .pendingErase) ∧
    jn.counter ≤ jn'.counter ∧ (jn.exhausted = true → jn'.exhausted = true)

theorem JN.keepsDirectory_of_segs {jn jn' : JN} (hs : jn'.segs = jn.segs) (hf : jn'.filling = jn.filling)
    (hc : jn.counter ≤ jn'.counter) (he : jn.exhausted = true → jn'.exhausted = true) : jn.keepsDirectory jn' := by
  have hseg : ∀ i, jn'.seg i = jn.seg i := fun i => by simp only [JN.seg, hs]
  intro htidy
  refine ⟨?_, fun i => by rw [hseg], fun i h => by rw [hseg, h], hc, he⟩
  simpa only [JN.tidy, hseg, hf] using htidy

theorem JN.keepsDirectory_refl (jn : JN) : jn.keepsDirectory jn :=
  JN.keepsDirectory_of_segs rfl rfl (Nat.le_refl _) id

theorem JN.keepsDirectory_trans {a b c : JN} (h : a.keepsDirectory b) (h' : b.keepsDirectory c) : a.keepsDirectory c := by
  intro htidy
  obtain ⟨hb, hr, hp, hc, he⟩ := h htidy
  obtain ⟨hb', hr', hp', hc', he'⟩ := h' hb
  exact ⟨hb', fun i => (hr' i).trans (hr i), fun i h => hp' i (hp i h), le_trans hc hc', fun h => he' (he h)⟩

/-- A segment after the change of one is that change's or as before. -/
theorem JN.seg_modSeg (jn : JN) (i k : Nat) (f : Segment → Segment) :
    (k = i ∧ (jn.modSeg i f).seg k = f (jn.seg k)) ∨ (jn.modSeg i f).seg k = jn.seg k := by
  simp only [JN.seg, JN.modSeg, List.getD_eq_getElem?_getD, getElem?_modifyAt]
  by_cases hk : k = i
  · rw [if_pos hk]
    cases jn.segs[k]? with
    | none => exact .inr rfl
    | some g => exact .inl ⟨hk, rfl⟩
  · rw [if_neg hk]
    exact .inr rfl

theorem JN.nextErased_erased {jn : JN} {i j : Nat} (h : jn.nextErased i = some j) : (jn.seg j).state = .erased := by
  have := List.find?_some (show List.find? _ _ = some j from h)
  simpa using this

/-- The ring's advance from the full segment i into the ERASED segment j (R144). -/
def JN.advanced (jn : JN) (i j : Nat) : JN :=
  { (jn.modSeg i fun g => { g with state := .full }).modSeg j fun g => { g with state := .filling, records := [] } with
    filling := some (j, 0) }

theorem JN.advance_cases (jn : JN) :
    jn.advance = jn ∨ ∃ i next j, jn.filling = some (i, next) ∧ jn.nextErased i = some j ∧ jn.advance = jn.advanced i j := by
  unfold JN.advance
  split
  · exact .inl rfl
  · next i next hf =>
    split
    · exact .inl rfl
    · split
      · exact .inl rfl
      · next j hj => exact .inr ⟨i, next, j, hf, hj, rfl⟩

theorem JN.advanced_seg (jn : JN) (i j k : Nat) :
    (k = j ∧ (jn.advanced i j).seg k = { jn.seg k with state := .filling, records := [] }) ∨
      (k = i ∧ (jn.advanced i j).seg k = { jn.seg k with state := .full }) ∨ (jn.advanced i j).seg k = jn.seg k := by
  have hsegs : (jn.advanced i j).seg k = JN.seg ((jn.modSeg i fun g => { g with state := .full }).modSeg j fun g =>
    { g with state := .filling, records := [] }) k := rfl
  rw [hsegs]
  rcases JN.seg_modSeg (jn.modSeg i fun g => { g with state := .full }) j k fun g =>
      { g with state := .filling, records := [] } with ⟨hk, h⟩ | h <;> rw [h] <;>
    rcases JN.seg_modSeg jn i k fun g => { g with state := .full } with ⟨hk', h'⟩ | h' <;> rw [h']
  · exact .inl ⟨hk, rfl⟩
  · exact .inl ⟨hk, rfl⟩
  · exact .inr (.inl ⟨hk', rfl⟩)
  · exact .inr (.inr rfl)

/-- The ring's advance keeps the directory: the segment it takes was without records (R144). -/
theorem JN.advance_keepsDirectory (jn : JN) : jn.keepsDirectory jn.advance := by
  rcases jn.advance_cases with h | ⟨i, next, j, hf, hj, h⟩ <;> rw [h]
  · exact jn.keepsDirectory_refl
  have herased := JN.nextErased_erased hj
  intro htidy
  have hnone := htidy.1 j herased
  have hnot := htidy.2 i next hf
  have hseg := jn.advanced_seg i j
  refine ⟨⟨fun k hk => ?_, fun a b hab => ?_⟩, fun k => ?_, fun k hk => ?_, Nat.le_refl _, id⟩
  · rcases hseg k with ⟨-, h⟩ | ⟨-, h⟩ | h <;> rw [h] at hk ⊢
    · cases hk
    · exact htidy.1 k hk
  · obtain ⟨rfl, -⟩ : j = a ∧ 0 = b := by simpa [JN.advanced] using hab
    rcases hseg j with ⟨-, h⟩ | ⟨-, h⟩ | h <;> rw [h]
    · nofun
    · nofun
    · rw [herased]
      nofun
  · rcases hseg k with ⟨rfl, h⟩ | ⟨-, h⟩ | h <;> rw [h]
    exact hnone.symm
  · rcases hseg k with ⟨rfl, -⟩ | ⟨rfl, -⟩ | h
    · rw [herased] at hk
      cases hk
    · exact absurd hk hnot
    · rw [h, hk]

/-- The segments the scan leaves are in order. -/
theorem JN.scanned_tidy {jn : JN} (hm : jn.mem.wf = true) : jn.scanned.tidy := by
  refine ⟨fun i h => JN.scanned_erased h, fun i k h => ?_⟩
  have hf : scanFilling jn.found = some (i, k) := h
  rw [JN.scanned_seg (scanFilling_spec hm hf).1, hf]
  simp [scanState]

/-! ## The engine at the start (R149) -/

theorem JN.startRead_keepsDirectory (jn : JN) : jn.keepsDirectory jn.startRead := by
  unfold JN.startRead
  (repeat' split) <;> exact JN.keepsDirectory_of_segs rfl rfl (Nat.le_refl _) id

theorem JN.startProgram_keepsDirectory (jn : JN) : jn.keepsDirectory jn.startProgram := by
  unfold JN.startProgram
  split
  · exact jn.keepsDirectory_refl
  · split
    · exact jn.keepsDirectory_refl
    · split
      · exact jn.keepsDirectory_refl
      · refine JN.keepsDirectory_trans (b := if _ then jn.advance else jn) ?_ (JN.keepsDirectory_of_segs rfl rfl (Nat.le_refl _) id)
        split
        · exact jn.advance_keepsDirectory
        · exact jn.keepsDirectory_refl

theorem JN.timeErase_keepsDirectory (jn : JN) (now : Nat) : jn.keepsDirectory (jn.timeErase now) := by
  unfold JN.timeErase
  (repeat' split) <;> exact JN.keepsDirectory_of_segs rfl rfl (Nat.le_refl _) id

theorem State.jnRun_keepsDirectory (s : State) : s.jn.keepsDirectory s.jnRun.jn := by
  refine JN.keepsDirectory_trans s.jn.startRead_keepsDirectory ?_
  refine JN.keepsDirectory_trans ?_ (JN.timeErase_keepsDirectory _ s.now)
  split
  · exact JN.keepsDirectory_refl _
  · exact JN.startProgram_keepsDirectory _

theorem State.append_keepsDirectory (s : State) (owner : Owner) (kind : RecKind) (lane : Nat) (body : List Byte)
    (duress closed : Bool) : s.jn.keepsDirectory (s.append owner kind lane body duress closed).1.jn := by
  unfold State.append
  split
  · refine JN.keepsDirectory_trans ?_ (State.jnRun_keepsDirectory _)
    simp only [State.noteFree_frame]
    refine JN.keepsDirectory_of_segs rfl rfl ?_ fun h => ?_
    · dsimp only
      split <;> omega
    · next hadmits => simp [JN.admits, h] at hadmits
  · exact s.jn.keepsDirectory_refl

theorem State.formRun_keepsDirectory (s : State) : s.jn.keepsDirectory s.formRun.jn := by
  unfold State.formRun
  split <;> exact JN.keepsDirectory_of_segs rfl rfl (Nat.le_refl _) id

theorem State.beginPowerRecord_keepsDirectory (s : State) : s.jn.keepsDirectory s.beginPowerRecord.jn := by
  unfold State.beginPowerRecord
  dsimp only
  split
  · exact s.append_keepsDirectory _ _ _ _ _ _
  · exact JN.keepsDirectory_trans (s.append_keepsDirectory _ _ _ _ _ _) (JN.keepsDirectory_of_segs rfl rfl (Nat.le_refl _) id)

theorem State.scanEnds_keepsDirectory (s : State) : s.jn.keepsDirectory s.scanEnds.jn := by
  have h := JN.keepsDirectory_trans s.binCheck.formRun_keepsDirectory s.binCheck.formRun.beginPowerRecord_keepsDirectory
  rw [show s.binCheck.jn = s.jn by simp] at h
  exact h

theorem State.scanStepEnds_keepsDirectory (s : State) : s.jn.keepsDirectory s.scanStepEnds.jn := by
  unfold State.scanStepEnds
  split
  · split
    · exact s.scanEnds_keepsDirectory
    · exact s.jn.keepsDirectory_refl
  · exact s.jn.keepsDirectory_refl

theorem State.scanTells_jn (s : State) (rs : List FoundRecord) : (s.scanTells rs).jn = s.jn := by
  unfold State.scanTells
  dsimp only
  (repeat' split) <;> simp

/-- What follows the scan keeps the directory it set. -/
theorem State.scan_keepsDirectory (s : State) : s.jn.scanned.keepsDirectory s.scan.jn := by
  rw [State.scan_eq]
  have h := JN.keepsDirectory_trans (State.jnRun_keepsDirectory (s.scanSets.scanTells s.jn.foundRecords))
    (State.scanStepEnds_keepsDirectory _)
  rwa [State.scanTells_jn] at h

/-! ## The bin and the capture counter (R126, R135) -/

theorem State.binTo_cu (s : State) (st : BinState) : (s.binTo st).cu = { s.cu with bin := { s.cu.bin with state := st } } := by
  unfold State.binTo
  split
  · next h => rw [← h]
  · rfl

/-- The bin's state as its sensors check it (R135). -/
def CU.checkedBin (cu : CU) : BinState :=
  if cu.binPresent = false then .removed
  else if cu.binDoorClosed = false then .doorOpen
  else if cu.bin.state = .doorOpen ∨ cu.bin.state = .removed then .unconfirmed else cu.bin.state

theorem State.binCheck_cu (s : State) : s.binCheck.cu = { s.cu with bin := { s.cu.bin with state := s.cu.checkedBin } } := by
  unfold State.binCheck CU.checkedBin
  split
  · exact s.binTo_cu _
  · split
    · exact s.binTo_cu _
    · split
      · next h => simp [s.binTo_cu, h]
      · next h => simp [s.binTo_cu, h]
      · next hd hr => rw [if_neg (not_or.mpr ⟨hd, hr⟩)]

theorem State.scanBin_cu (s : State) (rs : List FoundRecord) : (s.scanBin rs).cu =
    { s.cu with bin := { s.cu.bin with state :=
      if (rs.any fun r => r.kind = 1 ∧ r.written) ∧ s.cu.binPresent ∧ s.cu.binDoorClosed then .unconfirmed
      else s.cu.bin.state } } := by
  unfold State.scanBin
  split
  · exact s.binTo_cu _
  · rfl

theorem State.scanTells_cu (s : State) (rs : List FoundRecord) : (s.scanTells rs).cu = (s.scanBin rs).cu := by
  unfold State.scanTells
  dsimp only
  (repeat' split) <;> simp

theorem State.scanTells_frame (s : State) (rs : List FoundRecord) :
    (s.scanTells rs).phase = s.phase ∧ (s.scanTells rs).li = s.li := by
  unfold State.scanTells
  dsimp only
  (repeat' split) <;> simp

/-! ## The link through the scan -/

/-- No instance is enabled, as at the beginning of start-up (R195). -/
def LC.unheard (lc : LC) : Prop := ∀ n, lc.isEnabled n = false

/-- Conditions may have risen, and nothing else of a link with no instance enabled has changed (R195, R196). -/
def LC.risesTo (lc lc' : LC) : Prop :=
  lc.unheard → lc' = { lc with conds := lc'.conds } ∧ lc'.unheard ∧ ∀ n, lc.isPending n = true → lc'.isPending n = true

theorem LC.risesTo_refl (lc : LC) : lc.risesTo lc := fun h => ⟨rfl, h, fun _ h => h⟩

theorem LC.risesTo_trans {a b c : LC} (h : a.risesTo b) (h' : b.risesTo c) : a.risesTo c := by
  intro ha
  obtain ⟨hab, hb, hp⟩ := h ha
  obtain ⟨hbc, hc, hp'⟩ := h' hb
  refine ⟨?_, hc, fun n hn => hp' n (hp n hn)⟩
  rw [hab] at hbc
  exact hbc

theorem LC.raise_risesTo (lc : LC) (n : Nat) (o : Option (List Byte)) : lc.risesTo (lc.raise n o) := by
  intro h
  refine ⟨?_, fun k => ?_, fun k hk => lc.raise_keeps n k o hk⟩
  · unfold LC.raise
    split
    · rfl
    · next c hc =>
      have hn : c.enabled = false := by
        have := h n
        rwa [LC.isEnabled, hc] at this
      simp [hn]
  · have hk := h k
    unfold LC.isEnabled at hk ⊢
    rw [LC.raise_conds]
    split
    · next c hc =>
      cases hck : lc.conds[k - 1]? with
      | none => simp [hck] at hc
      | some c' =>
        rw [hck] at hk hc
        dsimp only at hk
        split at hc <;> cases hc <;> exact hk
    · rfl

theorem State.binTo_risesTo (s : State) (st : BinState) : s.lc.risesTo (s.binTo st).lc := by
  unfold State.binTo
  split
  · exact s.lc.risesTo_refl
  · exact s.lc.raise_risesTo _ _

theorem State.binCheck_risesTo (s : State) : s.lc.risesTo s.binCheck.lc := by
  unfold State.binCheck
  (repeat' split) <;> first
    | exact s.binTo_risesTo _
    | exact s.lc.risesTo_refl

theorem State.scanTells_risesTo (s : State) (rs : List FoundRecord) : s.lc.risesTo (s.scanTells rs).lc := by
  have hbin : s.lc.risesTo (s.scanBin rs).lc := by
    unfold State.scanBin
    split
    · exact s.binTo_risesTo _
    · exact s.lc.risesTo_refl
  have hlow : ∀ t : State, t.lc.risesTo
      (if t.jn.free ≤ Config.journalLow then t.raise .journalLow (u16 t.jn.free) else t).lc := fun t => by
    split
    · exact t.lc.raise_risesTo _ _
    · exact t.lc.risesTo_refl
  have hfailed : ∀ t : State, t.lc.risesTo (if t.jn.failed then t.raiseBare .journalFailed else t).lc := fun t => by
    split
    · exact t.lc.raise_risesTo _ _
    · exact t.lc.risesTo_refl
  exact LC.risesTo_trans hbin (LC.risesTo_trans (hlow _) (hfailed _))

theorem State.noteFree_risesTo {s : State} {lc : LC} (h : s.lc = lc) (before : Nat) : lc.risesTo (s.noteFree before).lc := by
  subst h
  unfold State.noteFree
  split
  · exact s.lc.raise_risesTo _ _
  · exact s.lc.risesTo_refl

theorem State.append_risesTo (s : State) (owner : Owner) (kind : RecKind) (lane : Nat) (body : List Byte)
    (duress closed : Bool) : s.lc.risesTo (s.append owner kind lane body duress closed).1.lc := by
  unfold State.append
  split
  · simp only [State.jnRun_frame]
    refine State.noteFree_risesTo ?_ _
    rfl
  · exact s.lc.risesTo_refl

theorem State.beginPowerRecord_risesTo (s : State) : s.lc.risesTo s.beginPowerRecord.lc := by
  unfold State.beginPowerRecord
  dsimp only
  split
  · exact s.append_risesTo _ _ _ _ _ _
  · rw [(State.powerRecordLost_frame _).2.2.2.2.2.2.2.2.2.1]
    exact s.append_risesTo _ _ _ _ _ _

theorem State.scanEnds_risesTo (s : State) : s.lc.risesTo s.scanEnds.lc := by
  have h := s.binCheck.formRun.beginPowerRecord_risesTo
  rw [show s.binCheck.formRun.lc = s.binCheck.lc by simp] at h
  exact LC.risesTo_trans s.binCheck_risesTo h

theorem State.scanStepEnds_risesTo (s : State) : s.lc.risesTo s.scanStepEnds.lc := by
  unfold State.scanStepEnds
  split
  · split
    · exact s.scanEnds_risesTo
    · exact s.lc.risesTo_refl
  · exact s.lc.risesTo_refl

/-- The scan raises conditions and changes nothing else of the link. -/
theorem State.scan_risesTo (s : State) : s.lc.risesTo s.scan.lc := by
  rw [State.scan_eq]
  have h := (s.scanSets.scanTells s.jn.foundRecords).jnRun.scanStepEnds_risesTo
  rw [show (s.scanSets.scanTells s.jn.foundRecords).jnRun.lc = (s.scanSets.scanTells s.jn.foundRecords).lc by simp] at h
  exact LC.risesTo_trans (s.scanSets.scanTells_risesTo s.jn.foundRecords) h

/-! ## Lanes, phase and queue through the scan -/

theorem State.beginPowerRecord_lanes (s : State) : s.beginPowerRecord.li.lanes = s.li.lanes := by
  unfold State.beginPowerRecord
  dsimp only
  split
  · simp
  · simp [State.powerRecordLost, State.beginEnrolment]

theorem State.scanEnds_lanes (s : State) : s.scanEnds.li.lanes = s.li.lanes := by
  rw [State.scanEnds, State.beginPowerRecord_lanes]
  simp

theorem State.beginPowerRecord_phase (s : State) :
    s.beginPowerRecord.phase = .startUp .powerRecord ∨ s.beginPowerRecord.phase = .startUp .enrolment := by
  unfold State.beginPowerRecord
  dsimp only
  split
  · exact .inl rfl
  · exact .inr rfl

/-- The reads, the engine and the erase find nothing to take up (R149, R153). -/
theorem State.jnRun_idle {s : State} (hq : s.jn.queue = []) (hr : s.jn.reads = []) (he : s.jn.run = none) : s.jnRun = s := by
  have hread : s.jn.startRead = s.jn := by simp only [JN.startRead, hr]
  have hprogram : s.jn.startProgram = s.jn := by simp only [JN.startProgram, hq]
  unfold State.jnRun
  simp only [hread, hprogram, ite_self, JN.timeErase, he]

/-- The engine takes up a change in place (R149). -/
theorem State.jnRun_change {s : State} {p : Program} {rest : List Program} (hq : s.jn.queue = p :: rest)
    (hp : p.work.isAppend = false) (hb : s.jn.busy = false) (hr : s.jn.reads = []) (he : s.jn.run = none)
    (hs : s.programsStopped = false) : s.jnRun = { s with jn := { s.jn with busy := true } } := by
  have hread : s.jn.startRead = s.jn := by simp only [JN.startRead, hr]
  unfold State.jnRun
  simp only [hread, hs, Bool.false_eq_true, if_false, JN.startProgram, hq, hb, hr, List.head?_nil, Option.any_none, Bool.and_false,
    hp, JN.timeErase, he]

/-- The engine takes up an append, the ring advancing where it must (R144, R149). -/
theorem State.jnRun_append {s : State} {p : Program} {rest : List Program} (hq : s.jn.queue = p :: rest)
    (hp : p.work.isAppend = true) (hb : s.jn.busy = false) (hr : s.jn.reads = [])
    (ha : s.jn.advance.run = none) (hs : s.programsStopped = false) :
    s.jnRun = { s with jn := { s.jn.advance with busy := true } } := by
  have hread : s.jn.startRead = s.jn := by simp only [JN.startRead, hr]
  unfold State.jnRun
  simp only [hread, hs, Bool.false_eq_true, if_false, JN.startProgram, hq, hb, hr, List.head?_nil, Option.any_none, Bool.and_false,
    hp, if_true, JN.timeErase, ha]

/-- No program of the scan is an append. -/
theorem JN.scanned_queue (jn : JN) : ∀ p ∈ jn.scanned.queue, p.work.isAppend = false := by
  intro p hp
  simp only [JN.scanned, List.mem_append, List.mem_flatMap, List.mem_map] at hp
  rcases hp with ⟨f, -, k, -, rfl⟩ | ⟨r, -, rfl⟩ <;> rfl

/-- A WRITTEN record found is to be closed INTERRUPTED (R163). -/
theorem JN.scanned_closes {jn : JN} {r : FoundRecord} (h : r ∈ jn.foundRecords) (hw : r.written = true) :
    scanClose r ∈ jn.scanned.queue :=
  List.mem_append.mpr (.inr (List.mem_map.mpr ⟨r, mem_foldr_insertFound.mpr (List.mem_filter.mpr ⟨h, hw⟩), rfl⟩))

/-- A state in which start-up has just begun. -/
def State.begun (s : State) : Prop :=
  s.phase = .startUp .scan ∧ s.jn.reads = [] ∧ s.jn.run = none ∧ s.jn.busy = false

theorem State.scanTells_queue {s : State} (h : s.begun) :
    ((s.scanSets.scanTells s.jn.foundRecords).jnRun).jn.queue = s.jn.scanned.queue := by
  obtain ⟨hphase, hreads, hrun, hbusy⟩ := h
  have hjn := State.scanTells_jn s.scanSets s.jn.foundRecords
  have hstop : (s.scanSets.scanTells s.jn.foundRecords).programsStopped = false := by
    rw [State.programsStopped, (State.scanTells_frame _ _).1]
    simp [State.scanSets, hphase]
  cases hq : s.jn.scanned.queue with
  | nil =>
    rw [State.jnRun_idle (by rw [hjn]; exact hq) (by rw [hjn]; exact hreads) (by rw [hjn]; exact hrun), hjn]
    exact hq
  | cons p rest =>
    have hp := s.jn.scanned_queue p (hq ▸ List.mem_cons_self)
    rw [State.jnRun_change (p := p) (rest := rest) (by rw [hjn]; exact hq) hp (by rw [hjn]; exact hbusy)
      (by rw [hjn]; exact hreads) (by rw [hjn]; exact hrun) hstop]
    show (s.scanSets.scanTells s.jn.foundRecords).jn.queue = _
    rw [hjn]
    exact hq

/-- The scan with programs to make: start-up waits for their end (R165). -/
theorem State.scan_waits {s : State} (h : s.begun) (hq : s.jn.scanned.queue ≠ []) :
    s.scan = (s.scanSets.scanTells s.jn.foundRecords).jnRun ∧ s.scan.phase = .startUp .scan ∧
      s.scan.jn.queue = s.jn.scanned.queue := by
  have hqueue := State.scanTells_queue h
  have hphase : (s.scanSets.scanTells s.jn.foundRecords).jnRun.phase = .startUp .scan := by
    rw [show ∀ t : State, t.jnRun.phase = t.phase by simp, (State.scanTells_frame _ _).1]
    exact h.1
  have hscan : s.scan = (s.scanSets.scanTells s.jn.foundRecords).jnRun := by
    rw [State.scan_eq, State.scanStepEnds]
    simp only [hphase, hqueue, List.isEmpty_iff, if_neg hq]
  rw [hscan]
  exact ⟨rfl, hphase, hqueue⟩

/-- The scan without a program to make ends in the same step (R165). -/
theorem State.scan_goesOn {s : State} (h : s.begun) (hq : s.jn.scanned.queue = []) :
    s.scan = (s.scanSets.scanTells s.jn.foundRecords).scanEnds := by
  have hjn := State.scanTells_jn s.scanSets s.jn.foundRecords
  have hidle : (s.scanSets.scanTells s.jn.foundRecords).jnRun = s.scanSets.scanTells s.jn.foundRecords :=
    State.jnRun_idle (by rw [hjn]; exact hq) (by rw [hjn]; exact h.2.1) (by rw [hjn]; exact h.2.2.1)
  have hphase : (s.scanSets.scanTells s.jn.foundRecords).phase = .startUp .scan := by
    rw [(State.scanTells_frame _ _).1]
    exact h.1
  have hqueue : (s.scanSets.scanTells s.jn.foundRecords).jn.queue.isEmpty = true := by
    rw [hjn]
    exact List.isEmpty_iff.mpr hq
  rw [State.scan_eq, hidle, State.scanStepEnds]
  simp only [hphase, hqueue, if_true]

/-! ## The retained items at start-up (R204, R205) -/

theorem lockedIf_locked (b : Bool) : (lockedIf b == .locked) = b := by cases b <;> rfl

theorem latchedIf_latched (b : Bool) : (latchedIf b == .latched) = b := by cases b <;> rfl

/-- Start-up reads every retained item from the store's content. -/
theorem State.beginStartUp_retained (s : State) (kind : StartKind) (kept : Retained) (failed : Bool) :
    (s.beginStartUp kind kept failed).retained = kept := by
  show Retained.mk kept.lanes kept.air kept.ledgers kept.box kept.dispense kept.stageHold kept.bin kept.capture
    (AlarmKept.mk kept.alarm.safeDelay kept.alarm.binDelay kept.alarm.period (lockedIf kept.alarm.lockedA == .locked)
      (lockedIf kept.alarm.lockedB == .locked) (latchedIf kept.alarm.latchedSafe == .latched)
      (latchedIf kept.alarm.latchedBin == .latched) kept.alarm.latchedTamper (latchedIf kept.alarm.latchedJam == .latched)
      (latchedIf kept.alarm.latchedAir == .latched) (latchedIf kept.alarm.latchedEnvelope == .latched))
    kept.clock kept.clockSet = kept
  simp only [lockedIf_locked, latchedIf_latched]

/-- The retained items by the blocks that hold them. -/
theorem State.retained_of_blocks {s t : State} (hl : t.li.lanes.map (·.set) = s.li.lanes.map (·.set)) (ha : t.as.set = s.as.set)
    (hn : t.nd = s.nd) (hd : t.dp.set = s.dp.set) (hs : t.ss.stageHold = s.ss.stageHold) (hu : t.au = s.au)
    (hc : t.lc.clock = s.lc.clock) (hk : t.lc.clockSet = s.lc.clockSet) :
    t.retained = { s.retained with bin := t.cu.bin, capture := t.cu.set } := by
  simp only [State.retained, hl, ha, hn, hd, hs, hu, hc, hk]

/-- The state in which start-up from the retained items of `kept` has begun, in a part as in `s`. -/
structure State.BeginsFrom (b s : State) (kept : Retained) : Prop where
  begun : b.begun
  retained : b.retained = kept
  jn : b.jn = JN.initial s.jn.mem (s.jn.segs.map (·.torn))
  cu : b.cu = CU.initial kept.capture kept.bin s.cu.printerReady s.cu.binPresent s.cu.binDoorClosed
  td : b.td = TD.initial s.td.bays
  dp : b.dp = DP.initial kept.dispense
  current : b.nd.current = none
  owed : b.ss.owed = []
  unheard : b.lc.unheard

theorem LC.initial_unheard (clock : Nat) (clockSet : Bool) (kind : StartKind) (failed : Bool) :
    (LC.initial clock clockSet kind failed).unheard := fun n => (LC.initial_condition clock clockSet kind failed n).2

theorem State.beginStartUp_beginsFrom (s : State) (kind : StartKind) (kept : Retained) (failed : Bool) :
    (s.beginStartUp kind kept failed).BeginsFrom s kept where
  begun := ⟨rfl, rfl, rfl, rfl⟩
  retained := s.beginStartUp_retained kind kept failed
  jn := rfl
  cu := rfl
  td := rfl
  dp := rfl
  current := rfl
  owed := rfl
  unheard := LC.initial_unheard _ _ _ _

/-! ## What the scan leaves of the capture unit -/

theorem State.scanSets_cu (s : State) :
    s.scanSets.cu = { s.cu with set := s.cu.set.raisedBy (highestCapture s.jn.foundRecords) } := rfl

theorem State.scanEnds_cu (s : State) : s.scanEnds.cu = { s.cu with bin := { s.cu.bin with state := s.cu.checkedBin } } := by
  rw [State.scanEnds, (State.beginPowerRecord_frame _).2.2.2.2.2.2.2.1, ← s.binCheck_cu]
  simp

/-- The scan without programs found no WRITTEN record, so the bin is as its sensors check it. -/
theorem State.scan_cu_goesOn {s : State} (h : s.begun) (hq : s.jn.scanned.queue = []) :
    s.scan.cu = { s.cu with set := s.cu.set.raisedBy (highestCapture s.jn.foundRecords),
                            bin := { s.cu.bin with state := s.cu.checkedBin } } := by
  have hnone : (s.jn.foundRecords.any fun r => r.kind = 1 ∧ r.written) = false := by
    rw [List.any_eq_false]
    intro r hr hw
    have hw' : r.written = true := by simp at hw; exact hw.2
    have := JN.scanned_closes hr hw'
    rw [hq] at this
    cases this
  have hcu : (s.scanSets.scanTells s.jn.foundRecords).cu =
      { s.cu with set := s.cu.set.raisedBy (highestCapture s.jn.foundRecords) } := by
    rw [State.scanTells_cu, State.scanBin_cu, State.scanSets_cu, if_neg fun hany => Bool.false_ne_true (hnone.symm.trans hany.1)]
  rw [State.scan_goesOn h hq, State.scanEnds_cu, hcu]
  rfl

/-- While the scan's programs are made, the bin is as the records found leave it (R135). -/
theorem State.scan_cu_waits {s : State} (h : s.begun) (hq : s.jn.scanned.queue ≠ []) :
    s.scan.cu = { s.cu with
      set := s.cu.set.raisedBy (highestCapture s.jn.foundRecords)
      bin := { s.cu.bin with state :=
        if (s.jn.foundRecords.any fun r => r.kind = 1 ∧ r.written) ∧ s.cu.binPresent ∧ s.cu.binDoorClosed then .unconfirmed
        else s.cu.bin.state } } := by
  rw [(State.scan_waits h hq).1, show ∀ t : State, t.jnRun.cu = t.cu by simp, State.scanTells_cu, State.scanBin_cu,
    State.scanSets_cu]

/-- The scan sets the capture counter and the bin's state, and nothing else of the capture unit. -/
theorem State.scan_cu {s : State} (h : s.begun) :
    s.scan.cu = { s.cu with set := s.cu.set.raisedBy (highestCapture s.jn.foundRecords),
                            bin := { s.cu.bin with state := s.scan.cu.bin.state } } := by
  by_cases hq : s.jn.scanned.queue = []
  · rw [State.scan_cu_goesOn h hq]
  · rw [State.scan_cu_waits h hq]

/-! ## The records found and the records held -/

/-- The records of the directory after the scan are those found. -/
theorem State.scan_records {s : State} (hm : s.memoryFormed) {i k q : Nat} :
    (k, q) ∈ (s.scan.jn.seg i).records ↔ i < 16 ∧ ∃ r ∈ (s.jn.scanSegment i).records, r.slot = k ∧ r.seq = q := by
  rw [(s.scan_keepsDirectory (JN.scanned_tidy hm)).2.1 i, JN.scanned_records]

theorem State.scan_status (s : State) (i k : Nat) : s.scan.jn.status i k = s.jn.status i k := by
  simp only [JN.status, State.scan_frame]

/-- A CAPTURE record held is one found (R163). -/
theorem State.scan_holdsCapture {s : State} (hm : s.memoryFormed) (status : Option SlotState → Prop) (n : Nat) :
    s.scan.holdsCapture status n ↔
      ∃ r ∈ s.jn.foundRecords, r.kind = 1 ∧ status (s.jn.status r.segment r.slot) ∧ r.capture = n := by
  simp only [State.holdsCapture, State.scan_records hm, State.scan_status, JN.mem_foundRecords,
    (State.scan_frame s).2.2.2.2.2.2.2.2.2.1]
  constructor
  · rintro ⟨i, k, q, -, ⟨hi, r, hr, rfl, rfl⟩, hstatus, hkind, hn⟩
    obtain ⟨rfl, -, hread⟩ := JN.scanSegment_record hm hr
    obtain ⟨-, -, -, hk, hc, -⟩ := readSlot_record hread
    exact ⟨r, ⟨_, hi, hr⟩, by rw [← hk, hkind]; rfl, hstatus, by rw [← hc, hn]⟩
  · rintro ⟨r, ⟨i, hi, hr⟩, hkind, hstatus, hn⟩
    obtain ⟨rfl, -, hread⟩ := JN.scanSegment_record hm hr
    obtain ⟨-, -, -, hk, hc, -⟩ := readSlot_record hread
    exact ⟨r.segment, r.slot, r.seq, hi, ⟨hi, r, hr, rfl, rfl⟩, hstatus,
      BitVec.eq_of_toNat_eq (hk.trans hkind), by rw [hc, hn]⟩

theorem JN.found_written {jn : JN} (hm : jn.mem.wf = true) {r : FoundRecord} (h : r ∈ jn.foundRecords) :
    r.written = true ↔ jn.status r.segment r.slot = some .written := by
  obtain ⟨i, -, hr⟩ := JN.mem_foundRecords.mp h
  obtain ⟨rfl, -, hread⟩ := JN.scanSegment_record hm hr
  exact (readSlot_record hread).2.2.2.2.2

theorem State.scan_holdsWritten {s : State} (hm : s.memoryFormed) :
    (∃ n, s.scan.holdsCapture (· = some .written) n) ↔ (s.jn.foundRecords.any fun r => r.kind = 1 ∧ r.written) = true := by
  simp only [State.scan_holdsCapture hm, List.any_eq_true, decide_eq_true_eq]
  constructor
  · rintro ⟨n, r, hr, hkind, hstatus, -⟩
    exact ⟨r, hr, hkind, (JN.found_written hm hr).mpr hstatus⟩
  · rintro ⟨r, hr, hkind, hw⟩
    exact ⟨_, r, hr, hkind, (JN.found_written hm hr).mp hw, rfl⟩

theorem State.scan_highest {s : State} (hm : s.memoryFormed) {n : Nat} (h : s.scan.holdsCapture (fun _ => True) n)
    (hle : ∀ m, s.scan.holdsCapture (fun _ => True) m → m ≤ n) : highestCapture s.jn.foundRecords = some n := by
  simp only [State.scan_holdsCapture hm, true_and] at h hle
  rw [highestCapture, List.max?_eq_some_iff]
  constructor
  · obtain ⟨r, hr, hkind, rfl⟩ := h
    exact List.mem_map.mpr ⟨r, List.mem_filter.mpr ⟨hr, by simp [hkind]⟩, rfl⟩
  · intro m hmem
    obtain ⟨r, hr, rfl⟩ := List.mem_map.mp hmem
    obtain ⟨hr, hkind⟩ := List.mem_filter.mp hr
    exact hle _ ⟨r, hr, by simpa using hkind, rfl⟩

theorem State.scan_highest_none {s : State} (hm : s.memoryFormed) (h : ¬ ∃ n, s.scan.holdsCapture (fun _ => True) n) :
    highestCapture s.jn.foundRecords = none := by
  rw [highestCapture, List.max?_eq_none_iff, List.map_eq_nil_iff, List.filter_eq_nil_iff]
  intro r hr hkind
  exact h ⟨r.capture, (State.scan_holdsCapture hm _ _).mpr ⟨r, hr, by simpa using hkind, trivial, rfl⟩⟩

/-! ## Start-up from the retained items (R204, R205) -/

theorem State.scan_phase {s : State} (h : s.begun) : s.scan.phase = .startUp .scan ↔ s.jn.scanned.queue ≠ [] := by
  by_cases hq : s.jn.scanned.queue = []
  · have hphase := State.beginPowerRecord_phase (s.scanSets.scanTells s.jn.foundRecords).binCheck.formRun
    rw [State.scan_goesOn h hq]
    refine ⟨fun h => ?_, fun h => absurd hq h⟩
    rcases hphase with hp | hp <;> rw [State.scanEnds, hp] at h <;> cases h
  · exact ⟨fun _ => hq, fun _ => (State.scan_waits h hq).2.1⟩

theorem State.scan_startUp {s : State} (h : s.begun) : ∃ step, s.scan.phase = .startUp step := by
  by_cases hq : s.jn.scanned.queue = []
  · rw [State.scan_goesOn h hq, State.scanEnds]
    rcases State.beginPowerRecord_phase (s.scanSets.scanTells s.jn.foundRecords).binCheck.formRun with h | h <;> exact ⟨_, h⟩
  · exact ⟨_, (State.scan_waits h hq).2.1⟩

theorem State.scan_lanes (s : State) : s.scan.li.lanes = s.li.lanes := by
  rw [State.scan_eq, State.scanStepEnds]
  have hli : (s.scanSets.scanTells s.jn.foundRecords).li = s.li := (State.scanTells_frame _ _).2
  (repeat' split) <;> simp [State.scanEnds_lanes, hli]

theorem State.scan_retained {s : State} (hu : s.lc.unheard) :
    s.scan.retained = { s.retained with bin := s.scan.cu.bin, capture := s.scan.cu.set } := by
  have hlc := (s.scan_risesTo hu).1
  exact State.retained_of_blocks (by rw [State.scan_lanes]) (by simp) (by simp) (by simp) (by simp) (by simp) (by simp)
    (by rw [hlc])

/-- The scan of a start-up that has just begun leaves the retained items as a start-up leaves them. -/
theorem State.BeginsFrom.startsFrom {b s : State} {kept : Retained} (h : b.BeginsFrom s kept) :
    b.scan.startsFrom s kept := by
  have hset := congrArg CU.set (State.scan_cu h.begun)
  have hbin := congrArg CU.bin (State.scan_cu h.begun)
  have hmem : b.jn.mem = s.jn.mem := by rw [h.jn]; rfl
  have hcu := h.cu
  refine ⟨?_, fun hp => ?_, fun hm hl => ⟨fun hp => ⟨fun hw hpresent hclosed => ?_, fun hn => ?_⟩, fun hn => ?_, fun n hn hle => ?_⟩⟩
  · rw [State.scan_retained h.unheard, h.retained, hbin, hcu]
    rfl
  · have hq : b.jn.scanned.queue = [] := by
      by_contra hq
      exact hp ((State.scan_phase h.begun).mpr hq)
    rw [State.scan_cu_goesOn h.begun hq, hcu]
    rfl
  · have hm' : b.memoryFormed := by rw [State.memoryFormed, hmem]; exact hm
    rw [State.scan_cu_waits h.begun ((State.scan_phase h.begun).mp hp)]
    exact if_pos ⟨(State.scan_holdsWritten hm').mp hw, by rw [hcu]; exact hpresent, by rw [hcu]; exact hclosed⟩
  · have hm' : b.memoryFormed := by rw [State.memoryFormed, hmem]; exact hm
    rw [State.scan_cu_waits h.begun ((State.scan_phase h.begun).mp hp)]
    have hbin : b.cu.bin.state = kept.bin.state := by rw [hcu]; rfl
    refine (if_neg ?_).trans hbin
    rintro ⟨hany, hpresent, hclosed⟩
    rw [hcu] at hpresent hclosed
    rcases hn with hn | hn | hn
    · exact hn ((State.scan_holdsWritten hm').mpr hany)
    · exact absurd (hn.symm.trans hpresent) nofun
    · exact absurd (hn.symm.trans hclosed) nofun
  · have hm' : b.memoryFormed := by rw [State.memoryFormed, hmem]; exact hm
    rw [hset, State.scan_highest_none hm' hn, hcu]
    rfl
  · have hm' : b.memoryFormed := by rw [State.memoryFormed, hmem]; exact hm
    rw [hset, State.scan_highest hm' hn hle, hcu]
    rfl

/-- The volatile state of a start-up's first step. -/
theorem State.BeginsFrom.scan_fresh {b s : State} {kept : Retained} (h : b.BeginsFrom s kept) :
    (∃ step, b.scan.finish.phase = .startUp step) ∧ b.scan.finish.td = TD.initial s.td.bays ∧
      b.scan.finish.dp.loads = [] ∧ b.scan.finish.dp.queue = [] ∧ b.scan.finish.jn.mem = s.jn.mem ∧
      b.scan.finish.nd.current = none ∧ b.scan.finish.ss.owed = [] ∧ b.scan.finish.cu.hand = none := by
  have hcu := congrArg CU.hand (State.scan_cu h.begun)
  have hphase := State.scan_startUp h.begun
  exact ⟨by simpa using hphase, by simp [h.td], by simp [h.dp, DP.initial], by simp [h.dp, DP.initial],
    by simp [h.jn, JN.initial], by simp [h.current], by simp [h.owed], by simp [hcu, h.cu, CU.initial]⟩

theorem State.startsFrom_finish {t s : State} {kept : Retained} (h : t.startsFrom s kept) : t.finish.startsFrom s kept := by
  simpa only [State.startsFrom, State.holdsCapture, State.finish_retained, State.finish_frame] using h

/-! ## RESTART (R207) -/

theorem State.restarts_eq (s : State) : s.restarts =
    (({ s.beginStartUp .restart s.retained s.lc.storeFailed with
      lc := { (s.beginStartUp .restart s.retained s.lc.storeFailed).lc with
        sending := s.lc.sending.map fun f => { f with what := .orphan } } } : State)).scan := rfl

theorem exec_restartStartUp {s : State} (h : s.phase = .restarting true) (hb : s.jn.busy = false) :
    exec .restartStartUp s = .next s.restarts.finish := by
  have hs : s.phase ≠ .off := by rw [h]; nofun
  rw [show exec .restartStartUp s = s.poweredStep State.onRestartStartUp from rfl, State.poweredStep_on hs,
    State.onRestartStartUp, if_pos ⟨h, hb⟩]

/-- What stands on the line is no part of a start-up. -/
theorem State.BeginsFrom.withLine {b s : State} {kept : Retained} (h : b.BeginsFrom s kept) (line : Option Sending) :
    State.BeginsFrom { b with lc := { b.lc with sending := line } } s kept where
  begun := h.begun
  retained := h.retained
  jn := h.jn
  cu := h.cu
  td := h.td
  dp := h.dp
  current := h.current
  owed := h.owed
  unheard := h.unheard

/-- Settles O14: RESTART at its owner, and its start-up through the scan. -/
theorem restartIsTakenWhenQuietAndStartsAfresh : Obligations.RestartIsTakenWhenQuietAndStartsAfresh := by
  refine ⟨fun tag s hs => ?_, fun s hp hb => ?_⟩
  · have hx := exec_serves (i := .restart tag) rfl hs
    rw [show s.counted.serve (.restart tag) = State.ownRestart tag s.counted from rfl, State.ownRestart] at hx
    refine ⟨fun h1 h2 h3 h4 h5 h6 h7 h8 h9 h10 h11 => ?_, fun h => ?_⟩
    · rw [hx, if_pos ((State.quiet_iff s.counted).mpr ⟨h1, h2, h3, h4, h5, h6, h7, h8, h9, h10, h11⟩)]
      rfl
    · have hq : ¬ s.counted.quiet = true := by
        rw [State.quiet_iff]
        rintro ⟨h1, h2, h3, h4, h5, h6, h7, h8, h9, h10, h11⟩
        rcases h with h | h | h | h | h | h | h | h | ⟨c, h⟩ | h | h
        · exact h h1
        · exact h h2
        · exact h h3
        · exact h h4
        · exact h h5
        · exact h h6
        · exact h h7
        · exact h h8
        · exact h (h9 c)
        · exact h h10
        · exact h h11
      rw [hx, if_neg hq, State.counted_refuse rfl]
  · refine ⟨_, exec_restartStartUp hp hb, ?_⟩
    rw [State.restarts_eq]
    have hb := (s.beginStartUp_beginsFrom .restart s.retained s.lc.storeFailed).withLine
      (s.lc.sending.map fun f => { f with what := .orphan })
    generalize hgen : ({ s.beginStartUp .restart s.retained s.lc.storeFailed with
        lc := { (s.beginStartUp .restart s.retained s.lc.storeFailed).lc with
          sending := s.lc.sending.map fun f => { f with what := .orphan } } } : State) = b at hb ⊢
    have hblc : b.lc = { LC.initial s.lc.clock s.lc.clockSet .restart s.lc.storeFailed with
        sending := s.lc.sending.map fun f => { f with what := .orphan } } := by
      rw [← hgen]
      rfl
    have hlc := (b.scan_risesTo hb.unheard).1
    rw [hblc] at hlc
    obtain ⟨hphase, htd, hloads, hqueue, hmem, hcurrent, howed, hhand⟩ := hb.scan_fresh
    have hfinish := congrArg State.lc (State.finish_eq b.scan)
    rw [hlc] at hfinish
    refine ⟨hphase, State.startsFrom_finish hb.startsFrom, ?_, ?_, ?_, ?_, ?_, ?_, ?_, ?_, htd, hloads, hqueue, hmem, hcurrent,
      howed, hhand⟩ <;> rw [hfinish] <;> rfl

/-! ## An erased journal (R162, R165) -/

/-- The journal at power-on over an erased memory, every erase verified. -/
def JN.blank : JN := JN.initial [] (List.replicate 16 false)

/-- The blank journal as the scan leaves it: the first segment takes the appends, the others are ERASED. -/
def JN.blankScanned : JN :=
  { JN.blank with
    segs := { state := .filling, records := [], torn := false } ::
      List.replicate 15 { state := .erased, records := [], torn := false }
    filling := some (0, 0) }

theorem JN.blank_scanned : JN.blank.scanned = JN.blankScanned := by rfl

theorem JN.blank_foundRecords : JN.blank.foundRecords = [] := by rfl

theorem JN.blank_admits : JN.blankScanned.admits .power = true := by decide

theorem JN.blank_pendingErase : JN.blankScanned.pendingErase = [] := by decide

theorem JN.blankScanned_seg : (JN.blankScanned.seg 0).state = .filling ∧
    (∀ i, 0 < i → i < 16 → (JN.blankScanned.seg i).state = .erased) ∧ ∀ i, i < 16 → (JN.blankScanned.seg i).records = [] := by
  have hstate : ∀ i, i < 16 → 0 < i → (JN.blankScanned.seg i).state = .erased := by decide
  exact ⟨rfl, fun i h0 h => hstate i h h0, by decide⟩

/-- The journal with an append admitted: a claim and a sequence taken, the append at the queue's tail (R145, R146, R149). -/
def JN.appended (jn : JN) (owner : Owner) (r : Record) : JN :=
  { jn with
    claims := jn.claims + 1
    counter := if jn.counter = Config.max32 then jn.counter else jn.counter + 1
    exhausted := jn.counter = Config.max32
    queue := jn.queue ++ [{ owner := owner, work := .append r }] }

theorem State.append_admitted {s : State} {kind : RecKind} (h : s.jn.admits kind = true) (owner : Owner) (lane : Nat)
    (body : List Byte) (duress closed : Bool) :
    s.append owner kind lane body duress closed =
      ((({ s with jn := s.jn.appended owner ⟨kind, lane, s.jn.counter, s.lc.clock, body, duress, closed⟩ } : State).noteFree
        s.jn.free).jnRun, true) := if_pos h

theorem State.append_refused {s : State} {kind : RecKind} (h : s.jn.admits kind = false) (owner : Owner) (lane : Nat)
    (body : List Byte) (duress closed : Bool) : s.append owner kind lane body duress closed = (s, false) :=
  if_neg (by rw [h]; exact Bool.false_ne_true)

/-- The POWER record is the first program of a blank journal, and its append point stays (R165). -/
theorem State.beginPowerRecord_blank {s : State} (hj : s.jn = JN.blankScanned) (hp : s.phase = .startUp .scan) :
    s.beginPowerRecord.phase = .startUp .powerRecord ∧ s.beginPowerRecord.jn =
      { JN.blankScanned with claims := 1, counter := 2, busy := true, queue :=
          [{ owner := .power, work := .append ⟨.power, 0, 1, s.lc.clock, powerBody s, false, true⟩ }] } := by
  have hadmits : s.jn.admits .power = true := by rw [hj]; exact JN.blank_admits
  have happend := State.append_admitted hadmits .power 0 (powerBody s) false true
  have hstop : s.programsStopped = false := by rw [State.programsStopped, hp]; rfl
  have hjn : ∀ before, (({ s with jn := s.jn.appended .power ⟨.power, 0, s.jn.counter, s.lc.clock, powerBody s, false, true⟩ } :
      State).noteFree before).jn = JN.blankScanned.appended .power ⟨.power, 0, 1, s.lc.clock, powerBody s, false, true⟩ :=
    fun before => by simp only [State.noteFree_frame, hj]; rfl
  have hadvance : (JN.blankScanned.appended .power ⟨.power, 0, 1, s.lc.clock, powerBody s, false, true⟩).advance = 
      JN.blankScanned.appended .power ⟨.power, 0, 1, s.lc.clock, powerBody s, false, true⟩ :=
    JN.advance_room (i := 0) (k := 0) rfl (by decide)
  unfold State.beginPowerRecord
  rw [happend]
  refine ⟨rfl, ?_⟩
  dsimp only
  rw [if_pos rfl, State.jnRun_append (rest := []) (by rw [hjn]; rfl) rfl (by rw [hjn]; rfl) (by rw [hjn]; rfl)
    (by rw [hjn, hadvance]; rfl) (by rw [State.programsStopped] at hstop ⊢; simpa using hstop)]
  dsimp only
  rw [hjn, hadvance]
  rfl

/-- The scan of an erased memory, every erase verified: no record, an append point, and the POWER record on its way. -/
theorem State.scan_blank {s : State} (h : s.begun) (hu : s.lc.unheard) (hj : s.jn = JN.blank) :
    ∃ u : State, s.lc.risesTo u.lc ∧ s.scan.phase = .startUp .powerRecord ∧ s.scan.jn = { JN.blankScanned with
      claims := 1, counter := 2, busy := true, queue :=
        [{ owner := .power, work := .append ⟨.power, 0, 1, s.lc.clock, powerBody u, false, true⟩ }] } ∧ u.jn = JN.blankScanned := by
  have hq : s.jn.scanned.queue = [] := by rw [hj]; rfl
  have hjn : ((s.scanSets.scanTells s.jn.foundRecords).binCheck).jn = JN.blankScanned := by
    rw [show ∀ t : State, t.binCheck.jn = t.jn by simp, State.scanTells_jn]
    show s.jn.scanned = _
    rw [hj, JN.blank_scanned]
  have hform : ((s.scanSets.scanTells s.jn.foundRecords).binCheck).formRun = (s.scanSets.scanTells s.jn.foundRecords).binCheck := by
    rw [State.formRun, hjn, JN.blank_pendingErase]
    split <;> simp_all
  have hlc : s.lc.risesTo (s.scanSets.scanTells s.jn.foundRecords).binCheck.lc :=
    LC.risesTo_trans (s.scanSets.scanTells_risesTo _) (State.binCheck_risesTo _)
  have hphase : (s.scanSets.scanTells s.jn.foundRecords).binCheck.phase = .startUp .scan := by
    rw [show ∀ t : State, t.binCheck.phase = t.phase by simp, (State.scanTells_frame _ _).1]
    exact h.1
  have hclock : (s.scanSets.scanTells s.jn.foundRecords).binCheck.lc.clock = s.lc.clock := by
    rw [(hlc hu).1]
  obtain ⟨hp, hb⟩ := State.beginPowerRecord_blank hjn hphase
  rw [State.scan_goesOn h hq, State.scanEnds, hform]
  exact ⟨_, hlc, hp, by rw [hb, hclock], hjn⟩

/-! ## POWER_ON (R204, R205) -/

/-- Start-up begins over the copy of the store that reads sound, or over the defaults (R204). -/
theorem State.powersOn_begins (s : State) (firstReads secondReads : Bool) {kept : Retained}
    (hk : kept = (if s.store.first.sound = true ∧ firstReads = true then s.store.first.content
      else if s.store.second.sound = true ∧ secondReads = true then s.store.second.content else Retained.default)) :
    ∃ (b : State) (failed : Bool), s.powersOn firstReads secondReads = b.scan ∧ b.BeginsFrom s kept ∧
      b.lc = { LC.initial kept.clock kept.clockSet .powerOn failed with conds := b.lc.conds } ∧
      (¬ (s.store.first.sound = true ∧ firstReads = true) → ¬ (s.store.second.sound = true ∧ secondReads = true) →
        kept = Retained.default ∧ failed = true ∧ b.lc.isPending 69 = true) := by
  have hstart : ∀ (c : Retained) (failed : Bool),
      (({ s with store := Store.both c } : State).beginStartUp .powerOn c failed).BeginsFrom s c := fun c failed =>
    have h := ({ s with store := Store.both c } : State).beginStartUp_beginsFrom .powerOn c failed
    ⟨h.begun, h.retained, h.jn, h.cu, h.td, h.dp, h.current, h.owed, h.unheard⟩
  unfold State.powersOn Store.check
  by_cases h1 : s.store.first.sound = true ∧ firstReads = true
  · rw [if_pos h1] at hk ⊢
    subst hk
    exact ⟨_, false, rfl, hstart _ _, rfl, fun h => absurd h1 h⟩
  rw [if_neg h1] at hk ⊢
  by_cases h2 : s.store.second.sound = true ∧ secondReads = true
  · rw [if_pos h2] at hk ⊢
    subst hk
    exact ⟨_, false, rfl, hstart _ _, rfl, fun _ h => absurd h2 h⟩
  rw [if_neg h2] at hk ⊢
  subst hk
  have h := hstart Retained.default true
  generalize hb : ({ s with store := Store.both Retained.default } : State).beginStartUp .powerOn Retained.default true = b at h
  have hlc : b.lc = LC.initial 0 false .powerOn true := by rw [← hb]; rfl
  have hrises := b.lc.raise_risesTo Cond.retainedLost.num none h.unheard
  refine ⟨b.raiseBare .retainedLost, true, congrArg (fun b => (b.raiseBare .retainedLost).scan) hb,
    ⟨h.begun, ?_, h.jn, h.cu, h.td, h.dp, h.current, h.owed, hrises.2.1⟩, ?_, fun _ _ => ⟨rfl, rfl, ?_⟩⟩
  · rw [← h.retained]
    simp [State.retained, State.raiseBare]
  · exact hrises.1.trans (congrArg (fun l : LC => { l with conds := (b.lc.raise Cond.retainedLost.num none).conds }) hlc)
  · show (b.lc.raise 69 none).isPending 69 = true
    rw [LC.raise_pending, hlc]
    rfl

/-- The blank journal's power-on values, from a blank memory whose erases have all verified. -/
theorem JN.initial_blank {segs : List Segment} (hl : segs.length = 16)
    (ht : ∀ i, i < 16 → (segs.getD i { state := .bad, records := [], torn := true }).torn = false) :
    JN.initial [] (segs.map (·.torn)) = JN.blank := by
  have : segs.map (·.torn) = List.replicate 16 false := by
    refine List.ext_getElem (by simp [hl]) fun i h1 h2 => ?_
    have hi : i < segs.length := by simpa using h1
    have := ht i (hl ▸ hi)
    rw [List.getD_eq_getElem?_getD, List.getElem?_eq_getElem hi] at this
    rw [List.getElem_map, List.getElem_replicate]
    simpa using this
  rw [JN.blank, this]

theorem State.BeginsFrom.seg_torn {b s : State} {kept : Retained} (h : b.BeginsFrom s kept) (hl : s.jn.segs.length = 16) {i : Nat}
    (hi : i < 16) : (b.jn.seg i).torn = (s.jn.seg i).torn := by
  rw [h.jn]
  have hi' : i < s.jn.segs.length := hl ▸ hi
  simp [JN.initial, JN.seg, hi']

/-- A line with nothing to send stays free at the finish of a step (R194). -/
theorem State.finish_freeLine {s : State} (hl : s.lc.sending = none) (hr : s.lc.replies = []) (hn : s.lc.notices = []) :
    s.finish.lc = s.lc := by
  have hw : s.writeStore.lc = s.lc := by
    unfold State.writeStore
    split <;> rfl
  simp only [State.finish, State.transmit, hw, hl, hr, hn]

/-- What the scan finds stands in the memory: a record's status, its check, its sequence, and its close (R161 to R163). -/
theorem State.scan_record {s : State} (h : s.begun) (hm : s.memoryFormed) {i k q : Nat}
    (hr : (k, q) ∈ (s.scan.jn.seg i).records) :
    k < 128 ∧ (s.jn.status i k = some .written ∨ s.jn.status i k = some .closed ∨ s.jn.status i k = some .reconciled) ∧
      slotRead s.jn.mem i k 26 2 = crcBytes (slotRead s.jn.mem i k 2 24) ∧ number (slotRead s.jn.mem i k 4 4) = q ∧
      (q < s.scan.jn.counter ∨ s.scan.jn.exhausted = true) ∧
      (s.jn.status i k = some .written → ∃ p ∈ s.scan.jn.queue, p.owner = .scan ∧ p.work = .change ⟨q,
        if s.jn.mem.read (slotAddress i k 2) = 0x02#8 then [(28, 0x06#8)] else [],
        { RecFlags.none with interrupted := true }, true⟩) := by
  obtain ⟨hi, r, hin, rfl, rfl⟩ := (State.scan_records hm).mp hr
  have hfound : r ∈ s.jn.foundRecords := JN.mem_foundRecords.mpr ⟨i, hi, hin⟩
  obtain ⟨rfl, hk, hread⟩ := JN.scanSegment_record hm hin
  obtain ⟨hstatus, hcrc, hseq, hkind, -, -⟩ := readSlot_record hread
  obtain ⟨-, -, -, hcounter, hexhausted⟩ := s.scan_keepsDirectory (JN.scanned_tidy hm)
  refine ⟨hk, hstatus, hcrc, hseq, ?_, fun hw => ?_⟩
  · exact (JN.scanned_counter hfound).imp (fun h => lt_of_lt_of_le h hcounter) hexhausted
  · have hclose := JN.scanned_closes hfound ((JN.found_written hm hfound).mpr hw)
    have hq : s.jn.scanned.queue ≠ [] := fun hq => by rw [hq] at hclose; cases hclose
    have hbyte : (s.jn.mem.read (slotAddress r.segment r.slot 2) = 0x02#8) ↔ r.kind = 2 := by
      rw [← hkind]
      exact ⟨fun h => by rw [h]; rfl, fun h => BitVec.eq_of_toNat_eq h⟩
    refine ⟨scanClose r, by rw [(State.scan_waits h hq).2.2]; exact hclose, rfl, ?_⟩
    simp only [scanClose, hbyte]

/-- Settles O15: the copy that is read, then the scan of the memory as it stands. -/
theorem powerOnStartsFromTheStore : Obligations.PowerOnStartsFromTheStore := by
  intro firstReads secondReads s kept hk
  obtain ⟨b, failed, hon, hb, hblc, hlost⟩ := s.powersOn_begins firstReads secondReads hk
  refine ⟨b.scan.finish, by rw [← hon]; rfl, ?_⟩
  obtain ⟨hlc, -, hpending⟩ := b.scan_risesTo hb.unheard
  rw [hblc] at hlc
  have hfinish : b.scan.finish.lc = { LC.initial kept.clock kept.clockSet .powerOn failed with conds := b.scan.lc.conds } := by
    rw [State.finish_freeLine (by rw [hlc]; rfl) (by rw [hlc]; rfl) (by rw [hlc]; rfl)]
    exact hlc
  obtain ⟨hphase, htd, hloads, hqueue, hmem, -⟩ := hb.scan_fresh
  have hbmem : b.jn.mem = s.jn.mem := by rw [hb.jn]; rfl
  have hfjn : b.scan.finish.jn = b.scan.jn := by simp
  have hstatus : ∀ i k, b.jn.status i k = s.jn.status i k := fun i k => by simp only [JN.status, hbmem]
  refine ⟨hphase, State.startsFrom_finish hb.startsFrom, by rw [hfinish]; rfl, by rw [hfinish]; rfl, by rw [hfinish]; rfl,
    by rw [hfinish]; rfl, by rw [hfinish]; rfl, by rw [hfinish]; rfl, by rw [hfinish]; rfl, htd, hloads, hqueue, hmem,
    fun h1 h2 => ?_, fun hm hl => ⟨fun i hi ht => ?_, fun i k q hr => ?_, fun h0 ht => ?_⟩⟩
  · obtain ⟨rfl, rfl, h69⟩ := hlost h1 h2
    refine ⟨by rw [hfinish]; rfl, ?_, by rw [hfinish]; rfl⟩
    simpa using hpending 69 h69
  · have hbm : b.memoryFormed := by rw [State.memoryFormed, hbmem]; exact hm
    obtain ⟨-, hrecords, hpend, -⟩ := b.scan_keepsDirectory (JN.scanned_tidy hbm)
    obtain ⟨hstate, hnone⟩ := JN.scanned_torn hbm hi ((hb.seg_torn hl hi).trans ht)
    rw [hfjn]
    exact ⟨hpend i hstate, (hrecords i).trans hnone⟩
  · have hbm : b.memoryFormed := by rw [State.memoryFormed, hbmem]; exact hm
    rw [hfjn] at hr ⊢
    simpa only [hbmem, hstatus] using State.scan_record hb.begun hbm hr
  · have hblank : b.jn = JN.blank := by
      rw [hb.jn, h0]
      exact JN.initial_blank hl ht
    obtain ⟨u, hu, hp, hj, huj⟩ := State.scan_blank hb.begun hb.unheard hblank
    have hulc := (hu hb.unheard).1
    rw [hblc] at hulc
    have hbody : powerBody u = u8 1 ++ yesNo failed ++ u16 0 ++ u16 0 := by
      rw [powerBody, hulc, huj]
      cases failed <;> rfl
    have hclock : b.lc.clock = kept.clock := by rw [hblc]; rfl
    obtain ⟨hfirst, hothers, hnone⟩ := JN.blankScanned_seg
    rw [hfjn, hj, hbody, hclock, hfinish]
    exact ⟨by simpa using hp, rfl, rfl, hfirst, hothers, hnone, rfl⟩

end Sys2Proof.Machine
end

section
/-! The authorization windows and the locks of the hold-up zones, through every operation that reports to the zones (sections 9.2, 9.3 and 9.8): O22 and O23. -/

namespace Sys2Proof.Machine

/-! ## Windows and locks -/

/-- The part is starting. -/
def Phase.starts : Phase → Bool
  | .startUp _ => true
  | _ => false

@[simp] theorem Phase.starts_startUp (st : StartStep) : (Phase.startUp st).starts = true := rfl
@[simp] theorem Phase.starts_running : Phase.running.starts = false := rfl
@[simp] theorem Phase.starts_restarting (b : Bool) : (Phase.restarting b).starts = false := rfl
@[simp] theorem Phase.starts_off : Phase.off.starts = false := rfl

theorem Phase.starts_iff (p : Phase) : p.starts = true ↔ ∃ st, p = .startUp st := by
  cases p <;> simp

/-- The zone of a hold-up input is LOCKED. -/
abbrev Zones.locked (z : Zones) (i : AB) : Prop := (z.get (holdupZone i)).state = .locked

/-- The window of a door zone is closed. -/
abbrev Zones.closed (z : Zones) (d : Door) : Prop := (z.get (doorZone d)).windowUntil = none

/-- What alarm events keep: where `w` holds, no window is open under duress or while the part is starting; and the hold-up
zones of the inputs `kept` are LOCKED. -/
def Zones.Guarded (w : Prop) (kept : AB → Prop) (z : Zones) (starting : Bool) : Prop :=
  (w → (∃ i, z.locked i) ∨ starting = true → ∀ d, z.closed d) ∧ ∀ i, kept i → z.locked i

theorem AU.duress_iff (au : AU) : au.duress = true ↔ ∃ i, au.zones.locked i := by
  simp only [AU.duress, Bool.or_eq_true, beq_iff_eq]
  constructor
  · rintro (h | h)
    · exact ⟨.a, h⟩
    · exact ⟨.b, h⟩
  · rintro ⟨_ | _, h⟩
    · exact .inl h
    · exact .inr h

theorem State.windowsFormed_iff (s : State) : s.windowsFormed ↔ s.au.zones.Guarded True (fun _ => False) s.phase.starts := by
  unfold State.windowsFormed Zones.Guarded
  rw [Phase.starts_iff, AU.duress_iff]
  constructor
  · intro h
    refine ⟨fun _ hd d => ?_, fun _ hf => hf.elim⟩
    cases d
    · exact (h hd).1
    · exact (h hd).2
  · intro h hd
    exact ⟨h.1 trivial hd .safe, h.1 trivial hd .bin⟩

/-- The two differ in neither the state of a hold-up zone nor a window, but that a window may have closed. -/
def Zones.Calms (a b : Zones) : Prop :=
  (∀ i, (b.get (holdupZone i)).state = (a.get (holdupZone i)).state) ∧
    ∀ d, (b.get (doorZone d)).windowUntil = (a.get (doorZone d)).windowUntil ∨ b.closed d

theorem Zones.Calms.trans {a b c : Zones} (h : a.Calms b) (h' : b.Calms c) : a.Calms c :=
  ⟨fun i => (h'.1 i).trans (h.1 i), fun d => (h'.2 d).elim (fun e => (h.2 d).imp e.trans e.trans) .inr⟩

/-- A zone replaced by one of the same window and, for a hold-up zone, of the same state. -/
theorem Zones.set_calms (a : Zones) (z : ZoneId) (r : Zone) (hs : ∀ i, z = holdupZone i → r.state = (a.get z).state)
    (hw : r.windowUntil = (a.get z).windowUntil ∨ r.windowUntil = none) : a.Calms (a.set z r) := by
  simp only [Zones.Calms, Zones.closed, Zones.get_set]
  refine ⟨fun i => ?_, fun d => ?_⟩
  · split
    · next h => rw [hs i h.symm, h]
    · rfl
  · split
    · next h => rw [h]; exact hw
    · exact .inl rfl

@[simp ↓] theorem State.modZone_zones (s : State) (z : ZoneId) (f : Zone → Zone) :
    (s.modZone z f).au.zones = s.au.zones.set z (f (s.au.zones.get z)) := rfl

section
set_option backward.isDefEq.respectTransparency false
variable {w : Prop} {kept : AB → Prop} {st : Bool}

theorem Zones.Guarded.calmed {a b : Zones} (h : a.Guarded w kept st) (hb : a.Calms b) : b.Guarded w kept st := by
  obtain ⟨hold, windows⟩ := hb
  refine ⟨fun hw hd d => ?_, fun i hi => (hold i).trans (h.2 i hi)⟩
  have hclosed := h.1 hw (hd.imp_left fun hd => by simpa only [Zones.locked, hold] using hd) d
  exact (windows d).elim (fun e => e.trans hclosed) id

theorem Zones.Guarded.of_starts {a : Zones} {st' : Bool} (h : a.Guarded w kept st) (hs : st' = true → st = true) :
    a.Guarded w kept st' := ⟨fun hw hd => h.1 hw (hd.imp_right hs), h.2⟩

/-- With both windows closed only the locks matter. -/
theorem Zones.Guarded.of_closed {a : Zones} (hc : ∀ d, a.closed d) (hk : ∀ i, kept i → a.locked i) : a.Guarded w kept st :=
  ⟨fun _ _ d => hc d, hk⟩

@[simp] theorem Zones.set_guarded {a : Zones} {z : ZoneId} {r : Zone} (hs : r.state = (a.get z).state)
    (hw : r.windowUntil = (a.get z).windowUntil) (h : a.Guarded w kept st) : (a.set z r).Guarded w kept st :=
  h.calmed (a.set_calms z r (fun _ _ => hs) (.inl hw))

/-! ## The transitions of the zones -/

@[simp] theorem State.alarmRecord_zones (s : State) (z : ZoneId) (left entered : ZoneState) :
    (s.alarmRecord z left entered).au.zones = s.au.zones := by
  unfold State.alarmRecord
  dsimp only
  split <;> simp [State.countLost]

/-- A zone's transition changes that zone alone, and no window (R182). -/
theorem State.zoneTo_zone (s : State) (z : ZoneId) (entered : ZoneState) (k : ZoneId) :
    (s.zoneTo z entered).au.zones.get k =
      if k = z ∧ entered ≠ (s.zone z).state then
        { s.zone z with state := entered, delayDue := none,
                        acked := if entered = .alarm ∨ entered = .idle then false else (s.zone z).acked }
      else s.au.zones.get k := by
  unfold State.zoneTo
  dsimp only
  by_cases h : entered = (s.zone z).state
  · simp [h]
  · have hne : ¬ entered = (s.au.zones.get z).state := h
    rw [if_neg h]
    split <;> simp [hne, State.zone]

theorem State.zoneTo_window (s : State) (z : ZoneId) (entered : ZoneState) (k : ZoneId) :
    ((s.zoneTo z entered).au.zones.get k).windowUntil = (s.au.zones.get k).windowUntil := by
  rw [State.zoneTo_zone]
  split
  · next h => rw [h.1]; rfl
  · rfl

@[simp] theorem holdupZone_ne_doorZone (i : AB) (d : Door) : holdupZone i ≠ doorZone d := by cases i <;> cases d <;> nofun

/-- A transition of a zone that is no hold-up zone. -/
theorem State.zoneTo_calms (s : State) {z : ZoneId} (hz : ∀ i, z ≠ holdupZone i) (entered : ZoneState) :
    s.au.zones.Calms (s.zoneTo z entered).au.zones :=
  ⟨fun i => by rw [State.zoneTo_zone, if_neg (fun h => hz i h.1.symm)], fun _ => .inl (State.zoneTo_window ..)⟩

theorem State.zoneTo_guarded {s : State} {z : ZoneId} (hz : ∀ i, z ≠ holdupZone i) (entered : ZoneState)
    (h : s.au.zones.Guarded w kept st) : (s.zoneTo z entered).au.zones.Guarded w kept st :=
  h.calmed (s.zoneTo_calms hz entered)

@[simp] theorem State.zoneTo_tamper_guarded {s : State} (l : Lane) (entered : ZoneState)
    (h : s.au.zones.Guarded w kept st) : (s.zoneTo (.tamper l) entered).au.zones.Guarded w kept st :=
  State.zoneTo_guarded (fun i => by cases i <;> nofun) entered h

@[simp] theorem State.zoneTo_door_guarded {s : State} (d : Door) (entered : ZoneState)
    (h : s.au.zones.Guarded w kept st) : (s.zoneTo (doorZone d) entered).au.zones.Guarded w kept st :=
  State.zoneTo_guarded (fun i => (holdupZone_ne_doorZone i d).symm) entered h

/-- A zone that is not LOCKED goes to another state that is not. -/
theorem State.zoneTo_unlocked {s : State} {z : ZoneId} {entered : ZoneState} (hz : (s.zone z).state ≠ .locked)
    (he : entered ≠ .locked) (h : s.au.zones.Guarded w kept st) : (s.zoneTo z entered).au.zones.Guarded w kept st := by
  have hlocked : ∀ i, (s.zoneTo z entered).au.zones.locked i ↔ s.au.zones.locked i := fun i => by
    rw [Zones.locked, State.zoneTo_zone]
    split
    · next hi => simpa [hi.1, he, State.zone] using hz
    · rfl
  refine ⟨fun hw hd d => (State.zoneTo_window ..).trans (h.1 hw (hd.imp_left fun hd => ?_) d),
    fun i hi => (hlocked i).mpr (h.2 i hi)⟩
  simpa only [hlocked] using hd

/-- A zone that locks in releases no other. -/
theorem State.zoneTo_locked (s : State) (z : ZoneId) {i : AB} (h : s.au.zones.locked i) :
    (s.zoneTo z .locked).au.zones.locked i := by
  rw [Zones.locked, State.zoneTo_zone]
  split
  · rfl
  · exact h

theorem State.zoneIdle_unlocked {s : State} {z : ZoneId} (hz : (s.zone z).state ≠ .locked)
    (h : s.au.zones.Guarded w kept st) : (s.zoneIdle z).au.zones.Guarded w kept st := by
  have hidle := State.zoneTo_unlocked hz (entered := .idle) (by simp) h
  unfold State.zoneIdle
  dsimp only
  split
  · split
    · exact hidle
    · exact State.zoneTo_guarded (fun i => by cases i <;> simp [holdupZone]) _ hidle
  · exact hidle

theorem State.startDelay_calms (s : State) (d : Door) : s.au.zones.Calms (s.startDelay d).au.zones := by
  have hz : ∀ i, doorZone d ≠ holdupZone i := fun i => (holdupZone_ne_doorZone i d).symm
  unfold State.startDelay
  split
  · exact s.zoneTo_calms hz _
  · exact (s.zoneTo_calms hz .delay).trans (Zones.set_calms _ _ _ (fun _ _ => rfl) (.inl rfl))

@[simp] theorem State.startDelay_guarded {s : State} (d : Door) (h : s.au.zones.Guarded w kept st) :
    (s.startDelay d).au.zones.Guarded w kept st := h.calmed (s.startDelay_calms d)

/-- A window that closes leaves the hold-up zones, and no other window opens (R174). -/
theorem State.closeWindow_calms (s : State) (d : Door) :
    s.au.zones.Calms (s.closeWindow d).au.zones ∧ (s.closeWindow d).au.zones.closed d := by
  have hmod := s.au.zones.set_calms (doorZone d) { s.zone (doorZone d) with windowUntil := none } (fun _ _ => rfl) (.inr rfl)
  have hnone : (s.au.zones.set (doorZone d) { s.zone (doorZone d) with windowUntil := none }).closed d := by
    simp [Zones.closed]
  unfold State.closeWindow
  dsimp only
  split
  · have hstart := State.startDelay_calms (s.modZone (doorZone d) fun r => { r with windowUntil := none }) d
    exact ⟨hmod.trans hstart, (hstart.2 d).elim (fun h => h.trans hnone) id⟩
  · exact ⟨hmod, hnone⟩

@[simp] theorem State.closeWindow_guarded {s : State} (d : Door) (h : s.au.zones.Guarded w kept st) :
    (s.closeWindow d).au.zones.Guarded w kept st := h.calmed (s.closeWindow_calms d).1

/-- A hold-up zone locks in; at the onset of duress both windows close with it (R170, R171). -/
theorem State.lockIn_guarded {s : State} (i : AB) (h : s.au.zones.Guarded w kept st) :
    (s.lockIn (holdupZone i)).au.zones.Guarded w kept st := by
  have hlocks : ∀ j, kept j → (s.zoneTo (holdupZone i) .locked).au.zones.locked j := fun j hj => s.zoneTo_locked _ (h.2 j hj)
  unfold State.lockIn
  dsimp only
  split
  · next hd =>
    exact ⟨fun hw _ d => (State.zoneTo_window ..).trans (h.1 hw (.inl ((AU.duress_iff _).mp hd)) d), hlocks⟩
  · obtain ⟨⟨hold, -⟩, hsafe⟩ := (s.zoneTo (holdupZone i) .locked).closeWindow_calms .safe
    obtain ⟨⟨hold', windows⟩, hbin⟩ := ((s.zoneTo (holdupZone i) .locked).closeWindow .safe).closeWindow_calms .bin
    refine .of_closed (fun d => ?_) fun j hj => (hold' j).trans ((hold j).trans (hlocks j hj))
    cases d
    · exact (windows .safe).elim (fun e => e.trans hsafe) id
    · exact hbin

@[simp] theorem State.doorOpens_guarded {s : State} (d : Door) (h : s.au.zones.Guarded w kept st) :
    (s.doorOpens d).au.zones.Guarded w kept st := by
  unfold State.doorOpens
  dsimp only
  (repeat' split) <;> simp [h]

@[simp] theorem State.causeRises_guarded {s : State} (z : ZoneId) (h : s.au.zones.Guarded w kept st) :
    (s.causeRises z).au.zones.Guarded w kept st := by
  unfold State.causeRises
  split
  · split
    · exact State.lockIn_guarded .a h
    · exact h
  · split
    · exact State.lockIn_guarded .b h
    · exact h
  · exact State.doorOpens_guarded _ h
  · exact State.doorOpens_guarded _ h
  · next hA hB _ _ =>
    split
    · exact State.zoneTo_guarded (fun i => by cases i <;> assumption) _ h
    · exact h

@[simp] theorem State.causeFalls_guarded {s : State} (z : ZoneId) (h : s.au.zones.Guarded w kept st) :
    (s.causeFalls z).au.zones.Guarded w kept st := by
  unfold State.causeFalls
  split
  · next ha =>
    have hz : (s.zone z).state ≠ .locked := by simp [ha]
    split
    · exact State.zoneIdle_unlocked hz h
    · exact State.zoneTo_unlocked hz (by simp) h
  · exact h

@[simp] theorem State.setCause_guarded {s : State} (z : ZoneId) (active : Bool) (h : s.au.zones.Guarded w kept st) :
    (s.setCause z active).au.zones.Guarded w kept st := by
  unfold State.setCause
  dsimp only
  (repeat' split) <;> simp [h]

@[simp] theorem State.supervise_guarded {s : State} (l : Lane) (resolved : Bool) (h : s.au.zones.Guarded w kept st) :
    (s.supervise l resolved).au.zones.Guarded w kept st := by
  have hidle : ((s.modZone (.tamper l) fun z =>
      { z with supervised := true, cause := (s.laneRec l).tamperLevel }).zoneTo (.tamper l) .idle).au.zones.Guarded w kept st := by
    simp [h]
  unfold State.supervise
  dsimp only
  (repeat' split) <;> simp [hidle, h]

/-- The key switch releases zones, with no lock kept (R170). -/
theorem State.keyReleases_guarded {s : State} (z : ZoneId) (hkept : ∀ i, ¬ kept i) (h : s.au.zones.Guarded w kept st) :
    (s.keyReleases z).au.zones.Guarded w kept st := by
  unfold State.keyReleases
  split
  · refine ⟨fun hw hd d => (State.zoneTo_window ..).trans (h.1 hw (hd.imp_left fun ⟨i, hi⟩ => ⟨i, ?_⟩) d),
      fun i hi => (hkept i hi).elim⟩
    rw [Zones.locked, State.zoneTo_zone] at hi
    split at hi
    · cases hi
    · exact hi
  · exact h

/-- A window opens where duress does not hold and the part is not starting (R185). -/
theorem State.openWindow_guarded {s : State} (d : Door) (minutes : Nat) (hd : s.au.duress = false)
    (h : s.au.zones.Guarded w kept false) : (s.openWindow d minutes).au.zones.Guarded w kept false := by
  have hold : ∀ i, (s.openWindow d minutes).au.zones.locked i ↔ s.au.zones.locked i := fun i => by
    unfold State.openWindow
    dsimp only
    split <;> simp [Zones.locked, State.zoneTo_zone]
  have hnone : ¬ ∃ i, s.au.zones.locked i := by simp [← AU.duress_iff, hd]
  exact ⟨fun _ hd' => by simp [hold, hnone] at hd', fun i hi => (hold i).mpr (h.2 i hi)⟩

/-- Zone 12's missing lanes are emptied and its cause made normal before it is acknowledged (R179, R186). -/
def State.missingEmptied (s : State) : ZoneId → State
  | .carrierMissing =>
    (s.modAU fun au => { au with missing := Four.const false }).modZone .carrierMissing fun r => { r with cause := false }
  | _ => s

/-- A zone is acknowledged, zone 12's missing lanes aside (R186). -/
def State.acknowledgedZone (s : State) (z : ZoneId) : State :=
  match (s.zone z).state with
  | .alarm => if (s.zone z).cause then s.modZone z fun r => { r with acked := true } else s.zoneIdle z
  | .latched => s.zoneIdle z
  | _ => s

theorem State.acknowledge_eq (s : State) (z : ZoneId) : s.acknowledge z = (s.missingEmptied z).acknowledgedZone z := by
  cases z <;> rfl

@[simp] theorem State.acknowledge_guarded {s : State} (z : ZoneId) (h : s.au.zones.Guarded w kept st) :
    (s.acknowledge z).au.zones.Guarded w kept st := by
  have hemptied : (s.missingEmptied z).au.zones.Guarded w kept st := by
    unfold State.missingEmptied
    split <;> simp [State.modAU, h]
  rw [State.acknowledge_eq]
  unfold State.acknowledgedZone
  split
  · next ha =>
    split
    · simp [hemptied]
    · exact State.zoneIdle_unlocked (by simp [ha]) hemptied
  · next ha => exact State.zoneIdle_unlocked (by simp [ha]) hemptied
  · exact hemptied

end

/-! ## The operations that report to the zones -/

section
set_option backward.isDefEq.respectTransparency false
variable {w : Prop} {kept : AB → Prop} {st : Bool}

@[simp] theorem State.tellJam_guarded (s : State) (hz : s.au.zones.Guarded w kept st) :
    s.tellJam.au.zones.Guarded w kept st := by
  simp [State.tellJam, hz]

@[simp] theorem State.tellTamperLevel_guarded (s : State) (l : Lane) (hz : s.au.zones.Guarded w kept st) :
    (s.tellTamperLevel l).au.zones.Guarded w kept st := by
  unfold State.tellTamperLevel
  try dsimp only
  (repeat' split) <;> simp [hz]

@[simp] theorem State.airFault_guarded (s : State) (hz : s.au.zones.Guarded w kept st) :
    s.airFault.1.au.zones.Guarded w kept st := by
  simp [State.airFault, hz]

@[simp] theorem State.airLeavesFault_guarded (s : State) (hz : s.au.zones.Guarded w kept st) :
    s.airLeavesFault.au.zones.Guarded w kept st := by
  simp [State.airLeavesFault, hz]

@[simp] theorem State.airReexamine_guarded (s : State) (hz : s.au.zones.Guarded w kept st) :
    s.airReexamine.au.zones.Guarded w kept st := by
  unfold State.airReexamine
  try dsimp only
  (repeat' split) <;> simp [hz]

@[simp] theorem State.airSwapOrFault_guarded (s : State) (hz : s.au.zones.Guarded w kept st) :
    s.airSwapOrFault.1.au.zones.Guarded w kept st := by
  unfold State.airSwapOrFault
  try dsimp only
  (repeat' split) <;> simp [hz]

@[simp] theorem State.overdue_guarded (s : State) (hz : s.au.zones.Guarded w kept st) :
    s.overdue.au.zones.Guarded w kept st := by
  unfold State.overdue
  try dsimp only
  (repeat' split) <;> simp [hz]

@[simp] theorem State.toldAirFault_guarded (s : State) (hz : s.au.zones.Guarded w kept st) :
    s.toldAirFault.au.zones.Guarded w kept st := by
  unfold State.toldAirFault
  try dsimp only
  (repeat' split) <;> simp [hz]

@[simp] theorem State.onTransitTimeout_guarded (s : State) (hz : s.au.zones.Guarded w kept st) :
    s.onTransitTimeout.au.zones.Guarded w kept st := by
  unfold State.onTransitTimeout
  try dsimp only
  (repeat' split) <;> simp [hz]

@[simp] theorem State.airChoose_guarded (s : State) (duty : AB) (hz : s.au.zones.Guarded w kept st) :
    (s.airChoose duty).au.zones.Guarded w kept st := by
  unfold State.airChoose
  try dsimp only
  (repeat' split) <;> simp [hz]

@[simp] theorem State.ownAirSettings_guarded (tag : Nat) (mode : Nat) (idle : Nat) (refresh : Nat) (autoSwitch : Nat) (duty : Nat) (s : State) (hz : s.au.zones.Guarded w kept st) :
    (State.ownAirSettings tag mode idle refresh autoSwitch duty s).au.zones.Guarded w kept st := by
  unfold State.ownAirSettings
  try dsimp only
  (repeat' split) <;> simp [hz]

@[simp] theorem State.airResets_guarded (s : State) (which : AB) (hz : s.au.zones.Guarded w kept st) :
    (s.airResets which).au.zones.Guarded w kept st := by
  unfold State.airResets
  try dsimp only
  (repeat' split) <;> simp [hz]

@[simp] theorem State.ownAirReset_guarded (tag : Nat) (blower : Nat) (s : State) (hz : s.au.zones.Guarded w kept st) :
    (State.ownAirReset tag blower s).au.zones.Guarded w kept st := by
  unfold State.ownAirReset
  try dsimp only
  (repeat' split) <;> simp [hz]

@[simp] theorem State.enrolled_guarded (s : State) (l : Lane) (f : Found) (hz : s.au.zones.Guarded w kept st) :
    (s.enrolled l f).au.zones.Guarded w kept st := by
  simp [State.enrolled, hz]

@[simp] theorem State.takeAnswer_guarded (s : State) (l : Lane) (p : PollReport) (hz : s.au.zones.Guarded w kept st) :
    (s.takeAnswer l p).au.zones.Guarded w kept st := by
  unfold State.takeAnswer
  try dsimp only
  (repeat' split) <;> simp [hz]

@[simp] theorem State.onPollAnswer_guarded (report : PollReport) (s : State) (hz : s.au.zones.Guarded w kept st) :
    (State.onPollAnswer report s).au.zones.Guarded w kept st := by
  unfold State.onPollAnswer
  try dsimp only
  (repeat' split) <;> simp [hz]

@[simp] theorem State.carrierMissing_guarded (s : State) (l : Lane) (hz : s.au.zones.Guarded w kept st) :
    (s.carrierMissing l).au.zones.Guarded w kept st := by
  simp [State.carrierMissing, hz]

@[simp] theorem State.depart_guarded (s : State) (l : Lane) (hz : s.au.zones.Guarded w kept st) :
    (s.depart l).au.zones.Guarded w kept st := by
  unfold State.depart
  try dsimp only
  (repeat' split) <;> simp [hz]

@[simp] theorem State.onVehicleClearExpiry_guarded (lane : Lane) (s : State) (hz : s.au.zones.Guarded w kept st) :
    (State.onVehicleClearExpiry lane s).au.zones.Guarded w kept st := by
  unfold State.onVehicleClearExpiry
  try dsimp only
  (repeat' split) <;> simp [hz]

@[simp] theorem State.reresolve_guarded (s : State) (l : Lane) (hz : s.au.zones.Guarded w kept st) :
    (s.reresolve l).au.zones.Guarded w kept st := by
  unfold State.reresolve
  try dsimp only
  (repeat' split) <;> simp [hz]

@[simp] theorem State.ownLaneSettings_guarded (tag : Nat) (lane : Nat) (features : Nat) (waypoints : Nat) (timeout : Nat) (autoRecall : Nat) (s : State) (hz : s.au.zones.Guarded w kept st) :
    (State.ownLaneSettings tag lane features waypoints timeout autoRecall s).au.zones.Guarded w kept st := by
  unfold State.ownLaneSettings
  try dsimp only
  (repeat' split) <;> simp [hz]

@[simp] theorem State.ownOpen_guarded (tag : Nat) (lane : Nat) (s : State) (hz : s.au.zones.Guarded w kept st) :
    (State.ownOpen tag lane s).au.zones.Guarded w kept st := by
  unfold State.ownOpen
  try dsimp only
  (repeat' split) <;> simp [hz]

@[simp] theorem State.safeDoor_guarded (s : State) (opened : Bool) (hz : s.au.zones.Guarded w kept st) :
    (s.safeDoor opened).au.zones.Guarded w kept st := by
  unfold State.safeDoor
  try dsimp only
  (repeat' split) <;> simp [hz]

@[simp] theorem State.dropFails_guarded (s : State) (h : Capture) (hz : s.au.zones.Guarded w kept st) :
    (s.dropFails h).au.zones.Guarded w kept st := by
  simp [State.dropFails, hz]

@[simp] theorem State.onDropTimeout_guarded (s : State) (hz : s.au.zones.Guarded w kept st) :
    s.onDropTimeout.au.zones.Guarded w kept st := by
  unfold State.onDropTimeout
  try dsimp only
  (repeat' split) <;> simp [hz]

@[simp] theorem State.binDoor_guarded (s : State) (closed : Bool) (hz : s.au.zones.Guarded w kept st) :
    (s.binDoor closed).au.zones.Guarded w kept st := by
  unfold State.binDoor
  try dsimp only
  (repeat' split) <;> simp [hz]

@[simp] theorem State.clearFault_guarded (s : State) (tag : Nat) (h : Capture) (inBin : Bool) (hz : s.au.zones.Guarded w kept st) :
    (s.clearFault tag h inBin).au.zones.Guarded w kept st := by
  unfold State.clearFault
  try dsimp only
  (repeat' split) <;> simp [hz]

@[simp] theorem State.ownCaptureClear_guarded (tag : Nat) (disposition : Nat) (s : State) (hz : s.au.zones.Guarded w kept st) :
    (State.ownCaptureClear tag disposition s).au.zones.Guarded w kept st := by
  unfold State.ownCaptureClear
  try dsimp only
  (repeat' split) <;> simp [hz]

@[simp] theorem State.onEntryDelayExpiry_guarded (door : Door) (s : State) (hz : s.au.zones.Guarded w kept st) :
    (State.onEntryDelayExpiry door s).au.zones.Guarded w kept st := by
  unfold State.onEntryDelayExpiry
  try dsimp only
  (repeat' split) <;> simp [hz]

@[simp] theorem State.onWindowExpiry_guarded (door : Door) (s : State) (hz : s.au.zones.Guarded w kept st) :
    (State.onWindowExpiry door s).au.zones.Guarded w kept st := by
  unfold State.onWindowExpiry
  try dsimp only
  (repeat' split) <;> simp [hz]

@[simp] theorem State.onSounderPhaseEnd_guarded (s : State) (hz : s.au.zones.Guarded w kept st) :
    s.onSounderPhaseEnd.au.zones.Guarded w kept st := by
  unfold State.onSounderPhaseEnd
  try dsimp only
  (repeat' split) <;> simp [hz]

@[simp] theorem State.onSounderCutoff_guarded (s : State) (hz : s.au.zones.Guarded w kept st) :
    s.onSounderCutoff.au.zones.Guarded w kept st := by
  unfold State.onSounderCutoff
  try dsimp only
  (repeat' split) <;> simp [hz]

@[simp] theorem State.ownZoneSettings_guarded (tag : Nat) (zone : Nat) (delay : Nat) (s : State) (hz : s.au.zones.Guarded w kept st) :
    (State.ownZoneSettings tag zone delay s).au.zones.Guarded w kept st := by
  unfold State.ownZoneSettings
  try dsimp only
  (repeat' split) <;> simp [hz]

@[simp] theorem State.ownAckZone_guarded (tag : Nat) (zone : Nat) (s : State) (hz : s.au.zones.Guarded w kept st) :
    (State.ownAckZone tag zone s).au.zones.Guarded w kept st := by
  unfold State.ownAckZone
  try dsimp only
  (repeat' split) <;> simp [hz]

@[simp] theorem State.ownSounderSilence_guarded (tag : Nat) (s : State) (hz : s.au.zones.Guarded w kept st) :
    (State.ownSounderSilence tag s).au.zones.Guarded w kept st := by
  unfold State.ownSounderSilence
  cases hr : s.au.run <;> simp [State.modAU, hr, hz]

@[simp] theorem State.ownSounderSettings_guarded (tag period : Nat) (s : State) (hz : s.au.zones.Guarded w kept st) :
    (State.ownSounderSettings tag period s).au.zones.Guarded w kept st := by
  simp [State.ownSounderSettings, State.modAU, hz]

@[simp] theorem State.evaluateTamper_guarded (s : State) (l : Lane) (hz : s.au.zones.Guarded w kept st) :
    (s.evaluateTamper l).au.zones.Guarded w kept st := by
  have hidle : ((s.modZone (.tamper l) fun r => { r with heldLatched := false }).zoneTo (.tamper l) .idle).au.zones.Guarded
      w kept st := by simp [hz]
  unfold State.evaluateTamper
  dsimp only
  (repeat' split) <;> simp [hidle, hz]

/-- A zone's evaluation at the end of start-up, with no window open (R183). -/
theorem State.evaluateZone_guarded (s : State) (z : ZoneId) (hz : s.au.zones.Guarded w kept true) :
    (s.evaluateZone z).au.zones.Guarded w kept true := by
  have hlock : ∀ z, (s.zoneTo z .locked).au.zones.Guarded w kept true := fun z =>
    ⟨fun hw _ d => (State.zoneTo_window ..).trans (hz.1 hw (.inr rfl) d), fun i hi => s.zoneTo_locked z (hz.2 i hi)⟩
  unfold State.evaluateZone
  (repeat' split) <;> simp [hlock, hz]

/-- The end of start-up opens no window and releases no lock (R183). -/
theorem State.endStartUp_guarded (s : State) (hz : s.au.zones.Guarded w kept true) :
    s.endStartUp.au.zones.Guarded w kept s.endStartUp.phase.starts := by
  have hall : ∀ (zs : List ZoneId) (s : State), s.au.zones.Guarded w kept true →
      (zs.foldl State.evaluateZone s).au.zones.Guarded w kept true := by
    intro zs
    induction zs with
    | nil => exact fun s hs => hs
    | cons z zs ih => exact fun s hs => ih _ (s.evaluateZone_guarded z hs)
  exact ⟨fun hw _ => (hall ZoneId.all s hz).1 hw (.inr rfl), (hall ZoneId.all s hz).2⟩

@[simp] theorem State.airStepEnds_guarded (s : State) (hz : s.au.zones.Guarded w kept s.phase.starts) :
    s.airStepEnds.au.zones.Guarded w kept s.airStepEnds.phase.starts := by
  unfold State.airStepEnds
  split
  · next hp => exact State.endStartUp_guarded s (by simpa [hp] using hz)
  · exact hz

@[simp] theorem State.airAfterFailure_guarded (s : State) (hz : s.au.zones.Guarded w kept s.phase.starts) :
    s.airAfterFailure.au.zones.Guarded w kept s.airAfterFailure.phase.starts := by
  have hs : s.airSwapOrFault.1.au.zones.Guarded w kept s.phase.starts := by simp [hz]
  unfold State.airAfterFailure
  dsimp only
  (repeat' split) <;> simp [hs]

@[simp] theorem State.switchOpens_guarded (s : State) (which : AB) (hz : s.au.zones.Guarded w kept s.phase.starts) :
    (s.switchOpens which).au.zones.Guarded w kept (s.switchOpens which).phase.starts := by
  unfold State.switchOpens
  try dsimp only
  (repeat' split) <;> simp [hz]

@[simp] theorem State.onSpinUpLimit_guarded (s : State) (hz : s.au.zones.Guarded w kept s.phase.starts) :
    s.onSpinUpLimit.au.zones.Guarded w kept s.onSpinUpLimit.phase.starts := by
  unfold State.onSpinUpLimit
  try dsimp only
  (repeat' split) <;> simp [hz]

@[simp] theorem State.judgeRefresh_guarded (s : State) (hz : s.au.zones.Guarded w kept s.phase.starts) :
    s.judgeRefresh.au.zones.Guarded w kept s.judgeRefresh.phase.starts := by
  unfold State.judgeRefresh
  try dsimp only
  (repeat' split) <;> simp [hz]

@[simp] theorem State.onRefreshRunEnd_guarded (s : State) (hz : s.au.zones.Guarded w kept s.phase.starts) :
    s.onRefreshRunEnd.au.zones.Guarded w kept s.onRefreshRunEnd.phase.starts := by
  unfold State.onRefreshRunEnd
  try dsimp only
  (repeat' split) <;> simp [hz]

end

/-! ## The steps of start-up and the events -/

@[simp] theorem State.beginAir_starts (s : State) : s.beginAir.phase.starts = true := by
  simp [State.beginAir]

@[simp] theorem State.beginNotePath_starts (s : State) : s.beginNotePath.phase.starts = true := by
  unfold State.beginNotePath
  try dsimp only
  (repeat' split) <;> simp

@[simp] theorem State.beginEnrolment_starts (s : State) : s.beginEnrolment.phase.starts = true := by
  simp [State.beginEnrolment]

@[simp] theorem State.powerRecordLost_starts (s : State) : s.powerRecordLost.phase.starts = true := by
  simp [State.powerRecordLost]

@[simp] theorem State.beginPowerRecord_starts (s : State) : s.beginPowerRecord.phase.starts = true := by
  unfold State.beginPowerRecord
  try dsimp only
  (repeat' split) <;> simp

@[simp] theorem State.scanEnds_starts (s : State) : s.scanEnds.phase.starts = true := by
  simp [State.scanEnds]

@[simp] theorem State.notePathStepEnds_starts (s : State) : s.notePathStepEnds.phase.starts = s.phase.starts := by
  unfold State.notePathStepEnds
  split
  · next hp => simp [hp]
  · rfl

@[simp] theorem State.enrolmentStepEnds_starts (s : State) : s.enrolmentStepEnds.phase.starts = s.phase.starts := by
  unfold State.enrolmentStepEnds
  split
  · next hp => simp [hp]
  · rfl

@[simp] theorem State.powerEnds_starts (s : State) (programmed : Bool) :
    (s.powerEnds programmed).phase.starts = s.phase.starts := by
  unfold State.powerEnds
  split
  · next hp => split <;> simp [hp]
  · rfl

@[simp] theorem State.scanStepEnds_starts (s : State) : s.scanStepEnds.phase.starts = s.phase.starts := by
  unfold State.scanStepEnds
  split
  · next hp => split <;> simp [hp]
  · rfl

@[simp] theorem State.afterEnrolment_starts (s : State) (l : Lane) (why : EnrolWhy) :
    (s.afterEnrolment l why).phase.starts = s.phase.starts := by
  unfold State.afterEnrolment
  try dsimp only
  (repeat' split) <;> simp

@[simp] theorem State.endEnrolment_starts (s : State) (l : Lane) (why : EnrolWhy) (f : Found) :
    (s.endEnrolment l why f).phase.starts = s.phase.starts := by
  simp [State.endEnrolment]

@[simp] theorem State.onIdentAnswer_starts (report : IdentReport) (s : State) :
    (State.onIdentAnswer report s).phase.starts = s.phase.starts := by
  unfold State.onIdentAnswer
  try dsimp only
  (repeat' split) <;> simp

@[simp] theorem State.onIdentTimeout_starts (loopClosed : Bool) (s : State) :
    (State.onIdentTimeout loopClosed s).phase.starts = s.phase.starts := by
  unfold State.onIdentTimeout
  try dsimp only
  (repeat' split) <;> simp

@[simp] theorem State.halt_starts (s : State) : s.halt.phase.starts = s.phase.starts := by
  unfold State.halt
  try dsimp only
  (repeat' split) <;> simp

@[simp] theorem State.safeDoor_starts (s : State) (opened : Bool) :
    (s.safeDoor opened).phase.starts = s.phase.starts := by
  unfold State.safeDoor
  try dsimp only
  (repeat' split) <;> simp

@[simp] theorem State.onClearingEnd_starts (pathClear : Bool) (s : State) :
    (State.onClearingEnd pathClear s).phase.starts = s.phase.starts := by
  unfold State.onClearingEnd
  try dsimp only
  (repeat' split) <;> simp

@[simp] theorem State.tellOwner_starts (s : State) (p : Program) (programmed : Bool) :
    (s.tellOwner p programmed).phase.starts = s.phase.starts := by
  unfold State.tellOwner
  try dsimp only
  (repeat' split) <;> simp

@[simp] theorem State.endAllUnmade_starts (s : State) (ps : List Program) :
    (s.endAllUnmade ps).phase.starts = s.phase.starts := by
  unfold State.endAllUnmade
  induction ps generalizing s with
  | nil => rfl
  | cons p ps ih => rw [List.foldl_cons, ih, State.endUnmade, State.tellOwner_starts]

@[simp] theorem State.enterFailed_starts (s : State) (failed : Work) :
    (s.enterFailed failed).phase.starts = s.phase.starts := by
  simp [State.enterFailed]

@[simp] theorem State.programEnds_starts (s : State) (p : Program) (programmed : Bool) :
    (s.programEnds p programmed).phase.starts = s.phase.starts := by
  simp [State.programEnds]

@[simp] theorem State.appendMade_starts (s : State) (p : Program) (r : Record) (i : Nat) (k : Nat) (missed : List Byte) :
    (s.appendMade p r i k missed).phase.starts = s.phase.starts := by
  unfold State.appendMade
  try dsimp only
  (repeat' split) <;> simp

@[simp] theorem State.changeMade_starts (s : State) (p : Program) (missed : List Byte) :
    (s.changeMade p missed).phase.starts = s.phase.starts := by
  unfold State.changeMade
  try dsimp only
  (repeat' split) <;> simp

@[simp] theorem State.programMade_starts (s : State) (missed : List Byte) :
    (s.programMade missed).phase.starts = s.phase.starts := by
  unfold State.programMade
  try dsimp only
  (repeat' split) <;> simp

@[simp] theorem State.onJournalProgramDone_starts (missed : List Byte) (s : State) :
    (State.onJournalProgramDone missed s).phase.starts = s.phase.starts := by
  simp [State.onJournalProgramDone]

section
set_option backward.isDefEq.respectTransparency false
variable {w : Prop} {kept : AB → Prop} {st : Bool}

@[simp] theorem State.endEnrolment_guarded (s : State) (l : Lane) (why : EnrolWhy) (f : Found) (hz : s.au.zones.Guarded w kept st) :
    (s.endEnrolment l why f).au.zones.Guarded w kept st := by
  simp [State.endEnrolment, hz]

@[simp] theorem State.onIdentAnswer_guarded (report : IdentReport) (s : State) (hz : s.au.zones.Guarded w kept st) :
    (State.onIdentAnswer report s).au.zones.Guarded w kept st := by
  unfold State.onIdentAnswer
  try dsimp only
  (repeat' split) <;> simp [hz]

@[simp] theorem State.onIdentTimeout_guarded (loopClosed : Bool) (s : State) (hz : s.au.zones.Guarded w kept st) :
    (State.onIdentTimeout loopClosed s).au.zones.Guarded w kept st := by
  unfold State.onIdentTimeout
  try dsimp only
  (repeat' split) <;> simp [hz]

@[simp] theorem State.tellOwner_guarded (s : State) (p : Program) (programmed : Bool) (hz : s.au.zones.Guarded w kept st) :
    (s.tellOwner p programmed).au.zones.Guarded w kept st := by
  unfold State.tellOwner
  try dsimp only
  (repeat' split) <;> simp [hz]

@[simp] theorem State.endAllUnmade_guarded (s : State) (ps : List Program) (hz : s.au.zones.Guarded w kept st) :
    (s.endAllUnmade ps).au.zones.Guarded w kept st := by
  unfold State.endAllUnmade
  induction ps generalizing s with
  | nil => exact hz
  | cons p ps ih => exact ih _ (State.tellOwner_guarded _ _ _ hz)

@[simp] theorem State.enterFailed_guarded (s : State) (failed : Work) (hz : s.au.zones.Guarded w kept st) :
    (s.enterFailed failed).au.zones.Guarded w kept st := by
  simp [State.enterFailed, hz]

@[simp] theorem State.programEnds_guarded (s : State) (p : Program) (programmed : Bool) (hz : s.au.zones.Guarded w kept st) :
    (s.programEnds p programmed).au.zones.Guarded w kept st := by
  simp [State.programEnds, hz]

@[simp] theorem State.appendMade_guarded (s : State) (p : Program) (r : Record) (i : Nat) (k : Nat) (missed : List Byte) (hz : s.au.zones.Guarded w kept st) :
    (s.appendMade p r i k missed).au.zones.Guarded w kept st := by
  unfold State.appendMade
  try dsimp only
  (repeat' split) <;> simp [hz]

@[simp] theorem State.changeMade_guarded (s : State) (p : Program) (missed : List Byte) (hz : s.au.zones.Guarded w kept st) :
    (s.changeMade p missed).au.zones.Guarded w kept st := by
  unfold State.changeMade
  try dsimp only
  (repeat' split) <;> simp [hz]

@[simp] theorem State.programMade_guarded (s : State) (missed : List Byte) (hz : s.au.zones.Guarded w kept st) :
    (s.programMade missed).au.zones.Guarded w kept st := by
  unfold State.programMade
  try dsimp only
  (repeat' split) <;> simp [hz]

@[simp] theorem State.onJournalProgramDone_guarded (missed : List Byte) (s : State) (hz : s.au.zones.Guarded w kept st) :
    (State.onJournalProgramDone missed s).au.zones.Guarded w kept st := by
  simp [State.onJournalProgramDone, hz]

end

section
set_option backward.isDefEq.respectTransparency false
variable {w : Prop} {kept : AB → Prop} {st : Bool}

@[simp] theorem State.keyEdge_guarded (s : State) (rising : Bool) (hkept : ∀ i, ¬ kept i)
    (hz : s.au.zones.Guarded w kept st) : (s.keyEdge rising).au.zones.Guarded w kept st := by
  unfold State.keyEdge
  dsimp only
  split
  · exact State.keyReleases_guarded _ hkept (State.keyReleases_guarded _ hkept (by simpa [State.modAU] using hz))
  · simpa [State.modAU] using hz

/-- AUTHORIZE opens a window of a running part alone, and not under duress (R185). -/
@[simp] theorem State.ownAuthorize_guarded (tag zone minutes : Nat) (s : State) (hz : s.au.zones.Guarded w kept false) :
    (State.ownAuthorize tag zone minutes s).au.zones.Guarded w kept false := by
  unfold State.ownAuthorize
  dsimp only
  split
  · simp [hz]
  · split
    · simp [hz]
    · next hd =>
      split
      · simp [hz]
      · simp [State.openWindow_guarded _ _ (by simpa using hd) hz]

/-- RESTART is taken while the part runs, and its start-up has not begun (R207). -/
theorem State.ownRestart_starts (tag : Nat) (s : State) (hrun : s.phase.starts = false) :
    (State.ownRestart tag s).phase.starts = false := by
  unfold State.ownRestart
  split
  · rfl
  · exact hrun

/-- A running part's request keeps the windows and the locks (R171, R174, R185). -/
theorem State.serve_guarded (s : State) (i : Instr) (hrun : s.phase.starts = false)
    (hz : s.au.zones.Guarded w kept s.phase.starts) :
    (s.serve i).au.zones.Guarded w kept (s.serve i).phase.starts := by
  rw [hrun] at hz
  cases i <;> simp [State.serve, State.ownRestart_starts, hrun, hz]

/-- No frame's end begins a start-up: after RESTART's reply it is still to begin (R207). -/
theorem State.onFrameSent_starts (s : State) (h : s.onFrameSent.phase.starts = true) : s.phase.starts = true := by
  have hreply : ∀ s : State, s.replySent.phase.starts = true → s.phase.starts = true := by
    intro s
    unfold State.replySent
    split
    · exact id
    · dsimp only
      split
      · nofun
      · exact id
  unfold State.onFrameSent at h
  split at h
  · unfold State.sent at h
    dsimp only at h
    split at h
    · exact hreply (s.modLC fun lc => { lc with sending := none }) h
    · exact h
    · exact h
  · exact h

@[simp] theorem State.scan_starts (s : State) : s.scan.phase.starts = s.phase.starts := by
  unfold State.scan
  dsimp only
  (repeat' split) <;> simp

/-- At the beginning of a start-up no window is open, and a hold-up zone is LOCKED as the store has it (R183). -/
theorem AU.initial_guarded (k : AlarmKept) (inputA inputB safeOpen binOpen key : Bool)
    (hk : ∀ i, kept i → (match i with | .a => k.lockedA | .b => k.lockedB) = true) :
    (AU.initial k inputA inputB safeOpen binOpen key).zones.Guarded w kept st := by
  refine .of_closed (fun d => by cases d <;> rfl) fun i hi => ?_
  cases i
  · exact congrArg lockedIf (hk .a hi)
  · exact congrArg lockedIf (hk .b hi)

theorem State.powersOn_guarded (s : State) (first second : Bool) (hkept : ∀ i, ¬ kept i) :
    (s.powersOn first second).au.zones.Guarded w kept st := by
  unfold State.powersOn
  split <;> rw [(State.scan_frame _).2.2.2.2.2.2.2.1] <;>
    exact AU.initial_guarded _ _ _ _ _ _ fun i hi => (hkept i hi).elim

theorem State.restarts_guarded (s : State) (hz : s.au.zones.Guarded w kept st) :
    s.restarts.au.zones.Guarded w kept s.restarts.phase.starts := by
  rw [State.restarts_eq, (State.scan_frame _).2.2.2.2.2.2.2.1]
  refine AU.initial_guarded _ _ _ _ _ _ fun i hi => ?_
  have hlocked := hz.2 i hi
  cases i <;> exact beq_iff_eq.mpr hlocked

/-- No event opens a window under duress or in start-up, and none but the key switch and POWER_ON releases a lock. -/
theorem State.eventDoes_guarded (s : State) (c : Instr) (hkey : ∀ rising, c = .keySwitchEdge rising → ∀ i, ¬ kept i)
    (hon : ∀ a b, c = .powerOn a b → ∀ i, ¬ kept i) (hb : isBytes c = false) (hz : s.au.zones.Guarded w kept s.phase.starts) :
    (s.eventDoes c).au.zones.Guarded w kept (s.eventDoes c).phase.starts := by
  cases c
  case keySwitchEdge rising => simpa [State.eventDoes, hz] using State.keyEdge_guarded s rising (hkey _ rfl) hz
  case powerOn a b => exact State.powersOn_guarded _ _ _ (hon _ _ rfl)
  case restartStartUp =>
    simp only [State.eventDoes, State.onRestartStartUp]
    split
    · exact State.restarts_guarded s hz
    · exact hz
  case frameSent =>
    have hau : s.onFrameSent.au = s.au := by simp
    rw [State.eventDoes, hau]
    exact hz.of_starts s.onFrameSent_starts
  case frameTaken => cases hb
  case frameDropped => cases hb
  case interByteTimeout => cases hb
  all_goals simp [State.eventDoes, hz]

end

/-! ## Every command -/

section
variable {w : Prop} {kept : AB → Prop}

/-- A command's operation keeps the windows closed and the zones locked, the key switch and POWER_ON keeping no lock. -/
theorem State.does_guarded (s : State) (c : Instr) (hkey : ∀ rising, c = .keySwitchEdge rising → ∀ i, ¬ kept i)
    (hon : ∀ a b, c = .powerOn a b → ∀ i, ¬ kept i) (hz : s.au.zones.Guarded w kept s.phase.starts) :
    (s.does c).au.zones.Guarded w kept (s.does c).phase.starts :=
  State.does_keeps (P := fun s => s.au.zones.Guarded w kept s.phase.starts) (fun _ _ h => h)
    (fun s i hrun h => s.serve_guarded i (by rw [hrun, Phase.starts_running]) h) s c
    (fun _ hb h => s.eventDoes_guarded c hkey hon hb h) hz

/-- An unpowered part changes the causes of its zones alone. -/
theorem State.follows_guarded (s : State) (c : Instr) {st : Bool} (hz : s.au.zones.Guarded w kept st) :
    (s.follows c).au.zones.Guarded w kept st := by
  have hmod : ∀ (s : State) (z : ZoneId) (f : Zone → Zone), s.au.zones.Guarded w kept st → (∀ r, (f r).state = r.state) →
      (∀ r, (f r).windowUntil = r.windowUntil) → (s.modZone z f).au.zones.Guarded w kept st := fun s z f h hs hw =>
    Zones.set_guarded (hs _) (hw _) h
  cases c
  case safeDoorChange => exact hmod _ _ _ hz (fun _ => rfl) fun _ => rfl
  case binDoorChange => exact hmod _ _ _ hz (fun _ => rfl) fun _ => rfl
  case holdupInputChange => exact hmod _ _ _ hz (fun _ => rfl) fun _ => rfl
  all_goals exact hz

theorem exec_guarded {c : Instr} {s t : State} (hkey : ∀ rising, c = .keySwitchEdge rising → ∀ i, ¬ kept i)
    (hon : ∀ a b, c = .powerOn a b → ∀ i, ¬ kept i) (hz : s.au.zones.Guarded w kept s.phase.starts)
    (h : exec c s = .next t) : t.au.zones.Guarded w kept t.phase.starts := by
  rcases exec_cases h with ⟨-, -, rfl⟩ | ⟨-, hoff, rfl⟩ | ⟨-, rfl⟩ | ⟨cut, n, b, -, rfl⟩
  · simpa using s.does_guarded c hkey hon hz
  · have hphase : (s.follows c).phase = s.phase := by cases c <;> rfl
    rw [hphase]
    exact s.follows_guarded c hz
  · exact hz
  · split
    · exact hz.of_starts nofun
    · exact hz

end

/-- Settles O22: windows close at the onset of duress, open only in a running part without duress, and are closed when a
start-up begins. -/
theorem noWindowUnderDuress : Obligations.NoWindowUnderDuress := by
  intro c s t hs h
  rw [State.windowsFormed_iff] at hs ⊢
  exact exec_guarded (fun _ _ _ hf => hf) (fun _ _ _ _ hf => hf) hs h

/-- Settles O23: no transition of a zone but the key switch's leaves LOCKED, and RESTART reads the lock from the store. -/
theorem onlyTheKeySwitchReleasesALock : Obligations.OnlyTheKeySwitchReleasesALock := by
  intro c s t input hkey hon hlocked h
  have hz : s.au.zones.Guarded False (· = input) s.phase.starts := ⟨False.elim, fun i hi => hi ▸ hlocked⟩
  exact (exec_guarded (fun r hr => absurd hr (hkey r)) (fun a b hr => absurd hr (hon a b)) hz h).2 input rfl

end Sys2Proof.Machine
end

section
/-! How an append ends, and the lanes' requests and inputs (chapters 1 and 8): O25, O26, O28, O29, O32 and O33. -/

namespace Sys2Proof.Machine

/-! ## The end of an append (R149, R151) -/

/-- What is handed to the engine stays as it is while it takes up what it can: only the engine's own marks, the ring and the
run move. -/
theorem JN.advance_rest (jn : JN) :
    jn.advance.mem = jn.mem ∧ jn.advance.failed = jn.failed ∧ jn.advance.counter = jn.counter ∧
      jn.advance.exhausted = jn.exhausted ∧ jn.advance.failures = jn.failures ∧ jn.advance.claims = jn.claims ∧
      jn.advance.queue = jn.queue ∧ jn.advance.busy = jn.busy ∧ jn.advance.run = jn.run ∧ jn.advance.reads = jn.reads ∧
      jn.advance.reading = jn.reading ∧ jn.advance.walk = jn.walk ∧ jn.advance.scanCloses = jn.scanCloses ∧
      jn.advance.powerLost = jn.powerLost ∧ jn.advance.voids = jn.voids ∧ jn.advance.interrupted = jn.interrupted := by
  unfold JN.advance
  split
  · simp
  · split
    · simp
    · split <;> simp [JN.modSeg]

/-- The engine takes up work without changing what waits (R149, R153, R159). -/
theorem State.jnRun_rest (s : State) :
    s.jnRun.jn.failed = s.jn.failed ∧ s.jnRun.jn.counter = s.jn.counter ∧ s.jnRun.jn.exhausted = s.jn.exhausted ∧
      s.jnRun.jn.failures = s.jn.failures ∧ s.jnRun.jn.claims = s.jn.claims ∧ s.jnRun.jn.queue = s.jn.queue ∧
      s.jnRun.jn.reads = s.jn.reads ∧ s.jnRun.jn.walk = s.jn.walk ∧ s.jnRun.jn.scanCloses = s.jn.scanCloses ∧
      s.jnRun.jn.powerLost = s.jn.powerLost ∧ s.jnRun.jn.voids = s.jn.voids ∧ s.jnRun.jn.interrupted = s.jn.interrupted := by
  unfold State.jnRun JN.timeErase JN.startProgram JN.startRead
  dsimp only
  (repeat' split) <;> simp [JN.advance_rest]

/-- Byte programs that leave no bit behind read back (R149). -/
@[simp] theorem programBytes_verifies (m : Memory) (i k : Nat) (steps : List (Nat × Byte)) :
    (programBytes m i k steps []).2 = true := by
  induction steps generalizing m with
  | nil => rfl
  | cons x steps ih =>
    obtain ⟨off, v⟩ := x
    simp only [programBytes, List.headD_nil, List.tail_nil, ih, Bool.and_true, BitVec.or_zero, decide_true]

theorem exec_programDone {s : State} (h : s.phase ≠ .off) (missed : List Byte) :
    exec (.journalProgramDone missed) s = .next (s.programMade missed).finish :=
  exec_event_to rfl rfl h rfl

/-- The memory once an append's bytes are made. -/
def JN.appendedMem (jn : JN) (r : Record) (i k : Nat) : Memory :=
  (programBytes (programBytes jn.mem i k r.writing []).1 i k r.closing []).1

/-- The journal once an append has verified: its bytes stand, its slot is the record's, and it has left the queue (R149). -/
def JN.appendEnded (jn : JN) (r : Record) (i k : Nat) : JN :=
  JN.pop { (({ jn with mem := jn.appendedMem r i k, filling := some (i, k + 1) } : JN).modSeg i fun g =>
    { g with records := g.records ++ [(k, r.seq)] }) with failures := 0 }

/-- The append in progress, taken apart. -/
theorem State.appending_iff (s : State) (owner : Owner) (r : Record) :
    s.appending owner r ↔ ∃ p rest i k, s.jn.busy = true ∧ s.jn.queue = p :: rest ∧ p.owner = owner ∧ p.work = .append r ∧
      s.jn.filling = some (i, k) := by
  constructor
  · rintro ⟨hb, hf, hq⟩
    obtain ⟨⟨i, k⟩, hf⟩ := Option.isSome_iff_exists.mp hf
    obtain ⟨p, hp, hw⟩ := Option.map_eq_some_iff.mp hq
    obtain ⟨rest, hrest⟩ := List.head?_eq_some_iff.mp hp
    exact ⟨p, rest, i, k, hb, hrest, congrArg Prod.fst hw, congrArg Prod.snd hw, hf⟩
  · rintro ⟨p, rest, i, k, hb, hq, ho, hw, hf⟩
    simp [State.appending, hb, hq, ho, hw, hf]

/-- A verified append: its owner is told, and the engine goes on (R149). -/
theorem State.programMade_append {s : State} {p : Program} {rest : List Program} {r : Record} {i k : Nat}
    (hb : s.jn.busy = true) (hq : s.jn.queue = p :: rest) (hw : p.work = .append r) (hf : s.jn.filling = some (i, k)) :
    s.programMade [] = ((({ s with jn := s.jn.appendEnded r i k } : State).tellOwner p true).jnRun).scanStepEnds := by
  unfold State.programMade
  rw [hb, hq]
  simp only [hw, hf, State.appendMade, programBytes_verifies, List.drop_nil, if_true, and_self, State.programEnds]
  rfl

theorem JN.appendEnded_rest {jn : JN} {p : Program} {rest : List Program} {r : Record} (hq : jn.queue = p :: rest)
    (hw : p.work = .append r) (i k : Nat) :
    (jn.appendEnded r i k).queue = rest ∧ (jn.appendEnded r i k).busy = false ∧ (jn.appendEnded r i k).failures = 0 ∧
      (jn.appendEnded r i k).claims = jn.claims - 1 ∧ (jn.appendEnded r i k).filling = some (i, k + 1) ∧
      (jn.appendEnded r i k).mem = jn.appendedMem r i k ∧ (jn.appendEnded r i k).failed = jn.failed ∧
      (jn.appendEnded r i k).exhausted = jn.exhausted ∧ (jn.appendEnded r i k).counter = jn.counter ∧
      (jn.appendEnded r i k).walk = jn.walk ∧ (jn.appendEnded r i k).run = jn.run ∧ (jn.appendEnded r i k).reads = jn.reads ∧
      (jn.appendEnded r i k).reading = jn.reading ∧ (jn.appendEnded r i k).scanCloses = jn.scanCloses ∧
      (jn.appendEnded r i k).powerLost = jn.powerLost := by
  simp [JN.appendEnded, JN.pop, JN.modSeg, hq, hw, Work.isAppend]

/-- An append whose first byte is not programmed fails the journal where two failures stand (R151). -/
theorem State.programMade_fails {s : State} {p : Program} {r : Record} {i k : Nat}
    (hb : s.jn.busy = true) (hq : s.jn.queue = [p]) (hw : p.work = .append r) (hf : s.jn.filling = some (i, k))
    (hl : s.lastChance) : ∃ mem, s.programMade [0xFF#8] =
      (((({ s with jn := { s.jn with
        mem := mem, filling := some (i, k + 1), failures := 3, failed := true, queue := [], busy := false,
        claims := s.jn.claims - 1 } } : State).tellOwner p false).raiseFailed p.work).jnRun).scanStepEnds := by
  obtain ⟨hfail, -, herased⟩ := hl
  rw [hf] at herased
  have hread : s.jn.mem.read (slotAddress i k 0) = 0xFF#8 := Option.some.inj herased
  have hbad : (programBytes s.jn.mem i k r.writing [0xFF#8]).2 = false := by
    simp [Record.writing, programBytes, hread]
  unfold State.programMade
  rw [hb, hq]
  simp only [hw, hf, State.appendMade, hbad]
  simp only [Bool.false_eq_true, false_and, if_false, State.modJN, hfail, Config.programFailures, Nat.le_refl, if_true,
    State.enterFailed, State.endAllUnmade, State.endUnmade, hq, List.foldl_cons, List.foldl_nil, hw, Work.isAppend,
    List.filter_cons, List.filter_nil, List.length_cons, List.length_nil]
  exact ⟨_, rfl⟩

/-! ## The bus: RESCAN and the enrolment's queries (R4, R5, R20, R21) -/

/-- Settles O28: the owner's checks in order, and what joins the waiting enrolments. -/
theorem rescanWaitsForTheBus : Obligations.RescanWaitsForTheBus := by
  intro tag l s hs
  have hmoves : s.td.moves l = true ↔ ∃ m, s.td.move = some m ∧ m.lane = l := by
    unfold TD.moves
    split <;> simp_all
  have hfree : (∀ m, s.td.move = some m → m.lane ≠ l) → s.td.moves l = false := fun h =>
    Bool.eq_false_iff.mpr fun hm => by
      obtain ⟨m, hm, hl⟩ := hmoves.mp hm
      exact h m hm hl
  refine ⟨fun n hn => ?_, fun hm hr hw => ?_, fun hm hr hw => ?_, fun hb => ?_, fun hm hr => ?_, fun hb => ?_⟩ <;>
    refine exec_serves_to rfl hs ?_
  · rw [← State.counted_refuse rfl]
    simp [State.serve, State.ownRescan, Ix4.ofNum_none' hn]
  · simp [State.serve, State.ownRescan, State.counted, hfree hm, hr, State.modLI, LI.rescanLane, hw]
  · simp [State.serve, State.ownRescan, State.counted, hfree hm, hr, State.modLI, LI.rescanLane, hw]
  · rw [← State.counted_refuse rfl]
    have hbusy : s.td.moves l = true ∨ s.li.rescan.isSome = true := by
      rw [hmoves, Option.isSome_iff_ne_none]
      exact hb
    simp only [State.serve, State.ownRescan, Ix4.ofNum_num]
    exact if_pos hbusy
  · simp [State.serve, State.ownRescanAll, State.counted, hm, hr, State.modLI, Ix4.all]
  · rw [← State.counted_refuse rfl]
    have hbusy : s.td.move.isSome = true ∨ s.li.rescan.isSome = true := by
      rw [Option.isSome_iff_ne_none, Option.isSome_iff_ne_none]
      exact hb
    simp only [State.serve, State.ownRescanAll]
    exact if_pos hbusy

/-- Start-up's enrolments, waiting in lane order (R5). -/
theorem State.beginEnrolment_li (s : State) : s.beginEnrolment.li = { s.li with
    enrolWaiting := [.enrol .i1 .startUp, .enrol .i2 .startUp, .enrol .i3 .startUp, .enrol .i4 .startUp] } := rfl

/-- A part that has passed the scan is past its end (R165). -/
theorem State.scanStepEnds_past {s : State} (h : s.phase ≠ .startUp .scan) : s.scanStepEnds = s := by
  unfold State.scanStepEnds
  split
  · next hp => exact absurd hp h
  · rfl

/-- The POWER record's end begins the enrolments (R165, R205). -/
theorem State.powerDone {s : State} {r : Record} (hp : s.phase = .startUp .powerRecord) (ha : s.appending .power r) :
    ∃ jn : JN, jn.powerLost = s.jn.powerLost ∧
      s.programMade [] = ({ s with jn := jn } : State).beginEnrolment.jnRun := by
  obtain ⟨p, rest, i, k, hb, hq, ho, hw, hf⟩ := (s.appending_iff _ _).mp ha
  refine ⟨s.jn.appendEnded r i k, by simp [JN.appendEnded_rest hq hw], ?_⟩
  rw [State.programMade_append hb hq hw hf, State.scanStepEnds_past]
  · simp [State.tellOwner, ho, State.powerEnds, hp]
  · simp [State.tellOwner, ho, State.powerEnds, hp, State.beginEnrolment]

/-- The POWER record's loss begins them too (R165). -/
theorem State.powerFails {s : State} {r : Record} (hp : s.phase = .startUp .powerRecord) (ha : s.appending .power r)
    (hl : s.lastChance) : ∃ jn : JN, jn.powerLost = true ∧ jn.failed = true ∧
      s.programMade [0xFF#8] = (((({ s with jn := jn } : State).beginEnrolment).raise .journalFailed (u32 r.seq)).jnRun) := by
  obtain ⟨p, rest, i, k, hb, hq, ho, hw, hf⟩ := (s.appending_iff _ _).mp ha
  have hrest : rest = [] := by simpa [hq] using hl.2.1
  obtain ⟨mem, hmade⟩ := State.programMade_fails hb (hrest ▸ hq) hw hf hl
  refine ⟨{ s.jn with
        mem := mem, filling := some (i, k + 1), failures := 3, failed := true, queue := [], busy := false,
        claims := s.jn.claims - 1, powerLost := true }, rfl, rfl, ?_⟩
  rw [hmade, State.scanStepEnds_past]
  · simp [State.tellOwner, ho, State.powerEnds, hp, hw, State.raiseFailed, Work.seq, State.powerRecordLost]
  · simp [State.tellOwner, ho, State.powerEnds, hp, hw, State.raiseFailed, State.powerRecordLost, State.beginEnrolment]

/-- Settles O29: the POWER record's end begins the enrolments, and the free bus goes to the oldest. -/
theorem enrolmentQueriesThreeTimes : Obligations.EnrolmentQueriesThreeTimes := by
  refine ⟨fun r s hp ha => ?_, fun l why rest s hon hbus => ⟨fun hw => ?_, fun hw => ?_⟩,
    fun loopClosed l why query due s hon hbus hq => ?_⟩
  · have hon : s.phase ≠ .off := by simp [hp]
    constructor
    · obtain ⟨jn, hlost, hmade⟩ := State.powerDone hp ha
      refine ⟨_, exec_programDone hon [], ?_⟩
      rw [hmade]
      simp [State.jnRun_rest, State.beginEnrolment, hlost, Ix4.all]
    · intro hl
      obtain ⟨jn, hlost, hfailed, hmade⟩ := State.powerFails hp ha hl
      refine ⟨_, exec_programDone hon _, ?_⟩
      rw [hmade]
      simp [State.jnRun_rest, State.beginEnrolment, hlost, hfailed, Ix4.all]
  · refine exec_event_to rfl rfl hon ?_
    simp [State.eventDoes, State.startEnrolment, hbus, hw, State.modLI, State.sendIdent, Config.identWindow]
  · refine exec_event_to rfl rfl hon ?_
    simp [State.eventDoes, State.startEnrolment, hbus, hw, State.modLI, State.sendIdent, State.pulseReset, Config.identWindow]
  · refine exec_event_to rfl rfl hon ?_
    simp [State.eventDoes, State.onIdentTimeout, hbus, Config.identQueries, hq, State.sendIdent, State.modLI, State.reach,
      Config.identWindow]

/-! ## What the lanes' reports leave of the lane records -/

theorem LaneRec.core_eq_iff {a b : LaneRec} : a.core = b.core ↔ a.set = b.set ∧ a.kind = b.kind ∧
    a.advertised = b.advertised ∧ a.carrier = b.carrier ∧ a.door = b.door ∧ a.vehicle = b.vehicle ∧ a.text = b.text ∧
    a.missed = b.missed ∧ a.clearDue = b.clearDue ∧ a.tamperLevel = b.tamperLevel ∧ a.shown = b.shown ∧
    a.answerReceived = b.answerReceived ∧ a.carrierInput = b.carrierInput := by
  cases a
  cases b
  simp [LaneRec.core]

/-- The lanes of t are those of s but for the reason sets. -/
theorem State.core_of_cores {s t : State} (h : laneCores t.li.lanes = laneCores s.li.lanes) (k : Lane) :
    (t.laneRec k).core = (s.laneRec k).core := by
  have hk := congrArg (·.get k) h
  simp only [laneCores, Four.get_map] at hk
  exact hk

/-- Resolved features are read from the advertised and the enabled ones (R3). -/
theorem LaneRec.resolved_of_core {a b : LaneRec} (h : a.core = b.core) : a.resolved = b.resolved := by
  obtain ⟨hset, -, hadv, -⟩ := LaneRec.core_eq_iff.mp h
  simp only [LaneRec.resolved, hset, hadv]

/-- A change of a lane's reason set changes that set alone in the lanes (R2). -/
theorem State.setReasons_lanes (s : State) (l : Lane) (f : Reasons → Reasons) :
    (s.setReasons l f).li = (s.modLane l fun r => { r with reasons := f r.reasons }).li := by
  unfold State.setReasons
  dsimp only
  (repeat' split) <;> simp

theorem State.setReasons_laneRec (s : State) (l k : Lane) (f : Reasons → Reasons) :
    (s.setReasons l f).laneRec k =
      if k = l then { s.laneRec k with reasons := f (s.laneRec k).reasons } else s.laneRec k := by
  simp only [State.laneRec, State.setReasons_lanes]
  exact State.laneRec_modLane ..

@[simp] theorem State.tellKnown_cores (s : State) (l : Lane) :
    laneCores (s.tellKnown l).li.lanes = laneCores s.li.lanes := by
  simp [State.tellKnown]

@[simp] theorem State.lateArrival_cores (s : State) (l : Lane) (loc : Location) :
    laneCores (s.lateArrival l loc).li.lanes = laneCores s.li.lanes := by
  simp [State.lateArrival]

@[simp] theorem State.relocate_cores (s : State) (l : Lane) (loc : Location) :
    laneCores (s.relocate l loc).li.lanes = laneCores s.li.lanes := by
  unfold State.relocate
  try dsimp only
  (repeat' split) <;> simp

@[simp] theorem State.loseCarrier_cores (s : State) (l : Lane) :
    laneCores (s.loseCarrier l).li.lanes = laneCores s.li.lanes := by
  unfold State.loseCarrier
  try dsimp only
  (repeat' split) <;> simp

@[simp] theorem State.presentRisesFree_cores (s : State) (l : Lane) (loc : Location) :
    laneCores (s.presentRisesFree l loc).li.lanes = laneCores s.li.lanes := by
  unfold State.presentRisesFree
  try dsimp only
  (repeat' split) <;> simp

@[simp] theorem State.presentRises_cores (s : State) (l : Lane) (loc : Location) :
    laneCores (s.presentRises l loc).li.lanes = laneCores s.li.lanes := by
  unfold State.presentRises
  try dsimp only
  (repeat' split) <;> simp

@[simp] theorem State.presentFalls_cores (s : State) (l : Lane) (loc : Location) :
    laneCores (s.presentFalls l loc).li.lanes = laneCores s.li.lanes := by
  unfold State.presentFalls
  try dsimp only
  (repeat' split) <;> simp

@[simp] theorem State.originDoorOpens_cores (s : State) (l : Lane) (dir : Dir) :
    laneCores (s.originDoorOpens l dir).li.lanes = laneCores s.li.lanes := by
  unfold State.originDoorOpens
  try dsimp only
  (repeat' split) <;> simp

@[simp] theorem State.reportStation_cores (s : State) (l : Lane) (level : Sense) :
    laneCores (s.reportStation l level).li.lanes = laneCores (s.modLane l fun r => { r with carrier := level }).li.lanes := by
  unfold State.reportStation
  dsimp only
  (repeat' split) <;> simp only [State.presentRises_cores, State.presentFalls_cores]

@[simp] theorem State.reportDoor_cores (s : State) (l : Lane) (level : Sense) :
    laneCores (s.reportDoor l level).li.lanes = laneCores (s.modLane l fun r => { r with door := level }).li.lanes := by
  unfold State.reportDoor
  dsimp only
  (repeat' split) <;> simp only [State.originDoorOpens_cores]

/-! ## LANE_SETTINGS (R3, R15) -/

theorem onOff_le {auto : Nat} (h : auto ≤ 1) : onOff auto = some (auto == 1) := by
  match auto, h with
  | 0, _ => rfl
  | 1, _ => rfl

theorem onOff_gt {auto : Nat} (h : 1 < auto) : onOff auto = none := by
  match auto, h with
  | _ + 2, _ => rfl

/-- What follows the resolved features of a lane: its vehicle, its clear timer and its door; no lane's settings, advertised set
or carrier level, and no bay (R3). -/
theorem State.reresolve_lanes (s : State) (l : Lane) :
    (∀ k, ((s.reresolve l).laneRec k).set = (s.laneRec k).set ∧
      ((s.reresolve l).laneRec k).carrier = (s.laneRec k).carrier ∧
      ((s.reresolve l).laneRec k).resolved = (s.laneRec k).resolved) ∧
    ((s.laneRec l).resolved.vehicleLoop = false →
      ((s.reresolve l).laneRec l).vehicle = false ∧ ((s.reresolve l).laneRec l).clearDue = none) ∧
    ((s.laneRec l).resolved.carrierDoor = false → ((s.reresolve l).laneRec l).door = .unsensed) := by
  have hsup : ∀ (s : State) (b : Bool) (k : Lane), ((s.supervise l b).laneRec k).core = (s.laneRec k).core := fun s b k =>
    State.core_of_cores (by simp) k
  let u : State := if (s.laneRec l).resolved.vehicleLoop then s else s.modLane l fun r => { r with vehicle := false, clearDue := none }
  have hu : ∀ k, (u.laneRec k).set = (s.laneRec k).set ∧ (u.laneRec k).carrier = (s.laneRec k).carrier ∧
      (u.laneRec k).resolved = (s.laneRec k).resolved := fun k => by
    unfold u
    split
    · exact ⟨rfl, rfl, rfl⟩
    · rw [State.laneRec_modLane]
      split <;> exact ⟨rfl, rfl, rfl⟩
  have hloop : (s.laneRec l).resolved.vehicleLoop = false → (u.laneRec l).vehicle = false ∧ (u.laneRec l).clearDue = none := by
    intro hv
    unfold u
    rw [if_neg (by simp [hv]), State.laneRec_modLane, if_pos rfl]
    exact ⟨rfl, rfl⟩
  have hstep : s.reresolve l = if (s.laneRec l).resolved.carrierDoor then u.supervise l (s.laneRec l).resolved.tamperSwitch
      else (u.supervise l (s.laneRec l).resolved.tamperSwitch).modLane l fun r => { r with door := .unsensed } := by
    rw [← State.reportDoor_unsensed]
    rfl
  have hcore := fun k => LaneRec.core_eq_iff.mp (hsup u (s.laneRec l).resolved.tamperSwitch k)
  have hres := fun k => LaneRec.resolved_of_core (hsup u (s.laneRec l).resolved.tamperSwitch k)
  rw [hstep]
  refine ⟨fun k => ?_, fun hv => ?_, fun hd => ?_⟩
  · obtain ⟨hset, -, -, hcarrier, -⟩ := hcore k
    obtain ⟨hset', hcarrier', hres'⟩ := hu k
    split
    · exact ⟨hset.trans hset', hcarrier.trans hcarrier', (hres k).trans hres'⟩
    · rw [State.laneRec_modLane]
      split <;> exact ⟨hset.trans hset', hcarrier.trans hcarrier', (hres k).trans hres'⟩
  · obtain ⟨-, -, -, -, -, hvehicle, -, -, hclear, -⟩ := hcore l
    obtain ⟨hvehicle', hclear'⟩ := hloop hv
    split
    · exact ⟨hvehicle.trans hvehicle', hclear.trans hclear'⟩
    · rw [State.laneRec_modLane, if_pos rfl]
      exact ⟨hvehicle.trans hvehicle', hclear.trans hclear'⟩
  · rw [if_neg (by simp [hd]), State.laneRec_modLane, if_pos rfl]

/-- LANE_SETTINGS with a lane and values within their sets (R15). -/
def State.lanePut (s : State) (l : Lane) (features waypoints timeout auto : Nat) : State :=
  s.modLane l fun r =>
    { r with set := { r.set with enabled := Features.ofNat features, waypoints := clamp 0 3 waypoints,
                                 segTimeout := clamp 1000 30000 timeout, autoRecall := auto == 1 } }

theorem State.ownLaneSettings_ok (tag features waypoints timeout : Nat) {auto : Nat} (h : auto ≤ 1) (l : Lane) (s : State) :
    State.ownLaneSettings tag l.num features waypoints timeout auto s =
      ((s.lanePut l features waypoints timeout auto).reresolve l).replied 0x10 tag
        (0x00#8 :: (u8 (((s.lanePut l features waypoints timeout auto).reresolve l).laneRec l).set.enabled.code ++
          u8 (((s.lanePut l features waypoints timeout auto).reresolve l).laneRec l).set.waypoints ++
          u16 (((s.lanePut l features waypoints timeout auto).reresolve l).laneRec l).set.segTimeout ++
          yesNo (((s.lanePut l features waypoints timeout auto).reresolve l).laneRec l).set.autoRecall ++
          u8 (((s.lanePut l features waypoints timeout auto).reresolve l).laneRec l).resolved.code)) := by
  rw [← State.ok_replied (kind := 0x10) rfl]
  simp only [State.ownLaneSettings, Ix4.ofNum_num, onOff_le h]
  rfl

/-- Settles O25: the settings are put in the lane's record, and what its features no longer resolve is given up. -/
theorem laneSettingsAreApplied : Obligations.LaneSettingsAreApplied := by
  intro tag lane features waypoints timeout auto s hs
  refine ⟨fun hbad => ?_, fun l hl ha => ?_⟩
  · refine exec_serves_to rfl hs ?_
    rw [← State.counted_refuse rfl]
    simp only [State.serve, State.ownLaneSettings]
    rcases hbad with h | h | h
    · rw [Ix4.ofNum_none (.inl h)]
    · rw [Ix4.ofNum_none (.inr h)]
    · rw [onOff_gt h]
      split <;> simp_all
  · subst hl
    have hput : ∀ k, ((s.counted.lanePut l features waypoints timeout auto).laneRec k) =
        if k = l then { s.laneRec k with set := ⟨Features.ofNat features, (s.laneRec k).set.isOpen, auto == 1, min 3 waypoints,
          max 1000 (min 30000 timeout)⟩ } else s.laneRec k := fun k => by
      rw [State.lanePut, State.laneRec_modLane, clamp_zero]
      rfl
    obtain ⟨hall, hloop, hdoor⟩ := (s.counted.lanePut l features waypoints timeout auto).reresolve_lanes l
    have howner : s.counted.serve (.laneSettings tag l.num features waypoints timeout auto) = _ :=
      State.ownLaneSettings_ok tag features waypoints timeout ha l s.counted
    refine ⟨_, exec_serves_to rfl hs howner, ?_⟩
    generalize hu : (s.counted.lanePut l features waypoints timeout auto).reresolve l = u at hall hloop hdoor ⊢
    have hreplies : u.lc.replies = s.lc.replies := by simp [← hu, State.lanePut, State.counted]
    have hrest : u.td.bays = s.td.bays ∧ u.as = s.as ∧ u.nd = s.nd ∧ u.dp = s.dp ∧ u.ss = s.ss ∧ u.cu = s.cu ∧
        u.jn.mem = s.jn.mem := by
      have has : u.as = s.as := by
        rw [← hu]
        unfold State.reresolve
        dsimp only
        (repeat' split) <;> simp [State.lanePut, State.counted]
      exact ⟨by simp [← hu, State.lanePut, State.counted], has, by simp [← hu, State.lanePut, State.counted],
        by simp [← hu, State.lanePut, State.counted], by simp [← hu, State.lanePut, State.counted],
        by simp [← hu, State.lanePut, State.counted], by simp [← hu, State.lanePut, State.counted]⟩
    simp only [State.finish_laneRec, State.finish_frame]
    refine ⟨?_, fun hv => hloop ((congrArg Features.vehicleLoop (hall l).2.2).symm.trans hv),
      fun hd => hdoor ((congrArg Features.carrierDoor (hall l).2.2).symm.trans hd), ?_, fun k hk => ?_,
      hrest⟩
    · refine (hall l).1.trans ?_
      rw [hput, if_pos rfl]
    · exact congrArg (· ++ _) hreplies
    · obtain ⟨hset, hcarrier, -⟩ := hall k
      rw [hput, if_neg hk] at hset hcarrier
      exact ⟨hset, hcarrier⟩

/-! ## OPEN, CLOSE and LANE_TEXT (R16 to R18) -/

/-- The reply's lane state (R2). -/
theorem LaneRec.state_code (r : LaneRec) :
    r.state.code = if r.reasons.isEmpty then (if r.set.isOpen then 2 else 1) else 3 := by
  unfold LaneRec.state
  (repeat' split) <;> rfl

/-- An owner's reply of the lane's state and reasons. -/
theorem State.okLane_replied {kind : Nat} (hk : requestKinds.contains kind = true) (s : State) (tag : Nat) (l : Lane) :
    s.okLane kind tag l = s.replied kind tag (0x00#8 :: (u8 (if (s.laneRec l).reasons.isEmpty then
      (if (s.laneRec l).set.isOpen then 2 else 1) else 3) ++ u8 (s.laneRec l).reasons.code)) := by
  rw [State.okLane, State.ok_replied hk, LaneRec.state_code]

theorem State.modLane_at (s : State) (l : Lane) (f : LaneRec → LaneRec) : (s.modLane l f).laneRec l = f (s.laneRec l) := by
  rw [State.laneRec_modLane, if_pos rfl]

/-- What LANE_TEXT keeps (R18). -/
theorem keptText_spec (text : List Byte) : (keptText text).length = min 20 text.length ∧
    ∀ i, i < (keptText text).length →
      (keptText text)[i]? = text[i]?.map fun c => if 0x20 ≤ c.toNat ∧ c.toNat ≤ 0x7E then c else 0x20#8 := by
  refine ⟨by simp [keptText, Config.textLimit], fun i hi => ?_⟩
  have h20 : i < 20 := by
    simp only [keptText, Config.textLimit, List.length_map, List.length_take] at hi
    omega
  simp [keptText, Config.textLimit, h20]

theorem keptText_isEmpty (text : List Byte) : (keptText text).isEmpty = decide (text = []) := by
  cases text <;> rfl

theorem exec_closeLane {tag : Nat} {s : State} (hs : s.Serves tag) (l : Lane) : exec (.closeLane tag l.num) s =
    .next (((s.counted.modLane l fun r => { r with set := { r.set with isOpen := false } }).replied
      0x12 tag (0x00#8 :: (u8 (if (s.laneRec l).reasons.isEmpty then 1 else 3) ++ u8 (s.laneRec l).reasons.code))).finish) := by
  refine exec_serves_to rfl hs ?_
  simp only [State.serve, State.ownClose, Ix4.ofNum_num]
  rw [State.okLane_replied rfl, State.modLane_at]
  rfl

/-- The lane's open choice set to OPEN. -/
def State.opens (s : State) (l : Lane) : State := s.modLane l fun r => { r with set := { r.set with isOpen := true } }

theorem State.ownOpen_stands {tag : Nat} {s : State} {l : Lane} (h : (s.laneRec l).reasons.jam = false ∨
    ((s.carrier l).location ≠ .atBay ∧ (s.carrier l).location ≠ .atLane)) :
    State.ownOpen tag l.num s = (s.opens l).okLane 0x11 tag l := by
  simp only [State.ownOpen, Ix4.ofNum_num]
  refine congrArg (fun s : State => s.okLane 0x11 tag l) (if_neg ?_)
  rw [State.modLane_at]
  rintro ⟨hjam, hknown⟩
  rcases h with h | ⟨hb, hl⟩
  · exact Bool.false_ne_true (h.symm.trans hjam)
  · exact hknown.elim hb hl

theorem State.ownOpen_clears {tag : Nat} {s : State} {l : Lane} (hj : (s.laneRec l).reasons.jam = true)
    (h : (s.carrier l).location = .atBay ∨ (s.carrier l).location = .atLane) :
    State.ownOpen tag l.num s = (((s.opens l).setReasons l fun r => { r with jam := false }).tellJam).okLane 0x11 tag l := by
  simp only [State.ownOpen, Ix4.ofNum_num]
  refine congrArg (fun s : State => s.okLane 0x11 tag l) (if_pos ?_)
  rw [State.modLane_at]
  exact ⟨hj, h⟩

theorem Four.get_set {α : Type} (f : Four α) (i k : Ix4) (a : α) : (f.set i a).get k = if k = i then a else f.get k := by
  cases i <;> cases k <;> rfl

/-- A field that a change of one record keeps. -/
theorem Four.map_modify {α β : Type} (f : Four α) (l : Ix4) (g : α → α) (h : α → β) (hg : ∀ a, h (g a) = h a) :
    (f.modify l g).map h = f.map h := Four.ext_get fun k => by
  rw [Four.get_map, Four.get_map, Four.get_modify]
  split
  · exact hg _
  · rfl

/-- Where the carriers are (R22). -/
def TD.locations (td : TD) : Four Location := td.carriers.map (·.location)

theorem State.location_eq (s : State) (l : Lane) : (s.carrier l).location = s.td.locations.get l :=
  (Four.get_map ..).symm

/-- A change of a carrier that keeps its location. -/
@[simp] theorem locations_modify (f : Four Carrier) (l : Lane) (g : Carrier → Carrier) (hg : ∀ c, (g c).location = c.location) :
    (f.modify l g).map (·.location) = f.map (·.location) := Four.map_modify f l g _ hg

@[simp] theorem State.dropQueued_locations (s : State) (l : Lane) (result : MoveResult) :
    (s.dropQueued l result).td.locations = s.td.locations := by
  unfold State.dropQueued
  split <;> simp [TD.locations]

/-- A change of a lane's reasons moves no carrier. -/
@[simp] theorem State.setReasons_locations (s : State) (l : Lane) (f : Reasons → Reasons) :
    (s.setReasons l f).td.locations = s.td.locations := by
  unfold State.setReasons
  dsimp only
  (repeat' split) <;> simp

@[simp] theorem State.endMove_locations (s : State) : s.endMove.td.locations = s.td.locations := by
  unfold State.endMove
  split <;> simp [TD.locations]

@[simp] theorem TD.abandonDivert_locations (td : TD) : td.abandonDivert.locations = td.locations := by
  simp [TD.locations]

@[simp] theorem State.failMove_locations (s : State) (result : MoveResult) :
    (s.failMove result).td.locations = s.td.locations := by
  unfold State.failMove
  split <;> simp

/-- Zone 9 is no TAMPER zone: its cause tells the lanes nothing (R177). -/
theorem State.tellJam_lanes (s : State) : s.tellJam.li = s.li ∧ s.tellJam.td = s.td := by
  unfold State.tellJam
  simp

/-- Settles O26: OPEN and CLOSE write the open choice, LANE_TEXT the text. -/
theorem openCloseAndTextAreKept : Obligations.OpenCloseAndTextAreKept := by
  refine ⟨fun tag l s hs => ⟨exec_closeLane hs l, fun h => ?_, fun hj hloc => ?_⟩, fun tag n text s hs hn => ?_,
    fun tag l text s hs => ?_⟩
  · refine exec_serves_to rfl hs ?_
    refine (State.ownOpen_stands (s := s.counted) h).trans ?_
    rw [State.okLane_replied rfl, State.opens, State.modLane_at]
    rfl
  · refine ⟨_, exec_serves_to rfl hs (State.ownOpen_clears (s := s.counted) hj hloc), ?_⟩
    have hli : ∀ k, ((((s.counted.opens l).setReasons l fun r => { r with jam := false }).tellJam).laneRec k) =
        if k = l then { s.laneRec k with set := { (s.laneRec k).set with isOpen := true },
                                         reasons := { (s.laneRec k).reasons with jam := false } } else s.laneRec k := fun k => by
      have htell : ∀ u : State, u.tellJam.laneRec k = u.laneRec k := fun u => congrArg (fun li : LI => li.lanes.get k) u.tellJam_lanes.1
      rw [htell, State.setReasons_laneRec, State.opens, State.laneRec_modLane]
      split <;> rfl
    have hl := (hli l).trans (if_pos rfl)
    simp only [State.finish_laneRec, State.finish_frame]
    rw [State.okLane_replied rfl]
    refine ⟨congrArg LaneRec.set hl, congrArg LaneRec.reasons hl, ?_, fun k hk => (hli k).trans (if_neg hk), ?_, ?_⟩
    · rw [hl]
      simp [State.replied, State.opens, State.counted]
    · exact (congrArg TD.locations (State.tellJam_lanes _).2).trans (State.setReasons_locations ..)
    · simp [State.replied, State.opens, State.counted]
  · refine ⟨exec_serves_to rfl hs ?_, exec_serves_to rfl hs ?_, exec_serves_to rfl hs ?_⟩ <;>
      rw [← State.counted_refuse rfl] <;>
      simp [State.serve, State.ownOpen, State.ownClose, State.ownLaneText, Ix4.ofNum_none' hn]
  · refine ⟨keptText text, (keptText_spec text).1, (keptText_spec text).2, exec_serves_to rfl hs ?_⟩
    simp only [State.serve, State.ownLaneText, Ix4.ofNum_num, keptText_isEmpty, decide_eq_true_eq]
    exact State.ok_replied rfl _ _ _

/-! ## A request for a move (R25, R26, R46) -/

theorem TD.hasEntry_none {td : TD} {l : Lane} (h : td.entry l = none) (dir : Dir) : td.hasEntry l dir = false := by
  simp only [TD.entry, List.find?_eq_none, decide_eq_true_eq] at h
  simp only [TD.hasEntry, List.any_eq_false, Bool.and_eq_true, beq_iff_eq]
  exact fun e he hl => h e he hl.1

/-- A DOWN request that passes R46 joins the queue. -/
theorem State.askDown_queues {s : State} {l : Lane} (he : s.td.hasEntry l .down = false) (hl : (s.carrier l).location = .atLane)
    (hf : (s.laneRec l).reasons.forbid .down = false) (hr : (s.carrier l).reservation ≠ .moving) (origin : Origin) :
    (s.askDown l origin).1 = s.enqueue l .down origin := by
  simp [State.askDown, he, hl, hf, hr]

/-- A change of the reasons of a lane with no entry drops none (R26). -/
theorem State.setReasons_unqueued {s : State} {l : Lane} (h : s.td.entry l = none) (f : Reasons → Reasons) :
    s.setReasons l f = s.modLane l fun r => { r with reasons := f r.reasons } := by
  unfold State.setReasons
  dsimp only
  split
  · rfl
  · next e he =>
    have hsome : s.td.entry l = some e := he
    rw [h] at hsome
    cases hsome

/-- A dropped entry is in the queue no more (R26). -/
theorem State.dropQueued_entry (s : State) (l : Lane) (result : MoveResult) : (s.dropQueued l result).td.entry l = none := by
  unfold State.dropQueued
  split
  · assumption
  · simp [TD.entry]

/-! ## The BASIC inputs (R9) -/

theorem State.sendPress_held {s : State} {l : Lane} (h : (s.carrier l).location ≠ .atLane ∨ (s.laneRec l).reasons.jam = true ∨
    (s.laneRec l).reasons.carrierUnknown = true) : s.sendPress l = s := by
  refine if_neg fun ⟨hl, hj, hu⟩ => ?_
  rcases h with h | h | h
  · exact h hl
  · exact Bool.false_ne_true (hj.symm.trans h)
  · exact Bool.false_ne_true (hu.symm.trans h)

theorem State.sendPress_asks {s : State} {l : Lane} (hl : (s.carrier l).location = .atLane)
    (hj : (s.laneRec l).reasons.jam = false) (hu : (s.laneRec l).reasons.carrierUnknown = false) :
    s.sendPress l = (s.askDown l .station).1 := if_pos ⟨hl, hj, hu⟩

/-- Settles O32: a SEND edge is a DOWN request where the carrier can be sent, and the carrier's level is reported. -/
theorem basicInputsAct : Obligations.BasicInputsAct := by
  intro l s hon
  refine ⟨fun hk => ?_, fun hk hl hr hn he => ?_, fun hk hheld => ?_, fun hk => ⟨?_, ?_, fun present => ?_⟩,
    fun present hk => ?_⟩
  · refine exec_event_to rfl rfl hon ?_
    simp [State.eventDoes, State.onBasicCallEdge, hk]
  · refine exec_event_to rfl rfl hon ?_
    simp only [State.eventDoes, State.onBasicSendEdge, hk, if_true]
    rw [State.sendPress_asks hl (by rw [hr]; rfl) (by rw [hr]; rfl),
      State.askDown_queues (TD.hasEntry_none he _) hl (by rw [hr]; rfl) (by simp [hn])]
    rfl
  · refine exec_event_to rfl rfl hon ?_
    simp only [State.eventDoes, State.onBasicSendEdge, hk, if_true]
    exact State.sendPress_held hheld
  · refine exec_event_to rfl rfl hon ?_
    simp [State.eventDoes, State.onBasicCallEdge, hk]
  · refine exec_event_to rfl rfl hon ?_
    simp [State.eventDoes, State.onBasicSendEdge, hk]
  · refine exec_event_to rfl rfl hon ?_
    have hkind : ((s.modLane l fun r => { r with carrierInput := present }).laneRec l).kind ≠ .basic := by
      rw [State.modLane_at]
      exact hk
    simp only [State.eventDoes, State.basicCarrier, if_neg hkind]
  · refine ⟨_, exec_event_to rfl rfl hon rfl, ?_⟩
    have hkind : ((s.modLane l fun r => { r with carrierInput := present }).laneRec l).kind = .basic := by
      rw [State.modLane_at]
      exact hk
    have hcore := LaneRec.core_eq_iff.mp (State.core_of_cores
      ((s.modLane l fun r => { r with carrierInput := present }).reportStation_cores l (sense present)) l)
    rw [State.modLane_at, State.modLane_at] at hcore
    simp only [State.finish_laneRec, State.eventDoes, State.basicCarrier, if_pos hkind]
    exact ⟨hcore.2.2.2.2.2.2.2.2.2.2.2.2, hcore.2.2.2.1⟩

/-! ## The departure (R12) -/

theorem exec_vehicleClearExpiry {s : State} {l : Lane} {due : Nat} (hon : s.phase ≠ .off)
    (hd : (s.laneRec l).clearDue = some due) :
    exec (.vehicleClearExpiry l) s = .next (({ s with now := max s.now due } : State).depart l).finish := by
  refine exec_event_to rfl rfl hon ?_
  simp only [State.eventDoes, State.onVehicleClearExpiry, hd]
  rfl

/-- The vehicle has gone, and its timer with it. -/
def State.departed (s : State) (l : Lane) : State := s.modLane l fun r => { r with vehicle := false, clearDue := none }

/-- A carrier that goes missing leaves the queue (R26, R39). -/
theorem State.loseCarrier_gone (s : State) (l : Lane) :
    ((s.loseCarrier l).carrier l).location = .unknown ∧ (s.loseCarrier l).td.entry l = none := by
  have hdrop : (((s.setLocation l .unknown).dropQueued l .locationLost).carrier l).location = .unknown ∧
      ((s.setLocation l .unknown).dropQueued l .locationLost).td.entry l = none := by
    refine ⟨?_, State.dropQueued_entry ..⟩
    rw [State.location_eq, State.dropQueued_locations, ← State.location_eq, State.setLocation, State.carrier_modCarrier, if_pos rfl]
  have hfail : ∀ u : State, (u.carrier l).location = .unknown ∧ u.td.entry l = none →
      ((u.failMove .locationLost).carrier l).location = .unknown ∧ (u.failMove .locationLost).td.entry l = none := by
    intro u hu
    rw [State.location_eq, State.failMove_locations, ← State.location_eq]
    exact ⟨hu.1, by simpa [TD.entry] using hu.2⟩
  unfold State.loseCarrier
  dsimp only
  (repeat' split) <;> first | exact hdrop | exact hfail _ hdrop

theorem State.departed_laneRec (s : State) (l : Lane) :
    (s.departed l).laneRec l = { s.laneRec l with vehicle := false, clearDue := none } := State.modLane_at ..

/-- The departure, by where the carrier is and whether it is seen (R12). -/
theorem State.depart_eq (s : State) (l : Lane) : s.depart l =
    if (s.carrier l).location = .atLane then
      if (s.laneRec l).carrier = .no then (s.departed l).carrierMissing l
      else if (s.laneRec l).carrier = .yes ∧ s.outstandingState l = some .delivered then (s.departed l).driveOff l
      else s.departed l
    else s.departed l := by
  have hcarrier : ((s.departed l).laneRec l).carrier = (s.laneRec l).carrier := by rw [State.departed_laneRec]
  unfold State.depart
  rw [← State.departed]
  dsimp only
  rw [hcarrier]
  refine ite_congr rfl (fun _ => ?_) fun _ => rfl
  have hout : (s.departed l).outstandingState l = s.outstandingState l := rfl
  rw [hout]
  cases hc : (s.laneRec l).carrier <;> simp

theorem State.depart_missing {s : State} {l : Lane} (hl : (s.carrier l).location = .atLane) (hc : (s.laneRec l).carrier = .no) :
    s.depart l = (s.departed l).carrierMissing l := by
  rw [State.depart_eq, if_pos hl, if_pos hc]

theorem State.depart_drivesOff {s : State} {l : Lane} (hl : (s.carrier l).location = .atLane)
    (hc : (s.laneRec l).carrier = .yes) (ho : s.outstandingState l = some .delivered) :
    s.depart l = (s.departed l).driveOff l := by
  rw [State.depart_eq, if_pos hl, if_neg (by simp [hc]), if_pos ⟨hc, ho⟩]

theorem State.depart_stays {s : State} {l : Lane} (h : (s.carrier l).location ≠ .atLane ∨ (s.laneRec l).carrier = .unsensed ∨
    ((s.laneRec l).carrier = .yes ∧ s.outstandingState l ≠ some .delivered)) : s.depart l = s.departed l := by
  rw [State.depart_eq]
  split
  · next hl =>
    rcases h with h | h | ⟨h, ho⟩
    · exact absurd hl h
    · rw [if_neg (by simp [h]), if_neg (by simp [h])]
    · rw [if_neg (by simp [h]), if_neg (by simp [ho])]
  · rfl

/-- What a carrier-missing departure leaves (R12, R39, R179). -/
theorem State.carrierMissing_leaves (s : State) (l : Lane) :
    ((s.carrierMissing l).laneRec l).vehicle = (s.laneRec l).vehicle ∧
      ((s.carrierMissing l).laneRec l).clearDue = (s.laneRec l).clearDue ∧
      ((s.carrierMissing l).carrier l).location = .unknown ∧
      ((s.carrierMissing l).laneRec l).reasons.carrierUnknown = true ∧ (s.carrierMissing l).au.missing.get l = true ∧
      (s.carrierMissing l).td.entry l = none := by
  obtain ⟨hloc, hentry⟩ := s.loseCarrier_gone l
  have hli : (s.loseCarrier l).li = s.li := by simp
  have hstep : s.carrierMissing l = ({ (s.loseCarrier l).modLane l fun r =>
      { r with reasons := { r.reasons with carrierUnknown := true } } with
      au := { s.au with missing := s.au.missing.set l true } } : State).setCause .carrierMissing true := by
    rw [State.carrierMissing, State.setReasons_unqueued hentry]
    simp
  have hset : ∀ u : State, (u.setCause .carrierMissing true).li = u.li ∧ (u.setCause .carrierMissing true).td = u.td ∧
      (u.setCause .carrierMissing true).au.missing = u.au.missing := fun u => by simp
  rw [hstep]
  obtain ⟨hlanes, htube, hmissing⟩ := hset ({ (s.loseCarrier l).modLane l fun r =>
      { r with reasons := { r.reasons with carrierUnknown := true } } with
      au := { s.au with missing := s.au.missing.set l true } } : State)
  have hrec : ((s.loseCarrier l).modLane l fun r => { r with reasons := { r.reasons with carrierUnknown := true } }).laneRec l
      = { s.laneRec l with reasons := { (s.laneRec l).reasons with carrierUnknown := true } } := by
    rw [State.modLane_at, State.laneRec, hli]
    rfl
  simp only [State.laneRec, State.carrier, hlanes, htube, hmissing] at hrec ⊢
  rw [hrec]
  exact ⟨rfl, rfl, hloc, rfl, (Four.get_set ..).trans (if_pos rfl), hentry⟩

theorem State.departed_autoRecall (s : State) (l : Lane) :
    (((s.departed l).raiseLaneBare l .driveOff).laneRec l) = { s.laneRec l with vehicle := false, clearDue := none } :=
  State.departed_laneRec s l

/-- Settles O33: what the departure is judged by. -/
theorem departureIsJudged : Obligations.DepartureIsJudged := by
  intro l due s hon hd
  rw [exec_vehicleClearExpiry hon hd]
  refine ⟨fun h => ?_, fun hl hc => ?_, fun hl hc ho ha => ?_, fun hl hc ho ha hf he hr => ?_⟩
  · rw [State.depart_stays (s := { s with now := max s.now due }) h]
    rfl
  · refine ⟨_, rfl, ?_⟩
    rw [State.depart_missing (s := { s with now := max s.now due }) hl hc]
    have hleft := (State.departed { s with now := max s.now due } l).carrierMissing_leaves l
    rw [State.departed_laneRec] at hleft
    simpa using hleft
  · rw [State.depart_drivesOff (s := { s with now := max s.now due }) hl hc ho, State.driveOff]
    refine congrArg (fun u : State => Host.Outcome.next u.finish) (if_neg ?_)
    rw [State.departed_autoRecall]
    exact Bool.not_eq_true _ ▸ ha
  · rw [State.depart_drivesOff (s := { s with now := max s.now due }) hl hc ho, State.driveOff]
    have hrecall : (((State.departed { s with now := max s.now due } l).raiseLaneBare l .driveOff).laneRec l).set.autoRecall
        = true := by
      rw [State.departed_autoRecall]
      exact ha
    have hforbid : (((State.departed { s with now := max s.now due } l).raiseLaneBare l .driveOff).laneRec l).reasons.forbid
        .down = false := by
      rw [State.departed_autoRecall]
      exact hf
    dsimp only
    rw [if_pos hrecall, State.askDown_queues (s := (State.departed { s with now := max s.now due } l).raiseLaneBare l .driveOff)
      (TD.hasEntry_none he _) hl hforbid hr]
    rfl

end Sys2Proof.Machine
end

section
/-! Polling (chapter 1): the bus, the answers, what a station's loss leaves. -/

namespace Sys2Proof.Machine

/-! ## The lane records through the TAMPER zones' reports (R176, R177) -/

/-- A lane record with its TAMPER reason left out. -/
def LaneRec.untampered (r : LaneRec) : LaneRec := { r with reasons := { r.reasons with tamper := false } }

theorem LaneRec.untampered_eq {a b : LaneRec} (h : a.untampered = b.untampered) :
    a.core = b.core ∧ a.reasons.stationLost = b.reasons.stationLost ∧ a.reasons.jam = b.reasons.jam ∧
      a.reasons.carrierUnknown = b.reasons.carrierUnknown := by
  have hcore := congrArg LaneRec.core h
  have hlost := congrArg (·.reasons.stationLost) h
  have hjam := congrArg (·.reasons.jam) h
  have hunknown := congrArg (·.reasons.carrierUnknown) h
  exact ⟨hcore, hlost, hjam, hunknown⟩

/-- The lane records with their TAMPER reasons left out. -/
def LI.untampered (li : LI) : Four LaneRec := li.lanes.map LaneRec.untampered

theorem State.untampered_of (s t : State) (h : t.li.untampered = s.li.untampered) (k : Lane) :
    (t.laneRec k).untampered = (s.laneRec k).untampered := by
  have hk := congrArg (·.get k) h
  simp only [LI.untampered, Four.get_map] at hk
  exact hk

theorem State.setReasons_untampered (s : State) (l : Lane) (f : Reasons → Reasons)
    (hf : ∀ r, { f r with tamper := false } = { r with tamper := false }) :
    (s.setReasons l f).li.untampered = s.li.untampered := by
  rw [State.setReasons_lanes]
  exact Four.map_modify _ _ _ _ fun r => congrArg (fun q => { r with reasons := q }) (hf r.reasons)

@[simp] theorem State.tellTamper_untampered (s : State) (z : ZoneId) (entered : ZoneState) :
    (s.tellTamper z entered).li.untampered = s.li.untampered := by
  unfold State.tellTamper
  split
  · exact State.setReasons_untampered _ _ _ fun _ => rfl
  · exact State.setReasons_untampered _ _ _ fun _ => rfl
  · rfl

@[simp] theorem State.zoneTo_untampered (s : State) (z : ZoneId) (entered : ZoneState) :
    (s.zoneTo z entered).li.untampered = s.li.untampered := by
  unfold State.zoneTo
  try dsimp only
  (repeat' split) <;> simp

@[simp] theorem State.zoneIdle_untampered (s : State) (z : ZoneId) :
    (s.zoneIdle z).li.untampered = s.li.untampered := by
  unfold State.zoneIdle
  try dsimp only
  (repeat' split) <;> simp

@[simp] theorem State.startDelay_untampered (s : State) (d : Door) :
    (s.startDelay d).li.untampered = s.li.untampered := by
  unfold State.startDelay
  try dsimp only
  (repeat' split) <;> simp

@[simp] theorem State.closeWindow_untampered (s : State) (d : Door) :
    (s.closeWindow d).li.untampered = s.li.untampered := by
  unfold State.closeWindow
  try dsimp only
  (repeat' split) <;> simp

@[simp] theorem State.lockIn_untampered (s : State) (z : ZoneId) : (s.lockIn z).li.untampered = s.li.untampered := by
  unfold State.lockIn
  try dsimp only
  (repeat' split) <;> simp

@[simp] theorem State.doorOpens_untampered (s : State) (d : Door) :
    (s.doorOpens d).li.untampered = s.li.untampered := by
  unfold State.doorOpens
  try dsimp only
  (repeat' split) <;> simp

@[simp] theorem State.causeRises_untampered (s : State) (z : ZoneId) :
    (s.causeRises z).li.untampered = s.li.untampered := by
  unfold State.causeRises
  try dsimp only
  (repeat' split) <;> simp

@[simp] theorem State.causeFalls_untampered (s : State) (z : ZoneId) :
    (s.causeFalls z).li.untampered = s.li.untampered := by
  unfold State.causeFalls
  try dsimp only
  (repeat' split) <;> simp

@[simp] theorem State.setCause_untampered (s : State) (z : ZoneId) (active : Bool) :
    (s.setCause z active).li.untampered = s.li.untampered := by
  unfold State.setCause
  try dsimp only
  (repeat' split) <;> simp

@[simp] theorem State.supervise_untampered (s : State) (l : Lane) (resolved : Bool) :
    (s.supervise l resolved).li.untampered = s.li.untampered := by
  unfold State.supervise
  try dsimp only
  (repeat' split) <;> simp

@[simp] theorem State.tellTamperLevel_untampered (s : State) (l : Lane) :
    (s.tellTamperLevel l).li.untampered = s.li.untampered := by
  unfold State.tellTamperLevel
  try dsimp only
  (repeat' split) <;> simp

/-! ## The tube drive through the TAMPER zones' reports (R26, R177) -/

/-- A TAMPER zone's report drops no entry of a lane that has none (R26). -/
@[simp] theorem State.tellTamper_unqueued (s : State) (l : Lane) (entered : ZoneState) (h : s.td.entry l = none) :
    (s.tellTamper (.tamper l) entered).td = s.td := by
  unfold State.tellTamper
  split
  · next hz => cases hz; rw [State.setReasons_unqueued h, State.modLane_td]
  · next hz => cases hz; rw [State.setReasons_unqueued h, State.modLane_td]
  · rfl

@[simp] theorem State.zoneTo_unqueued (s : State) (l : Lane) (entered : ZoneState) (h : s.td.entry l = none) :
    (s.zoneTo (.tamper l) entered).td = s.td := by
  unfold State.zoneTo
  dsimp only
  (repeat' split) <;> simp [h]

@[simp] theorem State.zoneIdle_unqueued (s : State) (l : Lane) (h : s.td.entry l = none) :
    (s.zoneIdle (.tamper l)).td = s.td := by
  unfold State.zoneIdle
  dsimp only
  split <;> simp [h]

@[simp] theorem State.causeRises_unqueued (s : State) (l : Lane) (h : s.td.entry l = none) :
    (s.causeRises (.tamper l)).td = s.td := by
  unfold State.causeRises
  dsimp only
  split <;> simp [h]

@[simp] theorem State.causeFalls_unqueued (s : State) (l : Lane) (h : s.td.entry l = none) :
    (s.causeFalls (.tamper l)).td = s.td := by
  unfold State.causeFalls
  (repeat' split) <;> simp [h]

@[simp] theorem State.setCause_unqueued (s : State) (l : Lane) (active : Bool) (h : s.td.entry l = none) :
    (s.setCause (.tamper l) active).td = s.td := by
  unfold State.setCause
  dsimp only
  (repeat' split) <;> simp [h]

@[simp] theorem State.tellTamperLevel_unqueued (s : State) (l : Lane) (h : s.td.entry l = none) :
    (s.tellTamperLevel l).td = s.td := by
  unfold State.tellTamperLevel
  split <;> simp [h]

/-! ## What has risen stays risen (R195, R196)

A step of the blocks clears no condition: what it has told stays pending through whatever follows in the same step. -/

/-- Every instance has its record, and those named are pending. -/
def LC.Tells (lc : LC) (told : List Nat) : Prop := lc.conds.length = 69 ∧ ∀ n ∈ told, lc.isPending n = true

theorem LC.tells_nil {lc : LC} (h : lc.conds.length = 69) : lc.Tells [] := ⟨h, fun _ hn => absurd hn List.not_mem_nil⟩

theorem LC.Tells.pending {lc : LC} {told : List Nat} {n : Nat} (h : lc.Tells (n :: told)) : lc.isPending n = true :=
  h.2 n List.mem_cons_self

theorem LC.Tells.pending_next {lc : LC} {told : List Nat} {n m : Nat} (h : lc.Tells (m :: n :: told)) :
    lc.isPending n = true := h.2 n (List.mem_cons_of_mem _ List.mem_cons_self)

/-- A rise is told, and no rise takes another back. -/
theorem LC.raise_tells_new {lc : LC} {told : List Nat} (h : lc.Tells told) {n : Nat} (hn : n - 1 < 69)
    (o : Option (List Byte)) : (lc.raise n o).Tells (n :: told) := by
  refine ⟨(lc.raise_length n o).trans h.1, fun k hk => ?_⟩
  rcases List.mem_cons.mp hk with rfl | hk
  · rw [LC.raise_pending, if_pos rfl, h.1]
    exact decide_eq_true hn
  · exact LC.raise_keeps _ _ _ _ (h.2 k hk)

section
set_option backward.isDefEq.respectTransparency false
variable {told : List Nat}

@[simp] theorem LC.raise_tells {lc : LC} (ht : lc.Tells told) (n : Nat) (o : Option (List Byte)) :
    (lc.raise n o).Tells told :=
  ⟨(lc.raise_length n o).trans ht.1, fun k hk => LC.raise_keeps _ _ _ _ (ht.2 k hk)⟩

@[simp] theorem State.noteFree_tells (s : State) (before : Nat) (ht : s.lc.Tells told) :
    (s.noteFree before).lc.Tells told := by
  unfold State.noteFree
  split <;> simp [ht]

@[simp] theorem State.append_tells (s : State) (owner : Owner) (kind : RecKind) (lane : Nat) (body : List Byte) (duress : Bool) (closed : Bool) (ht : s.lc.Tells told) :
    (s.append owner kind lane body duress closed).1.lc.Tells told := by
  unfold State.append
  dsimp only
  (repeat' split) <;> simp [ht]

@[simp] theorem State.dropQueued_tells (s : State) (l : Lane) (result : MoveResult) (ht : s.lc.Tells told) :
    (s.dropQueued l result).lc.Tells told := by
  unfold State.dropQueued
  dsimp only
  split <;> simp [ht]

@[simp] theorem State.setReasons_tells (s : State) (l : Lane) (f : Reasons → Reasons) (ht : s.lc.Tells told) :
    (s.setReasons l f).lc.Tells told := by
  unfold State.setReasons
  dsimp only
  (repeat' split) <;> simp [ht]

@[simp] theorem State.alarmRecord_tells (s : State) (z : ZoneId) (left : ZoneState) (entered : ZoneState) (ht : s.lc.Tells told) :
    (s.alarmRecord z left entered).lc.Tells told := by
  unfold State.alarmRecord
  dsimp only
  split <;> simp [ht]

@[simp] theorem State.tellTamper_tells (s : State) (z : ZoneId) (entered : ZoneState) (ht : s.lc.Tells told) :
    (s.tellTamper z entered).lc.Tells told := by
  unfold State.tellTamper
  split <;> simp [ht]

@[simp] theorem State.zoneTo_tells (s : State) (z : ZoneId) (entered : ZoneState) (ht : s.lc.Tells told) :
    (s.zoneTo z entered).lc.Tells told := by
  unfold State.zoneTo
  dsimp only
  (repeat' split) <;> apply_rules [ht, State.tellTamper_tells, State.alarmRecord_tells, LC.raise_tells]

@[simp] theorem State.zoneIdle_tells (s : State) (z : ZoneId) (ht : s.lc.Tells told) :
    (s.zoneIdle z).lc.Tells told := by
  unfold State.zoneIdle
  dsimp only
  (repeat' split) <;> simp [ht]

@[simp] theorem State.startDelay_tells (s : State) (d : Door) (ht : s.lc.Tells told) :
    (s.startDelay d).lc.Tells told := by
  unfold State.startDelay
  split <;> simp [ht]

@[simp] theorem State.closeWindow_tells (s : State) (d : Door) (ht : s.lc.Tells told) :
    (s.closeWindow d).lc.Tells told := by
  unfold State.closeWindow
  dsimp only
  split <;> simp [ht]

@[simp] theorem State.lockIn_tells (s : State) (z : ZoneId) (ht : s.lc.Tells told) : (s.lockIn z).lc.Tells told := by
  unfold State.lockIn
  dsimp only
  split <;> apply_rules [ht, State.zoneTo_tells, State.closeWindow_tells, LC.raise_tells]

@[simp] theorem State.doorOpens_tells (s : State) (d : Door) (ht : s.lc.Tells told) :
    (s.doorOpens d).lc.Tells told := by
  unfold State.doorOpens
  dsimp only
  (repeat' split) <;> simp [ht]

@[simp] theorem State.causeRises_tells (s : State) (z : ZoneId) (ht : s.lc.Tells told) :
    (s.causeRises z).lc.Tells told := by
  unfold State.causeRises
  (repeat' split) <;> simp [ht]

@[simp] theorem State.causeFalls_tells (s : State) (z : ZoneId) (ht : s.lc.Tells told) :
    (s.causeFalls z).lc.Tells told := by
  unfold State.causeFalls
  (repeat' split) <;> simp [ht]

@[simp] theorem State.setCause_tells (s : State) (z : ZoneId) (active : Bool) (ht : s.lc.Tells told) :
    (s.setCause z active).lc.Tells told := by
  unfold State.setCause
  dsimp only
  (repeat' split) <;> simp [ht]

@[simp] theorem State.tellTamperLevel_tells (s : State) (l : Lane) (ht : s.lc.Tells told) :
    (s.tellTamperLevel l).lc.Tells told := by
  unfold State.tellTamperLevel
  split <;> simp [ht]

@[simp] theorem State.supervise_tells (s : State) (l : Lane) (resolved : Bool) (ht : s.lc.Tells told) :
    (s.supervise l resolved).lc.Tells told := by
  unfold State.supervise
  dsimp only
  (repeat' split) <;> simp [ht]

@[simp] theorem State.boxAdd_tells (s : State) (n : Nat) (ht : s.lc.Tells told) : (s.boxAdd n).lc.Tells told := by
  unfold State.boxAdd
  dsimp only
  split <;> simp [ht]

@[simp] theorem State.freeLoad_tells (s : State) (id : Nat) (outcome : LoadOutcome) (ht : s.lc.Tells told) :
    (s.freeLoad id outcome).lc.Tells told := by
  unfold State.freeLoad
  dsimp only
  split <;> simp [ht]

@[simp] theorem State.closeHeld_tells (s : State) (id : Nat) (outcome : LoadOutcome) (ht : s.lc.Tells told) :
    (s.closeHeld id outcome).lc.Tells told := by
  unfold State.closeHeld
  dsimp only
  (repeat' split) <;> simp [ht]

@[simp] theorem State.cancelLoad_tells (s : State) (ld : Load) (ht : s.lc.Tells told) :
    (s.cancelLoad ld).lc.Tells told := by
  simp [State.cancelLoad, ht]

@[simp] theorem State.cancelIfPlanned_tells (s : State) (id : Nat) (ht : s.lc.Tells told) :
    (s.cancelIfPlanned id).lc.Tells told := by
  unfold State.cancelIfPlanned
  (repeat' split) <;> simp [ht]

@[simp] theorem State.cancelPlanned_tells (s : State) (ids : List Nat) (ht : s.lc.Tells told) :
    (s.cancelPlanned ids).lc.Tells told := by
  unfold State.cancelPlanned
  induction ids generalizing s with
  | nil => exact ht
  | cons id ids ih => exact ih _ (s.cancelIfPlanned_tells id ht)

@[simp] theorem State.purgePick_tells (s : State) (ht : s.lc.Tells told) : s.purgePick.lc.Tells told := by
  simp [State.purgePick, ht]

@[simp] theorem State.purgeDelivery_tells (s : State) (ht : s.lc.Tells told) : s.purgeDelivery.lc.Tells told := by
  simp [State.purgeDelivery, ht]

@[simp] theorem State.purgeForClearing_tells (s : State) (ht : s.lc.Tells told) :
    s.purgeForClearing.lc.Tells told := by
  unfold State.purgeForClearing
  split <;> simp [ht]

@[simp] theorem State.awaitClose_tells (s : State) (l : Lane) (id : Nat) (ht : s.lc.Tells told) :
    (s.awaitClose l id).lc.Tells told := by
  simp [State.awaitClose, ht]

@[simp] theorem State.reportAtBay_tells (s : State) (l : Lane) (read : Content) (find : Bool) (ht : s.lc.Tells told) :
    (s.reportAtBay l read find).lc.Tells told := by
  unfold State.reportAtBay
  (repeat' split) <;> simp [ht]

@[simp] theorem State.cassTo_tells (s : State) (c : Cass) (st : CassState) (ht : s.lc.Tells told) :
    (s.cassTo c st).lc.Tells told := by
  unfold State.cassTo
  split <;> simp [ht]

@[simp] theorem State.relevel_tells (s : State) (c : Cass) (ht : s.lc.Tells told) : (s.relevel c).lc.Tells told := by
  unfold State.relevel
  split <;> simp [ht]

@[simp] theorem State.modLedger_tells (s : State) (c : Cass) (f : Ledger → Ledger) (ht : s.lc.Tells told) :
    (s.modLedger c f).lc.Tells told := by
  simp [State.modLedger, ht]

@[simp] theorem State.slotChange_tells (s : State) (c : Cass) (present : Bool) (ht : s.lc.Tells told) :
    (s.slotChange c present).lc.Tells told := by
  unfold State.slotChange
  dsimp only
  (repeat' split) <;> simp [ht]

@[simp] theorem State.slotCheck_tells (s : State) (ht : s.lc.Tells told) : s.slotCheck.lc.Tells told := by
  unfold State.slotCheck
  generalize Ix4.all = xs
  induction xs generalizing s with
  | nil => exact ht
  | cons x xs ih => exact ih _ (s.slotChange_tells x _ ht)

@[simp] theorem State.startClearing_tells (s : State) (ht : s.lc.Tells told) : s.startClearing.lc.Tells told := by
  unfold State.startClearing
  apply_rules [ht, State.purgeForClearing_tells, LC.raise_tells]

@[simp] theorem State.purgeStacker_tells (s : State) (ht : s.lc.Tells told) : s.purgeStacker.lc.Tells told := by
  simp [State.purgeStacker, ht]

@[simp] theorem State.deriveLocation_tells (s : State) (l : Lane) (ht : s.lc.Tells told) :
    (s.deriveLocation l).lc.Tells told := by
  unfold State.deriveLocation
  dsimp only
  split <;> simp [ht]

@[simp] theorem State.deriveLocations_tells (s : State) (ht : s.lc.Tells told) : s.deriveLocations.lc.Tells told := by
  unfold State.deriveLocations
  generalize Ix4.all = xs
  induction xs generalizing s with
  | nil => exact ht
  | cons x xs ih => exact ih _ (s.deriveLocation_tells x ht)

@[simp] theorem State.beginNotePath_tells (s : State) (ht : s.lc.Tells told) : s.beginNotePath.lc.Tells told := by
  unfold State.beginNotePath
  dsimp only
  split <;> apply_rules [ht, State.slotCheck_tells, State.purgeStacker_tells, State.startClearing_tells, LC.raise_tells]

@[simp] theorem State.enrolmentStepEnds_tells (s : State) (ht : s.lc.Tells told) :
    s.enrolmentStepEnds.lc.Tells told := by
  unfold State.enrolmentStepEnds
  split <;> simp [ht]

@[simp] theorem State.failMove_tells (s : State) (result : MoveResult) (ht : s.lc.Tells told) :
    (s.failMove result).lc.Tells told := by
  unfold State.failMove
  dsimp only
  split <;> simp [ht]

@[simp] theorem State.fallBack_tells (s : State) (ht : s.lc.Tells told) : s.fallBack.lc.Tells told := by
  unfold State.fallBack
  split <;> simp [ht]

@[simp] theorem State.reportAt_tells (s : State) (l : Lane) (loc : Location) (find : Bool) (ht : s.lc.Tells told) :
    (s.reportAt l loc find).lc.Tells told := by
  unfold State.reportAt
  split <;> simp [ht]

@[simp] theorem State.raiseAt_tells (s : State) (l : Lane) (loc : Location) (ht : s.lc.Tells told) :
    (s.raiseAt l loc).lc.Tells told := by
  unfold State.raiseAt
  split <;> simp [ht]

@[simp] theorem State.tellKnown_tells (s : State) (l : Lane) (ht : s.lc.Tells told) :
    (s.tellKnown l).lc.Tells told := by
  simp [State.tellKnown, ht]

@[simp] theorem State.lateArrival_tells (s : State) (l : Lane) (loc : Location) (ht : s.lc.Tells told) :
    (s.lateArrival l loc).lc.Tells told := by
  unfold State.lateArrival
  apply_rules [ht, State.tellKnown_tells, State.reportAt_tells, LC.raise_tells]

@[simp] theorem State.relocate_tells (s : State) (l : Lane) (loc : Location) (ht : s.lc.Tells told) :
    (s.relocate l loc).lc.Tells told := by
  have hdrop : ((s.setLocation l loc).dropQueued l .locationChanged).lc.Tells told := by simp [ht]
  unfold State.relocate
  split <;> apply State.raiseAt_tells <;> simp [hdrop]

@[simp] theorem State.presentRisesFree_tells (s : State) (l : Lane) (loc : Location) (ht : s.lc.Tells told) :
    (s.presentRisesFree l loc).lc.Tells told := by
  unfold State.presentRisesFree
  (repeat' split) <;> simp [ht]

@[simp] theorem State.presentRises_tells (s : State) (l : Lane) (loc : Location) (ht : s.lc.Tells told) :
    (s.presentRises l loc).lc.Tells told := by
  unfold State.presentRises
  (repeat' split) <;> simp [ht]

@[simp] theorem State.originDoorOpens_tells (s : State) (l : Lane) (dir : Dir) (ht : s.lc.Tells told) :
    (s.originDoorOpens l dir).lc.Tells told := by
  unfold State.originDoorOpens
  (repeat' split) <;> simp [ht]

@[simp] theorem State.reportStation_tells (s : State) (l : Lane) (level : Sense) (ht : s.lc.Tells told) :
    (s.reportStation l level).lc.Tells told := by
  unfold State.reportStation
  dsimp only
  (repeat' split) <;> simp [ht]

@[simp] theorem State.reportDoor_tells (s : State) (l : Lane) (level : Sense) (ht : s.lc.Tells told) :
    (s.reportDoor l level).lc.Tells told := by
  unfold State.reportDoor
  dsimp only
  split <;> simp [ht]

@[simp] theorem State.takeLoop_tells (s : State) (l : Lane) (latch : Bool) (level : Bool) (ht : s.lc.Tells told) :
    (s.takeLoop l latch level).lc.Tells told := by
  unfold State.takeLoop
  dsimp only
  (repeat' split) <;> simp [ht]

@[simp] theorem State.takeLoopAtEnrolment_tells (s : State) (l : Lane) (level : Bool) (ht : s.lc.Tells told) :
    (s.takeLoopAtEnrolment l level).lc.Tells told := by
  unfold State.takeLoopAtEnrolment
  (repeat' split) <;> simp [ht]

@[simp] theorem State.enrolled_tells (s : State) (l : Lane) (f : Found) (ht : s.lc.Tells told) :
    (s.enrolled l f).lc.Tells told := by
  unfold State.enrolled
  apply_rules [ht, State.supervise_tells, State.setReasons_tells, State.reportStation_tells, State.reportDoor_tells, State.takeLoopAtEnrolment_tells, State.tellTamperLevel_tells, LC.raise_tells]

@[simp] theorem State.answerRescan_tells (s : State) (values : List Byte) (ht : s.lc.Tells told) :
    (s.answerRescan values).lc.Tells told := by
  unfold State.answerRescan
  split <;> exact ht

@[simp] theorem State.afterEnrolment_tells (s : State) (l : Lane) (why : EnrolWhy) (ht : s.lc.Tells told) :
    (s.afterEnrolment l why).lc.Tells told := by
  unfold State.afterEnrolment
  (repeat' split) <;> simp [ht]

end

/-! ## The bus between two polls (R4, R7) -/

/-- A lane record with its shown text left out, which a poll that goes out brings up to date (R13). -/
def LaneRec.unshown (r : LaneRec) : LaneRec := { r with shown := none }

/-- A poll that goes out carries the displayed text where the station takes it (R7, R13). -/
theorem State.sendPoll_laneRec (s : State) (l k : Lane) : (s.sendPoll l).laneRec k =
    if k = l ∧ (s.laneRec k).resolved.laneDisplay = true ∧ (s.laneRec k).reasons.stationLost = false then
      { s.laneRec k with shown := some (s.laneRec k).displayed }
    else s.laneRec k := by
  have hmod := State.laneRec_modLane s l k fun r =>
    if r.resolved.laneDisplay ∧ r.reasons.stationLost = false then { r with shown := some r.displayed } else r
  refine Eq.trans hmod ?_
  by_cases hk : k = l <;> simp [hk]

theorem State.sendPoll_unshown (s : State) (l k : Lane) : ((s.sendPoll l).laneRec k).unshown = (s.laneRec k).unshown := by
  rw [State.sendPoll_laneRec]
  split <;> rfl

theorem State.sendWaiting_unshown (s : State) (k : Lane) : (s.sendWaiting.laneRec k).unshown = (s.laneRec k).unshown := by
  unfold State.sendWaiting
  split
  · rfl
  · exact State.sendPoll_unshown ..

theorem State.releaseByPoll_unshown (s : State) (k : Lane) : (s.releaseByPoll.laneRec k).unshown = (s.laneRec k).unshown := by
  unfold State.releaseByPoll
  split
  · exact s.sendWaiting_unshown k
  · rfl

theorem State.releaseByEnrolment_unshown (s : State) (k : Lane) :
    (s.releaseByEnrolment.laneRec k).unshown = (s.laneRec k).unshown := by
  unfold State.releaseByEnrolment
  split
  · rfl
  · exact s.sendWaiting_unshown k

theorem LaneRec.unshown_eq {a b : LaneRec} (h : a.unshown = b.unshown) : a = { b with shown := a.shown } := by
  have hs := congrArg (fun r : LaneRec => { r with shown := a.shown }) h
  exact hs

/-! ## The answers (R8 to R11) -/

/-- What the loop's report leaves of the lanes, and what it raises (R11). -/
theorem State.takeLoop_lane (s : State) (l k : Lane) (latch level : Bool) :
    (s.takeLoop l latch level).laneRec k =
      if k = l then
        { s.laneRec k with
          vehicle := latch || level || (s.laneRec k).vehicle
          clearDue :=
            if latch = true ∨ level = true then (if level then none else some (s.now + 1500))
            else if (s.laneRec k).vehicle = true ∧ (s.laneRec k).clearDue = none then some (s.now + 1500)
            else (s.laneRec k).clearDue }
      else s.laneRec k := by
  have hraise : ∀ (u : State) (c : LaneCond), (u.raiseLaneBare l c).laneRec k = u.laneRec k := fun _ _ => rfl
  unfold State.takeLoop
  by_cases ha : latch = true ∨ level = true
  · rw [if_pos ha]
    have hany : (latch || level) = true := by simpa using ha
    dsimp only
    rw [apply_ite (fun u : State => u.laneRec k), hraise, ite_self, State.laneRec_modLane]
    simp only [hany, Bool.true_or, if_pos ha, Config.vehicleClear]
  · rw [if_neg ha, State.laneRec_modLane]
    have hnone : (latch || level) = false := by simpa using ha
    simp only [hnone, Bool.false_or, if_neg ha, Config.vehicleClear]
    split
    · split <;> rfl
    · rfl

/-- A good answer's levels are taken (R8). -/
def State.heard (s : State) (l : Lane) (p : PollReport) : State :=
  let s := (s.modLane l fun r => { r with missed := 0, answerReceived := true }).reportStation l (sense p.carrier)
  let s := if (s.laneRec l).resolved.carrierDoor then s.reportDoor l (sense p.door) else s
  (s.modLane l fun r => { r with tamperLevel := p.tamper }).tellTamperLevel l

/-- Then its loop, where that is resolved (R11). -/
def State.looped (s : State) (l : Lane) (p : PollReport) : State :=
  if (s.laneRec l).resolved.vehicleLoop then s.takeLoop l p.loopLatch p.loop else s

/-- Then its SEND latch (R9). -/
def State.pressed (s : State) (l : Lane) (p : PollReport) : State := if p.send then s.sendPress l else s

theorem State.takeAnswer_eq (s : State) (l : Lane) (p : PollReport) : s.takeAnswer l p =
    if p.call then (((s.heard l p).looped l p).pressed l p).raiseLaneBare l .call
    else ((s.heard l p).looped l p).pressed l p := rfl

/-- The lane's record once the answer's levels are taken; every other lane's but for the reasons. -/
theorem State.heard_core (s : State) (l k : Lane) (p : PollReport) :
    ((s.heard l p).laneRec k).core =
      if k = l then { s.laneRec k with
        reasons := Reasons.none, missed := 0, answerReceived := true, carrier := sense p.carrier, tamperLevel := p.tamper
        door := if (s.laneRec k).resolved.carrierDoor then sense p.door else (s.laneRec k).door }
      else (s.laneRec k).core := by
  have hmod : ∀ (u : State) (f : LaneRec → LaneRec), ((u.modLane l f).laneRec k).core =
      if k = l then (f (u.laneRec k)).core else (u.laneRec k).core := fun u f => by
    rw [State.laneRec_modLane]
    split <;> rfl
  have hreport : ∀ u : State, ((u.reportStation l (sense p.carrier)).laneRec k).core =
      if k = l then { (u.laneRec k).core with carrier := sense p.carrier } else (u.laneRec k).core := fun u => by
    rw [State.core_of_cores (u.reportStation_cores l (sense p.carrier)) k, hmod]
    rfl
  have hdoor : ∀ u : State, ((u.reportDoor l (sense p.door)).laneRec k).core =
      if k = l then { (u.laneRec k).core with door := sense p.door } else (u.laneRec k).core := fun u => by
    rw [State.core_of_cores (u.reportDoor_cores l (sense p.door)) k, hmod]
    rfl
  have htamper : ∀ u : State, ((u.tellTamperLevel l).laneRec k).core = (u.laneRec k).core := fun u =>
    State.core_of_cores (by simp) k
  generalize hu : (s.modLane l fun r => { r with missed := 0, answerReceived := true }).reportStation l (sense p.carrier) = u
  have hucore : (u.laneRec k).core = if k = l then { s.laneRec k with
      reasons := Reasons.none, missed := 0, answerReceived := true, carrier := sense p.carrier }
      else (s.laneRec k).core := by
    rw [← hu, hreport, hmod]
    split <;> rfl
  have hlast : ∀ v : State, s.heard l p = (v.modLane l fun r => { r with tamperLevel := p.tamper }).tellTamperLevel l →
      ((s.heard l p).laneRec k).core = if k = l then { (v.laneRec k).core with tamperLevel := p.tamper } else (v.laneRec k).core := by
    intro v hv
    rw [hv, htamper, hmod]
    rfl
  have hheard : s.heard l p = ((if (u.laneRec l).resolved.carrierDoor then u.reportDoor l (sense p.door) else u).modLane l
      fun r => { r with tamperLevel := p.tamper }).tellTamperLevel l := by rw [← hu]; rfl
  rw [hlast _ hheard]
  by_cases hk : k = l
  · subst hk
    have hres : (u.laneRec k).resolved = (s.laneRec k).resolved := by
      have hcore := congrArg LaneRec.resolved hucore
      rw [if_pos rfl] at hcore
      exact hcore
    rw [if_pos rfl, if_pos rfl, hres]
    split
    · rw [hdoor, if_pos rfl, hucore, if_pos rfl]
    · rw [hucore, if_pos rfl]
  · rw [if_neg hk, if_neg hk]
    split
    · rw [hdoor, if_neg hk, hucore, if_neg hk]
    · rw [hucore, if_neg hk]

/-- A carrier level reported as it stands is no edge (R23). -/
theorem State.reportStation_level {s : State} {l : Lane} {level : Sense} (h : (s.laneRec l).carrier = level) :
    s.reportStation l level = s.modLane l fun r => { r with carrier := level } := if_pos h

/-- A door level reported as it stands opens nothing. -/
theorem State.reportDoor_level {s : State} {l : Lane} {level : Sense} (h : (s.laneRec l).door = level) :
    s.reportDoor l level = s.modLane l fun r => { r with door := level } :=
  if_neg fun ⟨hy, hn⟩ => absurd (hy.symm.trans (h.trans hn)) nofun

/-- What is reported level for level moves no carrier and no reason but TAMPER. -/
theorem State.heard_level {s : State} {l : Lane} {p : PollReport} (hc : (s.laneRec l).carrier = sense p.carrier)
    (hd : (s.laneRec l).door = sense p.door) (he : s.td.entry l = none) :
    (s.heard l p).td = s.td ∧ ∀ k, ((s.heard l p).laneRec k).reasons.jam = (s.laneRec k).reasons.jam ∧
      ((s.heard l p).laneRec k).reasons.carrierUnknown = (s.laneRec k).reasons.carrierUnknown ∧
      ((s.heard l p).laneRec k).reasons.stationLost = (s.laneRec k).reasons.stationLost := by
  have hreasons : ∀ (u : State) (f : LaneRec → LaneRec) (k : Lane), (∀ r, (f r).reasons = r.reasons) →
      ((u.modLane l f).laneRec k).reasons = (u.laneRec k).reasons := fun u f k hf => by
    rw [State.laneRec_modLane]
    split
    · exact hf _
    · rfl
  generalize hu : (s.modLane l fun r => { r with missed := 0, answerReceived := true }).reportStation l (sense p.carrier) = u
  have hlevel := State.reportStation_level (s := s.modLane l fun r => { r with missed := 0, answerReceived := true })
    (l := l) (level := sense p.carrier) (by rw [State.modLane_at]; exact hc)
  have hutd : u.td = s.td := by rw [← hu, hlevel]; rfl
  have hudoor : (u.laneRec l).door = sense p.door := by rw [← hu, hlevel, State.modLane_at, State.modLane_at]; exact hd
  have hureasons : ∀ k, (u.laneRec k).reasons = (s.laneRec k).reasons := fun k => by
    rw [← hu, hlevel]
    exact (hreasons _ (fun r => { r with carrier := sense p.carrier }) k fun _ => rfl).trans
      (hreasons _ (fun r => { r with missed := 0, answerReceived := true }) k fun _ => rfl)
  generalize hv : (if (u.laneRec l).resolved.carrierDoor then u.reportDoor l (sense p.door) else u) = v
  have hvtd : v.td = s.td := by
    rw [← hv, State.reportDoor_level hudoor]
    split <;> exact hutd
  have hvreasons : ∀ k, (v.laneRec k).reasons = (s.laneRec k).reasons := fun k => by
    rw [← hv, State.reportDoor_level hudoor]
    split
    · exact (hreasons _ (fun r => { r with door := sense p.door }) k fun _ => rfl).trans (hureasons k)
    · exact hureasons k
  have hheard : s.heard l p = (v.modLane l fun r => { r with tamperLevel := p.tamper }).tellTamperLevel l := by
    rw [← hv, ← hu]
    rfl
  rw [hheard]
  refine ⟨(State.tellTamperLevel_unqueued _ l (by rw [State.modLane_td, hvtd]; exact he)).trans hvtd, fun k => ?_⟩
  obtain ⟨-, hlost, hjam, hunknown⟩ := LaneRec.untampered_eq (State.untampered_of
    (v.modLane l fun r => { r with tamperLevel := p.tamper }) _ (State.tellTamperLevel_untampered _ l) k)
  have hkept := (hreasons v (fun r => { r with tamperLevel := p.tamper }) k fun _ => rfl).trans (hvreasons k)
  rw [hkept] at hlost hjam hunknown
  exact ⟨hjam, hunknown, hlost⟩

theorem State.takeAnswer_laneRec (s : State) (l k : Lane) (p : PollReport) :
    (s.takeAnswer l p).laneRec k = ((s.heard l p).looped l p).laneRec k := by
  have hcall : ∀ u : State, (if p.call then u.raiseLaneBare l .call else u).li = u.li := fun u => by split <;> rfl
  have hpress : ∀ u : State, (u.pressed l p).li = u.li := fun u => by
    unfold State.pressed
    split
    · exact (u.sendPress_frame l).2.2.2.1
    · rfl
  have hli : (s.takeAnswer l p).li = ((s.heard l p).looped l p).li := by
    rw [State.takeAnswer_eq]
    exact (apply_ite State.li _ _ _).trans ((ite_self _).trans (hpress _))
  exact congrArg (fun li => li.lanes.get k) hli

theorem State.heard_tells {told : List Nat} {s : State} (ht : s.lc.Tells told) (l : Lane) (p : PollReport) :
    (s.heard l p).lc.Tells told := by
  unfold State.heard
  refine State.tellTamperLevel_tells _ _ ?_
  have hreport := State.reportStation_tells (s.modLane l fun r => { r with missed := 0, answerReceived := true }) l
    (sense p.carrier) ht
  split
  · exact State.reportDoor_tells _ _ _ hreport
  · exact hreport

theorem State.looped_tells {told : List Nat} {s : State} (ht : s.lc.Tells told) (l : Lane) (p : PollReport) :
    (s.looped l p).lc.Tells told := by
  unfold State.looped
  split
  · exact State.takeLoop_tells _ _ _ _ ht
  · exact ht

theorem State.pressed_lc (s : State) (l : Lane) (p : PollReport) : (s.pressed l p).lc = s.lc := by
  unfold State.pressed
  split <;> simp

/-- CALL rises on the CALL bit (R8), after all else. -/
theorem State.takeAnswer_tells {told : List Nat} {s : State} {l : Lane} {p : PollReport}
    (ht : ((s.heard l p).looped l p).lc.Tells told) : (s.takeAnswer l p).lc.Tells told := by
  rw [State.takeAnswer_eq]
  split
  · exact LC.raise_tells (by rw [State.pressed_lc]; exact ht) _ _
  · rw [State.pressed_lc]; exact ht

theorem LaneCond.num_lt (l : Lane) (c : LaneCond) : (Cond.lane l c).num - 1 < 69 := by
  cases l <;> cases c <;> decide

theorem State.takeAnswer_calls {s : State} {l : Lane} {p : PollReport} (hcall : p.call = true)
    (hlen : s.lc.conds.length = 69) : (s.takeAnswer l p).lc.isPending (Cond.lane l .call).num = true := by
  have ht := State.looped_tells (State.heard_tells (LC.tells_nil hlen) l p) l p
  rw [← State.pressed_lc _ l p] at ht
  rw [State.takeAnswer_eq, if_pos hcall]
  exact (LC.raise_tells_new ht (LaneCond.num_lt l .call) none).pending

/-- VEHICLE rises where the loop is active or latched and there was no vehicle (R11). -/
theorem State.takeLoop_tellsVehicle {told : List Nat} {s : State} (ht : s.lc.Tells told) {l : Lane} {latch level : Bool}
    (ha : latch = true ∨ level = true) (hv : (s.laneRec l).vehicle = false) :
    (s.takeLoop l latch level).lc.Tells ((Cond.lane l .vehicle).num :: told) := by
  unfold State.takeLoop
  rw [if_pos ha]
  dsimp only
  rw [if_neg (by rw [hv]; exact Bool.false_ne_true)]
  exact LC.raise_tells_new ht (LaneCond.num_lt l .vehicle) none

/-- What the loop's report changes of the lane's record is its vehicle and the clear timer. -/
theorem State.looped_rest (s : State) (l k : Lane) (p : PollReport) : (s.looped l p).laneRec k =
    { s.laneRec k with vehicle := ((s.looped l p).laneRec k).vehicle, clearDue := ((s.looped l p).laneRec k).clearDue } := by
  unfold State.looped
  split
  · rw [State.takeLoop_lane]
    split <;> rfl
  · rfl

/-- A lane's record after a good answer: what the answer gives, the loop's part but for the vehicle and its timer. -/
theorem State.answered_lane (s : State) (l : Lane) (p : PollReport) :
    (((s.heard l p).looped l p).laneRec l).missed = 0 ∧ (((s.heard l p).looped l p).laneRec l).answerReceived = true ∧
      (((s.heard l p).looped l p).laneRec l).carrier = sense p.carrier ∧
      (((s.heard l p).looped l p).laneRec l).tamperLevel = p.tamper := by
  have hcore := s.heard_core l l p
  rw [if_pos rfl] at hcore
  rw [State.looped_rest]
  have hmissed := congrArg LaneRec.missed hcore
  have hheard := congrArg LaneRec.answerReceived hcore
  have hcarrier := congrArg LaneRec.carrier hcore
  have htamper := congrArg LaneRec.tamperLevel hcore
  exact ⟨hmissed, hheard, hcarrier, htamper⟩

/-- No other lane's missed count and carrier level is the answer's. -/
theorem State.answered_other (s : State) {l k : Lane} (p : PollReport) (hk : k ≠ l) :
    (((s.heard l p).looped l p).laneRec k).missed = (s.laneRec k).missed ∧
      (((s.heard l p).looped l p).laneRec k).carrier = (s.laneRec k).carrier := by
  have hcore := s.heard_core l k p
  rw [if_neg hk] at hcore
  rw [State.looped_rest]
  have hmissed := congrArg LaneRec.missed hcore
  have hcarrier := congrArg LaneRec.carrier hcore
  exact ⟨hmissed, hcarrier⟩

theorem State.heard_loop (s : State) (l : Lane) (p : PollReport) :
    ((s.heard l p).laneRec l).resolved = (s.laneRec l).resolved ∧ ((s.heard l p).laneRec l).vehicle = (s.laneRec l).vehicle ∧
      ((s.heard l p).laneRec l).clearDue = (s.laneRec l).clearDue := by
  have hcore := s.heard_core l l p
  rw [if_pos rfl] at hcore
  have hres := congrArg LaneRec.resolved hcore
  have hveh := congrArg LaneRec.vehicle hcore
  have hclear := congrArg LaneRec.clearDue hcore
  exact ⟨hres, hveh, hclear⟩

theorem State.looped_unresolved {s : State} {l : Lane} {p : PollReport} (h : (s.laneRec l).resolved.vehicleLoop = false) :
    s.looped l p = s := if_neg (by rw [h]; exact Bool.false_ne_true)

theorem State.looped_resolved {s : State} {l : Lane} {p : PollReport} (h : (s.laneRec l).resolved.vehicleLoop = true) :
    s.looped l p = s.takeLoop l p.loopLatch p.loop := if_pos h

theorem State.looped_td (s : State) (l : Lane) (p : PollReport) : (s.looped l p).td = s.td := by
  unfold State.looped
  split <;> simp

theorem State.looped_now (s : State) (l : Lane) (p : PollReport) : (s.looped l p).now = s.now := by
  unfold State.looped
  split <;> simp

theorem State.takeAnswer_td (s : State) (l : Lane) (p : PollReport) :
    (s.takeAnswer l p).td = (((s.heard l p).looped l p).pressed l p).td := by
  rw [State.takeAnswer_eq]
  exact (apply_ite State.td _ _ _).trans (ite_self _)

/-- The station's carrier and its door are unsensed where the carrier's fall is all that they report. -/
theorem State.reportStation_unsensed_lane (s : State) (l k : Lane) :
    (s.reportStation l .unsensed).laneRec k = if k = l then { s.laneRec k with carrier := .unsensed } else s.laneRec k := by
  have hli : (s.reportStation l .unsensed).li = (s.modLane l fun r => { r with carrier := .unsensed }).li := by
    unfold State.reportStation
    dsimp only
    split
    · rfl
    · split
      · next h => cases h
      · split
        · exact (State.presentFalls_frame _ l .atLane).2.2.2.1
        · rfl
  exact (congrArg (fun li => li.lanes.get k) hli).trans (State.laneRec_modLane ..)

/-- The third miss leaves the station lost, its levels unsensed and no vehicle (R10). -/
theorem State.loseStation_lane (s : State) (l : Lane) : (s.loseStation l).laneRec l =
    { s.laneRec l with
      reasons := { (s.laneRec l).reasons with stationLost := true }, carrier := .unsensed, door := .unsensed
      vehicle := false, clearDue := none } := by
  have hraise : ∀ u : State, (u.raiseLaneBare l .station).laneRec l = u.laneRec l := fun _ => rfl
  unfold State.loseStation
  dsimp only
  rw [State.reportDoor_unsensed]
  rw [hraise, State.modLane_at, State.modLane_at, State.reportStation_unsensed_lane, if_pos rfl, State.setReasons_laneRec,
    if_pos rfl]

theorem State.missPoll_lane (s : State) (l : Lane) : (s.missPoll l).laneRec l =
    if (s.laneRec l).missed + 1 ≥ 3 ∧ (s.laneRec l).reasons.stationLost = false then
      { s.laneRec l with
        reasons := { (s.laneRec l).reasons with stationLost := true }, carrier := .unsensed, door := .unsensed
        vehicle := false, clearDue := none, answerReceived := false, missed := min 3 ((s.laneRec l).missed + 1) }
    else { s.laneRec l with answerReceived := false, missed := min 3 ((s.laneRec l).missed + 1) } := by
  have hrec : (s.modLane l fun r => { r with answerReceived := false, missed := min Config.missesToLose (r.missed + 1) }).laneRec l =
    { s.laneRec l with answerReceived := false, missed := min 3 ((s.laneRec l).missed + 1) } := State.modLane_at ..
  have hthird : min 3 ((s.laneRec l).missed + 1) = Config.missesToLose ↔ (s.laneRec l).missed + 1 ≥ 3 := by
    show min 3 ((s.laneRec l).missed + 1) = 3 ↔ _
    omega
  unfold State.missPoll
  dsimp only
  split
  · next h =>
    rw [hrec] at h
    rw [State.loseStation_lane, hrec, if_pos ⟨hthird.mp h.1, h.2⟩]
  · next h =>
    rw [hrec] at h
    rw [hrec, if_neg fun hn => h ⟨hthird.mpr hn.1, hn.2⟩]

/-- Settles O31: an answer's levels, then its loop, then its SEND latch are taken; a miss adds to the count, and the third is
the station's loss. -/
theorem pollsFollowTheStation : Obligations.PollsFollowTheStation := by
  refine ⟨fun l s hon hk hr => ⟨fun hb hw => ?_, fun hb hn => ?_, fun hb hm => ?_⟩, fun l due p s hon hb hlost => ?_,
    fun l due p s hon hb hlost => ?_, fun l due s hon hb => ?_⟩
  · have hsend : s.pollFallsDue l = s.sendPoll l := by
      unfold State.pollFallsDue
      rw [if_pos hk, if_pos ⟨hb, hw, by simp [LI.resetting, hr]⟩]
    refine ⟨_, exec_event_to rfl rfl hon hsend, ?_, ?_, fun hd hl => ?_⟩
    · simp only [State.finish_frame]
      rfl
    · simp only [State.finish_frame]
      rfl
    · rw [State.finish_laneRec]
      refine (congrArg LaneRec.shown (State.sendPoll_laneRec s l l)).trans ?_
      rw [if_pos ⟨rfl, hd, hl⟩]
  · refine exec_event_to rfl rfl hon ?_
    simp [State.eventDoes, State.onPollDue, State.pollFallsDue, hk, hb, hn, State.modLI]
  · refine exec_event_to rfl rfl hon ?_
    simp [State.eventDoes, State.onPollDue, State.pollFallsDue, hk, hb, hm]
  · have hdoes : State.onPollAnswer p s = (s.takeAnswer l p).releaseByPoll := by
      unfold State.onPollAnswer
      rw [hb]
      exact congrArg State.releaseByPoll (if_neg (by rw [hlost]; exact Bool.false_ne_true))
    have hnow : (s.heard l p).now = s.now := by simp [State.heard, apply_ite State.now]
    have hrec : ∀ k, ∃ sh, ((s.takeAnswer l p).releaseByPoll.finish.laneRec k) =
        { ((s.heard l p).looped l p).laneRec k with shown := sh } := fun k => by
      rw [State.finish_laneRec, ← State.takeAnswer_laneRec]
      exact ⟨_, LaneRec.unshown_eq (State.releaseByPoll_unshown _ k)⟩
    obtain ⟨hres, hveh, hclear⟩ := s.heard_loop l p
    obtain ⟨hmissed, hanswered, hcarrier, htamper⟩ := s.answered_lane l p
    have htd : (s.takeAnswer l p).releaseByPoll.finish.td = (s.takeAnswer l p).td := by simp
    have hlc : (s.takeAnswer l p).releaseByPoll.finish.lc.isPending = (s.takeAnswer l p).lc.isPending := by
      funext n
      rw [State.finish_isPending]
      simp
    obtain ⟨sh, hl⟩ := hrec l
    refine ⟨_, exec_event_to rfl rfl hon hdoes, ?_, ?_, ?_, ?_, fun hcall hlen => ?_, fun k hk => ?_, fun hv => ?_,
      fun hv => ⟨fun ha => ⟨?_, ?_, fun hnone hlen => ?_⟩, fun hlatch hloop => ?_⟩, fun hc hd he => ⟨?_, ?_⟩⟩
    · rw [hl]; exact hmissed
    · rw [hl]; exact hanswered
    · rw [hl]; exact hcarrier
    · rw [hl]; exact htamper
    · rw [hlc]; exact State.takeAnswer_calls hcall hlen
    · obtain ⟨shk, hk'⟩ := hrec k
      rw [hk']
      exact s.answered_other p hk
    · rw [hl, State.looped_unresolved (by rw [hres]; exact hv)]
      exact ⟨hveh, hclear⟩
    · rw [hl, State.looped_resolved (by rw [hres]; exact hv), State.takeLoop_lane]
      rcases ha with ha | ha <;> simp [ha]
    · rw [hl, State.looped_resolved (by rw [hres]; exact hv), State.takeLoop_lane]
      simp [ha, hnow]
    · rw [hlc]
      refine (State.takeAnswer_tells (told := [(Cond.lane l .vehicle).num]) ?_).pending
      rw [State.looped_resolved (by rw [hres]; exact hv)]
      exact State.takeLoop_tellsVehicle (State.heard_tells (LC.tells_nil hlen) l p) ha (by rw [hveh]; exact hnone)
    · rw [hl, State.looped_resolved (by rw [hres]; exact hv), State.takeLoop_lane]
      simp [hlatch, hloop, hnow, hveh, hclear]
    · obtain ⟨htd', hreasons⟩ := State.heard_level hc hd he
      have hltd : ((s.heard l p).looped l p).td = s.td := (State.looped_td _ l p).trans htd'
      have hlreasons : (((s.heard l p).looped l p).laneRec l).reasons = ((s.heard l p).laneRec l).reasons := by
        rw [State.looped_rest]
      obtain ⟨hjam, hunknown, hkept⟩ := hreasons l
      intro hsend hat hj hu hr
      have hcar : ((s.heard l p).looped l p).carrier l = s.carrier l := congrArg (fun td => td.carriers.get l) hltd
      have hpressed : ((s.heard l p).looped l p).pressed l p = ((s.heard l p).looped l p).enqueue l .down .station := by
        unfold State.pressed
        rw [if_pos hsend, State.sendPress_asks (by rw [hcar]; exact hat) (by rw [hlreasons, hjam]; exact hj)
          (by rw [hlreasons, hunknown]; exact hu)]
        refine State.askDown_queues (TD.hasEntry_none (by rw [hltd]; exact he) _) (by rw [hcar]; exact hat) ?_
          (by rw [hcar, hr]; exact nofun) _
        simp only [Reasons.forbid, hlreasons, hjam, hunknown, hkept, hj, hu, hlost, Bool.or_false]
      have hfinal : (s.takeAnswer l p).releaseByPoll.finish.td =
          (((s.heard l p).looped l p).enqueue l .down .station).td := by rw [htd, State.takeAnswer_td, hpressed]
      constructor
      · rw [hfinal]
        simp [State.enqueue, State.modCarrier, hltd, State.looped_now, hnow]
      · refine (congrArg (fun td => (td.carriers.get l).reservation) hfinal).trans ?_
        exact congrArg Carrier.reservation ((State.carrier_modCarrier _ l l _).trans (if_pos rfl))
    · obtain ⟨htd', hreasons⟩ := State.heard_level hc hd he
      have hltd : ((s.heard l p).looped l p).td = s.td := (State.looped_td _ l p).trans htd'
      have hlreasons : (((s.heard l p).looped l p).laneRec l).reasons = ((s.heard l p).laneRec l).reasons := by
        rw [State.looped_rest]
      obtain ⟨hjam, hunknown, -⟩ := hreasons l
      have hcar : ((s.heard l p).looped l p).carrier l = s.carrier l := congrArg (fun td => td.carriers.get l) hltd
      intro hheld
      rw [htd, State.takeAnswer_td]
      unfold State.pressed
      split
      · next hsend =>
        rw [State.sendPress_held, hltd]
        rw [hcar, hlreasons, hjam, hunknown]
        exact hheld.resolve_left (by rw [hsend]; exact nofun)
      · exact hltd
  · refine exec_event_to rfl rfl hon ?_
    have hdoes : State.onPollAnswer p s = (s.lostAnswers l).releaseByPoll := by
      unfold State.onPollAnswer
      rw [hb]
      exact congrArg State.releaseByPoll (if_pos hlost)
    have hwaits : (s.lostAnswers l).li.enrolWaiting.isEmpty = false := by
      unfold State.lostAnswers
      dsimp only
      split
      · next h =>
        have hany : s.li.enrolWaits l = true := h
        unfold LI.enrolWaits at hany
        cases hw : s.li.enrolWaiting with
        | nil => rw [hw] at hany; exact absurd hany nofun
        | cons j js =>
          show s.li.enrolWaiting.isEmpty = false
          rw [hw]
          rfl
      · simp [State.modLI]
    refine Eq.trans hdoes ?_
    unfold State.releaseByPoll
    rw [if_neg (by rw [hwaits]; exact Bool.false_ne_true)]
    unfold State.lostAnswers
    dsimp only
    have hli : (s.modLane l fun r => { r with answerReceived := false }).li.enrolWaits l = s.li.enrolWaits l := rfl
    rw [hli]
    by_cases hw : s.li.enrolWaits l = true
    · rw [if_pos hw, if_pos hw]
      rfl
    · rw [if_neg hw, if_neg hw]
      rfl
  · have hdoes : State.onPollAnswerTimeout s = ((s.reach due).missPoll l).releaseByPoll := by
      unfold State.onPollAnswerTimeout
      rw [hb]
    have hrec : ∃ sh, (((s.reach due).missPoll l).releaseByPoll.finish.laneRec l) =
        { ((s.reach due).missPoll l).laneRec l with shown := sh } := by
      rw [State.finish_laneRec]
      exact ⟨_, LaneRec.unshown_eq (State.releaseByPoll_unshown _ l)⟩
    obtain ⟨sh, hl⟩ := hrec
    have hmiss := State.missPoll_lane (s.reach due) l
    refine ⟨_, exec_event_to rfl rfl hon hdoes, ?_, ?_, ?_, fun h2 hlost => ?_⟩
    · simp [State.reach]
    · rw [hl, hmiss]
      split <;> rfl
    · rw [hl, hmiss]
      split <;> rfl
    · rw [hl, hmiss, if_pos ⟨show (s.laneRec l).missed + 1 ≥ 3 by omega, hlost⟩]
      exact ⟨rfl, rfl, rfl, rfl⟩

end Sys2Proof.Machine
end

section
/-! The end of an enrolment (R5, R6, R20, R21), and what start-up goes on with (R24, R67, R77). -/

namespace Sys2Proof.Machine

/-! ## What an enrolment gives (R6), through the reports that follow it -/

/-- A lane record but for the loop, the texts, the door, the counts of answers and the reasons other than STATION_LOST. -/
def LaneRec.station (r : LaneRec) : LaneSettings × StationKind × Features × Nat × Sense × Bool × Bool :=
  (r.set, r.kind, r.advertised, r.missed, r.carrier, r.tamperLevel, r.reasons.stationLost)

/-- The RESCAN in progress, and that much of each lane. -/
def LI.stations (li : LI) : Option Rescan × Four (LaneSettings × StationKind × Features × Nat × Sense × Bool × Bool) :=
  (li.rescan, li.lanes.map LaneRec.station)

theorem State.station_of {s t : State} (h : t.li.stations = s.li.stations) (k : Lane) :
    (t.laneRec k).station = (s.laneRec k).station := by
  have hk := congrArg (fun st => st.2.get k) h
  simp only [LI.stations, Four.get_map] at hk
  exact hk

theorem State.modLane_stations {s : State} {l : Lane} {f : LaneRec → LaneRec} (hf : ∀ r, (f r).station = r.station) :
    (s.modLane l f).li.stations = s.li.stations :=
  Prod.ext rfl (Four.map_modify _ _ _ _ hf)

theorem State.modLane_stations_congr {s t : State} {l : Lane} {f : LaneRec → LaneRec} (h : s.li.stations = t.li.stations)
    (hf : ∀ a b : LaneRec, a.station = b.station → (f a).station = (f b).station) :
    (s.modLane l f).li.stations = (t.modLane l f).li.stations := by
  have hrescan : s.li.rescan = t.li.rescan := congrArg Prod.fst h
  refine Prod.ext hrescan (Four.ext_get fun k => ?_)
  simp only [LI.stations, State.modLane, Four.get_map, Four.get_modify]
  split
  · exact hf _ _ (State.station_of h k)
  · exact State.station_of h k

theorem State.setReasons_stations {s : State} {l : Lane} {f : Reasons → Reasons}
    (hf : ∀ r, (f r).stationLost = r.stationLost) : (s.setReasons l f).li.stations = s.li.stations := by
  rw [State.setReasons_lanes]
  exact State.modLane_stations fun r => by simp only [LaneRec.station, hf]

@[simp] theorem State.tellTamper_stations (s : State) (z : ZoneId) (entered : ZoneState) :
    (s.tellTamper z entered).li.stations = s.li.stations := by
  unfold State.tellTamper
  split
  · exact State.setReasons_stations fun _ => rfl
  · exact State.setReasons_stations fun _ => rfl
  · rfl

@[simp] theorem State.zoneTo_stations (s : State) (z : ZoneId) (entered : ZoneState) :
    (s.zoneTo z entered).li.stations = s.li.stations := by
  unfold State.zoneTo
  dsimp only
  (repeat' split) <;> simp

@[simp] theorem State.zoneIdle_stations (s : State) (z : ZoneId) : (s.zoneIdle z).li.stations = s.li.stations := by
  unfold State.zoneIdle
  dsimp only
  (repeat' split) <;> simp

@[simp] theorem State.startDelay_stations (s : State) (d : Door) : (s.startDelay d).li.stations = s.li.stations := by
  unfold State.startDelay
  split <;> simp

@[simp] theorem State.closeWindow_stations (s : State) (d : Door) :
    (s.closeWindow d).li.stations = s.li.stations := by
  unfold State.closeWindow
  dsimp only
  split <;> simp

@[simp] theorem State.lockIn_stations (s : State) (z : ZoneId) : (s.lockIn z).li.stations = s.li.stations := by
  unfold State.lockIn
  dsimp only
  split <;> simp

@[simp] theorem State.doorOpens_stations (s : State) (d : Door) : (s.doorOpens d).li.stations = s.li.stations := by
  unfold State.doorOpens
  dsimp only
  (repeat' split) <;> simp

@[simp] theorem State.causeRises_stations (s : State) (z : ZoneId) :
    (s.causeRises z).li.stations = s.li.stations := by
  unfold State.causeRises
  (repeat' split) <;> simp

@[simp] theorem State.causeFalls_stations (s : State) (z : ZoneId) :
    (s.causeFalls z).li.stations = s.li.stations := by
  unfold State.causeFalls
  (repeat' split) <;> simp

@[simp] theorem State.setCause_stations (s : State) (z : ZoneId) (active : Bool) :
    (s.setCause z active).li.stations = s.li.stations := by
  unfold State.setCause
  dsimp only
  (repeat' split) <;> simp

@[simp] theorem State.supervise_stations (s : State) (l : Lane) (resolved : Bool) :
    (s.supervise l resolved).li.stations = s.li.stations := by
  unfold State.supervise
  dsimp only
  (repeat' split) <;> simp

@[simp] theorem State.tellTamperLevel_stations (s : State) (l : Lane) :
    (s.tellTamperLevel l).li.stations = s.li.stations := by
  unfold State.tellTamperLevel
  split <;> simp

@[simp] theorem State.tellKnown_stations (s : State) (l : Lane) : (s.tellKnown l).li.stations = s.li.stations := by
  exact State.setReasons_stations fun _ => rfl

@[simp] theorem State.lateArrival_stations (s : State) (l : Lane) (loc : Location) :
    (s.lateArrival l loc).li.stations = s.li.stations := by
  simp [State.lateArrival]

@[simp] theorem State.presentRisesFree_stations (s : State) (l : Lane) (loc : Location) :
    (s.presentRisesFree l loc).li.stations = s.li.stations := by
  unfold State.presentRisesFree
  (repeat' split) <;> simp

@[simp] theorem State.presentRises_stations (s : State) (l : Lane) (loc : Location) :
    (s.presentRises l loc).li.stations = s.li.stations := by
  unfold State.presentRises
  (repeat' split) <;> simp

theorem State.reportStation_stations (s : State) (l : Lane) (level : Sense) :
    (s.reportStation l level).li.stations = (s.modLane l fun r => { r with carrier := level }).li.stations := by
  unfold State.reportStation
  dsimp only
  (repeat' split) <;> simp

@[simp] theorem State.reportDoor_stations (s : State) (l : Lane) (level : Sense) :
    (s.reportDoor l level).li.stations = s.li.stations := by
  have hdoor := State.modLane_stations (s := s) (l := l) (f := fun r => { r with door := level }) fun _ => rfl
  unfold State.reportDoor
  dsimp only
  split
  · simpa using hdoor
  · exact hdoor

@[simp] theorem State.takeLoop_stations (s : State) (l : Lane) (latch : Bool) (level : Bool) :
    (s.takeLoop l latch level).li.stations = s.li.stations := by
  unfold State.takeLoop
  dsimp only
  split
  · split <;> exact State.modLane_stations fun _ => rfl
  · exact State.modLane_stations fun r => by split <;> rfl

@[simp] theorem State.takeLoopAtEnrolment_stations (s : State) (l : Lane) (level : Bool) :
    (s.takeLoopAtEnrolment l level).li.stations = s.li.stations := by
  unfold State.takeLoopAtEnrolment
  split
  · split
    · exact s.takeLoop_stations l false true
    · exact State.modLane_stations fun r => by split <;> rfl
  · exact State.modLane_stations fun _ => rfl

@[simp] theorem State.releaseByEnrolment_stations (s : State) : s.releaseByEnrolment.li.stations = s.li.stations := by
  have hrescan : s.releaseByEnrolment.li.rescan = s.li.rescan := by
    unfold State.releaseByEnrolment State.sendWaiting
    (repeat' split) <;> rfl
  refine Prod.ext hrescan (Four.ext_get fun k => ?_)
  have hk := congrArg LaneRec.station (s.releaseByEnrolment_unshown k)
  simp only [LI.stations, Four.get_map]
  exact hk

@[simp] theorem State.deriveLocation_stations (s : State) (l : Lane) :
    (s.deriveLocation l).li.stations = s.li.stations := by
  unfold State.deriveLocation
  dsimp only
  split
  · exact State.setReasons_stations fun _ => rfl
  · rfl

@[simp] theorem State.deriveLocations_stations (s : State) : s.deriveLocations.li.stations = s.li.stations := by
  unfold State.deriveLocations
  generalize Ix4.all = ls
  induction ls generalizing s with
  | nil => rfl
  | cons l ls ih => exact (ih _).trans (s.deriveLocation_stations l)

@[simp] theorem State.enrolmentStepEnds_stations (s : State) : s.enrolmentStepEnds.li.stations = s.li.stations := by
  unfold State.enrolmentStepEnds
  split <;> simp

/-- An enrolment's end gives the lane its station, and leaves the others' (R6). -/
theorem State.enrolled_stations (s : State) (l : Lane) (f : Found) :
    (s.enrolled l f).li.stations = (s.modLane l fun r =>
      { r with kind := f.kind, advertised := f.advertised, missed := 0, tamperLevel := f.tamper, carrier := f.carrier
               reasons := { r.reasons with stationLost := f.kind == .absent } }).li.stations := by
  have hdefn : (s.enrolled l f).li.stations = (((((s.modLane l fun r => { r with
      kind := f.kind, advertised := f.advertised, missed := 0, tamperLevel := f.tamper, shown := none }).supervise l
        ((s.modLane l fun r => { r with
      kind := f.kind, advertised := f.advertised, missed := 0, tamperLevel := f.tamper, shown := none }).laneRec
        l).resolved.tamperSwitch).setReasons l fun r => { r with stationLost := f.kind == .absent }).reportStation l
          f.carrier)).li.stations := by
    unfold State.enrolled
    dsimp only
    rw [State.raiseLaneBare_li, State.tellTamperLevel_stations, State.takeLoopAtEnrolment_stations,
      State.reportDoor_stations]
  rw [hdefn, State.reportStation_stations]
  refine (State.modLane_stations_congr ((congrArg LI.stations (State.setReasons_lanes ..)).trans
    (State.modLane_stations_congr (State.supervise_stations ..) fun a b h => ?_)) fun a b h => ?_).trans ?_
  · simp only [LaneRec.station, Prod.mk.injEq] at h ⊢
    simp [h]
  · simp only [LaneRec.station, Prod.mk.injEq] at h ⊢
    simp [h]
  · refine Prod.ext rfl (Four.ext_get fun k => ?_)
    cases l <;> cases k <;> rfl

/-! ## The cassettes and the box, by what is left in the note dispenser (R65, R66, R68) -/

theorem Four.modify_same {α : Type} {f : Four α} {l : Ix4} {g : α → α} (h : g (f.get l) = f.get l) : f.modify l g = f :=
  Four.ext_get fun k => by
    rw [Four.get_modify]
    split
    · next hk => rw [hk, h]
    · rfl

theorem Four.modify_modify {α : Type} (f : Four α) (l : Ix4) (g h : α → α) :
    (f.modify l g).modify l h = f.modify l (h ∘ g) :=
  Four.ext_get fun k => by
    simp only [Four.get_modify]
    split <;> rfl

/-- A cassette in a state, its ledger else as it was. -/
def Cassette.inState (r : Cassette) (st : CassState) : Cassette := { r with kept := { r.kept with state := st } }

theorem State.cassTo_nd (s : State) (c : Cass) (st : CassState) :
    (s.cassTo c st).nd = (s.modCass c fun r => r.inState st).nd := by
  unfold State.cassTo
  split
  · next h =>
    have hsame : s.nd.cassettes.modify c (fun r => r.inState st) = s.nd.cassettes := Four.modify_same (by
      unfold Cassette.inState
      rw [← h]
      rfl)
    simp only [State.modCass, hsame]
  · rfl

/-- The state of a cassette that is put in or drawn out (R65, R67). -/
def CassState.slotted (st : CassState) (present : Bool) : CassState :=
  if present = false then .absent else if st = .absent then .unconfirmed else st

theorem State.slotChange_nd (s : State) (c : Cass) (present : Bool) : (s.slotChange c present).nd =
    (s.modCass c fun r => { r with slot := present, kept := { r.kept with state := r.kept.state.slotted present } }).nd := by
  have hcass : (s.modCass c fun r => { r with slot := present }).cass c = { s.cass c with slot := present } := by
    rw [State.cass_modCass, if_pos rfl]
  have hmod : ∀ st, ((s.modCass c fun r => { r with slot := present }).modCass c fun r => r.inState st).nd =
      (s.modCass c fun r => { r with slot := present, kept := { r.kept with state := st } }).nd := fun st => by
    simp only [State.modCass, Four.modify_modify]
    rfl
  have hto : ∀ st, (s.cass c).kept.state.slotted present = st →
      (s.modCass c fun r => { r with slot := present, kept := { r.kept with state := st } }).nd =
        (s.modCass c fun r => { r with slot := present, kept := { r.kept with state := r.kept.state.slotted present } }).nd := by
    intro st hst
    refine congrArg (fun cs => { s.nd with cassettes := cs }) (Four.ext_get fun k => ?_)
    rw [Four.get_modify, Four.get_modify]
    split
    · next hk =>
      subst hk
      rw [← hst]
      rfl
    · rfl
  unfold State.slotChange
  dsimp only
  rw [hcass]
  cases present with
  | false =>
    rw [if_neg Bool.false_ne_true, State.cassTo_nd, hmod]
    exact hto _ rfl
  | true =>
    rw [if_pos rfl]
    split
    · next h =>
      have habsent : (s.cass c).kept.state = .absent := h
      rw [State.cassTo_nd, hmod]
      exact hto _ (by simp [CassState.slotted, habsent])
    · next h =>
      have hput : ¬ (s.cass c).kept.state = .absent := h
      refine Eq.trans ?_ (hto (s.cass c).kept.state (by simp [CassState.slotted, hput]))
      refine congrArg (fun cs => { s.nd with cassettes := cs }) (Four.ext_get fun k => ?_)
      rw [Four.get_modify, Four.get_modify]
      split
      · next hk => subst hk; rfl
      · rfl

theorem State.slotCheck_nd (s : State) : s.slotCheck.nd = { s.nd with cassettes := s.nd.cassettes.map fun r =>
    { r with kept := { r.kept with state := r.kept.state.slotted r.slot } } } := by
  have hstep : ∀ (u : State) (c : Cass), (u.slotChange c (u.cass c).slot).nd = { u.nd with
      cassettes := u.nd.cassettes.modify c fun r => { r with
        kept := { r.kept with state := r.kept.state.slotted r.slot } } } := by
    intro u c
    rw [State.slotChange_nd]
    refine congrArg (fun cs => { u.nd with cassettes := cs }) (Four.ext_get fun k => ?_)
    rw [Four.get_modify, Four.get_modify]
    split
    · next hk => subst hk; rfl
    · rfl
  simp only [State.slotCheck, Ix4.all, List.foldl_cons, List.foldl_nil, hstep]
  refine congrArg (fun cs => { s.nd with cassettes := cs }) (Four.ext_get fun k => ?_)
  cases k <;> rfl

theorem State.boxAdd_nd (s : State) (n : Nat) : (s.boxAdd n).nd = { s.nd with
    box := min 300 (s.nd.box + n), emptying := s.nd.emptying.map fun e => { e with added := e.added + n } } := by
  unfold State.boxAdd
  dsimp only
  split <;> rfl

theorem State.boxAdd_ss (s : State) (n : Nat) : (s.boxAdd n).ss = s.ss := by simp

/-- Start-up's purge empties both sides of the stacker into the box (R102). -/
theorem State.purgeStacker_nd (s : State) : s.purgeStacker.nd = { s.nd with
    box := min 300 (min 300 (s.nd.box + s.ss.pick.notes) + s.ss.delivery.notes)
    emptying := (s.nd.emptying.map fun e => { e with added := e.added + s.ss.pick.notes }).map fun e =>
      { e with added := e.added + s.ss.delivery.notes } } := by
  unfold State.purgeStacker State.purgeDelivery State.purgePick
  dsimp only
  rw [State.boxAdd_nd]
  simp only [State.boxAdd_nd, State.boxAdd_ss]

theorem State.purgeStacker_ss (s : State) : s.purgeStacker.ss =
    { s.ss with pick := .empty, delivery := .empty, shuttle := .home } := by
  unfold State.purgeStacker State.purgeDelivery State.purgePick
  dsimp only
  simp only [State.boxAdd_ss]

/-- A clearing begun with no load on the pick side purges nothing (R77). -/
theorem State.startClearing_empty {s : State} (h : s.ss.pick = .empty) : s.startClearing =
    { s.stopPath with nd := { s.stopPath.nd with state := .clearing, clearingDue := some (s.now + 2000) } } := by
  unfold State.startClearing State.purgeForClearing
  have hpick : s.stopPath.ss.pick = .empty := h
  dsimp only
  rw [hpick]
  rfl

/-! ## Locations derived from the sensors (R24) -/

theorem State.setReasons_location (s : State) (l k : Lane) (f : Reasons → Reasons) :
    ((s.setReasons l f).carrier k).location = (s.carrier k).location := by
  rw [State.location_eq, State.location_eq, State.setReasons_locations]

theorem State.deriveLocation_location (s : State) (l k : Lane) : ((s.deriveLocation l).carrier k).location =
    if k = l then s.derivedLocation l else (s.carrier k).location := by
  have hmod : ((s.modCarrier l fun c => { c with location := s.derivedLocation l }).carrier k).location =
      if k = l then s.derivedLocation l else (s.carrier k).location := by
    rw [State.carrier_modCarrier]
    split <;> rfl
  unfold State.deriveLocation
  dsimp only
  split
  · rw [State.setReasons_location]
    exact hmod
  · exact hmod

theorem State.deriveLocation_unknown (s : State) (l k : Lane) : ((s.deriveLocation l).laneRec k).reasons.carrierUnknown =
    if k = l ∧ s.derivedLocation l = .unknown then true else (s.laneRec k).reasons.carrierUnknown := by
  unfold State.deriveLocation
  dsimp only
  split
  · next h =>
    rw [State.setReasons_laneRec]
    by_cases hk : k = l
    · rw [if_pos hk, if_pos ⟨hk, h⟩]
    · rw [if_neg hk, if_neg fun hn => hk hn.1]
      rfl
  · next h =>
    rw [if_neg fun hn => h hn.2]
    rfl

/-- What the derivation reads is the bay's sensor and the station's carrier level. -/
theorem State.derivedLocation_congr {s t : State} (hbays : t.td.bays = s.td.bays) (hst : t.li.stations.2 = s.li.stations.2)
    (l : Lane) : t.derivedLocation l = s.derivedLocation l := by
  have hbay : t.bay l = s.bay l := congrArg (·.get l) hbays
  have hlane := congrArg (·.get l) hst
  simp only [LI.stations, Four.get_map] at hlane
  have hcarrier : (t.laneRec l).carrier = (s.laneRec l).carrier := congrArg (·.2.2.2.2.1) hlane
  simp only [State.derivedLocation, hbay, hcarrier]

theorem State.deriveLocation_derived (s : State) (l k : Lane) : (s.deriveLocation l).derivedLocation k = s.derivedLocation k :=
  State.derivedLocation_congr (by simp) (congrArg Prod.snd (s.deriveLocation_stations l)) k

theorem State.deriveLocations_location (s : State) (k : Lane) :
    (s.deriveLocations.carrier k).location = s.derivedLocation k := by
  simp only [State.deriveLocations, Ix4.all, List.foldl_cons, List.foldl_nil, State.deriveLocation_location,
    State.deriveLocation_derived]
  cases k <;> rfl

theorem State.deriveLocations_unknown (s : State) (k : Lane) (h : s.derivedLocation k = .unknown) :
    (s.deriveLocations.laneRec k).reasons.carrierUnknown = true := by
  simp only [State.deriveLocations, Ix4.all, List.foldl_cons, List.foldl_nil, State.deriveLocation_unknown,
    State.deriveLocation_derived]
  cases k <;> simp [h]

/-! ## The end of an enrolment (R5, R6, R20, R21, R205) -/

theorem LaneRec.rescanBytes_of_unshown {a b : LaneRec} (h : a.unshown = b.unshown) : a.rescanBytes = b.rescanBytes := by
  have hbytes := congrArg LaneRec.rescanBytes h
  exact hbytes

/-- An enrolment's end answers its RESCAN and goes on; it leaves what the stations gave. -/
theorem State.afterEnrolment_stations (s : State) (l : Lane) (why : EnrolWhy) :
    (s.afterEnrolment l why).li.stations.2 = s.li.stations.2 := by
  have hanswer : ∀ values, (s.answerRescan values).li.stations.2 = s.li.stations.2 := fun values => by
    unfold State.answerRescan
    split <;> rfl
  unfold State.afterEnrolment
  split
  · split <;> simp
  · rw [State.releaseByEnrolment_stations, hanswer]
  · rw [State.releaseByEnrolment_stations]
    split
    · exact hanswer _
    · rfl
  · rw [State.releaseByEnrolment_stations]

/-- What an enrolment gives its lane, and that it leaves the other lanes. -/
theorem State.endEnrolment_station (s : State) (l : Lane) (why : EnrolWhy) (f : Found) (k : Lane) :
    ((s.endEnrolment l why f).laneRec k).station = if k = l then
      ((s.laneRec k).set, f.kind, f.advertised, 0, f.carrier, f.tamper, f.kind == .absent) else (s.laneRec k).station := by
  have hst := (State.afterEnrolment_stations (s.enrolled l f) l why).trans (congrArg Prod.snd (s.enrolled_stations l f))
  have hk := congrArg (·.get k) hst
  simp only [LI.stations, Four.get_map] at hk
  refine hk.trans ?_
  refine (congrArg LaneRec.station (State.laneRec_modLane ..)).trans ?_
  split <;> rfl

theorem State.endEnrolment_found (s : State) (l : Lane) (why : EnrolWhy) (f : Found) :
    (((s.endEnrolment l why f).finish.laneRec l).kind = f.kind ∧
      ((s.endEnrolment l why f).finish.laneRec l).advertised = f.advertised ∧
      ((s.endEnrolment l why f).finish.laneRec l).missed = 0 ∧
      ((s.endEnrolment l why f).finish.laneRec l).carrier = f.carrier ∧
      ((s.endEnrolment l why f).finish.laneRec l).tamperLevel = f.tamper ∧
      ((s.endEnrolment l why f).finish.laneRec l).reasons.stationLost = (f.kind == .absent)) ∧
    ∀ k, k ≠ l → ((s.endEnrolment l why f).finish.laneRec k).kind = (s.laneRec k).kind ∧
      ((s.endEnrolment l why f).finish.laneRec k).carrier = (s.laneRec k).carrier ∧
      ((s.endEnrolment l why f).finish.laneRec k).set = (s.laneRec k).set := by
  have hl := s.endEnrolment_station l why f l
  rw [if_pos rfl] at hl
  simp only [LaneRec.station, Prod.mk.injEq] at hl
  obtain ⟨-, hkind, hadv, hmissed, hcarrier, htamper, hlost⟩ := hl
  simp only [State.finish_laneRec]
  refine ⟨⟨hkind, hadv, hmissed, hcarrier, htamper, hlost⟩, fun k hk => ?_⟩
  have hother := s.endEnrolment_station l why f k
  rw [if_neg hk] at hother
  simp only [LaneRec.station, Prod.mk.injEq] at hother
  obtain ⟨hset, hkind, -, -, hcarrier, -⟩ := hother
  exact ⟨hkind, hcarrier, hset⟩

/-- What three queries without an answer find, by the select-return loop (R5). -/
def State.unanswered (s : State) (l : Lane) (loopClosed : Bool) : Found :=
  if loopClosed then
    { kind := .basic, advertised := Features.none, carrier := sense (s.laneRec l).carrierInput, door := .unsensed, loop := false,
      tamper := false }
  else { kind := .absent, advertised := Features.none, carrier := .unsensed, door := .unsensed, loop := false, tamper := false }

section
variable {l : Lane} {why : EnrolWhy} {query due : Nat} {s : State}

theorem exec_identAnswer (hon : s.phase ≠ .off) (hb : s.li.bus = .ident l why query due) (report : IdentReport) :
    exec (.identAnswer report) s = .next (s.endEnrolment l why (identFound report)).finish := by
  refine exec_event_to rfl rfl hon ?_
  simp only [State.eventDoes, State.onIdentAnswer, hb]

theorem exec_lastIdentTimeout (hon : s.phase ≠ .off) (hb : s.li.bus = .ident l why query due) (hq : 3 ≤ query)
    (loopClosed : Bool) : exec (.identTimeout loopClosed) s =
      .next (({ s with now := max s.now due } : State).endEnrolment l why (s.unanswered l loopClosed)).finish := by
  have hlast : ¬ query < Config.identQueries := Nat.not_lt.mpr hq
  refine exec_event_to rfl rfl hon ?_
  simp only [State.eventDoes, State.onIdentTimeout, hb, if_neg hlast]
  cases loopClosed <;> rfl

/-- Each command that ends an enrolment ends it with what was found. -/
theorem exec_enrolmentEnds {c : Instr} (hon : s.phase ≠ .off) (hb : s.li.bus = .ident l why query due)
    (hc : (∃ report, c = .identAnswer report) ∨ (3 ≤ query ∧ ∃ loopClosed, c = .identTimeout loopClosed)) :
    ∃ f now, exec c s = .next (({ s with now := now } : State).endEnrolment l why f).finish := by
  rcases hc with ⟨report, rfl⟩ | ⟨hq, loopClosed, rfl⟩
  · exact ⟨identFound report, s.now, exec_identAnswer hon hb report⟩
  · exact ⟨s.unanswered l loopClosed, max s.now due, exec_lastIdentTimeout hon hb hq loopClosed⟩

end

theorem State.enrolled_tellsStation {s : State} (hlen : s.lc.conds.length = 69) (l : Lane) (f : Found) :
    (s.enrolled l f).lc.Tells [(Cond.lane l .station).num] := by
  unfold State.enrolled
  refine LC.raise_tells_new ?_ (LaneCond.num_lt l .station) none
  apply_rules [State.tellTamperLevel_tells, State.takeLoopAtEnrolment_tells, State.reportDoor_tells,
    State.reportStation_tells, State.setReasons_tells, State.supervise_tells]
  exact LC.tells_nil hlen

/-- In start-up no location is derived yet, so an enrolment's report moves nothing of the stacker's. -/
theorem State.enrolled_ss {s : State} (h : s.derived = false) (l : Lane) (f : Found) : (s.enrolled l f).ss = s.ss := by
  have hreport : ∀ (u : State) (level : Sense), u.derived = false → (u.reportStation l level).ss = u.ss := by
    intro u level hu
    have hmod : (u.modLane l fun r => { r with carrier := level }).derived = false := hu
    unfold State.reportStation State.presentRises State.presentFalls
    dsimp only
    rw [hmod]
    (repeat' split) <;> first | rfl | contradiction
  unfold State.enrolled
  simp only [State.raiseLaneBare_ss, State.tellTamperLevel_frame, State.takeLoopAtEnrolment_frame, State.reportDoor_frame]
  rw [hreport]
  · simp
  · have hphase : ∀ u : State, u.phase = s.phase → u.derived = false := fun u hu => by
      unfold State.derived at h ⊢
      rw [hu]
      exact h
    exact hphase _ (by simp)

/-! ## The RESCAN's reply (R20, R21) -/

theorem State.answerRescan_some {s : State} {r : Rescan} (h : s.li.rescan = some r) (values : List Byte) :
    s.answerRescan values =
      ({ s with li := { s.li with rescan := none } } : State).replied 0x15 r.tag (0x00#8 :: values) := by
  unfold State.answerRescan
  rw [h]
  exact State.ok_replied rfl _ _ _

theorem State.releaseByEnrolment_rescan (s : State) : s.releaseByEnrolment.li.rescan = s.li.rescan :=
  congrArg Prod.fst s.releaseByEnrolment_stations

theorem State.enrolled_rescan (s : State) (l : Lane) (f : Found) : (s.enrolled l f).li.rescan = s.li.rescan :=
  congrArg Prod.fst (s.enrolled_stations l f)

/-- A RESCAN of one lane is answered with the lane as it stands. -/
theorem State.endEnrolment_one {s : State} {r : Rescan} (h : s.li.rescan = some r) (l : Lane) (f : Found) :
    (s.endEnrolment l .rescanOne f).li.rescan = none ∧ (s.endEnrolment l .rescanOne f).lc.replies =
      s.lc.replies ++ [answer 0x15 r.tag (0x00#8 :: ((s.endEnrolment l .rescanOne f).laneRec l).rescanBytes)] := by
  have hr := (s.enrolled_rescan l f).trans h
  have hreplies : (s.enrolled l f).lc.replies = s.lc.replies := by simp
  generalize hu : s.enrolled l f = u at hr hreplies
  have hend : s.endEnrolment l .rescanOne f = (({ u with li := { u.li with rescan := none } } : State).replied 0x15 r.tag
      (0x00#8 :: (u.laneRec l).rescanBytes)).releaseByEnrolment := by
    rw [← State.answerRescan_some hr, ← hu]
    rfl
  rw [hend]
  refine ⟨State.releaseByEnrolment_rescan _, ?_⟩
  have hbytes := LaneRec.rescanBytes_of_unshown (State.releaseByEnrolment_unshown
    (({ u with li := { u.li with rescan := none } } : State).replied 0x15 r.tag (0x00#8 :: (u.laneRec l).rescanBytes)) l)
  rw [hbytes, ← hreplies]
  exact congrArg LC.replies (State.releaseByEnrolment_frame _).2.2.2.2.2.2.2.2.2.2.2.1

/-- The last enrolment of a RESCAN of all lanes answers it with each lane as it stands. -/
theorem State.endEnrolment_all {s : State} {r : Rescan} (h : s.li.rescan = some r) (f : Found) :
    (s.endEnrolment .i4 .rescanAll f).li.rescan = none ∧ (s.endEnrolment .i4 .rescanAll f).lc.replies =
      s.lc.replies ++ [answer 0x15 r.tag (0x00#8 :: (((s.endEnrolment .i4 .rescanAll f).laneRec .i1).rescanBytes ++
        ((s.endEnrolment .i4 .rescanAll f).laneRec .i2).rescanBytes ++
        ((s.endEnrolment .i4 .rescanAll f).laneRec .i3).rescanBytes ++
        ((s.endEnrolment .i4 .rescanAll f).laneRec .i4).rescanBytes))] := by
  have hr := (s.enrolled_rescan .i4 f).trans h
  have hreplies : (s.enrolled .i4 f).lc.replies = s.lc.replies := by simp
  generalize hu : s.enrolled .i4 f = u at hr hreplies
  have hend : s.endEnrolment .i4 .rescanAll f = (({ u with li := { u.li with rescan := none } } : State).replied 0x15 r.tag
      (0x00#8 :: u.li.lanes.toList.flatMap LaneRec.rescanBytes)).releaseByEnrolment := by
    rw [← State.answerRescan_some hr, ← hu]
    rfl
  rw [hend]
  refine ⟨State.releaseByEnrolment_rescan _, ?_⟩
  have hbytes := fun k => LaneRec.rescanBytes_of_unshown (State.releaseByEnrolment_unshown
    (({ u with li := { u.li with rescan := none } } : State).replied 0x15 r.tag
      (0x00#8 :: u.li.lanes.toList.flatMap LaneRec.rescanBytes)) k)
  have hall : u.li.lanes.toList.flatMap LaneRec.rescanBytes = (u.laneRec .i1).rescanBytes ++ (u.laneRec .i2).rescanBytes ++
      (u.laneRec .i3).rescanBytes ++ (u.laneRec .i4).rescanBytes := by
    simp [Four.toList, State.laneRec, Four.get]
  rw [hbytes, hbytes, hbytes, hbytes, ← hreplies]
  refine (congrArg LC.replies (State.releaseByEnrolment_frame _).2.2.2.2.2.2.2.2.2.2.2.1).trans ?_
  rw [hall]
  rfl

/-- Any other enrolment's end answers no RESCAN. -/
theorem State.endEnrolment_unasked (s : State) (l : Lane) (why : EnrolWhy) (f : Found)
    (h : why = .startUp ∨ why = .lost ∨ (why = .rescanAll ∧ l ≠ .i4)) :
    (s.endEnrolment l why f).li.rescan = s.li.rescan ∧ (s.endEnrolment l why f).lc.replies = s.lc.replies := by
  have hreplies : (s.enrolled l f).lc.replies = s.lc.replies := by simp
  have hafter : ((s.enrolled l f).afterEnrolment l why).li.rescan = (s.enrolled l f).li.rescan ∧
      ((s.enrolled l f).afterEnrolment l why).lc.replies = (s.enrolled l f).lc.replies := by
    have hstep : ∀ u : State, u.enrolmentStepEnds.li.rescan = u.li.rescan := fun u =>
      congrArg Prod.fst u.enrolmentStepEnds_stations
    rcases h with rfl | rfl | ⟨rfl, hl⟩
    · unfold State.afterEnrolment
      dsimp only
      split <;> simp [State.releaseByEnrolment_rescan, hstep]
    · simp [State.afterEnrolment, State.releaseByEnrolment_rescan]
    · simp [State.afterEnrolment, hl, State.releaseByEnrolment_rescan]
  exact ⟨hafter.1.trans (s.enrolled_rescan l f), hafter.2.trans hreplies⟩

theorem State.endEnrolment_tellsStation {s : State} (hlen : s.lc.conds.length = 69) (l : Lane) (why : EnrolWhy) (f : Found) :
    (s.endEnrolment l why f).lc.isPending (Cond.lane l .station).num = true :=
  (State.afterEnrolment_tells _ l why (State.enrolled_tellsStation hlen l f)).pending

/-! ## The last of start-up's enrolments (R24, R58, R67, R77, R102) -/

/-- What the note path's step leaves of the dispenser and the stacker. -/
theorem State.beginNotePath_shut {s : State} (h : s.nd.safeDoorOpen = false) : s.beginNotePath =
    ({ s.slotCheck.purgeStacker with phase := .startUp .notePath } : State).startClearing := by
  have hopen : s.slotCheck.purgeStacker.nd.safeDoorOpen = s.nd.safeDoorOpen := by
    rw [State.purgeStacker_nd, State.slotCheck_nd]
  unfold State.beginNotePath
  dsimp only
  rw [hopen, h]
  rfl

theorem State.beginNotePath_open {s : State} (h : s.nd.safeDoorOpen = true) : s.beginNotePath =
    ({ s.slotCheck.purgeStacker with nd := { s.slotCheck.purgeStacker.nd with state := .halted } } : State).beginAir := by
  have hopen : s.slotCheck.purgeStacker.nd.safeDoorOpen = s.nd.safeDoorOpen := by
    rw [State.purgeStacker_nd, State.slotCheck_nd]
  unfold State.beginNotePath
  dsimp only
  rw [hopen, h]
  rfl

theorem State.beginNotePath_clears {s : State} (h : s.nd.safeDoorOpen = false) :
    s.beginNotePath.phase = .startUp .notePath ∧ s.beginNotePath.nd.state = .clearing ∧
      s.beginNotePath.nd.clearingDue = some (s.beginNotePath.now + 2000) := by
  have hpick : ({ s.slotCheck.purgeStacker with phase := .startUp .notePath } : State).ss.pick = .empty := by
    rw [State.purgeStacker_ss]
  rw [State.beginNotePath_shut h, State.startClearing_empty hpick]
  simp [State.stopPath]

theorem State.beginNotePath_halts {s : State} (h : s.nd.safeDoorOpen = true) :
    s.beginNotePath.phase = .startUp .air ∧ s.beginNotePath.nd.state = .halted ∧
      s.beginNotePath.as.state = .refresh ∧ s.beginNotePath.as.started = some s.beginNotePath.now := by
  rw [State.beginNotePath_open h]
  simp [State.beginAir, AS.enterRefresh]

/-- Either way the slots are checked and the stacker is emptied into the box. -/
theorem State.beginNotePath_empties (s : State) :
    (s.beginNotePath.nd.cassettes = s.nd.cassettes.map fun r =>
      { r with kept := { r.kept with state := r.kept.state.slotted r.slot } }) ∧
    s.beginNotePath.nd.box = min 300 (min 300 (s.nd.box + s.ss.pick.notes) + s.ss.delivery.notes) ∧
    s.beginNotePath.ss = { s.ss with pick := .empty, delivery := .empty, shuttle := .home } := by
  have hnd : s.slotCheck.purgeStacker.nd.cassettes = s.nd.cassettes.map (fun r =>
      { r with kept := { r.kept with state := r.kept.state.slotted r.slot } }) ∧
      s.slotCheck.purgeStacker.nd.box = min 300 (min 300 (s.nd.box + s.ss.pick.notes) + s.ss.delivery.notes) := by
    have hss : s.slotCheck.ss = s.ss := by simp
    rw [State.purgeStacker_nd, State.slotCheck_nd, hss]
    exact ⟨rfl, rfl⟩
  have hss : s.slotCheck.purgeStacker.ss = { s.ss with pick := .empty, delivery := .empty, shuttle := .home } := by
    rw [State.purgeStacker_ss]
    simp
  cases hopen : s.nd.safeDoorOpen with
  | true =>
    rw [State.beginNotePath_open hopen]
    exact ⟨hnd.1, hnd.2, hss⟩
  | false =>
    rw [State.beginNotePath_shut hopen, State.startClearing_empty (by exact congrArg SS.pick hss)]
    exact ⟨hnd.1, hnd.2, hss⟩

/-- The end of lane 4's start-up enrolment is followed by the locations and the note path. -/
theorem State.endEnrolment_startsNotePath {s : State} (h : s.phase = .startUp .enrolment) (f : Found) :
    s.endEnrolment .i4 .startUp f = (s.enrolled .i4 f).releaseByEnrolment.deriveLocations.beginNotePath := by
  have hphase : (s.enrolled .i4 f).releaseByEnrolment.phase = .startUp .enrolment := by simp [h]
  show (s.enrolled .i4 f).releaseByEnrolment.enrolmentStepEnds = _
  unfold State.enrolmentStepEnds
  rw [hphase]

/-- Settles O30: what an enrolment gives is kept through what follows it, the RESCAN's reply reads it, and start-up's last
enrolment goes on to the locations and the note path. -/
theorem enrolmentRecordsTheStation : Obligations.EnrolmentRecordsTheStation := by
  refine ⟨fun l why query due s hon hb => ⟨fun report => ?_, fun hq => ?_, fun hq => ?_⟩, ?_, ?_⟩
  · obtain ⟨⟨hkind, hadv, hmissed, hcarrier, htamper, hlost⟩, hother⟩ := s.endEnrolment_found l why (identFound report)
    exact ⟨_, exec_identAnswer hon hb report, hkind, hadv, hmissed, hcarrier, htamper, hlost, hother⟩
  · obtain ⟨⟨hkind, hadv, -, hcarrier, -, hlost⟩, hother⟩ :=
      State.endEnrolment_found { s with now := max s.now due } l why (s.unanswered l true)
    exact ⟨_, exec_lastIdentTimeout hon hb hq true, hkind, hadv, hcarrier, hlost, hother⟩
  · obtain ⟨⟨hkind, hadv, -, hcarrier, -, hlost⟩, hother⟩ :=
      State.endEnrolment_found { s with now := max s.now due } l why (s.unanswered l false)
    exact ⟨_, exec_lastIdentTimeout hon hb hq false, hkind, hadv, hcarrier, hlost, hother⟩
  · intro c l why query due s hon hlen hb hc
    obtain ⟨f, now, hexec⟩ := exec_enrolmentEnds hon hb hc
    generalize hu : ({ s with now := now } : State) = u at hexec
    have hulc : u.lc = s.lc := by rw [← hu]
    have huli : u.li = s.li := by rw [← hu]
    have hli : (u.endEnrolment l why f).finish.li = (u.endEnrolment l why f).li := by simp
    have hlc : (u.endEnrolment l why f).finish.lc.replies = (u.endEnrolment l why f).lc.replies := by simp
    refine ⟨_, hexec, ?_, fun found hfound => ?_⟩
    · rw [State.finish_isPending]
      exact State.endEnrolment_tellsStation (by rw [hulc]; exact hlen) l why f
    · have hbytes : ∀ k, found k = ((u.endEnrolment l why f).laneRec k).rescanBytes := fun k => by
        rw [hfound, State.finish_laneRec]
        rfl
      rw [hli, hlc, ← hulc, ← huli]
      refine ⟨fun r hr hwhy => ?_, fun r hr hwhy => ⟨fun hl => ?_, fun hl => ?_⟩, fun hwhy => ?_⟩
      · subst hwhy
        rw [hbytes]
        exact State.endEnrolment_one hr l f
      · subst hwhy hl
        simp only [hbytes]
        exact State.endEnrolment_all hr f
      · rw [← hr]
        exact u.endEnrolment_unasked l why f (.inr (.inr ⟨hwhy, hl⟩))
      · exact u.endEnrolment_unasked l why f (hwhy.imp id .inl)
  · intro c query due s hphase hb hc
    have hon : s.phase ≠ .off := by rw [hphase]; exact nofun
    obtain ⟨f, now, hexec⟩ := exec_enrolmentEnds hon hb hc
    generalize hu : ({ s with now := now } : State) = u at hexec
    have huphase : u.phase = .startUp .enrolment := by rw [← hu]; exact hphase
    have hund : u.nd = s.nd := by rw [← hu]
    have huss : u.ss = s.ss := by rw [← hu]
    have hubay : ∀ k, u.bay k = s.bay k := fun k => by rw [← hu]; rfl
    have hderived : u.derived = false := by unfold State.derived; rw [huphase]
    rw [State.endEnrolment_startsNotePath huphase] at hexec
    generalize hv : (u.enrolled .i4 f).releaseByEnrolment = v at hexec
    have hvnd : v.nd = s.nd := by rw [← hv, ← hund]; simp
    have hvss : v.ss = s.ss := by
      rw [← hv, ← huss, ← State.enrolled_ss hderived .i4 f]
      simp
    have hvbay : ∀ k, v.bay k = s.bay k := fun k => by
      rw [← hubay, ← hv]
      simp [State.bay]
    have hdnd : v.deriveLocations.nd = s.nd := by rw [← hvnd]; simp
    have hdss : v.deriveLocations.ss = s.ss := by rw [← hvss]; simp
    obtain ⟨hcass, hbox, hss⟩ := v.deriveLocations.beginNotePath_empties
    rw [hdnd] at hcass hbox
    rw [hdss] at hbox hss
    have hcarrier : ∀ l, v.deriveLocations.beginNotePath.finish.carrier l = v.deriveLocations.carrier l := fun l => by
      simp [State.carrier]
    have hlane : ∀ l, v.deriveLocations.beginNotePath.finish.laneRec l = v.deriveLocations.laneRec l := fun l => by
      simp [State.laneRec]
    have hlevel : ∀ l, (v.deriveLocations.laneRec l).carrier = (v.laneRec l).carrier := fun l =>
      congrArg (·.2.2.2.2.1) (State.station_of v.deriveLocations_stations l)
    have hderives : ∀ l, v.derivedLocation l = if (s.bay l).present = true then .atBay
        else if (v.laneRec l).carrier = .yes then .atLane else .unknown := fun l => by
      rw [← hvbay]
      rfl
    refine ⟨_, hexec, fun l => ?_, fun l => ?_, fun k => ?_, ?_, ?_, fun hshut => ?_, fun hopen => ?_⟩
    · rw [hcarrier, hlane, hlevel, State.deriveLocations_location]
      exact hderives l
    · rw [hcarrier, hlane, State.deriveLocations_location]
      exact v.deriveLocations_unknown l
    · have hk := congrArg (fun cs => (cs.get k).kept) hcass
      rw [Four.get_map] at hk
      rw [State.finish_cass]
      exact hk
    · simp only [State.finish_frame]
      exact hss
    · simp only [State.finish_frame]
      exact hbox
    · simp only [State.finish_frame]
      exact State.beginNotePath_clears (by rw [hdnd]; exact hshut)
    · simp only [State.finish_frame]
      exact State.beginNotePath_halts (by rw [hdnd]; exact hopen)

end Sys2Proof.Machine
end

section
/-! The tube drive (chapter 2): requests, grants, timers, the end of SETTLE. -/

namespace Sys2Proof.Machine

/-! ## The checks of an UP and of a DOWN request (R25, R45, R46) -/

theorem TD.hasEntry_iff (td : TD) (l : Lane) (dir : Dir) : td.hasEntry l dir = true ↔ ∃ e ∈ td.queue, e.lane = l ∧ e.dir = dir := by
  simp [TD.hasEntry, List.any_eq_true]

theorem TD.hasEntry_other {td : TD} {l : Lane} {dir : Dir} (h : ∀ e ∈ td.queue, e.lane = l → e.dir ≠ dir) :
    td.hasEntry l dir = false :=
  Bool.eq_false_iff.mpr fun hn => by
    obtain ⟨e, he, hl, hd⟩ := (td.hasEntry_iff l dir).mp hn
    exact h e he hl hd

/-- A lane's entry at the tail has the queue's length as its place. -/
theorem State.enqueue_position {s : State} {l : Lane} (h : ∀ e ∈ s.td.queue, e.lane ≠ l) (dir : Dir) (origin : Origin) :
    (s.enqueue l dir origin).td.position l = s.td.queue.length + 1 := by
  have hqueue : (s.enqueue l dir origin).td.queue =
      s.td.queue ++ [{ lane := l, dir := dir, origin := origin, time := s.now }] := rfl
  have hnone : ∀ e ∈ s.td.queue, (decide (e.lane = l)) = false := fun e he => decide_eq_false (h e he)
  rw [TD.position, hqueue, List.findIdx_append, List.findIdx_eq_length_of_false hnone, if_neg (lt_irrefl _)]
  simp

section
variable {s : State} {l : Lane} (origin : Origin)

theorem State.askUp_notOpen (h : (s.laneRec l).state = .closed) : s.askUp l origin = (s, .refused .laneNotOpen) := if_pos h

theorem State.askUp_blocked (h : (s.laneRec l).state = .outOfService) : s.askUp l origin = (s, .refused .laneBlocked) := by
  simp [State.askUp, h]

theorem State.askUp_already (ho : (s.laneRec l).state = .opened) (he : ∃ e ∈ s.td.queue, e.lane = l ∧ e.dir = .up) :
    s.askUp l origin = (s, .alreadyQueued (s.td.position l)) := by
  simp [State.askUp, ho, (TD.hasEntry_iff s.td l .up).mpr he]

theorem State.askUp_elsewhere (ho : (s.laneRec l).state = .opened) (he : s.td.hasEntry l .up = false)
    (hl : (s.carrier l).location ≠ .atBay) : s.askUp l origin = (s, .refused .carrierElsewhere) := by
  simp [State.askUp, ho, he, hl]

theorem State.askUp_busy (ho : (s.laneRec l).state = .opened) (he : s.td.hasEntry l .up = false)
    (hl : (s.carrier l).location = .atBay) (hr : (s.carrier l).reservation ∈ [Reservation.presenting, .capturing, .moving]) :
    s.askUp l origin = (s, .refused .carrierBusy) := by
  have hb : (s.carrier l).reservation = .presenting ∨ (s.carrier l).reservation = .capturing
      ∨ (s.carrier l).reservation = .moving := by simpa using hr
  simp [State.askUp, ho, he, hl, hb]

theorem State.askUp_loaded (ho : (s.laneRec l).state = .opened) (he : s.td.hasEntry l .up = false)
    (hl : (s.carrier l).location = .atBay) (hr : (s.carrier l).reservation ∈ [Reservation.none, .queued])
    (hout : (s.carrier l).outstanding ≠ none) (hst : s.outstandingState l ≠ some .presented) :
    s.askUp l origin = (s, .refused .loadOutstanding) := by
  have hb : (s.carrier l).reservation = .none ∨ (s.carrier l).reservation = .queued := by simpa using hr
  rcases hb with hb | hb <;> simp [State.askUp, ho, he, hl, hb, hout, hst]

/-- An UP request that passes R45 joins the queue. -/
theorem State.askUp_queues (ho : (s.laneRec l).state = .opened) (he : ∀ e ∈ s.td.queue, e.lane ≠ l)
    (hl : (s.carrier l).location = .atBay) (hr : (s.carrier l).reservation ∈ [Reservation.none, .queued])
    (hst : (s.carrier l).outstanding = none ∨ s.outstandingState l = some .presented) :
    s.askUp l origin = (s.enqueue l .up origin, .queued (s.td.queue.length + 1)) := by
  have hb : (s.carrier l).reservation = .none ∨ (s.carrier l).reservation = .queued := by simpa using hr
  have hentry : s.td.hasEntry l .up = false := TD.hasEntry_other fun e hm h => absurd h (he e hm)
  have hplace := State.enqueue_position he .up origin
  rcases hb with hb | hb <;> rcases hst with hst | hst <;> simp [State.askUp, ho, hentry, hl, hb, hst, hplace]

theorem State.askDown_already (he : ∃ e ∈ s.td.queue, e.lane = l ∧ e.dir = .down) :
    s.askDown l origin = (s, .alreadyQueued (s.td.position l)) := by
  simp [State.askDown, (TD.hasEntry_iff s.td l .down).mpr he]

theorem State.askDown_elsewhere (he : s.td.hasEntry l .down = false) (hl : (s.carrier l).location ≠ .atLane) :
    s.askDown l origin = (s, .refused .carrierElsewhere) := by
  simp [State.askDown, he, hl]

theorem State.askDown_blocked (he : s.td.hasEntry l .down = false) (hl : (s.carrier l).location = .atLane)
    (hf : (s.laneRec l).reasons.forbid .down = true) : s.askDown l origin = (s, .refused .laneBlocked) := by
  simp [State.askDown, he, hl, hf]

theorem State.askDown_busy (he : s.td.hasEntry l .down = false) (hl : (s.carrier l).location = .atLane)
    (hf : (s.laneRec l).reasons.forbid .down = false) (hr : (s.carrier l).reservation = .moving) :
    s.askDown l origin = (s, .refused .carrierBusy) := by
  simp [State.askDown, he, hl, hf, hr]

theorem State.askDown_accepts (he : ∀ e ∈ s.td.queue, e.lane ≠ l) (hl : (s.carrier l).location = .atLane)
    (hf : (s.laneRec l).reasons.forbid .down = false) (hr : (s.carrier l).reservation ≠ .moving) :
    s.askDown l origin = (s.enqueue l .down origin, .queued (s.td.queue.length + 1)) := by
  have hentry : s.td.hasEntry l .down = false := TD.hasEntry_other fun e hm h => absurd h (he e hm)
  have hplace := State.enqueue_position he .down origin
  simp [State.askDown, hentry, hl, hf, hr, hplace]

end

/-! ## SEND and RECALL (R45, R46) -/

theorem exec_send {tag : Nat} {s : State} (hs : s.Serves tag) (l : Lane) {u : State} {a : SendAnswer}
    (h : s.counted.askUp l .host = (u, a)) : exec (.send tag l.num) s = .next (u.answerMove 0x18 tag a).finish := by
  refine exec_serves_to rfl hs ?_
  simp [State.serve, State.ownSend, Ix4.ofNum_num, h]

theorem exec_recall {tag : Nat} {s : State} (hs : s.Serves tag) (l : Lane) {u : State} {a : SendAnswer}
    (h : s.counted.askDown l .host = (u, a)) : exec (.recall tag l.num) s = .next (u.answerMove 0x19 tag a).finish := by
  refine exec_serves_to rfl hs ?_
  simp [State.serve, State.ownRecall, Ix4.ofNum_num, h]

theorem State.answerMove_refused {kind : Nat} (hk : requestKinds.contains kind = true) (s : State) (tag : Nat) (code : Code) :
    s.counted.answerMove kind tag (.refused code) = s.refused kind tag code := State.counted_refuse hk s tag code

theorem State.answerMove_already {kind : Nat} (hk : requestKinds.contains kind = true) (s : State) (tag place : Nat) :
    s.answerMove kind tag (.alreadyQueued place) = s.replied kind tag [0x00#8, 0x02#8, BitVec.ofNat 8 place] :=
  State.ok_replied hk s tag _

theorem State.answerMove_queued {kind : Nat} (hk : requestKinds.contains kind = true) (s : State) (tag place : Nat) :
    s.answerMove kind tag (.queued place) = s.replied kind tag [0x00#8, 0x01#8, BitVec.ofNat 8 place] :=
  State.ok_replied hk s tag _

/-- Settles O34: each answer is the first check's that fails, in the order of R45 and R46. -/
theorem sendAndRecallAreCheckedInOrder : Obligations.SendAndRecallAreCheckedInOrder := by
  intro tag l s hs
  have hsend : ∀ code, s.counted.askUp l .host = (s.counted, .refused code) →
      exec (.send tag l.num) s = .next (s.refused 0x18 tag code).finish := fun code h =>
    (exec_send hs l h).trans (by rw [State.answerMove_refused rfl])
  have hrecall : ∀ code, s.counted.askDown l .host = (s.counted, .refused code) →
      exec (.recall tag l.num) s = .next (s.refused 0x19 tag code).finish := fun code h =>
    (exec_recall hs l h).trans (by rw [State.answerMove_refused rfl])
  refine ⟨fun n hn => ⟨?_, ?_⟩, fun ho he hl => ?_, fun he hl => ?_, fun ho => ?_, fun ho => ?_, fun ho he => ?_,
    fun ho he => ⟨fun hl => ?_, fun hl => ⟨fun hr => ?_, fun hr hout hst => ?_, fun hr hst => ?_⟩⟩, fun he => ?_,
    fun he => ⟨fun hl => ?_, fun hl => ⟨fun hf => ?_, fun hlost hjam hunknown => ⟨fun hr => ?_, fun hr => ?_⟩⟩⟩⟩
  · refine exec_serves_to rfl hs ?_
    rw [← State.counted_refuse rfl]
    simp [State.serve, State.ownSend, Ix4.ofNum_none' hn]
  · refine exec_serves_to rfl hs ?_
    rw [← State.counted_refuse rfl]
    simp [State.serve, State.ownRecall, Ix4.ofNum_none' hn]
  · exact hsend _ (State.askUp_elsewhere _ ho (TD.hasEntry_other fun e hm h => by rw [he e hm h]; exact nofun) hl)
  · exact hrecall _ (State.askDown_elsewhere _ (TD.hasEntry_other fun e hm h => by rw [he e hm h]; exact nofun) hl)
  · exact hsend _ (State.askUp_notOpen _ ho)
  · exact hsend _ (State.askUp_blocked _ ho)
  · refine (exec_send hs l (State.askUp_already _ ho he)).trans ?_
    rw [State.answerMove_already rfl]
    rfl
  · exact hsend _ (State.askUp_elsewhere _ ho (TD.hasEntry_other fun e hm h => absurd h (he e hm)) hl)
  · exact hsend _ (State.askUp_busy _ ho (TD.hasEntry_other fun e hm h => absurd h (he e hm)) hl hr)
  · exact hsend _ (State.askUp_loaded _ ho (TD.hasEntry_other fun e hm h => absurd h (he e hm)) hl hr hout hst)
  · refine (exec_send hs l (State.askUp_queues _ ho he hl hr hst)).trans ?_
    rw [State.answerMove_queued rfl]
    rfl
  · refine (exec_recall hs l (State.askDown_already _ he)).trans ?_
    rw [State.answerMove_already rfl]
    rfl
  · exact hrecall _ (State.askDown_elsewhere _ (TD.hasEntry_other fun e hm h => absurd h (he e hm)) hl)
  · refine hrecall _ (State.askDown_blocked _ (TD.hasEntry_other fun e hm h => absurd h (he e hm)) hl ?_)
    show (s.laneRec l).reasons.forbid .down = true
    rcases hf with hf | hf | hf <;> simp [Reasons.forbid, hf]
  · refine hrecall _ (State.askDown_busy _ (TD.hasEntry_other fun e hm h => absurd h (he e hm)) hl ?_ hr)
    show (s.laneRec l).reasons.forbid .down = false
    simp [Reasons.forbid, hlost, hjam, hunknown]
  · refine (exec_recall hs l (State.askDown_accepts _ he hl ?_ hr)).trans ?_
    · show (s.laneRec l).reasons.forbid .down = false
      simp [Reasons.forbid, hlost, hjam, hunknown]
    · rw [State.answerMove_queued rfl]
      rfl

/-! ## The request for pressure (R49) and the grant (R27, R28, R40) -/

/-- The state with the drive taken: the reservation MOVING, the move formed in AIR, the pressure asked for. -/
def State.taken (s : State) (l : Lane) (dir : Dir) (origin : Origin) (isPurge : Bool) : State :=
  { s with
    td := { s.td with
      carriers := s.td.carriers.modify l fun c => { c with reservation := .moving }
      move := some { lane := l, dir := dir, origin := origin, isPurge := isPurge, phase := .air } }
    as := (s.as.request s.now).1 }

theorem State.grant_eq (s : State) (l : Lane) (dir : Dir) (origin : Origin) (isPurge : Bool) :
    s.grant l dir origin isPurge =
      match (s.as.request s.now).2 with
      | .ready => (s.taken l dir origin isPurge).enterDivert
      | .fault => (s.taken l dir origin isPurge).failMove .airFault
      | .later => s.taken l dir origin isPurge := rfl

theorem AS.request_demand (as : AS) (now : Nat) (h : as.state ≠ .fault) :
    (as.request now).1.demand = true ∧ (as.request now).1.driveHeld = true := by
  cases hst : as.state with
  | fault => exact absurd hst h
  | economy | refresh =>
    simp only [AS.request, hst]
    split <;> exact ⟨rfl, rfl⟩
  | _ => simp [AS.request, hst]

/-- A supply that must spin up answers later (R49). -/
theorem AS.request_later {as : AS} (h : as.state = .economy ∧ as.duty.switchClosed = false ∨ as.state = .spinUp) (now : Nat) :
    (as.request now).2 = .later ∧ (as.request now).1.state = .spinUp := by
  rcases h with ⟨he, hc⟩ | he
  · have hopen : ¬ as.duty.switchClosed = true := by rw [hc]; exact nofun
    simp only [AS.request, he]
    rw [if_neg (by exact hopen)]
    exact ⟨rfl, rfl⟩
  · simp [AS.request, he]

theorem AS.request_ready {as : AS} (h : as.state = .ready) (now : Nat) :
    (as.request now).2 = .ready ∧ (as.request now).1.state = .driving := by
  simp [AS.request, h]

theorem State.grant_later {s : State} (h : (s.as.request s.now).2 = .later) (l : Lane) (dir : Dir) (origin : Origin)
    (isPurge : Bool) : s.grant l dir origin isPurge = s.taken l dir origin isPurge := by
  rw [State.grant_eq, h]

theorem State.grant_ready {s : State} (h : (s.as.request s.now).2 = .ready) (l : Lane) (dir : Dir) (origin : Origin)
    (isPurge : Bool) : s.grant l dir origin isPurge = (s.taken l dir origin isPurge).enterDivert := by
  rw [State.grant_eq, h]

theorem State.taken_carrier (s : State) (l k : Lane) (dir : Dir) (origin : Origin) (isPurge : Bool) :
    (s.taken l dir origin isPurge).carrier k =
      if k = l then { s.carrier k with reservation := .moving } else s.carrier k := Four.get_modify ..

/-- A setting that stands wrong begins its settle (R29). -/
theorem State.enterDivert_settles {s : State} {m : Move} (hm : s.td.move = some m)
    (h : s.td.diverter ≠ some m.lane ∨ s.td.valve ≠ some m.dir) : s.enterDivert = s.setPhase (.divert (s.now + 300)) := by
  unfold State.enterDivert
  rw [hm]
  exact if_neg fun hn => h.elim (· hn.1) (· hn.2)

theorem filter_lane (q : List Entry) (l : Lane) : (q.filter fun e => e.lane != l) = q.filter fun e => e.lane ≠ l :=
  List.filter_congr fun e _ => by by_cases h : e.lane = l <;> simp [h]

/-- The arbiter's choice is the oldest entry that can launch (R27). -/
theorem State.arbitrate_grants {s : State} {before after : List Entry} {e : Entry} (hrun : s.phase = .running)
    (hm : s.td.move = none) (hq : s.td.queue = before ++ e :: after) (hb : ∀ q ∈ before, s.canLaunch q = false)
    (he : s.canLaunch e = true) : s.arbitrate =
      ({ s with td := { s.td with queue := s.td.queue.filter fun q => q.lane ≠ e.lane } } : State).grant e.lane e.dir e.origin
        false := by
  have hstarted : s.started = true := by simp [State.started, hrun]
  have hfind : s.td.queue.find? s.canLaunch = some e := by
    rw [hq]
    exact List.find?_eq_some_iff_append.mpr ⟨he, before, after, rfl, fun q hm => by simp [hb q hm]⟩
  unfold State.arbitrate
  rw [if_pos ⟨hstarted, hm⟩, hfind]
  dsimp only
  rw [filter_lane]

theorem State.arbitrate_waits {s : State} (h : s.td.move ≠ none ∨ ∀ q ∈ s.td.queue, s.canLaunch q = false) :
    s.arbitrate = s := by
  unfold State.arbitrate
  split
  · next hs =>
    have hnone : s.td.queue.find? s.canLaunch = none :=
      List.find?_eq_none.mpr fun q hq => by simp [h.resolve_left (not_not.mpr hs.2) q hq]
    rw [hnone]
  · rfl

/-- A purge that is granted takes the drive after its reply (R40). -/
theorem State.ownPurge_grants {s : State} {tag towards : Nat} {l : Lane} {d : Dir} (hd : purgeDir towards = some d)
    (hm : s.td.move = none) (hl : (s.carrier l).location = .unknown) :
    s.ownPurge tag l.num towards = (s.replied 0x1A tag [0x00#8]).grant l d .host true := by
  simp only [State.ownPurge, Ix4.ofNum_num, hd, hm, Option.isSome_none, hl]
  simp only [Bool.false_eq_true, if_false, ne_eq, not_true_eq_false]
  rw [State.ok_replied rfl]

theorem purgeDir_none {n : Nat} (h1 : n ≠ 1) (h2 : n ≠ 2) : purgeDir n = none := by
  unfold purgeDir
  split
  · exact absurd rfl h1
  · exact absurd rfl h2
  · rfl

theorem purgeDir_isSome {n : Nat} (h : n = 1 ∨ n = 2) : ∃ d, purgeDir n = some d := by
  rcases h with rfl | rfl
  · exact ⟨.down, rfl⟩
  · exact ⟨.up, rfl⟩

/-- Settles O35: the oldest entry that can launch, or the purge, takes the drive and waits for the supply or the settle. -/
theorem grantsTakeTheDrive : Obligations.GrantsTakeTheDrive := by
  refine ⟨fun before after e s hrun hm hq hb hlaunch p hp => ?_, fun s hrun h => ?_, fun tag towards l s hs =>
    ⟨fun n hn => ?_, fun h1 h2 => ?_, fun ht hm => ?_, fun ht hm hl => ?_, fun d hd hm hl hair => ?_⟩⟩
  · have hon : s.phase ≠ .off := by rw [hrun]; exact nofun
    have he : s.canLaunch e = true := by
      unfold State.canLaunch
      cases hd : e.dir with
      | up => simpa [hd, and_assoc] using hlaunch
      | down => simpa [hd, and_assoc] using hlaunch
    have hgrant := State.arbitrate_grants hrun hm hq hb he
    generalize hu : ({ s with td := { s.td with queue := s.td.queue.filter fun q => q.lane ≠ e.lane } } : State) = u at hgrant
    have huas : u.as = s.as := by rw [← hu]
    have hunow : u.now = s.now := by rw [← hu]
    have hutd : u.td = { s.td with queue := s.td.queue.filter fun q => q.lane ≠ e.lane } := by rw [← hu]
    have hucar : ∀ k, u.carrier k = s.carrier k := fun k => by rw [← hu]; rfl
    have huli : u.li = s.li := by rw [← hu]
    have hudp : u.dp = s.dp := by rw [← hu]
    have hujn : u.jn = s.jn := by rw [← hu]
    have hnofault : u.as.state ≠ .fault := by
      rw [huas]
      rcases hp with ⟨⟨h, -⟩ | h, -⟩ | ⟨h, -⟩ <;> rw [h] <;> exact nofun
    obtain ⟨hdemand, hheld⟩ := u.as.request_demand u.now hnofault
    have hphase : ∃ t, u.grant e.lane e.dir e.origin false = t ∧ t.td = { u.td with
        carriers := u.td.carriers.modify e.lane fun c => { c with reservation := .moving }
        move := some { lane := e.lane, dir := e.dir, origin := e.origin, isPurge := false, phase := p } } ∧
        t.as = (u.as.request u.now).1 ∧ t.li = u.li ∧ t.dp = u.dp ∧ t.jn = u.jn := by
      rcases hp with ⟨hair, rfl⟩ | ⟨hready, hwrong, rfl⟩
      · rw [State.grant_later (AS.request_later (by rw [huas]; exact hair) u.now).1]
        exact ⟨_, rfl, rfl, rfl, rfl, rfl, rfl⟩
      · rw [State.grant_ready (AS.request_ready (by rw [huas]; exact hready) u.now).1,
          State.enterDivert_settles (m := ⟨e.lane, e.dir, e.origin, false, .air⟩) rfl
            (by show u.td.diverter ≠ _ ∨ u.td.valve ≠ _; rw [hutd]; exact hwrong)]
        refine ⟨_, rfl, ?_, rfl, rfl, rfl, rfl⟩
        rw [← hunow]
        rfl
    obtain ⟨t, ht, htd, has, hli, hdp, hjn⟩ := hphase
    have hcar : ∀ k, t.carrier k = if k = e.lane then { u.carrier k with reservation := .moving } else u.carrier k := fun k => by
      refine (congrArg (fun td => td.carriers.get k) htd).trans (Four.get_modify ..)
    refine ⟨_, exec_event_to rfl rfl hon (hgrant.trans ht), ?_, ?_, ?_, fun k hk => ?_, ?_, ?_, ?_, ?_, ?_, ?_⟩
    · simp only [State.finish_frame]
      rw [htd, hutd]
    · simp only [State.finish_frame]
      rw [htd]
    · rw [State.finish_carrier, hcar, if_pos rfl, hucar]
    · rw [State.finish_carrier, hcar, if_neg hk, hucar]
    · simp only [State.finish_frame]
      rw [has]; exact hdemand
    · simp only [State.finish_frame]
      rw [has]; exact hheld
    · simp only [State.finish_frame]
      rw [has]
      rcases hp with ⟨hair, -⟩ | ⟨hready, -, -⟩
      · rw [(AS.request_later (by rw [huas]; exact hair) u.now).2]
        rcases hair with ⟨h, -⟩ | h <;> rw [h] <;> rfl
      · rw [(AS.request_ready (by rw [huas]; exact hready) u.now).2, if_pos hready]
    · simp only [State.finish_frame]; rw [hli, huli]
    · simp only [State.finish_frame]; rw [hdp, hudp]
    · simp only [State.finish_frame]; rw [hjn, hujn]
  · exact exec_event_to rfl rfl (by rw [hrun]; exact nofun) (State.arbitrate_waits h)
  · refine exec_serves_to rfl hs ?_
    rw [← State.counted_refuse rfl]
    simp [State.serve, State.ownPurge, Ix4.ofNum_none' hn]
  · refine exec_serves_to rfl hs ?_
    rw [← State.counted_refuse rfl]
    simp [State.serve, State.ownPurge, Ix4.ofNum_num, purgeDir_none h1 h2]
  · obtain ⟨d, hd⟩ := purgeDir_isSome ht
    refine exec_serves_to rfl hs ?_
    rw [← State.counted_refuse rfl]
    have hmove : s.counted.td.move.isSome = true := Option.isSome_iff_ne_none.mpr hm
    simp only [State.serve, State.ownPurge, Ix4.ofNum_num, hd, if_pos hmove]
  · obtain ⟨d, hd⟩ := purgeDir_isSome ht
    refine exec_serves_to rfl hs ?_
    rw [← State.counted_refuse rfl]
    have hmove : ¬ s.counted.td.move.isSome = true := by
      rw [show s.counted.td.move = none from hm]
      exact nofun
    simp only [State.serve, State.ownPurge, Ix4.ofNum_num, hd, if_neg hmove]
    exact if_pos hl
  · have hdir : purgeDir towards = some d := by rcases hd with ⟨rfl, rfl⟩ | ⟨rfl, rfl⟩ <;> rfl
    have hlater := AS.request_later (as := s.as) (hair.symm.imp_right id) s.now
    have hnofault : s.as.state ≠ .fault := by
      rcases hair with h | ⟨h, -⟩ <;> rw [h] <;> exact nofun
    have hgrant : s.counted.serve (.purge tag l.num towards) = (s.counted.replied 0x1A tag [0x00#8]).taken l d .host true :=
      (State.ownPurge_grants (s := s.counted) hdir hm hl).trans (State.grant_later (s := s.counted.replied 0x1A tag [0x00#8])
        hlater.1 l d .host true)
    refine ⟨_, exec_serves_to rfl hs hgrant, ?_, ?_, ?_, ?_, ?_⟩
    · simp only [State.finish_frame]
      rfl
    · simp only [State.finish_frame]
      rfl
    · rw [State.finish_carrier, State.taken_carrier, if_pos rfl]
      rfl
    · simp only [State.finish_frame]
      rfl
    · simp only [State.finish_frame]
      exact (s.as.request_demand s.now hnofault).1

/-! ## The ends of a wait and of a move (R26, R31, R36, R41) -/

/-- The snapshot of an instance after its rise (R195). -/
theorem LC.raise_snapshot {lc : LC} {n : Nat} (hlen : lc.conds.length = 69) (hn : n - 1 < 69) (o : Option (List Byte)) :
    (lc.raise n o).conds[n - 1]?.map (·.snapshot) = some o := by
  have hsome := List.getElem?_eq_getElem (l := lc.conds) (i := n - 1) (by omega)
  rw [LC.raise_conds, if_pos rfl, hsome]
  rfl

theorem State.dropQueued_some {s : State} {l : Lane} {e : Entry} (h : s.td.entry l = some e) (result : MoveResult) :
    s.dropQueued l result = (({ s with td := { s.td with queue := s.td.queue.filter fun q => q.lane ≠ l } } : State).modCarrier l
      fun c => { c with reservation := .none }).raiseLane l .moveFailed (u8 result.code ++ u8 e.origin.code) := by
  unfold State.dropQueued
  rw [h]
  dsimp only
  rw [filter_lane]

/-- The end of a move: its carrier's reservation NONE, its record gone, the supply told (R27, R50). -/
theorem State.endMove_some {s : State} {m : Move} (h : s.td.move = some m) : s.endMove =
    { s with
      td := { s.td with carriers := s.td.carriers.modify m.lane fun c => { c with reservation := .none }, move := none }
      as := s.as.driveIdle s.now } := by
  unfold State.endMove
  rw [h]
  rfl

theorem State.failMove_some {s : State} {m : Move} (h : s.td.move = some m) (result : MoveResult) : s.failMove result =
    { s with
      td := { s.td.abandonDivert with
        carriers := s.td.carriers.modify m.lane fun c => { c with reservation := .none }, move := none }
      as := (s.as.release s.now).driveIdle s.now
      lc := s.lc.raise (Cond.lane m.lane .moveFailed).num (some (u8 result.code ++ u8 m.origin.code)) } := by
  have hmove : s.td.abandonDivert.move = some m := by simp [h]
  have hcarriers : s.td.abandonDivert.carriers = s.td.carriers := by simp
  unfold State.failMove
  rw [h]
  dsimp only
  rw [State.endMove_some (m := m) (by exact hmove)]
  rw [← hcarriers]
  rfl

/-- A released supply holds neither demand nor drive (R50). -/
theorem AS.release_demand (as : AS) (now : Nat) : (as.release now).demand = false := by
  unfold AS.release
  dsimp only
  split <;> rfl

theorem AS.driveIdle_demand (as : AS) (now : Nat) : (as.driveIdle now).demand = as.demand ∧ (as.driveIdle now).driveHeld = false := by
  unfold AS.driveIdle
  dsimp only
  split <;> exact ⟨rfl, rfl⟩

theorem State.setPhase_some {s : State} {m : Move} (h : s.td.move = some m) (p : MovePhase) :
    s.setPhase p = { s with td := { s.td with move := some { m with phase := p } } } := by
  simp [State.setPhase, h]

/-- Both positions are recorded (R29); a purge's timer begins. -/
theorem State.diverted_purge {s : State} {m : Move} (h : s.td.move = some m) (hp : m.isPurge = true) : s.diverted =
    { s with td := { s.td with
      diverter := some m.lane, valve := some m.dir, move := some { m with phase := .purging (s.now + 30000) } } } := by
  unfold State.diverted
  rw [h]
  dsimp only
  rw [if_pos hp]
  exact State.setPhase_some (s := { s with td := { s.td with diverter := some m.lane, valve := some m.dir } }) h _

/-- Both positions are recorded, and the launch begins where the carrier stands at its origin (R29, R30). -/
theorem State.diverted_launch {s : State} {m : Move} (h : s.td.move = some m) (hp : m.isPurge = false)
    (hleft : s.leftOrigin m.lane m.dir = false) (hat : s.atDestination m.lane m.dir = false) : s.diverted =
    { s with td := { s.td with
      diverter := some m.lane, valve := some m.dir, move := some { m with phase := .launch (s.now + 2000) } } } := by
  have hset := State.setPhase_some (s := { s with td := { s.td with diverter := some m.lane, valve := some m.dir } }) h
    (.launch (s.now + 2000))
  have henter : (({ s with td := { s.td with diverter := some m.lane, valve := some m.dir } } : State)).enterLaunch =
      ({ s with td := { s.td with diverter := some m.lane, valve := some m.dir } } : State).setPhase (.launch (s.now + 2000)) := by
    unfold State.enterLaunch
    dsimp only
    rw [h]
    dsimp only
    refine if_neg ?_
    rintro (hl | hd)
    · have hsame : s.leftOrigin m.lane m.dir = true := by
        cases hdir : m.dir <;> rw [hdir] at hl <;> exact hl
      rw [hleft] at hsame
      exact Bool.false_ne_true hsame
    · have hsame : s.atDestination m.lane m.dir = true := by
        cases hdir : m.dir <;> rw [hdir] at hd <;> exact hd
      rw [hat] at hsame
      exact Bool.false_ne_true hsame
  unfold State.diverted
  rw [h]
  dsimp only
  rw [if_neg (by rw [hp]; exact Bool.false_ne_true), henter, hset]

theorem State.dropQueued_carrier (s : State) (l : Lane) (result : MoveResult) :
    (s.dropQueued l result).carrier l = s.carrier l ∨
      (s.dropQueued l result).carrier l = { s.carrier l with reservation := .none } := by
  cases h : s.td.entry l with
  | none => exact .inl (by simp [State.dropQueued, h])
  | some e =>
    refine .inr ?_
    rw [State.dropQueued_some h]
    exact (State.carrier_modCarrier _ l l _).trans (if_pos rfl)

/-- A change of its lane's reasons can take a carrier's reservation, and nothing else of it. -/
theorem State.setReasons_carrier (s : State) (l : Lane) (f : Reasons → Reasons) :
    (s.setReasons l f).carrier l = s.carrier l ∨ (s.setReasons l f).carrier l = { s.carrier l with reservation := .none } := by
  unfold State.setReasons
  dsimp only
  split
  · exact .inl rfl
  · split
    · exact State.dropQueued_carrier _ l _
    · exact .inl rfl

/-- Reasons that forbid both directions leave the lane no entry (R26). -/
theorem State.setReasons_forbids {s : State} {l : Lane} {f : Reasons → Reasons}
    (h : ∀ r dir, (f r).forbid dir = true) : (s.setReasons l f).td.entry l = none := by
  cases he : s.td.entry l with
  | none =>
    rw [State.setReasons_unqueued he]
    exact he
  | some e =>
    have hdrop : s.setReasons l f = (s.modLane l fun r => { r with reasons := f r.reasons }).dropQueued l .laneBlocked := by
      unfold State.setReasons
      dsimp only
      rw [State.modLane_td, he]
      dsimp only
      rw [if_pos (by rw [State.modLane_at]; exact h _ _)]
    rw [hdrop]
    exact State.dropQueued_entry ..

/-- What an overdue move's lane is told (R36). -/
def Reasons.lost (r : Reasons) : Reasons := { r with jam := true, carrierUnknown := true }

theorem State.overdue_some {s : State} {m : Move} (h : s.td.move = some m) : s.overdue =
    (((((s.releasePressure.setLocation m.lane .unknown).setReasons m.lane Reasons.lost).tellJam).raiseLaneBare m.lane
      .overdue).endMove) := by
  unfold State.overdue
  rw [h]
  rfl

/-- An overdue move: its carrier is nowhere known, its lane holds JAM and CARRIER_UNKNOWN, its entry is dropped (R36). -/
theorem State.overdue_leaves {s : State} {m : Move} (h : s.td.move = some m) :
    s.overdue.td.move = none ∧
      s.overdue.carrier m.lane = { s.carrier m.lane with location := .unknown, reservation := .none } ∧
      (s.overdue.laneRec m.lane).reasons.jam = true ∧ (s.overdue.laneRec m.lane).reasons.carrierUnknown = true ∧
      s.overdue.td.entry m.lane = none ∧ s.overdue.as.driveHeld = false := by
  have hcar : (s.releasePressure.setLocation m.lane .unknown).carrier m.lane =
      { s.carrier m.lane with location := .unknown } := (State.carrier_modCarrier ..).trans (if_pos rfl)
  have hmove : (s.releasePressure.setLocation m.lane .unknown).td.move = some m := h
  rw [State.overdue_some h]
  generalize s.releasePressure.setLocation m.lane .unknown = u at hcar hmove
  generalize hv : ((u.setReasons m.lane Reasons.lost).tellJam).raiseLaneBare m.lane .overdue = v
  have hvtd : v.td = (u.setReasons m.lane Reasons.lost).td := by
    rw [← hv]
    exact (State.tellJam_lanes _).2
  have hvreasons : (v.laneRec m.lane).reasons = (u.laneRec m.lane).reasons.lost := by
    have hli : v.li = (u.setReasons m.lane Reasons.lost).li := by
      rw [← hv]
      exact (State.tellJam_lanes _).1
    refine (congrArg (fun li => (li.lanes.get m.lane).reasons) hli).trans ?_
    exact congrArg LaneRec.reasons ((State.setReasons_laneRec ..).trans (if_pos rfl))
  have hvmove : v.td.move = some m := by rw [hvtd, ← hmove]; simp
  have hventry : v.td.entry m.lane = none := by
    rw [hvtd]
    exact State.setReasons_forbids fun r dir => by cases dir <;> simp [Reasons.lost, Reasons.forbid]
  have hvcar : { v.carrier m.lane with reservation := .none } =
      { s.carrier m.lane with location := .unknown, reservation := .none } := by
    have hsame : v.carrier m.lane = (u.setReasons m.lane Reasons.lost).carrier m.lane :=
      congrArg (fun td => td.carriers.get m.lane) hvtd
    rw [hsame]
    rcases State.setReasons_carrier u m.lane Reasons.lost with hc | hc <;> rw [hc, hcar]
  rw [State.endMove_some hvmove]
  refine ⟨rfl, ((Four.get_modify ..).trans (if_pos rfl)).trans hvcar, ?_, ?_, hventry, (AS.driveIdle_demand _ _).2⟩
  · exact congrArg Reasons.jam hvreasons
  · exact congrArg Reasons.carrierUnknown hvreasons

theorem State.overdue_tells {s : State} {m : Move} (h : s.td.move = some m) (hlen : s.lc.conds.length = 69) :
    s.overdue.lc.isPending (Cond.lane m.lane .overdue).num = true := by
  have ht : ((s.releasePressure.setLocation m.lane .unknown).setReasons m.lane Reasons.lost).tellJam.lc.Tells [] :=
    State.setCause_tells _ _ _ (State.setReasons_tells _ m.lane Reasons.lost (LC.tells_nil hlen))
  rw [State.overdue_some h]
  have hrise := LC.raise_tells_new ht (LaneCond.num_lt m.lane .overdue) none
  have hlc : ∀ u : State, u.endMove.lc = u.lc := fun u => by simp
  rw [hlc]
  exact hrise.pending

/-! ## The drive's timers -/

/-- Settles O36: each timer's end takes the move to its next phase or to its end. -/
theorem driveTimersDoTheirWork : Obligations.DriveTimersDoTheirWork := by
  have hwait : ∀ (e : Entry) (s : State), s.phase ≠ .off → s.td.entry e.lane = some e → s.lc.conds.length = 69 →
      ∃ t, exec (.queueWaitExpiry e.lane) s = .next t ∧ t.now = max s.now (e.time + 60000) ∧
        t.td = { s.td with queue := s.td.queue.filter (fun q => q.lane ≠ e.lane), carriers := t.td.carriers } ∧
        t.carrier e.lane = { s.carrier e.lane with reservation := .none } ∧ (∀ k, k ≠ e.lane → t.carrier k = s.carrier k) ∧
        t.lc.conds[(Cond.lane e.lane .moveFailed).num - 1]?.map (·.snapshot) =
          some (some [0x01#8, BitVec.ofNat 8 e.origin.code]) := by
    intro e s hon he hlen
    have hdoes : State.onQueueWaitExpiry e.lane s = (s.reach (e.time + 60000)).dropQueued e.lane .waitExpired := by
      unfold State.onQueueWaitExpiry
      rw [he]
      rfl
    rw [State.dropQueued_some (s := s.reach (e.time + 60000)) he] at hdoes
    refine ⟨_, exec_event_to rfl rfl hon hdoes, ?_, ?_, ?_, fun k hk => ?_, ?_⟩
    · simp [State.reach]
    · simp [State.reach]
    · rw [State.finish_carrier]
      exact (State.carrier_modCarrier ..).trans (if_pos rfl)
    · rw [State.finish_carrier]
      exact (State.carrier_modCarrier ..).trans (if_neg hk)
    · rw [(State.finish_conds _).1]
      exact LC.raise_snapshot hlen (LaneCond.num_lt e.lane .moveFailed) _
  refine ⟨fun e s hon hm he hlen => hwait e s hon he hlen, fun m due s hon hm hlen => ⟨fun hp hpurge => ?_,
    fun hp hpurge hleft hat => ?_, fun k h1 hk p hp => ?_, fun l k hk => ?_, fun c result hc => ?_, fun hp => ?_,
    fun e he hne => ?_⟩⟩
  · refine exec_event_to rfl rfl hon ?_
    obtain ⟨l, dir, origin, isPurge, p⟩ := m
    dsimp only at hp hpurge
    subst hp
    have hdoes : State.onDivertSettleDone s = (s.reach due).diverted := by
      unfold State.onDivertSettleDone
      rw [hm]
    exact hdoes.trans (State.diverted_purge (s := s.reach due) hm hpurge)
  · refine exec_event_to rfl rfl hon ?_
    obtain ⟨l, dir, origin, isPurge, p⟩ := m
    dsimp only at hp hpurge hleft hat
    subst hp
    have hdoes : State.onDivertSettleDone s = (s.reach due).diverted := by
      unfold State.onDivertSettleDone
      rw [hm]
    refine hdoes.trans (State.diverted_launch (s := s.reach due) hm hpurge ?_ ?_)
    · cases dir <;> exact hleft
    · cases dir <;> exact hat
  · refine exec_event_to rfl rfl hon ?_
    show s.passWaypoint m.lane k = _
    unfold State.passWaypoint
    rw [hm]
    dsimp only
    rw [if_pos ⟨rfl, h1, hk⟩]
    rcases hp with ⟨hp, rfl⟩ | ⟨hp, rfl⟩ <;> rw [hp] <;> exact State.setPhase_some hm _
  · refine exec_event_to rfl rfl hon ?_
    show s.passWaypoint l k = s
    unfold State.passWaypoint
    rw [hm]
    refine if_neg ?_
    rintro ⟨rfl, h1, hle⟩
    rcases hk with hk | hk | hk
    · exact hk rfl
    · omega
    · omega
  · obtain ⟨hexec, hdivert⟩ : s.eventDoes c = (s.reach due).failMove result ∧ s.td.abandonDivert = s.td := by
      obtain ⟨l, dir, origin, isPurge, p⟩ := m
      rcases hc with ⟨rfl, hp, rfl⟩ | ⟨rfl, hp, rfl⟩
      · dsimp only at hp
        subst hp
        simp [State.eventDoes, State.onLaunchTimeout, TD.abandonDivert, hm]
      · dsimp only at hp
        subst hp
        simp [State.eventDoes, State.onPurgeTimeout, TD.abandonDivert, hm]
    rw [State.failMove_some (s := s.reach due) hm] at hexec
    have hrun : exec c s = .next (s.eventDoes c).finish := by
      rcases hc with ⟨rfl, -⟩ | ⟨rfl, -⟩ <;> exact exec_event_to rfl rfl hon rfl
    rw [hexec] at hrun
    have hreach : (s.reach due).td.abandonDivert = s.td := hdivert
    refine ⟨_, hrun, ?_, ?_, ?_, ?_, fun k hk => ?_, ?_, ?_, ?_, ?_, ?_, ?_⟩
    · simp [State.reach]
    · simp only [State.finish_frame]
    · simp only [State.finish_frame]
      rw [hreach]
    · rw [State.finish_carrier]
      exact (Four.get_modify ..).trans (if_pos rfl)
    · rw [State.finish_carrier]
      exact (Four.get_modify ..).trans (if_neg hk)
    · rw [State.finish_isPending]
      exact (LC.raise_tells_new (LC.tells_nil hlen) (LaneCond.num_lt m.lane .moveFailed) _).pending
    · rw [(State.finish_conds _).1]
      exact LC.raise_snapshot hlen (LaneCond.num_lt m.lane .moveFailed) _
    · simp only [State.finish_frame]
      rw [(AS.driveIdle_demand _ _).1, AS.release_demand]
    · simp only [State.finish_frame]
      exact (AS.driveIdle_demand _ _).2
    · simp only [State.finish_frame]
      rfl
    · simp only [State.finish_frame]
      rfl
  · have hdoes : State.onTransitTimeout s = (s.reach due).overdue := by
      obtain ⟨l, dir, origin, isPurge, p⟩ := m
      dsimp only at hp
      subst hp
      unfold State.onTransitTimeout
      rw [hm]
    obtain ⟨hmove, hcar, hjam, hunknown, hentry, hheld⟩ := State.overdue_leaves (s := s.reach due) hm
    refine ⟨_, exec_event_to rfl rfl hon hdoes, ?_, ?_, ?_, ?_, ?_, ?_, ?_, ?_⟩
    · simp [State.reach]
    · simp only [State.finish_frame]
      exact hmove
    · rw [State.finish_carrier]
      exact hcar
    · rw [State.finish_laneRec]
      exact hjam
    · rw [State.finish_laneRec]
      exact hunknown
    · rw [State.finish_isPending]
      exact State.overdue_tells (s := s.reach due) hm hlen
    · simp only [State.finish_frame]
      exact hentry
    · simp only [State.finish_frame]
      exact hheld
  · obtain ⟨t, hexec, hnow, htd, hcar, -, hsnap⟩ := hwait e s hon he hlen
    refine ⟨t, hexec, hnow, ?_, ?_, hcar, hsnap⟩
    · rw [htd]; exact hm
    · rw [htd]

/-! ## The carriers' places and what they hold -/

/-- Each carrier's location and reservation. -/
def TD.placing (td : TD) : Four (Location × Reservation) := td.carriers.map fun c => (c.location, c.reservation)

/-- Each carrier's outstanding load. -/
def TD.holdings (td : TD) : Four (Option Nat) := td.carriers.map (·.outstanding)

theorem State.placing_eq (s : State) (l : Lane) : s.td.placing.get l = ((s.carrier l).location, (s.carrier l).reservation) :=
  Four.get_map ..

theorem State.holdings_eq (s : State) (l : Lane) : s.td.holdings.get l = (s.carrier l).outstanding := Four.get_map ..

theorem State.placed_of {s t : State} (h : t.td.placing = s.td.placing) (l : Lane) :
    (t.carrier l).location = (s.carrier l).location ∧ (t.carrier l).reservation = (s.carrier l).reservation := by
  have hl := congrArg (·.get l) h
  rw [State.placing_eq, State.placing_eq, Prod.mk.injEq] at hl
  exact hl

theorem State.holds_of {s t : State} (h : t.td.holdings = s.td.holdings) (l : Lane) :
    (t.carrier l).outstanding = (s.carrier l).outstanding := by
  rw [← State.holdings_eq, ← State.holdings_eq, h]

/-- The state of a carrier's load is read in the holdings and the load table. -/
theorem State.outstandingState_of {s t : State} (h : t.td.holdings = s.td.holdings) (hdp : t.dp = s.dp) (l : Lane) :
    t.outstandingState l = s.outstandingState l := by
  have hload : t.load = s.load := by
    funext id
    simp only [State.load, hdp]
  simp only [State.outstandingState, State.holds_of h l, hload]

@[simp] theorem State.dropQueued_holdings (s : State) (l : Lane) (result : MoveResult) :
    (s.dropQueued l result).td.holdings = s.td.holdings := by
  unfold State.dropQueued
  split
  · rfl
  · exact Four.map_modify _ _ _ _ fun _ => rfl

@[simp] theorem State.setReasons_holdings (s : State) (l : Lane) (f : Reasons → Reasons) :
    (s.setReasons l f).td.holdings = s.td.holdings := by
  unfold State.setReasons
  dsimp only
  (repeat' split) <;> simp

@[simp] theorem State.tellKnown_holdings (s : State) (l : Lane) : (s.tellKnown l).td.holdings = s.td.holdings := by
  simp [State.tellKnown]

@[simp] theorem State.setLocation_holdings (s : State) (l : Lane) (loc : Location) :
    (s.setLocation l loc).td.holdings = s.td.holdings := Four.map_modify _ _ _ _ fun _ => rfl

@[simp] theorem State.endMove_holdings (s : State) : s.endMove.td.holdings = s.td.holdings := by
  unfold State.endMove
  split
  · rfl
  · exact Four.map_modify _ _ _ _ fun _ => rfl

/-! ## The load table (R85, R86) -/

theorem State.load_id {s : State} {id : Nat} {ld : Load} (h : s.load id = some ld) : ld.id = id := by
  have hfound := List.find?_some h
  exact of_decide_eq_true hfound

theorem State.load_of_dp {s t : State} (h : t.dp = s.dp) (id : Nat) : t.load id = s.load id := by
  simp only [State.load, h]

theorem State.modLoad_at {s : State} {id : Nat} {ld : Load} (h : s.load id = some ld) {f : Load → Load}
    (hf : ∀ ld, (f ld).id = ld.id) : (s.modLoad id f).load id = some (f ld) := by
  rw [State.load_modLoad _ _ _ _ hf, if_pos rfl, h]
  rfl

/-- A freed load is in the table no more; every other load is as it was (R86). -/
theorem State.freeLoad_load (s : State) (id k : Nat) (outcome : LoadOutcome) :
    (s.freeLoad id outcome).load k = if k = id then none else s.load k := by
  unfold State.freeLoad
  split
  · next h =>
    split
    · next hk => rw [hk]; exact h
    · rfl
  · refine (find_filter_ne _ id k).trans ?_
    split
    · rfl
    · next hk =>
      refine (State.load_modLoad s id k (fun ld => { ld with state := .closed, outcome := some outcome }) fun _ => rfl).trans ?_
      rw [if_neg hk]

/-- A freed load's LOAD_CLOSED gives its id and its outcome (R86). -/
theorem State.freeLoad_lc {s : State} {id : Nat} {ld : Load} (h : s.load id = some ld) (outcome : LoadOutcome) :
    (s.freeLoad id outcome).lc = s.lc.raise (Cond.lane ld.lane .loadClosed).num (some (u8 id ++ u8 outcome.code)) := by
  unfold State.freeLoad
  rw [h]
  rfl

/-- A carrier that gives a load up. -/
def Carrier.released (c : Carrier) (id : Nat) : Carrier := { c with outstanding := if c.outstanding = some id then none else c.outstanding }

/-- What the steps of R118 before the load is freed leave. -/
theorem State.closeHeld_eq {s : State} {id : Nat} {ld : Load} (h : s.load id = some ld) (outcome : LoadOutcome) :
    ∃ u : State, s.closeHeld id outcome = u.freeLoad id outcome ∧ u.dp = s.dp ∧ u.lc = s.lc ∧
      u.td = { s.td with carriers := s.td.carriers.modify ld.lane fun c => c.released id } := by
  have hrel : (if (s.carrier ld.lane).outstanding = some id then
      s.modCarrier ld.lane fun c => { c with outstanding := none } else s).td =
      { s.td with carriers := s.td.carriers.modify ld.lane fun c => c.released id } := by
    split
    · next ho =>
      refine congrArg (fun cs => { s.td with carriers := cs }) (Four.ext_get fun k => ?_)
      rw [Four.get_modify, Four.get_modify]
      split
      · next hk =>
        have hout : (s.td.carriers.get k).outstanding = some id := hk ▸ ho
        simp [Carrier.released, hout]
      · rfl
    · next ho =>
      refine (congrArg (fun cs => { s.td with carriers := cs }) (Four.modify_same ?_)).symm
      have hout : ¬ (s.td.carriers.get ld.lane).outstanding = some id := ho
      simp [Carrier.released, hout]
  have hdp : (if (s.carrier ld.lane).outstanding = some id then
      s.modCarrier ld.lane fun c => { c with outstanding := none } else s).dp = s.dp := by split <;> rfl
  have hlc : (if (s.carrier ld.lane).outstanding = some id then
      s.modCarrier ld.lane fun c => { c with outstanding := none } else s).lc = s.lc := by split <;> rfl
  unfold State.closeHeld
  rw [h]
  dsimp only
  generalize (if (s.carrier ld.lane).outstanding = some id then
      s.modCarrier ld.lane fun c => { c with outstanding := none } else s) = v at hrel hdp hlc ⊢
  cases hq : ld.seq with
  | none => exact ⟨v, rfl, hdp, hlc, hrel⟩
  | some q => exact ⟨_, rfl, (State.oweClose_frame ..).2.2.2.2.2.2.2.1.trans hdp, by simpa using hlc, by simpa using hrel⟩

theorem State.closeHeld_load (s : State) (id k : Nat) (outcome : LoadOutcome) :
    (s.closeHeld id outcome).load k = if k = id then none else s.load k := by
  cases h : s.load id with
  | none =>
    have hsame : s.closeHeld id outcome = s := by
      unfold State.closeHeld
      rw [h]
    rw [hsame]
    split
    · next hk => rw [hk]; exact h
    · rfl
  | some ld =>
    obtain ⟨u, hu, hdp, -, -⟩ := State.closeHeld_eq h outcome
    rw [hu, State.freeLoad_load, State.load_of_dp hdp]

theorem State.closeHeld_lc {s : State} {id : Nat} {ld : Load} (h : s.load id = some ld) (outcome : LoadOutcome) :
    (s.closeHeld id outcome).lc = s.lc.raise (Cond.lane ld.lane .loadClosed).num (some (u8 id ++ u8 outcome.code)) := by
  obtain ⟨u, hu, hdp, hlc, -⟩ := State.closeHeld_eq h outcome
  rw [hu, State.freeLoad_lc ((State.load_of_dp hdp id).trans h), hlc]

theorem State.closeHeld_td {s : State} {id : Nat} {ld : Load} (h : s.load id = some ld) (outcome : LoadOutcome) :
    (s.closeHeld id outcome).td = { s.td with carriers := s.td.carriers.modify ld.lane fun c => c.released id } := by
  obtain ⟨u, hu, -, -, htd⟩ := State.closeHeld_eq h outcome
  rw [hu, ← htd]
  simp

@[simp] theorem State.closeHeld_placing (s : State) (id : Nat) (outcome : LoadOutcome) :
    (s.closeHeld id outcome).td.placing = s.td.placing := by
  cases h : s.load id with
  | none => simp [State.closeHeld, h]
  | some ld =>
    rw [State.closeHeld_td h]
    exact Four.map_modify s.td.carriers ld.lane (fun c => c.released id) _ fun _ => rfl

@[simp] theorem State.reportAtBay_placing (s : State) (l : Lane) (read : Content) (find : Bool) :
    (s.reportAtBay l read find).td.placing = s.td.placing := by
  unfold State.reportAtBay
  (repeat' split) <;> simp

@[simp] theorem State.reportAt_placing (s : State) (l : Lane) (loc : Location) (find : Bool) :
    (s.reportAt l loc find).td.placing = s.td.placing := by
  unfold State.reportAt
  split <;> simp

/-! ## What a carrier at an end of its lane means for its load (R114 to R116) -/

/-- The outstanding load is stepped; every other load is as it was. -/
theorem State.stepOutstanding_load (s : State) (l : Lane) (before after : LoadState) (k : Nat) :
    (s.stepOutstanding l before after).load k = if (s.carrier l).outstanding = some k then
      (s.load k).map fun ld => if ld.state = before then { ld with state := after } else ld else s.load k := by
  have hid : ∀ ld : Load, (if ld.state = before then { ld with state := after } else ld).id = ld.id := fun ld => by
    split <;> rfl
  unfold State.stepOutstanding
  cases h : (s.carrier l).outstanding with
  | none => rfl
  | some id =>
    dsimp only
    rw [State.load_modLoad _ _ _ _ hid]
    by_cases hk : k = id
    · rw [if_pos hk, if_pos (by rw [hk])]
    · rw [if_neg hk, if_neg fun hn => hk (Option.some.inj hn).symm]

theorem State.outstandingState_some {s : State} {l : Lane} {st : LoadState} :
    s.outstandingState l = some st ↔ ∃ id ld, (s.carrier l).outstanding = some id ∧ s.load id = some ld ∧ ld.state = st := by
  simp [State.outstandingState, Option.bind_eq_some_iff]

theorem State.outstandingState_at {s : State} {l : Lane} {id : Nat} {ld : Load} (ho : (s.carrier l).outstanding = some id)
    (hl : s.load id = some ld) : s.outstandingState l = some ld.state :=
  State.outstandingState_some.mpr ⟨id, ld, ho, hl, rfl⟩

theorem State.stepOutstanding_steps {s : State} {l : Lane} {before after : LoadState}
    (h : s.outstandingState l = some before) : (s.stepOutstanding l before after).outstandingState l = some after := by
  obtain ⟨id, ld, ho, hl, hst⟩ := State.outstandingState_some.mp h
  have ho' : ((s.stepOutstanding l before after).carrier l).outstanding = some id := by
    rw [← ho]
    simp [State.carrier]
  refine State.outstandingState_some.mpr ⟨id, { ld with state := after }, ho', ?_, rfl⟩
  rw [State.stepOutstanding_load, if_pos ho, hl, Option.map_some, if_pos hst]

/-- A DELIVERED load in an empty carrier at the bay closes TAKEN (R116). -/
theorem State.reportAtBay_taken {s : State} {l : Lane} {id : Nat} {ld : Load} (ho : (s.carrier l).outstanding = some id)
    (hl : s.load id = some ld) (hst : ld.state = .delivered) (find : Bool) :
    s.reportAtBay l .empty find = s.closeHeld id .taken := by
  simp only [State.reportAtBay, ho, State.outstandingState_at ho hl, hst]

/-- A DELIVERED load that comes back with its content, and a SENT one that is found at the bay, wait for their close (R116). -/
theorem State.reportAtBay_waits {s : State} {l : Lane} {id : Nat} {ld : Load} (ho : (s.carrier l).outstanding = some id)
    (hl : s.load id = some ld) {read : Content} {find : Bool}
    (h : ld.state = .delivered ∧ read = .content ∨ ld.state = .sent ∧ find = true) :
    s.reportAtBay l read find = s.awaitClose l id := by
  rcases h with ⟨hst, rfl⟩ | ⟨hst, rfl⟩
  · simp only [State.reportAtBay, ho, State.outstandingState_at ho hl, hst]
  · simp only [State.reportAtBay, ho, State.outstandingState_at ho hl, hst]
    rfl

theorem State.awaitClose_load {s : State} {id : Nat} {ld : Load} (hl : s.load id = some ld) (l : Lane) :
    (s.awaitClose l id).load id = some { ld with state := .awaitingClose } :=
  State.modLoad_at hl fun _ => rfl

theorem State.awaitClose_tellsIt {told : List Nat} {s : State} (ht : s.lc.Tells told) (l : Lane) (id : Nat) :
    (s.awaitClose l id).lc.Tells ((Cond.lane l .loadAwaitingClose).num :: told) :=
  LC.raise_tells_new ht (LaneCond.num_lt l .loadAwaitingClose) _

/-! ## The end of SETTLE (R33, R34, R41) -/

theorem LaneCond.num_bounds (c : LaneCond) : 1 ≤ c.num ∧ c.num ≤ 14 := by cases c <;> decide

theorem LaneCond.num_injective {c d : LaneCond} (h : c.num = d.num) : c = d := by
  revert h
  cases c <;> cases d <;> simp [LaneCond.num]

/-- Lane conditions of different kinds have different numbers, whatever their lanes. -/
theorem LaneCond.num_ne {c d : LaneCond} (h : c ≠ d) (l k : Lane) : (Cond.lane l c).num - 1 ≠ (Cond.lane k d).num - 1 := by
  have hc := c.num_bounds
  have hd := d.num_bounds
  have hne : c.num ≠ d.num := fun hn => h (LaneCond.num_injective hn)
  simp only [Cond.num]
  omega

/-- A report at an end raises no condition but its load's two. -/
theorem State.reportAt_conds (s : State) (l k : Lane) (loc : Location) (find : Bool) {c : LaneCond}
    (hclosed : c ≠ .loadClosed) (hawait : c ≠ .loadAwaitingClose) :
    (s.reportAt l loc find).lc.conds[(Cond.lane k c).num - 1]? = s.lc.conds[(Cond.lane k c).num - 1]? := by
  have hraise : ∀ (lc : LC) (d : LaneCond) (j : Lane) (o : Option (List Byte)), c ≠ d →
      (lc.raise (Cond.lane j d).num o).conds[(Cond.lane k c).num - 1]? = lc.conds[(Cond.lane k c).num - 1]? := by
    intro lc d j o hd
    rw [LC.raise_conds, if_neg (LaneCond.num_ne hd k j)]
  have hclose : ∀ id, (s.closeHeld id .taken).lc.conds[(Cond.lane k c).num - 1]? = s.lc.conds[(Cond.lane k c).num - 1]? := by
    intro id
    cases h : s.load id with
    | none => simp [State.closeHeld, h]
    | some ld => rw [State.closeHeld_lc h, hraise _ _ _ _ hclosed]
  unfold State.reportAt State.reportAtBay
  split
  · split
    · rfl
    · split
      · exact hclose _
      · exact hraise _ _ _ _ hawait
      · split
        · exact hraise _ _ _ _ hawait
        · rfl
      · rfl
  · rw [(State.reportAtLane_frame s l).2.2.2.2.2.2.2.2.2.2.2.1]

theorem State.reportAt_pending (s : State) (l k : Lane) (loc : Location) (find : Bool) {c : LaneCond}
    (hclosed : c ≠ .loadClosed) (hawait : c ≠ .loadAwaitingClose) :
    (s.reportAt l loc find).lc.isPending (Cond.lane k c).num = s.lc.isPending (Cond.lane k c).num := by
  unfold LC.isPending
  rw [State.reportAt_conds s l k loc find hclosed hawait]

/-- What the end of SETTLE reports, before the move ends. -/
def State.settleReports (s : State) (m : Move) : SettleOf → State
  | .arrival => (s.reportAt m.lane m.dir.destination false).raiseAt m.lane m.dir.destination
  | .fallBack => s.reportAt m.lane m.dir.origin true
  | .find => ((s.tellKnown m.lane).reportAt m.lane (s.carrier m.lane).location true).raiseAt m.lane (s.carrier m.lane).location

theorem State.settled_eq (s : State) (m : Move) (after : SettleOf) : s.settled m after = (s.settleReports m after).endMove := by
  cases after <;> rfl

@[simp] theorem State.raiseAt_td (s : State) (l : Lane) (loc : Location) : (s.raiseAt l loc).td = s.td := by simp

theorem State.settleReports_move {s : State} {m : Move} (h : s.td.move = some m) (after : SettleOf) :
    (s.settleReports m after).td.move = some m := by
  cases after <;> simp [State.settleReports, h]

theorem State.tellKnown_placed (s : State) (l k : Lane) : ((s.tellKnown l).carrier k).location = (s.carrier k).location ∧
    (k ≠ l → ((s.tellKnown l).carrier k).reservation = (s.carrier k).reservation) := by
  refine ⟨State.setReasons_location .., fun hk => ?_⟩
  have hdrop : ∀ (u : State) (r : MoveResult), ((u.dropQueued l r).carrier k) = u.carrier k := fun u r => by
    cases he : u.td.entry l with
    | none => simp [State.dropQueued, he]
    | some e =>
      rw [State.dropQueued_some he]
      exact (State.carrier_modCarrier ..).trans (if_neg hk)
  unfold State.tellKnown State.setReasons
  dsimp only
  split
  · rfl
  · split
    · rw [hdrop]; rfl
    · rfl

/-- The reports leave each carrier where it is; a reservation only the lane's own can lose. -/
theorem State.settleReports_placed (s : State) (m : Move) (after : SettleOf) (k : Lane) :
    ((s.settleReports m after).carrier k).location = (s.carrier k).location ∧
      (k ≠ m.lane → ((s.settleReports m after).carrier k).reservation = (s.carrier k).reservation) := by
  have hplaced : ∀ (u : State) (loc : Location) (find : Bool),
      ((u.reportAt m.lane loc find).carrier k).location = (u.carrier k).location ∧
        ((u.reportAt m.lane loc find).carrier k).reservation = (u.carrier k).reservation := fun u loc find =>
    State.placed_of (u.reportAt_placing m.lane loc find) k
  have hraise : ∀ (u : State) (loc : Location), (u.raiseAt m.lane loc).carrier k = u.carrier k := fun u loc => by
    simp [State.carrier]
  cases after with
  | arrival =>
    rw [State.settleReports, hraise]
    exact ⟨(hplaced ..).1, fun _ => (hplaced ..).2⟩
  | fallBack => exact ⟨(hplaced ..).1, fun _ => (hplaced ..).2⟩
  | find =>
    rw [State.settleReports, hraise]
    exact ⟨(hplaced ..).1.trans (s.tellKnown_placed m.lane k).1, fun hk => (hplaced ..).2.trans ((s.tellKnown_placed m.lane k).2 hk)⟩

theorem State.settleReports_li {s : State} {m : Move} {after : SettleOf} :
    (after ≠ .find → (s.settleReports m after).li = s.li) ∧
      (after = .find → ((s.settleReports m after).laneRec m.lane).reasons.carrierUnknown = false) := by
  cases after with
  | arrival => exact ⟨fun _ => by simp [State.settleReports], nofun⟩
  | fallBack => exact ⟨fun _ => by simp [State.settleReports], nofun⟩
  | find =>
    refine ⟨fun h => absurd rfl h, fun _ => ?_⟩
    have hli : (s.settleReports m .find).li = (s.tellKnown m.lane).li := by simp [State.settleReports]
    refine (congrArg (fun li => (li.lanes.get m.lane).reasons.carrierUnknown) hli).trans ?_
    exact congrArg (·.reasons.carrierUnknown) ((State.setReasons_laneRec ..).trans (if_pos rfl))

theorem State.raiseAt_tells_bay {told : List Nat} {s : State} (ht : s.lc.Tells told) (l : Lane) :
    (s.raiseAt l .atBay).lc.Tells ((Cond.lane l .carrierAtBay).num :: told) :=
  LC.raise_tells_new ht (LaneCond.num_lt l .carrierAtBay) none

theorem State.raiseAt_tells_lane {told : List Nat} {s : State} (ht : s.lc.Tells told) (l : Lane) {loc : Location}
    (h : loc ≠ .atBay) : (s.raiseAt l loc).lc.Tells ((Cond.lane l .carrierAtLane).num :: told) := by
  unfold State.raiseAt
  rw [if_neg h]
  exact LC.raise_tells_new ht (LaneCond.num_lt l .carrierAtLane) none

theorem exec_settleEnd {m : Move} {due : Nat} {after : SettleOf} {s : State} (hon : s.phase ≠ .off) (hm : s.td.move = some m)
    (hp : m.phase = .settle due after) :
    exec .settleEnd s = .next ((s.reach due).settleReports m after).endMove.finish := by
  refine exec_event_to rfl rfl hon ?_
  show s.onSettleEnd = _
  unfold State.onSettleEnd
  rw [hm]
  dsimp only
  rw [hp, ← State.settled_eq]

/-- The end of the lane at which a SETTLE ends. -/
def SettleOf.at_ (after : SettleOf) (m : Move) (here : Location) : Location :=
  match after with
  | .arrival => m.dir.destination
  | .fallBack => m.dir.origin
  | .find => here

/-- An arrival is no find. -/
def SettleOf.finds : SettleOf → Bool
  | .arrival => false
  | .fallBack => true
  | .find => true

/-- The reports of a SETTLE's end are the report of its carrier at its end, and at most a CARRIER condition's rise. -/
theorem State.settleReports_from (s : State) (m : Move) (after : SettleOf) : ∃ u : State,
    (u.td.holdings = s.td.holdings ∧ u.bay m.lane = s.bay m.lane ∧ u.dp = s.dp ∧
      (∀ told, s.lc.Tells told → u.lc.Tells told)) ∧
    (s.settleReports m after).td = (u.reportAt m.lane (after.at_ m (s.carrier m.lane).location) after.finds).td ∧
    (s.settleReports m after).dp = (u.reportAt m.lane (after.at_ m (s.carrier m.lane).location) after.finds).dp ∧
    ((s.settleReports m after).lc = (u.reportAt m.lane (after.at_ m (s.carrier m.lane).location) after.finds).lc ∨
      ∃ c, (c = LaneCond.carrierAtBay ∨ c = .carrierAtLane) ∧ (s.settleReports m after).lc =
        (u.reportAt m.lane (after.at_ m (s.carrier m.lane).location) after.finds).lc.raise (Cond.lane m.lane c).num none) := by
  have hraise : ∀ (v : State) (loc : Location), (v.raiseAt m.lane loc).td = v.td ∧ (v.raiseAt m.lane loc).dp = v.dp ∧
      ((v.raiseAt m.lane loc).lc = v.lc ∨ ∃ c, (c = LaneCond.carrierAtBay ∨ c = .carrierAtLane) ∧
        (v.raiseAt m.lane loc).lc = v.lc.raise (Cond.lane m.lane c).num none) := by
    intro v loc
    unfold State.raiseAt
    split
    · exact ⟨rfl, rfl, .inr ⟨_, .inl rfl, rfl⟩⟩
    · exact ⟨rfl, rfl, .inr ⟨_, .inr rfl, rfl⟩⟩
  cases after with
  | arrival => exact ⟨s, ⟨rfl, rfl, rfl, fun _ h => h⟩, hraise _ _⟩
  | fallBack => exact ⟨s, ⟨rfl, rfl, rfl, fun _ h => h⟩, rfl, rfl, .inl rfl⟩
  | find =>
    refine ⟨s.tellKnown m.lane, ⟨by simp, ?_, by simp, fun told h => State.tellKnown_tells s m.lane h⟩, hraise _ _⟩
    simp [State.bay]

/-- The SETTLE of a carrier that comes to the lane's end makes its SENT load DELIVERED. -/
theorem State.settleReports_delivers {s : State} {m : Move} {after : SettleOf}
    (h : after.at_ m (s.carrier m.lane).location ≠ .atBay) (hst : s.outstandingState m.lane = some .sent) :
    (s.settleReports m after).outstandingState m.lane = some .delivered := by
  obtain ⟨u, ⟨hholds, -, hdp, -⟩, htd, hdp', -⟩ := s.settleReports_from m after
  have hreport : u.reportAt m.lane (after.at_ m (s.carrier m.lane).location) after.finds = u.reportAtLane m.lane := if_neg h
  rw [hreport] at htd hdp'
  rw [State.outstandingState_of (congrArg TD.holdings htd) hdp']
  exact State.stepOutstanding_steps ((State.outstandingState_of hholds hdp _).trans hst)

/-- The load of a carrier that comes back to its bay empty is closed TAKEN. -/
theorem State.settleReports_closes {s : State} {m : Move} {after : SettleOf} {id : Nat} {ld : Load}
    (hat : after.at_ m (s.carrier m.lane).location = .atBay) (hpres : (s.bay m.lane).present = true)
    (hempty : (s.bay m.lane).content = false) (ho : (s.carrier m.lane).outstanding = some id) (hl : s.load id = some ld)
    (hst : ld.state = .delivered) (hlen : s.lc.conds.length = 69) :
    (s.settleReports m after).load id = none ∧
      (s.settleReports m after).lc.conds[(Cond.lane ld.lane .loadClosed).num - 1]?.map (·.snapshot) =
        some (some [BitVec.ofNat 8 id, 0x01#8]) ∧
      (s.settleReports m after).lc.isPending (Cond.lane ld.lane .loadClosed).num = true ∧
      (ld.lane = m.lane → ((s.settleReports m after).carrier m.lane).outstanding = none) := by
  obtain ⟨u, ⟨hholds, hbay, hdp, htells⟩, htd, hdp', hlc⟩ := s.settleReports_from m after
  have huo := (State.holds_of hholds m.lane).trans ho
  have hul := (State.load_of_dp hdp id).trans hl
  have hulc := (htells [] (LC.tells_nil hlen)).1
  have hread : u.readBay m.lane = .empty := by
    simp [State.readBay, sensedContent, hbay, hpres, hempty]
  have hreport : u.reportAt m.lane (after.at_ m (s.carrier m.lane).location) after.finds = u.closeHeld id .taken := by
    unfold State.reportAt
    rw [if_pos hat, hread, State.reportAtBay_taken huo hul hst]
  rw [hreport] at htd hdp' hlc
  have hrise : (u.closeHeld id .taken).lc.Tells [(Cond.lane ld.lane .loadClosed).num] := by
    rw [State.closeHeld_lc hul]
    exact LC.raise_tells_new (LC.tells_nil hulc) (LaneCond.num_lt ld.lane .loadClosed) _
  have hsnap : (u.closeHeld id .taken).lc.conds[(Cond.lane ld.lane .loadClosed).num - 1]?.map (·.snapshot) =
      some (some [BitVec.ofNat 8 id, 0x01#8]) := by
    rw [State.closeHeld_lc hul]
    exact LC.raise_snapshot hulc (LaneCond.num_lt ld.lane .loadClosed) _
  refine ⟨?_, ?_, ?_, fun hlane => ?_⟩
  · rw [State.load_of_dp hdp', State.closeHeld_load, if_pos rfl]
  · rcases hlc with hlc | ⟨c, hc, hlc⟩
    · rw [hlc, hsnap]
    · have hne : c ≠ .loadClosed := by rcases hc with rfl | rfl <;> exact nofun
      rw [hlc, LC.raise_conds, if_neg (LaneCond.num_ne (Ne.symm hne) ld.lane m.lane), hsnap]
  · rcases hlc with hlc | ⟨c, -, hlc⟩
    · rw [hlc]; exact hrise.pending
    · rw [hlc]; exact (LC.raise_tells hrise _ _).pending
  · have hcar : (s.settleReports m after).carrier m.lane = (u.closeHeld id .taken).carrier m.lane :=
      congrArg (fun td => td.carriers.get m.lane) htd
    have hgive : (u.closeHeld id .taken).carrier m.lane = (u.carrier m.lane).released id := by
      refine (congrArg (fun td => td.carriers.get m.lane) (State.closeHeld_td hul .taken)).trans ?_
      exact (Four.get_modify ..).trans (if_pos hlane.symm)
    rw [hcar, hgive]
    simp [Carrier.released, huo]

/-- The load of a carrier that comes back to its bay with its content, or that is found there, waits for its close. -/
theorem State.settleReports_waits {s : State} {m : Move} {after : SettleOf} {id : Nat} {ld : Load}
    (hat : after.at_ m (s.carrier m.lane).location = .atBay) (hpres : (s.bay m.lane).present = true)
    (ho : (s.carrier m.lane).outstanding = some id) (hl : s.load id = some ld)
    (hst : ld.state = .delivered ∧ (s.bay m.lane).content = true ∨ ld.state = .sent ∧ after.finds = true)
    (hlen : s.lc.conds.length = 69) :
    (s.settleReports m after).load id = some { ld with state := .awaitingClose } ∧
      (s.settleReports m after).lc.isPending (Cond.lane m.lane .loadAwaitingClose).num = true := by
  obtain ⟨u, ⟨hholds, hbay, hdp, htells⟩, -, hdp', hlc⟩ := s.settleReports_from m after
  have huo := (State.holds_of hholds m.lane).trans ho
  have hul := (State.load_of_dp hdp id).trans hl
  have hcontent : (s.bay m.lane).content = true → u.readBay m.lane = .content := fun h => by
    simp [State.readBay, sensedContent, hbay, hpres, h]
  have hreport : u.reportAt m.lane (after.at_ m (s.carrier m.lane).location) after.finds = u.awaitClose m.lane id := by
    unfold State.reportAt
    rw [if_pos hat, State.reportAtBay_waits huo hul (hst.imp (And.imp_right hcontent) fun h => h)]
  rw [hreport] at hdp' hlc
  have hrise := State.awaitClose_tellsIt (htells [] (LC.tells_nil hlen)) m.lane id
  refine ⟨(State.load_of_dp hdp' id).trans (State.awaitClose_load hul m.lane), ?_⟩
  rcases hlc with hlc | ⟨c, -, hlc⟩
  · rw [hlc]; exact hrise.pending
  · rw [hlc]; exact (LC.raise_tells hrise _ _).pending

theorem State.settleReports_now (s : State) (m : Move) (after : SettleOf) : (s.settleReports m after).now = s.now := by
  cases after <;> simp [State.settleReports]

/-- Settles O37: the move's end follows the reports of its SETTLE, which leave the move, the places and, but for a find's
CARRIER_UNKNOWN, the lanes. -/
theorem settleEndsTheMove : Obligations.SettleEndsTheMove := by
  intro m due after s hon hm hp hlen
  have hexec := exec_settleEnd hon hm hp
  have hmove := State.settleReports_move (s := s.reach due) hm after
  have hend := State.endMove_some hmove
  have hlc : ∀ n, ((s.reach due).settleReports m after).endMove.finish.lc.isPending n =
      ((s.reach due).settleReports m after).lc.isPending n := fun n => by
    rw [State.finish_isPending, hend]
  have hconds : ((s.reach due).settleReports m after).endMove.finish.lc.conds =
      ((s.reach due).settleReports m after).lc.conds := by
    rw [(State.finish_conds _).1, hend]
  have hdp : ((s.reach due).settleReports m after).endMove.finish.dp = ((s.reach due).settleReports m after).dp := by
    rw [hend]
    simp
  have hholds : ((s.reach due).settleReports m after).endMove.finish.td.holdings =
      ((s.reach due).settleReports m after).td.holdings := by simp
  have hcar : ∀ k, ((s.reach due).settleReports m after).endMove.finish.carrier k = if k = m.lane then
      { ((s.reach due).settleReports m after).carrier k with reservation := .none }
      else ((s.reach due).settleReports m after).carrier k := fun k => by
    rw [State.finish_carrier, hend]
    exact Four.get_modify ..
  have hplaced := fun k => (s.reach due).settleReports_placed m after k
  have hreach : ((s.reach due).lc).Tells [] := LC.tells_nil hlen
  have hfinds : after ≠ .arrival → after.finds = true := by cases after <;> simp [SettleOf.finds]
  refine ⟨⟨_, hexec, ?_, ?_, ?_, ?_, fun k hk => ?_, ?_, fun hfind => ?_, fun hfind => ?_, fun h => ?_, fun h => ?_, fun h => ?_⟩,
    fun h hst => ⟨_, hexec, ?_⟩, fun id ld h hpres ho hl => ⟨fun hst hc => ⟨_, hexec, ?_, ?_, ?_, fun hlane => ?_⟩,
      fun hst => ⟨_, hexec, ?_, ?_⟩⟩⟩
  · simp [State.settleReports_now, State.reach]
  · simp only [State.finish_frame]
    rw [hend]
  · rw [hcar, if_pos rfl]
  · rw [hcar, if_pos rfl]
    exact (hplaced m.lane).1
  · rw [hcar, if_neg hk]
    exact ⟨(hplaced k).1, (hplaced k).2 hk⟩
  · simp only [State.finish_frame]
    rw [hend]
    exact (AS.driveIdle_demand _ _).2
  · rw [State.finish_laneRec, hend]
    exact State.settleReports_li.2 hfind
  · simp only [State.finish_frame]
    rw [hend]
    exact State.settleReports_li.1 hfind
  · rw [hlc]
    rcases h with ⟨rfl, hdir⟩ | ⟨rfl, hloc⟩
    · rw [State.settleReports, hdir]
      exact (State.raiseAt_tells_bay (State.reportAt_tells _ _ _ _ hreach) m.lane).pending
    · have hbay : ((s.reach due).carrier m.lane).location = .atBay := hloc
      rw [State.settleReports, hbay]
      exact (State.raiseAt_tells_bay (State.reportAt_tells _ _ _ _ (State.tellKnown_tells _ _ hreach)) m.lane).pending
  · rw [hlc]
    rcases h with ⟨rfl, hdir⟩ | ⟨rfl, hloc⟩
    · rw [State.settleReports, hdir]
      exact (State.raiseAt_tells_lane (loc := .atLane) (State.reportAt_tells _ _ _ _ hreach) m.lane nofun).pending
    · have hat : ((s.reach due).carrier m.lane).location = .atLane := hloc
      rw [State.settleReports, hat]
      exact (State.raiseAt_tells_lane (loc := .atLane) (State.reportAt_tells _ _ _ _ (State.tellKnown_tells _ _ hreach)) m.lane
        nofun).pending
  · subst h
    rw [hlc, hlc]
    exact ⟨State.reportAt_pending _ _ _ _ _ nofun nofun, State.reportAt_pending _ _ _ _ _ nofun nofun⟩
  · rw [State.outstandingState_of hholds hdp]
    refine State.settleReports_delivers ?_ hst
    rcases h with ⟨rfl, hdir⟩ | ⟨rfl, hdir⟩ | ⟨rfl, hloc⟩
    · rw [SettleOf.at_, hdir]; exact nofun
    · rw [SettleOf.at_, hdir]; exact nofun
    · exact fun hn => absurd (hloc.symm.trans hn) nofun
  all_goals
    have hat : after.at_ m ((s.reach due).carrier m.lane).location = .atBay := by
      rcases h with ⟨rfl, hdir⟩ | ⟨rfl, hdir⟩ | ⟨rfl, hloc⟩
      · rw [SettleOf.at_, hdir]; rfl
      · rw [SettleOf.at_, hdir]; rfl
      · exact hloc
  · rw [State.load_of_dp hdp]
    exact (State.settleReports_closes hat hpres hc ho hl hst hlen).1
  · rw [hconds]
    exact (State.settleReports_closes hat hpres hc ho hl hst hlen).2.1
  · rw [hlc]
    exact (State.settleReports_closes hat hpres hc ho hl hst hlen).2.2.1
  · rw [State.holds_of hholds]
    exact (State.settleReports_closes hat hpres hc ho hl hst hlen).2.2.2 hlane
  · rw [State.load_of_dp hdp]
    exact (State.settleReports_waits hat hpres ho hl (hst.imp_right fun h => ⟨h.1, hfinds h.2⟩) hlen).1
  · rw [hlc]
    exact (State.settleReports_waits hat hpres ho hl (hst.imp_right fun h => ⟨h.1, hfinds h.2⟩) hlen).2

end Sys2Proof.Machine
end

section
/-! The bay's sensors (chapter 2): carrier present, content and door. -/

namespace Sys2Proof.Machine

/-! ## A carrier seen at an end, or seen to leave it (R30, R33, R34, R37, R38, R41) -/

section
variable {s : State} {m : Move}

theorem State.arrive_some (h : s.td.move = some m) : s.arrive =
    { s with
      td := { s.td with
        carriers := s.td.carriers.modify m.lane fun c => { c with location := m.dir.destination }
        move := some { m with phase := .settle (s.now + 400) .arrival } }
      as := s.as.release s.now } := by
  unfold State.arrive
  rw [h]
  exact State.setPhase_some (s := (s.setLocation m.lane m.dir.destination).releasePressure) h _

theorem State.fallBack_some (h : s.td.move = some m) : s.fallBack =
    { s with
      td := { s.td with
        carriers := s.td.carriers.modify m.lane fun c => { c with location := m.dir.origin }
        move := some { m with phase := .settle (s.now + 400) .fallBack } }
      as := s.as.release s.now
      lc := s.lc.raise (Cond.lane m.lane .moveFailed).num (some (u8 MoveResult.fellBack.code ++ u8 m.origin.code)) } := by
  unfold State.fallBack
  rw [h]
  exact State.setPhase_some (s := (s.releasePressure.setLocation m.lane m.dir.origin).raiseLane m.lane .moveFailed
    (u8 MoveResult.fellBack.code ++ u8 m.origin.code)) h _

theorem State.purgeFind_some (h : s.td.move = some m) (l : Lane) (loc : Location) : s.purgeFind l loc =
    { s with
      td := { s.td.abandonDivert with
        carriers := s.td.carriers.modify l fun c => { c with location := loc }
        move := some { m with phase := .settle (s.now + 400) .find } }
      as := s.as.release s.now } := by
  have hmove : s.td.abandonDivert.move = some m := by simp [h]
  have hcarriers : s.td.abandonDivert.carriers = s.td.carriers := by simp
  unfold State.purgeFind
  rw [← hcarriers]
  exact State.setPhase_some
    (s := (({ s with td := s.td.abandonDivert } : State).setLocation l loc).releasePressure) hmove _

/-- A carrier seen to leave its bay, its lane's end not yet reached, is in the tube under the segment timeout (R30). -/
theorem State.launch_up (h : s.td.move = some m) (hdir : m.dir = .up) (hfar : (s.laneRec m.lane).carrier ≠ .yes) : s.launch =
    (({ s with td := { s.td with
        carriers := s.td.carriers.modify m.lane fun c => { c with location := .movingUp }
        move := some { m with phase := .transit (s.now + (s.laneRec m.lane).set.segTimeout) } } } : State)).reportLaunch
      m.lane := by
  have hphase := State.setPhase_some (s := s.setLocation m.lane m.dir.moving) h
    (.transit (s.now + (s.laneRec m.lane).set.segTimeout))
  have hbefore : (s.setLocation m.lane m.dir.moving).setPhase (.transit (s.now + (s.laneRec m.lane).set.segTimeout)) =
      { s with td := { s.td with
        carriers := s.td.carriers.modify m.lane fun c => { c with location := .movingUp }
        move := some { m with phase := .transit (s.now + (s.laneRec m.lane).set.segTimeout) } } } := by
    rw [hphase, hdir]
    rfl
  have hnear : ∀ u : State, u.li = s.li → ¬ (u.reportLaunch m.lane).atDestination m.lane m.dir = true := fun u hu hn => by
    have hlane : (u.reportLaunch m.lane).laneRec m.lane = s.laneRec m.lane := by simp [State.laneRec, hu]
    rw [hdir, State.atDestination, hlane, beq_iff_eq] at hn
    exact hfar hn
  unfold State.launch
  rw [h]
  dsimp only
  rw [hbefore, if_pos hdir, if_neg (hnear _ (by rfl))]

end

/-! ## The bay's carrier present sensor (R23) -/

/-- A rise at a bay is taken by the move in flight, or by the carrier's location (R30, R33, R37, R38, R41). -/
theorem exec_bayRise {s : State} {l : Lane} (hrun : s.phase = .running) (hp : (s.bay l).present = false) :
    exec (.bayCarrierPresentChange l true) s =
      .next ((s.modBay l fun b => { b with present := true }).presentRises l .atBay).finish := by
  refine exec_event_to rfl rfl (by rw [hrun]; exact nofun) ?_
  show s.bayPresent l true = _
  unfold State.bayPresent
  rw [if_neg (by rw [hp]; exact nofun), if_pos rfl]

theorem exec_bayFall {s : State} {l : Lane} (hrun : s.phase = .running) (hp : (s.bay l).present = true) :
    exec (.bayCarrierPresentChange l false) s =
      .next (((s.modBay l fun b => { b with present := false }).presentFalls l .atBay).disturbBay l).finish := by
  refine exec_event_to rfl rfl (by rw [hrun]; exact nofun) ?_
  show s.bayPresent l false = _
  unfold State.bayPresent
  rw [if_neg (by rw [hp]; exact nofun), if_neg Bool.false_ne_true]

/-- Nothing at a bay is disturbed where neither a push nor a capture is at work. -/
theorem State.disturbBay_none {s : State} (hs : s.ss.shuttle = .home) (hh : s.cu.hand = none) (l : Lane) :
    s.disturbBay l = s := by
  have hpush : s.abortPush l = s := by
    unfold State.abortPush
    rw [hs]
  unfold State.disturbBay State.abortLift
  rw [hpush, hh]

section
variable {s : State} {m : Move} {l : Lane} {loc : Location}

theorem State.derived_running (h : s.phase = .running) : s.derived = true := by
  unfold State.derived
  rw [h]

theorem State.presentRises_transit {due : Nat} (hrun : s.phase = .running) (hm : s.td.move = some m) (hl : m.lane = l)
    (hp : m.isPurge = false) (hphase : m.phase = .transit due) :
    s.presentRises l loc = if loc = m.dir.destination then s.arrive else s.fallBack := by
  simp [State.presentRises, State.derived_running hrun, hm, hl, hp, hphase]

theorem State.presentRises_purge (hrun : s.phase = .running) (hm : s.td.move = some m) (hl : m.lane = l)
    (hp : m.isPurge = true) (hphase : ∀ due after, m.phase ≠ .settle due after) :
    s.presentRises l loc = s.purgeFind l loc := by
  cases hq : m.phase with
  | settle due after => exact absurd hq (hphase due after)
  | _ => simp [State.presentRises, State.derived_running hrun, hm, hl, hp, hq]

theorem State.presentRises_settle {due : Nat} {after : SettleOf} (hrun : s.phase = .running) (hm : s.td.move = some m)
    (hl : m.lane = l) (hp : m.isPurge = false) (hphase : m.phase = .settle due after) :
    s.presentRises l loc = if (s.carrier l).location = .unknown then s.lateArrival l loc else s := by
  simp [State.presentRises, State.derived_running hrun, hm, hl, hp, hphase]

theorem State.presentRises_free (hrun : s.phase = .running) (h : ∀ m, s.td.move = some m → m.lane ≠ l) :
    s.presentRises l loc = s.presentRisesFree l loc := by
  cases hm : s.td.move with
  | none => simp [State.presentRises, State.derived_running hrun, hm]
  | some m => simp [State.presentRises, State.derived_running hrun, hm, h m hm]

/-- The launch is the fall of carrier present at the origin (R30). -/
theorem State.presentFalls_launch {due : Nat} (hrun : s.phase = .running) (hm : s.td.move = some m) (hl : m.lane = l)
    (hp : m.isPurge = false) (hphase : m.phase = .launch due) (ho : loc = m.dir.origin) : s.presentFalls l loc = s.launch := by
  simp [State.presentFalls, State.derived_running hrun, hm, hl, hp, hphase, ho]

theorem State.presentFalls_idle (hm : s.td.move = none) : s.presentFalls l loc = s := by
  simp [State.presentFalls, hm]

end

/-- A late arrival at the bay (R37): where the lane has no entry, none is dropped. -/
theorem State.lateArrival_bay {s : State} {l : Lane} (he : s.td.entry l = none) :
    ∃ u : State, s.lateArrival l .atBay = u.reportAtBay l (u.readBay l) true ∧
      u.td = { s.td with carriers := s.td.carriers.modify l fun c => { c with location := .atBay } } ∧ u.dp = s.dp ∧
      u.lc = s.lc.raise (Cond.lane l .lateArrival).num none ∧ (u.laneRec l).reasons =
        { (s.laneRec l).reasons with carrierUnknown := false } := by
  have hknown : (s.setLocation l .atBay).tellKnown l = (s.setLocation l .atBay).modLane l fun r =>
      { r with reasons := { r.reasons with carrierUnknown := false } } := State.setReasons_unqueued (by exact he) _
  refine ⟨((s.setLocation l .atBay).tellKnown l).raiseLaneBare l .lateArrival, rfl, ?_, ?_, ?_, ?_⟩
  · rw [hknown]; rfl
  · rw [hknown]; rfl
  · rw [hknown]; rfl
  · rw [hknown]
    exact congrArg LaneRec.reasons (State.modLane_at (s.setLocation l .atBay) l _)

/-- Settles O38: each edge is taken by the move in flight for the lane, or by the carrier's location. -/
theorem bayPresenceFollowsTheCarrier : Obligations.BayPresenceFollowsTheCarrier := by
  intro l s hrun hlen
  have hbay : ∀ p, ((s.modBay l fun b => { b with present := p }).bay l) = { s.bay l with present := p } := fun p =>
    (State.bay_modBay ..).trans (if_pos rfl)
  refine ⟨fun p hp => ?_, fun m due hp hm hl hpurge hdir hphase => ?_, fun m due hp hm hl hpurge hdir hphase => ?_,
    fun m hp hm hl hpurge hphase => ?_, fun m due hp hm hl hpurge hdir hphase hfar hshuttle hhand => ?_,
    fun hp hloc hmove hentry => ?_, fun hp hloc hmove => ?_, fun hp hm hshuttle hhand => ?_⟩
  · refine exec_event_to rfl rfl (by rw [hrun]; exact nofun) ?_
    exact if_pos hp
  · subst hl
    have hexec := exec_bayRise hrun hp
    rw [State.presentRises_transit (s := s.modBay m.lane fun b => { b with present := true }) hrun hm rfl hpurge hphase,
      if_pos (by rw [hdir]; rfl), State.arrive_some (s := s.modBay m.lane fun b => { b with present := true }) hm] at hexec
    refine ⟨_, hexec, ?_, ?_, ?_, ?_, ?_, ?_⟩
    · rw [State.finish_bay]
      exact congrArg Bay.present (hbay true)
    · rw [State.finish_carrier]
      refine (congrArg Carrier.location ((Four.get_modify ..).trans (if_pos rfl))).trans ?_
      rw [hdir]
      rfl
    · simp only [State.finish_frame]
      rfl
    · simp only [State.finish_frame]
      exact AS.release_demand ..
    · rw [(State.finish_conds _).1]
      rfl
    · simp only [State.finish_frame]
      rfl
  · subst hl
    have hexec := exec_bayRise hrun hp
    rw [State.presentRises_transit (s := s.modBay m.lane fun b => { b with present := true }) hrun hm rfl hpurge hphase,
      if_neg (by rw [hdir]; exact nofun),
      State.fallBack_some (s := s.modBay m.lane fun b => { b with present := true }) hm] at hexec
    refine ⟨_, hexec, ?_, ?_, ?_, ?_, ?_, ?_⟩
    · rw [State.finish_bay]
      exact congrArg Bay.present (hbay true)
    · rw [State.finish_carrier]
      refine (congrArg Carrier.location ((Four.get_modify ..).trans (if_pos rfl))).trans ?_
      rw [hdir]
      rfl
    · simp only [State.finish_frame]
      rfl
    · rw [(State.finish_conds _).1]
      exact LC.raise_snapshot hlen (LaneCond.num_lt m.lane .moveFailed) _
    · simp only [State.finish_frame]
      exact AS.release_demand ..
    · simp only [State.finish_frame]
      rfl
  · subst hl
    have hexec := exec_bayRise hrun hp
    rw [State.presentRises_purge (s := s.modBay m.lane fun b => { b with present := true }) hrun hm rfl hpurge hphase,
      State.purgeFind_some (s := s.modBay m.lane fun b => { b with present := true }) hm] at hexec
    refine ⟨_, hexec, ?_, ?_, ?_, ?_, ?_, ?_⟩
    · rw [State.finish_bay]
      refine Eq.trans ?_ (congrArg Bay.present (hbay true))
      exact congrArg (fun bs => (bs.get m.lane).present) (TD.abandonDivert_frame _).2.1
    · rw [State.finish_carrier]
      exact congrArg Carrier.location ((Four.get_modify ..).trans (if_pos rfl))
    · simp only [State.finish_frame]
      rfl
    · simp only [State.finish_frame]
      exact AS.release_demand ..
    · rw [(State.finish_conds _).1]
      rfl
    · simp only [State.finish_frame]
      rfl
  · subst hl
    have hexec := exec_bayFall hrun hp
    rw [State.presentFalls_launch (s := s.modBay m.lane fun b => { b with present := false }) hrun hm rfl hpurge hphase
      (by rw [hdir]; rfl), State.launch_up (s := s.modBay m.lane fun b => { b with present := false }) hm hdir hfar] at hexec
    generalize hu : (s.modBay m.lane fun b => { b with present := false }) = u at hexec
    have huss : u.ss = s.ss := by rw [← hu]; rfl
    have hucu : u.cu = s.cu := by rw [← hu]; rfl
    have hudp : u.dp = s.dp := by rw [← hu]; rfl
    have huas : u.as = s.as := by rw [← hu]; rfl
    have hulc : u.lc = s.lc := by rw [← hu]; rfl
    have huli : u.li = s.li := by rw [← hu]; rfl
    have hunow : u.now = s.now := by rw [← hu]; rfl
    have hucar : u.td.carriers = s.td.carriers := by rw [← hu]; rfl
    have hubay : (u.bay m.lane).present = false := by rw [← hu, hbay]
    generalize hv : ({ u with td := { u.td with
        carriers := u.td.carriers.modify m.lane fun c => { c with location := .movingUp }
        move := some { m with phase := .transit (u.now + (u.laneRec m.lane).set.segTimeout) } } } : State) = v at hexec
    have hvss : v.ss = s.ss := by rw [← hv]; exact huss
    have hvcu : v.cu = s.cu := by rw [← hv]; exact hucu
    rw [State.disturbBay_none (by simp [hvss, hshuttle]) (by simp [hvcu, hhand])] at hexec
    refine ⟨_, hexec, ?_, ?_, ?_, fun hst => ?_, ?_, ?_⟩
    · rw [State.finish_bay, ← hubay, ← hv]
      simp [State.bay]
    · have hcar : (v.reportLaunch m.lane).finish.carrier m.lane = v.carrier m.lane := by simp [State.carrier]
      rw [hcar, ← hv]
      exact congrArg Carrier.location ((Four.get_modify ..).trans (if_pos rfl))
    · simp only [State.finish_frame, State.reportLaunch_frame]
      have hseg : (u.laneRec m.lane).set = (s.laneRec m.lane).set := by simp only [State.laneRec, huli]
      rw [← hv, hunow, hseg]
    · rw [State.finish_outstandingState]
      refine State.stepOutstanding_steps ?_
      rw [← hst]
      refine State.outstandingState_of ?_ (by rw [← hv]; exact hudp) m.lane
      rw [← hv]
      exact (Four.map_modify u.td.carriers m.lane (fun c => { c with location := .movingUp }) _ fun _ => rfl).trans
        (congrArg (Four.map · _) hucar)
    · simp only [State.finish_frame, State.reportLaunch_frame]
      rw [← hv]
      exact huas
    · rw [(State.finish_conds _).1]
      simp only [State.reportLaunch_frame]
      rw [← hv]
      exact congrArg LC.conds hulc
  · have hexec := exec_bayRise hrun hp
    generalize hu : (s.modBay l fun b => { b with present := true }) = u at hexec
    have hurun : u.phase = .running := by rw [← hu]; exact hrun
    have hutd : u.td = { s.td with bays := u.td.bays } := by rw [← hu]; rfl
    have hudp : u.dp = s.dp := by rw [← hu]; rfl
    have hulc : u.lc = s.lc := by rw [← hu]; rfl
    have huli : u.laneRec l = s.laneRec l := by rw [← hu]; rfl
    have hucar : u.carrier l = s.carrier l := by rw [← hu]; rfl
    have humove : u.td.move = s.td.move := by rw [hutd]
    have hubay : (u.bay l).present = true := by rw [← hu, hbay]
    have hlate : u.presentRises l .atBay = u.lateArrival l .atBay := by
      rcases hmove with hm | ⟨m, due, after, hm, hl, hpurge, hphase⟩
      · rw [State.presentRises_free hurun (by rw [humove, hm]; exact nofun)]
        simp [State.presentRisesFree, hucar, hloc]
      · rw [State.presentRises_settle hurun (humove.trans hm) hl hpurge hphase, if_pos (by rw [hucar]; exact hloc)]
    obtain ⟨v, hv, hvtd, hvdp, hvlc, hvreasons⟩ := State.lateArrival_bay (s := u) (l := l) (by rw [hutd]; exact hentry)
    rw [hlate, hv] at hexec
    have hreport : v.reportAtBay l (v.readBay l) true = v.reportAt l .atBay true := rfl
    rw [hreport] at hexec
    refine ⟨_, hexec, ?_, ?_, ?_, ?_, ?_, fun id ld ho hld hst => ?_⟩
    · have hvbay : (v.reportAt l .atBay true).finish.bay l = v.bay l := by simp [State.bay]
      rw [hvbay, ← hubay]
      simp only [State.bay, hvtd]
    · simp only [State.finish_frame, State.reportAt_frame]
      rw [hvtd, ← humove]
    · rw [State.finish_carrier, (State.placed_of (v.reportAt_placing l .atBay true) l).1]
      refine (congrArg (fun td => (td.carriers.get l).location) hvtd).trans ?_
      exact congrArg Carrier.location ((Four.get_modify ..).trans (if_pos rfl))
    · have hlane : (v.reportAt l .atBay true).finish.laneRec l = v.laneRec l := by simp [State.laneRec]
      rw [hlane, hvreasons, huli]
    · rw [State.finish_isPending, State.reportAt_pending _ _ _ _ _ (c := .lateArrival) nofun nofun, hvlc, hulc]
      exact (LC.raise_tells_new (LC.tells_nil hlen) (LaneCond.num_lt l .lateArrival) none).pending
    · have hvo : (v.carrier l).outstanding = some id := by
        rw [← ho, ← hucar]
        refine State.holds_of ?_ l
        rw [hvtd]
        exact Four.map_modify u.td.carriers l (fun c => { c with location := .atBay }) _ fun _ => rfl
      have hvl : v.load id = some ld := (State.load_of_dp (hvdp.trans hudp) id).trans hld
      have hawait : v.reportAt l .atBay true = v.awaitClose l id := State.reportAtBay_waits hvo hvl (.inr ⟨hst, rfl⟩)
      have hvlen : v.lc.conds.length = 69 := by
        rw [hvlc, LC.raise_length, hulc, hlen]
      rw [State.finish_load, State.finish_isPending, hawait]
      exact ⟨State.awaitClose_load hvl l, (State.awaitClose_tellsIt (LC.tells_nil hvlen) l id).pending⟩
  · have hexec := exec_bayRise hrun hp
    generalize hu : (s.modBay l fun b => { b with present := true }) = u at hexec
    have hurun : u.phase = .running := by rw [← hu]; exact hrun
    have hutd : u.td = { s.td with bays := u.td.bays } := by rw [← hu]; rfl
    have hudp : u.dp = s.dp := by rw [← hu]; rfl
    have hulc : u.lc = s.lc := by rw [← hu]; rfl
    have hucar : u.carrier l = s.carrier l := by rw [← hu]; rfl
    have humove : u.td.move = s.td.move := by rw [hutd]
    have hubay : u.bay l = { s.bay l with present := true } := by rw [← hu, hbay]
    have hfree : u.presentRises l .atBay = u.relocate l .atBay := by
      rw [State.presentRises_free hurun (by rw [humove]; exact hmove)]
      simp [State.presentRisesFree, hucar, hloc]
    have hrelocate : u.relocate l .atBay =
        ((((u.setLocation l .atBay).dropQueued l .locationChanged).reportAt l .atBay false).raiseAt l .atBay) := rfl
    rw [hfree, hrelocate] at hexec
    have hentry : (u.setLocation l .atBay).td.entry l = s.td.entry l := by rw [← hu]; rfl
    have hvdp : ((u.setLocation l .atBay).dropQueued l .locationChanged).dp = s.dp := by simpa using hudp
    have hvbay : ((u.setLocation l .atBay).dropQueued l .locationChanged).bay l = u.bay l := by simp [State.bay, State.setLocation]
    have hvmove : ((u.setLocation l .atBay).dropQueued l .locationChanged).td.move = s.td.move := by
      simpa [State.setLocation] using humove
    have hvloc : (((u.setLocation l .atBay).dropQueued l .locationChanged).carrier l).location = .atBay := by
      rw [State.location_eq, State.dropQueued_locations, ← State.location_eq, State.setLocation, State.carrier_modCarrier,
        if_pos rfl]
    have hvholds : (((u.setLocation l .atBay).dropQueued l .locationChanged).carrier l).outstanding =
        (s.carrier l).outstanding := by
      rw [← hucar]
      exact State.holds_of ((State.dropQueued_holdings ..).trans (State.setLocation_holdings ..)) l
    have hvtells : ((u.setLocation l .atBay).dropQueued l .locationChanged).lc.Tells [] :=
      State.dropQueued_tells _ _ _ (LC.tells_nil (by rw [← hlen, ← hulc]; rfl))
    have hvdrop : ∀ e, s.td.entry l = some e →
        (((u.setLocation l .atBay).dropQueued l .locationChanged).carrier l).reservation = .none ∧
        ((u.setLocation l .atBay).dropQueued l .locationChanged).lc.conds[(Cond.lane l .moveFailed).num - 1]?.map (·.snapshot) =
          some (some [0x04#8, BitVec.ofNat 8 e.origin.code]) := by
      intro e he
      rw [State.dropQueued_some (hentry.trans he)]
      refine ⟨congrArg Carrier.reservation ((State.carrier_modCarrier ..).trans (if_pos rfl)), ?_⟩
      exact LC.raise_snapshot (by rw [← hlen, ← hulc]; rfl) (LaneCond.num_lt l .moveFailed) _
    have hvnone : ((u.setLocation l .atBay).dropQueued l .locationChanged).td.entry l = none := State.dropQueued_entry ..
    generalize (u.setLocation l .atBay).dropQueued l .locationChanged = v at *
    refine ⟨_, hexec, ?_, ?_, ?_, ?_, ?_, fun e he => ⟨?_, ?_⟩, fun id ld ho hld hst => ⟨fun hc => ?_, fun hc => ?_⟩⟩
    · have hfinal : ((v.reportAt l .atBay false).raiseAt l .atBay).finish.bay l = v.bay l := by simp [State.bay]
      rw [hfinal, hvbay, hubay]
    · simp only [State.finish_frame, State.raiseAt_td, State.reportAt_frame]
      exact hvmove
    · have hfinal : ((v.reportAt l .atBay false).raiseAt l .atBay).finish.carrier l = (v.reportAt l .atBay false).carrier l := by
        simp [State.carrier]
      rw [hfinal, (State.placed_of (v.reportAt_placing l .atBay false) l).1, hvloc]
    · have hfinal : ((v.reportAt l .atBay false).raiseAt l .atBay).finish.td.queue = v.td.queue := by simp
      exact (congrArg (List.find? fun e : Entry => decide (e.lane = l)) hfinal).trans hvnone
    · rw [State.finish_isPending]
      exact (State.raiseAt_tells_bay (State.reportAt_tells _ _ _ _ hvtells) l).pending
    · have hfinal : ((v.reportAt l .atBay false).raiseAt l .atBay).finish.carrier l = (v.reportAt l .atBay false).carrier l := by
        simp [State.carrier]
      rw [hfinal, (State.placed_of (v.reportAt_placing l .atBay false) l).2, (hvdrop e he).1]
    · have hraise : ((v.reportAt l .atBay false).raiseAt l .atBay).lc =
          (v.reportAt l .atBay false).lc.raise (Cond.lane l .carrierAtBay).num none := rfl
      rw [(State.finish_conds _).1, hraise, LC.raise_conds, if_neg (LaneCond.num_ne (c := .moveFailed) (d := .carrierAtBay) nofun l l),
        State.reportAt_conds _ _ _ _ _ (c := .moveFailed) nofun nofun]
      exact (hvdrop e he).2
    · have hread : v.readBay l = .empty := by simp [State.readBay, sensedContent, hvbay, hubay, hc]
      have hclose : v.reportAt l .atBay false = v.closeHeld id .taken := by
        unfold State.reportAt
        rw [if_pos rfl, hread]
        exact State.reportAtBay_taken (hvholds.trans ho) ((State.load_of_dp hvdp id).trans hld) hst false
      rw [State.finish_load, hclose]
      exact (State.closeHeld_load v id id .taken).trans (if_pos rfl)
    · have hread : v.readBay l = .content := by simp [State.readBay, sensedContent, hvbay, hubay, hc]
      have hvl := (State.load_of_dp hvdp id).trans hld
      have hawait : v.reportAt l .atBay false = v.awaitClose l id := by
        unfold State.reportAt
        rw [if_pos rfl, hread]
        exact State.reportAtBay_waits (hvholds.trans ho) hvl (.inl ⟨hst, rfl⟩)
      rw [State.finish_load, hawait]
      exact State.awaitClose_load hvl l
  · have hexec := exec_bayFall hrun hp
    rwa [State.presentFalls_idle (s := s.modBay l fun b => { b with present := false }) hm,
      State.disturbBay_none (s := s.modBay l fun b => { b with present := false }) hshuttle hhand] at hexec

/-! ## A presentation's success (R108, R109) -/

/-- The bundle in the carrier, the shuttle on its way back, LOAD_PRESENTED told (R108). -/
def State.presented (s : State) (l : Lane) (id : Nat) : State :=
  (({ (s.modCarrier l fun c =>
      { c with outstanding := some id, reservation := if c.reservation = .presenting then .none else c.reservation }).modLoad id
        (fun ld => { ld with state := .presented, holdDue := none, expiryMarked := false }) with
    ss := { s.ss with delivery := .empty, shuttle := .returning l (s.now + 1500) } } : State)).raiseLane l .loadPresented (u8 id)

section
variable {s : State} {l : Lane} {id : Nat} {ld : Load}

theorem State.presented_load (h : s.load id = some ld) :
    (s.presented l id).load id = some { ld with state := .presented, holdDue := none, expiryMarked := false } := by
  have hload : (s.modCarrier l fun c =>
      { c with outstanding := some id, reservation := if c.reservation = .presenting then .none else c.reservation }).load id =
      some ld := h
  exact State.modLoad_at hload (f := fun ld => { ld with state := .presented, holdDue := none, expiryMarked := false })
    fun _ => rfl

theorem State.presented_carrier (s : State) (l : Lane) (id : Nat) : (s.presented l id).carrier l =
    { s.carrier l with
      outstanding := some id
      reservation := if (s.carrier l).reservation = .presenting then .none else (s.carrier l).reservation } :=
  (Four.get_modify ..).trans (if_pos rfl)

/-- Without auto-send the presentation ends so. -/
theorem State.presentSucceeds_stays (h : s.load id = some ld) (ha : ld.autoSend = false) :
    s.presentSucceeds l id = s.presented l id := by
  have hload := State.presented_load (l := l) h
  unfold State.presentSucceeds
  dsimp only
  split
  · next ld' h' =>
    have hsame : some ld' = some { ld with state := .presented, holdDue := none, expiryMarked := false } :=
      h'.symm.trans hload
    have hauto : ld'.autoSend = false := by rw [Option.some.inj hsame]; exact ha
    exact if_neg (by rw [hauto]; exact Bool.false_ne_true)
  · rfl

/-- With auto-send an UP move is asked for, and its answer kept (R109). -/
theorem State.presentSucceeds_sends (h : s.load id = some ld) (ha : ld.autoSend = true) {u : State} {a : SendAnswer}
    (hask : (s.presented l id).askUp l .autoSend = (u, a)) :
    s.presentSucceeds l id = u.modLoad id fun ld => { ld with autoSendResult := some a } := by
  have hload := State.presented_load (l := l) h
  unfold State.presentSucceeds
  dsimp only
  split
  · next ld' h' =>
    have hsame : some ld' = some { ld with state := .presented, holdDue := none, expiryMarked := false } :=
      h'.symm.trans hload
    have hauto : ld'.autoSend = true := by rw [Option.some.inj hsame]; exact ha
    refine (if_pos hauto).trans ?_
    have hu : ((s.presented l id).askUp l .autoSend).1 = u := congrArg Prod.fst hask
    have ha : ((s.presented l id).askUp l .autoSend).2 = a := congrArg Prod.snd hask
    rw [← hu, ← ha]
    rfl
  · next h' => exact absurd (h'.symm.trans hload) nofun

end

/-- Content at the bay of a push ends the push (R108). -/
theorem exec_bayContent {s : State} {l : Lane} {due id n : Nat} (hrun : s.phase = .running)
    (hpush : s.ss.shuttle = .pushing l due) (hdel : s.ss.delivery = .presenting id n) (hp : (s.bay l).present = true)
    (hl : (s.carrier l).location = .atBay) (hm : s.td.move = none) :
    exec (.bayContentChange l true) s =
      .next ((s.modBay l fun b => { b with content := true }).presentSucceeds l id).finish := by
  have hbay : (s.modBay l fun b => { b with content := true }).td.bays.get l = { s.bay l with content := true } :=
    (State.bay_modBay ..).trans (if_pos rfl)
  have hcar : (s.modBay l fun b => { b with content := true }).td.carriers.get l = s.carrier l := rfl
  have hsettle : (s.modBay l fun b => { b with content := true }).td.settling l = false := by
    unfold TD.settling
    rw [State.modBay_td, hm]
  have hcontent : (s.modBay l fun b => { b with content := true }).bayContent l = .content := by
    unfold State.bayContent TD.content
    rw [hcar, hbay, hsettle, if_pos ⟨hl, hp, Bool.false_ne_true⟩]
    rfl
  refine exec_event_to rfl rfl (by rw [hrun]; exact nofun) ?_
  show s.bayContentLevel l true = _
  unfold State.bayContentLevel
  dsimp only
  rw [State.modBay_ss, hpush, hdel]
  exact if_pos ⟨rfl, hcontent⟩

/-- A carrier that is pushed into holds the load; its own reservation is released. -/
theorem State.presented_askUp_reservation {s : State} {l : Lane} (h : (s.carrier l).reservation = .presenting) (id : Nat) :
    ((s.presented l id).carrier l).reservation = .none := by
  rw [State.presented_carrier]
  exact if_pos h

/-! ## The bay's door (R31, R110, R130) -/

theorem exec_bayDoorOpens {s : State} {l : Lane} (hrun : s.phase = .running) (hd : (s.bay l).doorClosed = true) :
    exec (.bayDoorChange l false) s =
      .next (((s.modBay l fun b => { b with doorClosed := false }).originDoorOpens l .up).disturbBay l).finish := by
  refine exec_event_to rfl rfl (by rw [hrun]; exact nofun) ?_
  show s.bayDoor l false = _
  unfold State.bayDoor
  rw [if_neg (by rw [hd]; exact nofun), if_neg Bool.false_ne_true]

theorem State.originDoorOpens_idle {s : State} (h : s.td.move = none) (l : Lane) (dir : Dir) : s.originDoorOpens l dir = s := by
  unfold State.originDoorOpens
  rw [h]

theorem State.originDoorOpens_fails {s : State} {m : Move} (hm : s.td.move = some m) (hp : m.isPurge = false)
    (h : m.phase = .air ∨ (∃ due, m.phase = .divert due) ∨ (∃ due, m.phase = .launch due)) :
    s.originDoorOpens m.lane m.dir = s.failMove .doorOpened := by
  unfold State.originDoorOpens
  rw [hm]
  dsimp only
  rw [if_pos ⟨rfl, hp, rfl⟩]
  rcases h with h | ⟨due, h⟩ | ⟨due, h⟩ <;> rw [h]

/-- A setting in the middle of its settle is not known afterwards, where it did not stand right (R29). -/
theorem TD.abandonDivert_settling {td : TD} {m : Move} {due : Nat} (hm : td.move = some m) (hp : m.phase = .divert due) :
    (td.diverter ≠ some m.lane → td.abandonDivert.diverter = none) ∧
      (td.valve ≠ some m.dir → td.abandonDivert.valve = none) := by
  obtain ⟨l, dir, origin, isPurge, p⟩ := m
  dsimp only at hp
  subst hp
  unfold TD.abandonDivert
  rw [hm]
  exact ⟨fun h => if_neg h, fun h => if_neg h⟩

/-- Settles O39: content ends a push, an opening fails the move that waits there, and disturbs a push or a lift. -/
theorem bayContentAndDoorAct : Obligations.BayContentAndDoorAct := by
  intro l s hrun
  refine ⟨fun due id n ld hpush hdel hp hl hm hld => ⟨fun ha => ?_, fun ha hr ho he => ?_, fun ha hr hclosed => ?_⟩,
    fun content hs => ?_, fun c hc => ?_, fun hc => ?_, fun hc hm => ⟨fun hs hh => ?_, fun due hs hh => ?_,
      fun h hs hh hst hb hr => ?_⟩, fun m hc hm hl hp hdir hphase hlen => ?_⟩
  · have hexec := exec_bayContent hrun hpush hdel hp hl hm
    rw [State.presentSucceeds_stays (s := s.modBay l fun b => { b with content := true }) hld ha] at hexec
    refine ⟨_, hexec, ?_, fun hr => ?_, ?_, ?_, fun hlen => ?_, ?_⟩
    · rw [State.finish_carrier, State.presented_carrier]
    · rw [State.finish_carrier]
      exact State.presented_askUp_reservation (s := s.modBay l fun b => { b with content := true }) hr id
    · rw [State.finish_load]
      exact State.presented_load (s := s.modBay l fun b => { b with content := true }) hld
    · simp only [State.finish_frame]
      rfl
    · rw [State.finish_isPending]
      exact (LC.raise_tells_new (LC.tells_nil hlen) (LaneCond.num_lt l .loadPresented) _).pending
    · simp only [State.finish_frame]
      rfl
  · have hexec := exec_bayContent hrun hpush hdel hp hl hm
    generalize hu : (s.modBay l fun b => { b with content := true }) = u at hexec
    have huld : u.load id = some ld := by rw [← hu]; exact hld
    have hvload := State.presented_load (l := l) huld
    have hvcar := u.presented_carrier l id
    have hucar : u.carrier l = s.carrier l := by rw [← hu]; rfl
    have hvres : ((u.presented l id).carrier l).reservation = .none := by
      rw [hvcar, hucar]
      exact if_pos hr
    have hvtd : (u.presented l id).td.queue = s.td.queue := by rw [← hu]; rfl
    have hvnow : (u.presented l id).now = s.now := by rw [← hu]; rfl
    have hvss : (u.presented l id).ss = { s.ss with delivery := .empty, shuttle := .returning l (s.now + 1500) } := by
      rw [← hu]; rfl
    have hask := State.askUp_queues (s := u.presented l id) (l := l) .autoSend (by rw [← hu]; exact ho)
      (fun e hm' => by
        have hnone := List.find?_eq_none.mp he e (hvtd ▸ hm')
        simpa using hnone)
      (by rw [hvcar, hucar]; exact hl) (by rw [hvres]; exact List.mem_cons_self)
      (.inr (State.outstandingState_at (by rw [hvcar]) hvload))
    rw [State.presentSucceeds_sends huld ha hask] at hexec
    rw [hvtd] at hexec
    have hfinalcar : ∀ a, (((u.presented l id).enqueue l .up .autoSend).modLoad id
        fun ld => { ld with autoSendResult := some a }).carrier l =
        { (u.presented l id).carrier l with reservation := .queued } := fun a =>
      (State.carrier_modCarrier ..).trans (if_pos rfl)
    refine ⟨_, hexec, ?_, ?_, ?_, ?_, ?_⟩
    · rw [State.finish_carrier, hfinalcar, hvcar]
    · rw [State.finish_carrier, hfinalcar]
    · simp only [State.finish_frame]
      refine Eq.trans (b := (u.presented l id).td.queue ++
        [{ lane := l, dir := .up, origin := .autoSend, time := (u.presented l id).now }]) rfl ?_
      rw [hvtd, hvnow]
    · rw [State.finish_load]
      exact State.modLoad_at (s := (u.presented l id).enqueue l .up .autoSend) hvload (f := fun ld => { ld with
        autoSendResult := some (.queued (s.td.queue.length + 1)) }) fun _ => rfl
    · simp only [State.finish_frame]
      exact hvss
  · have hexec := exec_bayContent hrun hpush hdel hp hl hm
    generalize hu : (s.modBay l fun b => { b with content := true }) = u at hexec
    have huld : u.load id = some ld := by rw [← hu]; exact hld
    have hvload := State.presented_load (l := l) huld
    have hucar : u.carrier l = s.carrier l := by rw [← hu]; rfl
    have hask := State.askUp_notOpen (s := u.presented l id) (l := l) .autoSend (by rw [← hu]; exact hclosed)
    rw [State.presentSucceeds_sends huld ha hask] at hexec
    refine ⟨_, hexec, ?_, ?_, ?_⟩
    · rw [State.finish_carrier]
      exact State.presented_askUp_reservation (s := u) (by rw [hucar]; exact hr) id
    · simp only [State.finish_frame]
      rw [← hu]
      rfl
    · rw [State.finish_load]
      exact State.modLoad_at (s := u.presented l id) hvload (f := fun ld => { ld with
        autoSendResult := some (.refused .laneNotOpen) }) fun _ => rfl
  · refine exec_event_to rfl rfl (by rw [hrun]; exact nofun) ?_
    show s.bayContentLevel l content = _
    unfold State.bayContentLevel
    dsimp only
    rw [State.modBay_ss, hs]
  · refine exec_event_to rfl rfl (by rw [hrun]; exact nofun) ?_
    exact if_pos hc
  · refine exec_event_to rfl rfl (by rw [hrun]; exact nofun) ?_
    show s.bayDoor l true = _
    unfold State.bayDoor
    rw [if_neg (by rw [hc]; exact nofun), if_pos rfl]
  · have hexec := exec_bayDoorOpens hrun hc
    rwa [State.originDoorOpens_idle (s := s.modBay l fun b => { b with doorClosed := false }) hm,
      State.disturbBay_none (s := s.modBay l fun b => { b with doorClosed := false }) hs hh] at hexec
  · have hexec := exec_bayDoorOpens hrun hc
    rw [State.originDoorOpens_idle (s := s.modBay l fun b => { b with doorClosed := false }) hm] at hexec
    rw [hexec]
    have hdisturb : (s.modBay l fun b => { b with doorClosed := false }).disturbBay l =
        { (s.modBay l fun b => { b with doorClosed := false }) with
          ss := { s.ss with shuttle := .withdrawing l (s.now + 1500) .aborted } } := by
      simp [State.disturbBay, State.abortPush, State.abortLift, hs, hh, Config.shuttleReturn]
    rw [hdisturb]
    rfl
  · have hexec := exec_bayDoorOpens hrun hc
    rw [State.originDoorOpens_idle (s := s.modBay l fun b => { b with doorClosed := false }) hm] at hexec
    rw [hexec]
    have hdisturb : (s.modBay l fun b => { b with doorClosed := false }).disturbBay l =
        { (s.modBay l fun b => { b with doorClosed := false }) with
          cu := { s.cu with hand := some { h with returning := some .aborted, due := some (s.now + 1000) } } } := by
      simp [State.disturbBay, State.abortPush, State.abortLift, hs, hh, hst, hb, hr, Config.armReturn]
    rw [hdisturb]
    rfl
  · subst hl
    have hexec := exec_bayDoorOpens hrun hc
    rw [← hdir, State.originDoorOpens_fails (s := s.modBay m.lane fun b => { b with doorClosed := false }) hm hp hphase,
      State.failMove_some (s := s.modBay m.lane fun b => { b with doorClosed := false }) hm] at hexec
    refine ⟨_, hexec, ?_, ?_, ?_, ?_, ?_, fun hd hne => ?_, fun hd hne => ?_⟩
    · simp only [State.finish_frame, State.disturbBay_frame]
    · rw [State.finish_bay]
      have hbays : ∀ u : State, (u.disturbBay m.lane).bay m.lane = u.bay m.lane := fun u => by simp [State.bay]
      rw [hbays]
      refine (congrArg (fun bs => (bs.get m.lane).doorClosed) (TD.abandonDivert_frame _).2.1).trans ?_
      exact congrArg Bay.doorClosed ((State.bay_modBay s m.lane m.lane _).trans (if_pos rfl))
    · have hcar : ∀ u : State, (u.disturbBay m.lane).carrier m.lane = u.carrier m.lane := fun u => by simp [State.carrier]
      rw [State.finish_carrier, hcar]
      exact (Four.get_modify ..).trans (if_pos rfl)
    · simp only [State.finish_frame, State.disturbBay_frame]
      rw [(AS.driveIdle_demand _ _).1, AS.release_demand]
    · rw [(State.finish_conds _).1]
      simp only [State.disturbBay_frame]
      exact LC.raise_snapshot hlen (LaneCond.num_lt m.lane .moveFailed) _
    · simp only [State.finish_frame, State.disturbBay_frame]
      obtain ⟨due, hd⟩ := hd
      exact (TD.abandonDivert_settling (td := (s.modBay m.lane fun b => { b with doorClosed := false }).td) hm hd).1 hne
    · simp only [State.finish_frame, State.disturbBay_frame]
      obtain ⟨due, hd⟩ := hd
      exact (TD.abandonDivert_settling (td := (s.modBay m.lane fun b => { b with doorClosed := false }).td) hm hd).2
        (by rw [hdir]; exact hne)

end Sys2Proof.Machine
end

section
/-! The air supply: its requests, its events, and what a failure of the duty blower leaves (chapter 3). -/

namespace Sys2Proof.Machine

/-! ## The zones' causes (R169) -/

/-- A zone's cause, as a function of the zone. -/
def Zones.cause (zs : Zones) (z : ZoneId) : Bool := (zs.get z).cause

theorem State.cause_eq (s : State) (z : ZoneId) : (s.zone z).cause = s.au.zones.cause z := rfl

@[simp] theorem Zones.set_cause {zs : Zones} {z : ZoneId} {r : Zone} (h : r.cause = (zs.get z).cause) :
    (zs.set z r).cause = zs.cause := by
  funext k
  simp only [Zones.cause, Zones.get_set]
  split
  · next hk => rw [hk]; exact h
  · rfl

@[simp] theorem State.zoneTo_causes (s : State) (z : ZoneId) (entered : ZoneState) :
    (s.zoneTo z entered).au.zones.cause = s.au.zones.cause := by
  funext k
  simp only [Zones.cause, State.zoneTo_zone]
  split
  · next hk => rw [hk.1]; rfl
  · rfl

@[simp] theorem State.zoneIdle_causes (s : State) (z : ZoneId) :
    (s.zoneIdle z).au.zones.cause = s.au.zones.cause := by
  unfold State.zoneIdle
  dsimp only
  (repeat' split) <;> simp

@[simp] theorem State.startDelay_causes (s : State) (d : Door) :
    (s.startDelay d).au.zones.cause = s.au.zones.cause := by
  unfold State.startDelay
  split <;> simp

@[simp] theorem State.closeWindow_causes (s : State) (d : Door) :
    (s.closeWindow d).au.zones.cause = s.au.zones.cause := by
  unfold State.closeWindow
  dsimp only
  split <;> simp

@[simp] theorem State.lockIn_causes (s : State) (z : ZoneId) : (s.lockIn z).au.zones.cause = s.au.zones.cause := by
  unfold State.lockIn
  dsimp only
  split <;> simp

@[simp] theorem State.doorOpens_causes (s : State) (d : Door) :
    (s.doorOpens d).au.zones.cause = s.au.zones.cause := by
  unfold State.doorOpens
  dsimp only
  (repeat' split) <;> simp

@[simp] theorem State.causeRises_causes (s : State) (z : ZoneId) :
    (s.causeRises z).au.zones.cause = s.au.zones.cause := by
  unfold State.causeRises
  (repeat' split) <;> simp

@[simp] theorem State.causeFalls_causes (s : State) (z : ZoneId) :
    (s.causeFalls z).au.zones.cause = s.au.zones.cause := by
  unfold State.causeFalls
  (repeat' split) <;> simp

/-- A report sets the zone's own cause and no other's (R169). -/
theorem State.setCause_causes (s : State) (z : ZoneId) (active : Bool) (k : ZoneId) :
    (s.setCause z active).au.zones.cause k = if k = z then active else s.au.zones.cause k := by
  have hset : (s.modZone z fun r => { r with cause := active }).au.zones.cause k =
      if k = z then active else s.au.zones.cause k := by
    simp only [State.modZone_zones, Zones.cause, Zones.get_set]
    split <;> rfl
  unfold State.setCause
  dsimp only
  split
  · next h =>
    split
    · next hk => rw [hk]; exact h
    · rfl
  · split
    · split
      · rw [State.causeRises_causes]; exact hset
      · rw [State.causeFalls_causes]; exact hset
    · exact hset

@[simp] theorem State.evaluateTamper_causes (s : State) (l : Lane) :
    (s.evaluateTamper l).au.zones.cause = s.au.zones.cause := by
  unfold State.evaluateTamper
  dsimp only
  (repeat' split) <;> simp

@[simp] theorem State.evaluateZone_causes (s : State) (z : ZoneId) :
    (s.evaluateZone z).au.zones.cause = s.au.zones.cause := by
  unfold State.evaluateZone
  (repeat' split) <;> simp

@[simp] theorem State.endStartUp_causes (s : State) : s.endStartUp.au.zones.cause = s.au.zones.cause := by
  unfold State.endStartUp
  show (ZoneId.all.foldl State.evaluateZone s).au.zones.cause = _
  generalize ZoneId.all = zs
  induction zs generalizing s with
  | nil => rfl
  | cons z zs ih => exact (ih _).trans (s.evaluateZone_causes z)

@[simp] theorem State.airStepEnds_causes (s : State) : s.airStepEnds.au.zones.cause = s.au.zones.cause := by
  unfold State.airStepEnds
  split <;> simp

/-! ## What has risen stays risen, through the supply's operations -/

section
set_option backward.isDefEq.respectTransparency false
variable {told : List Nat}

@[simp] theorem State.tellJam_tells (s : State) (ht : s.lc.Tells told) : s.tellJam.lc.Tells told := by
  simp [State.tellJam, ht]

@[simp] theorem State.airChange_tells (s : State) (ht : s.lc.Tells told) : s.airChange.lc.Tells told := by
  simp [State.airChange, ht]

@[simp] theorem State.airSwap_tells (s : State) (ht : s.lc.Tells told) : s.airSwap.lc.Tells told := by
  simp [State.airSwap, ht]

@[simp] theorem State.dutyFails_tells (s : State) (ht : s.lc.Tells told) : s.dutyFails.lc.Tells told := by
  simp [State.dutyFails, ht]

@[simp] theorem State.airFault_tells (s : State) (ht : s.lc.Tells told) : s.airFault.1.lc.Tells told := by
  unfold State.airFault
  exact State.setCause_tells _ _ _ (State.airChange_tells _ ht)

@[simp] theorem State.airLeavesFault_tells (s : State) (ht : s.lc.Tells told) : s.airLeavesFault.lc.Tells told := by
  simp [State.airLeavesFault, ht]

@[simp] theorem State.airReexamine_tells (s : State) (ht : s.lc.Tells told) : s.airReexamine.lc.Tells told := by
  unfold State.airReexamine
  (repeat' split) <;> simp [ht]

@[simp] theorem State.airSwapOrFault_tells (s : State) (ht : s.lc.Tells told) : s.airSwapOrFault.1.lc.Tells told := by
  unfold State.airSwapOrFault
  split <;> simp [ht]

@[simp] theorem State.overdue_keeps_told (s : State) (ht : s.lc.Tells told) : s.overdue.lc.Tells told := by
  cases hm : s.td.move with
  | none => simpa [State.overdue, hm] using ht
  | some m =>
    have hlc : ∀ u : State, u.endMove.lc = u.lc := fun u => by simp
    have hreasons := State.setReasons_tells (s.releasePressure.setLocation m.lane .unknown) m.lane Reasons.lost ht
    rw [State.overdue_some hm, hlc]
    exact LC.raise_tells (State.tellJam_tells _ hreasons) _ _

@[simp] theorem State.toldAirFault_tells (s : State) (ht : s.lc.Tells told) : s.toldAirFault.lc.Tells told := by
  unfold State.toldAirFault
  (repeat' split) <;> simp [ht]

@[simp] theorem State.evaluateTamper_tells (s : State) (l : Lane) (ht : s.lc.Tells told) :
    (s.evaluateTamper l).lc.Tells told := by
  have hidle : ((s.modZone (.tamper l) fun r => { r with heldLatched := false }).zoneTo (.tamper l) .idle).lc.Tells told :=
    State.zoneTo_tells _ _ _ ht
  unfold State.evaluateTamper
  dsimp only
  (repeat' split) <;> simp [hidle, ht]

@[simp] theorem State.evaluateZone_tells (s : State) (z : ZoneId) (ht : s.lc.Tells told) :
    (s.evaluateZone z).lc.Tells told := by
  unfold State.evaluateZone
  (repeat' split) <;> simp [ht]

@[simp] theorem State.endStartUp_tells (s : State) (ht : s.lc.Tells told) : s.endStartUp.lc.Tells told := by
  unfold State.endStartUp
  show (ZoneId.all.foldl State.evaluateZone s).lc.Tells told
  generalize ZoneId.all = zs
  induction zs generalizing s with
  | nil => exact ht
  | cons z zs ih => exact ih _ (s.evaluateZone_tells z ht)

@[simp] theorem State.airStepEnds_tells (s : State) (ht : s.lc.Tells told) : s.airStepEnds.lc.Tells told := by
  unfold State.airStepEnds
  split <;> simp [ht]

end

/-! ## The air supply's record (R47, R48) -/

section
variable (as : AS) (w k : AB) (f : Blower → Blower)

theorem AS.modBlower_blower : (as.modBlower w f).blower k = if k = w then f (as.blower k) else as.blower k := by
  cases w <;> cases k <;> rfl

/-- A change of a blower leaves all else of the supply. -/
theorem AS.modBlower_rest : as.modBlower w f =
    { as with blowerA := (as.modBlower w f).blowerA, blowerB := (as.modBlower w f).blowerB } := by
  cases w <;> rfl

theorem AB.other_ne : w.other ≠ w := by cases w <;> nofun

theorem AB.other_other : w.other.other = w := by cases w <;> rfl

theorem AB.eq_other {w k : AB} (h : k ≠ w) : w.other = k := by
  cases w <;> cases k <;> first | rfl | exact absurd rfl h

theorem blowerOf_abCode : blowerOf (abCode w) = some w := by cases w <;> rfl

end

theorem blowerOf_none {n : Nat} (h1 : n ≠ 1) (h2 : n ≠ 2) : blowerOf n = none := by
  unfold blowerOf
  split
  · exact absurd rfl h1
  · exact absurd rfl h2
  · rfl

theorem modeOf_some {n : Nat} (h : n = 1 ∨ n = 2) : modeOf n = some (n == 2) ∧ modeCode (n == 2) = n := by
  rcases h with rfl | rfl <;> exact ⟨rfl, rfl⟩

theorem modeOf_none {n : Nat} (h1 : n ≠ 1) (h2 : n ≠ 2) : modeOf n = none := by
  unfold modeOf
  split
  · exact absurd rfl h1
  · exact absurd rfl h2
  · rfl

theorem yesNo_auto {n : Nat} (h : n ≤ 1) : yesNo (n == 1) = u8 n := by
  interval_cases n <;> rfl

/-! ## The roles and FAULT (R47, R51, R52) -/

/-- A supply with its roles chosen. -/
def AS.withDuty (as : AS) (w : AB) : AS := { as with set := { as.set with duty := w } }

theorem State.airSwap_as (s : State) : s.airSwap.as = s.as.withDuty s.as.set.duty.other := rfl

theorem State.airSwap_tellsIt {told : List Nat} {s : State} (ht : s.lc.Tells told) : s.airSwap.lc.Tells (68 :: told) :=
  LC.raise_tells_new ht (by decide) _

theorem State.setCause_airFail (s : State) (active : Bool) : (s.setCause .airFail active).as = s.as ∧
    ((s.setCause .airFail active).zone .airFail).cause = active := by
  refine ⟨by simp, ?_⟩
  rw [State.cause_eq, State.setCause_causes, if_pos rfl]

/-- FAULT is left for ECONOMY with AIR_FAIL's cause normal (R52). -/
theorem State.airLeavesFault_as (s : State) : s.airLeavesFault.as = s.as.enterEconomy s.now ∧
    (s.airLeavesFault.zone .airFail).cause = false :=
  (s.modAS fun as => as.enterEconomy s.now).setCause_airFail false

theorem State.airLeavesFault_tellsIt {told : List Nat} {s : State} (ht : s.lc.Tells told) :
    s.airLeavesFault.lc.Tells (68 :: told) :=
  LC.raise_tells_new (State.setCause_tells (s.modAS fun as => as.enterEconomy s.now) .airFail false ht) (by decide) _

theorem State.airReexamine_other {s : State} (h : s.as.state ≠ .fault) : s.airReexamine = s := if_pos h

section
variable {s : State}

theorem State.airReexamine_good (h : s.as.state = .fault) (hd : s.as.duty.failed = false) :
    s.airReexamine = s.airLeavesFault := by
  simp [State.airReexamine, h, hd]

theorem State.airReexamine_swaps (h : s.as.state = .fault) (hd : s.as.duty.failed = true) (hs : s.as.canSwap = true) :
    s.airReexamine = s.airSwap.airLeavesFault := by
  simp [State.airReexamine, h, hd, hs]

theorem State.airReexamine_stays (hd : s.as.duty.failed = true) (hs : s.as.canSwap = false) : s.airReexamine = s := by
  simp [State.airReexamine, hd, hs]

/-! ## AIR_SETTINGS (R55 to R57, R59) -/

/-- The roles as AIR_SETTINGS chooses them. -/
def State.choosing (s : State) (w : AB) : State :=
  if (s.as.state = .economy ∨ s.as.state = .fault) ∧ s.as.set.duty ≠ w then s.airSwap else s

theorem State.airChoose_eq (s : State) (w : AB) : s.airChoose w = (s.choosing w).airReexamine := rfl

theorem State.choosing_as (h : s.as.state = .economy ∨ s.as.state = .fault) (w : AB) :
    (s.choosing w).as = s.as.withDuty w := by
  unfold State.choosing
  by_cases hd : s.as.set.duty = w
  · rw [if_neg fun hn => hn.2 hd]
    simp [AS.withDuty, ← hd]
  · rw [if_pos ⟨h, hd⟩, State.airSwap_as, AB.eq_other (Ne.symm hd)]

theorem State.choosing_tells {told : List Nat} (ht : s.lc.Tells told) (w : AB) : (s.choosing w).lc.Tells told := by
  unfold State.choosing
  split
  · exact State.airSwap_tells s ht
  · exact ht

theorem State.choosing_frame (s : State) (w : AB) : (s.choosing w).now = s.now ∧ (s.choosing w).lc.replies = s.lc.replies := by
  unfold State.choosing
  split <;> simp

theorem State.airChoose_settled (he : s.as.state ≠ .economy) (hf : s.as.state ≠ .fault) (w : AB) : s.airChoose w = s := by
  have hch : s.choosing w = s := if_neg fun hn => hn.1.elim he hf
  rw [State.airChoose_eq, hch, State.airReexamine_other hf]

theorem State.airChoose_economy (h : s.as.state = .economy) (w : AB) : s.airChoose w = s.choosing w := by
  rw [State.airChoose_eq, State.airReexamine_other]
  rw [State.choosing_as (.inl h)]
  show s.as.state ≠ .fault
  rw [h]
  exact nofun

/-- In ECONOMY the choice is the duty blower afterwards, AIR_CHANGE telling a swap (R59). -/
theorem State.airChoose_swaps (h : s.as.state = .economy) {w : AB} (hd : w ≠ s.as.set.duty) {told : List Nat}
    (ht : s.lc.Tells told) : (s.airChoose w).as = s.as.withDuty w ∧ (s.airChoose w).lc.Tells (68 :: told) := by
  rw [State.airChoose_economy h]
  refine ⟨State.choosing_as (.inl h) w, ?_⟩
  unfold State.choosing
  rw [if_pos ⟨.inl h, Ne.symm hd⟩]
  exact State.airSwap_tellsIt ht

/-- In FAULT a GOOD blower that can be on duty leads to ECONOMY (R52, R59). -/
theorem State.airChoose_leaves (h : s.as.state = .fault) {w : AB} {told : List Nat} (ht : s.lc.Tells told)
    (hgood : (s.as.blower w).failed = false ∨ (s.as.set.autoSwitch = true ∧ (s.as.blower w.other).failed = false)) :
    (s.airChoose w).as = (s.as.withDuty (if (s.as.blower w).failed = false then w else w.other)).enterEconomy s.now ∧
      ((s.airChoose w).zone .airFail).cause = false ∧ (s.airChoose w).lc.Tells (68 :: told) := by
  have has := State.choosing_as (.inr h) w
  have hstate : (s.choosing w).as.state = .fault := by rw [has]; exact h
  have hduty : (s.choosing w).as.duty = s.as.blower w := by rw [has]; rfl
  have htells := State.choosing_tells ht w
  have hnow := (s.choosing_frame w).1
  rw [State.airChoose_eq]
  cases hw : (s.as.blower w).failed with
  | false =>
    rw [State.airReexamine_good hstate (by rw [hduty]; exact hw), if_pos rfl]
    obtain ⟨hleft, hcause⟩ := (s.choosing w).airLeavesFault_as
    exact ⟨by rw [hleft, has, hnow], hcause, State.airLeavesFault_tellsIt htells⟩
  | true =>
    obtain ⟨hauto, hother⟩ := hgood.resolve_left (by rw [hw]; exact nofun)
    have hswap : (s.choosing w).as.canSwap = true := by
      have hstandby : (s.as.withDuty w).standby = s.as.blower w.other := rfl
      rw [has, AS.canSwap, hstandby, hother]
      simpa [AS.withDuty] using hauto
    rw [State.airReexamine_swaps hstate (by rw [hduty]; exact hw) hswap, if_neg nofun]
    obtain ⟨hleft, hcause⟩ := (s.choosing w).airSwap.airLeavesFault_as
    refine ⟨?_, hcause, State.airLeavesFault_tellsIt (State.airSwap_tells _ htells)⟩
    have hswapped : (s.choosing w).airSwap.as = s.as.withDuty w.other := by
      rw [State.airSwap_as, has]
      rfl
    have hnow' : (s.choosing w).airSwap.now = s.now := by rw [← hnow]; rfl
    rw [hleft, hswapped, hnow']

theorem State.airChoose_faulted (h : s.as.state = .fault) {w : AB} (hbad : (s.as.blower w).failed = true)
    (hother : s.as.set.autoSwitch = false ∨ (s.as.blower w.other).failed = true) :
    (s.airChoose w).as = s.as.withDuty w := by
  have has := State.choosing_as (.inr h) w
  have hduty : (s.choosing w).as.duty = s.as.blower w := by rw [has]; rfl
  have hswap : (s.choosing w).as.canSwap = false := by
    have hstandby : (s.as.withDuty w).standby = s.as.blower w.other := rfl
    rw [has, AS.canSwap, hstandby]
    rcases hother with ho | ho
    · have hset : (s.as.withDuty w).set.autoSwitch = false := ho
      simp [hset]
    · simp [ho]
  rw [State.airChoose_eq, State.airReexamine_stays (by rw [hduty]; exact hbad) hswap, has]

end

/-- The settings as AIR_SETTINGS applies them, the idle count with them (R55, R59). -/
def State.airApplied (s : State) (count : Count) (set : AirSettings) : State :=
  { s with as := { s.as with idle := count, set := set } }

theorem State.airApply_eq (s : State) (directed : Bool) (idle refresh : Nat) (auto : Bool) :
    s.airApply directed idle refresh auto = (s.airApplied
      (if directed = true then Count.zero
        else if s.as.set.directed = true ∧ s.as.state = .ready ∧ s.as.driveHeld = false then ⟨0, some s.now⟩ else s.as.idle)
      ⟨s.as.set.duty, directed, max 10 (min 600 idle), max 60 (min 3600 refresh), auto⟩).airCompare := by
  unfold State.airApply
  dsimp only
  cases directed with
  | true => rfl
  | false =>
    rw [if_neg Bool.false_ne_true, if_neg Bool.false_ne_true]
    by_cases h : s.as.set.directed = true ∧ s.as.state = .ready ∧ s.as.driveHeld = false
    · rw [if_pos h]
      exact congrArg State.airCompare (if_pos h)
    · rw [if_neg h]
      exact congrArg State.airCompare (if_neg h)

section
variable {s : State}

/-- No count stands at its limit. -/
theorem State.airCompare_below
    (hr : s.as.state = .ready → s.as.set.directed = true ∨ s.as.idle.since = none ∨
      s.as.idle.value s.now < s.as.set.idleThreshold * 1000)
    (he : s.as.state = .economy → s.as.refresh.since = none ∨ s.as.refresh.value s.now < s.as.set.refreshInterval * 1000) :
    s.airCompare = s := by
  unfold State.airCompare
  rw [if_neg, if_neg]
  · rintro ⟨hst, hsince, hval⟩
    rcases he hst with h | h
    · rw [h] at hsince; exact absurd hsince nofun
    · omega
  · rintro ⟨hst, hdir, hsince, hval⟩
    rcases hr hst with h | h | h
    · rw [h] at hdir; exact absurd hdir nofun
    · rw [h] at hsince; exact absurd hsince nofun
    · omega

theorem State.airCompare_idle (hst : s.as.state = .ready) (hdir : s.as.set.directed = false) (hs : s.as.idle.since ≠ none)
    (hv : s.as.set.idleThreshold * 1000 ≤ s.as.idle.value s.now) :
    s.airCompare = s.modAS fun as => as.enterEconomy s.now := by
  unfold State.airCompare
  exact if_pos ⟨hst, hdir, Option.isSome_iff_ne_none.mpr hs, hv⟩

theorem State.airCompare_refresh (hst : s.as.state = .economy) (hs : s.as.refresh.since ≠ none)
    (hv : s.as.set.refreshInterval * 1000 ≤ s.as.refresh.value s.now) :
    s.airCompare = s.modAS fun as => as.enterRefresh s.now := by
  unfold State.airCompare
  rw [if_neg (by rw [hst]; exact fun h => absurd h.1 nofun), if_pos ⟨hst, Option.isSome_iff_ne_none.mpr hs, hv⟩]

end

/-- AIR_SETTINGS is its settings applied, the counts compared, the duty chosen, and the answer (R59). -/
theorem State.ownAirSettings_eq {tag mode idle refresh auto : Nat} {chosen : AB} (hm : mode = 1 ∨ mode = 2) (ha : auto ≤ 1)
    (s : State) {u : State} (hu : (s.airApply (mode == 2) idle refresh (auto == 1)).airChoose chosen = u) {w : AB}
    {threshold interval : Nat} (hset : u.as.set = ⟨w, mode == 2, threshold, interval, auto == 1⟩) :
    s.ownAirSettings tag mode idle refresh auto (abCode chosen) =
      u.replied 0x20 tag (0x00#8 :: (u8 mode ++ u16 threshold ++ u16 interval ++ u8 auto ++ u8 (abCode w))) := by
  unfold State.ownAirSettings
  rw [(modeOf_some hm).1, onOff_le ha, blowerOf_abCode]
  dsimp only
  rw [hu, hset, (modeOf_some hm).2, yesNo_auto ha, State.ok_replied rfl]

theorem exec_airSettings {tag mode idle refresh auto threshold interval : Nat} {chosen w : AB} {s : State} {count : Count}
    {set : AirSettings} (hs : s.Serves tag) (hm : mode = 1 ∨ mode = 2) (ha : auto ≤ 1)
    (ht : threshold = max 10 (min 600 idle)) (hi : interval = max 60 (min 3600 refresh))
    (hc : count = (if mode = 2 then Count.zero
        else if s.as.set.directed = true ∧ s.as.state = .ready ∧ s.as.driveHeld = false then ⟨0, some s.now⟩ else s.as.idle))
    (hset : set = ⟨s.as.set.duty, mode == 2, threshold, interval, auto == 1⟩) {u : State}
    (hu : ((s.counted.airApplied count set).airCompare).airChoose chosen = u)
    (huset : u.as.set = { set with duty := w }) :
    exec (.airSettings tag mode idle refresh auto (abCode chosen)) s = .next (u.replied 0x20 tag
      (0x00#8 :: (u8 mode ++ u16 threshold ++ u16 interval ++ u8 auto ++ u8 (abCode w)))).finish := by
  refine exec_serves_to rfl hs (State.ownAirSettings_eq hm ha s.counted ?_ (by rw [huset, hset]))
  have hcount : (if (mode == 2) = true then Count.zero
        else if s.counted.as.set.directed = true ∧ s.counted.as.state = .ready ∧ s.counted.as.driveHeld = false
          then ⟨0, some s.counted.now⟩ else s.counted.as.idle) = count := by
    rw [hc]
    simp only [beq_iff_eq]
    rfl
  rw [← hu, State.airApply_eq, hcount, hset, ht, hi]
  rfl

theorem State.replied_tells {told : List Nat} {s : State} (ht : s.lc.Tells told) (kind tag : Nat) (body : List Byte) :
    (s.replied kind tag body).lc.Tells told := ht

/-- What a state that has given its answer reads as after the finish of the step. -/
theorem State.answered_reads (u : State) (kind tag : Nat) (body : List Byte) :
    ((u.replied kind tag body).finish).as = u.as ∧
      ((u.replied kind tag body).finish).lc.replies = u.lc.replies ++ [answer kind tag body] ∧
      (∀ n, ((u.replied kind tag body).finish).lc.isPending n = u.lc.isPending n) ∧
      ∀ z, ((u.replied kind tag body).finish).zone z = u.zone z := by
  refine ⟨by simp only [State.finish_frame]; rfl, by simp only [State.finish_frame]; rfl, fun n => ?_, fun z => ?_⟩
  · rw [State.finish_isPending]
    rfl
  · show ((u.replied kind tag body).finish).au.zones.get z = _
    simp only [State.finish_frame]
    rfl

theorem State.airFoundClosed_open {s : State} (h : s.as.duty.switchClosed = false) : s.spinUpFound = s := by
  have hfound : s.airFoundClosed = (s, false) := if_neg fun hn => absurd (hn.2.symm.trans h) nofun
  unfold State.spinUpFound
  rw [hfound]
  rfl

theorem State.airLeavesFault_blower (s : State) (w : AB) : s.airLeavesFault.as.blower w = s.as.blower w := by
  rw [(s.airLeavesFault_as).1]
  cases w <;> rfl

/-- A re-examination of FAULT changes no blower. -/
theorem State.airReexamine_blower (s : State) (w : AB) : s.airReexamine.as.blower w = s.as.blower w := by
  have hswap : s.airSwap.as.blower w = s.as.blower w := by cases w <;> rfl
  unfold State.airReexamine
  split
  · rfl
  · split
    · exact s.airLeavesFault_blower w
    · split
      · rw [State.airLeavesFault_blower, hswap]
      · rfl

theorem State.airReexamine_keeps (s : State) : s.airReexamine.li = s.li ∧ s.airReexamine.td = s.td ∧ s.airReexamine.dp = s.dp ∧
    s.airReexamine.lc.replies = s.lc.replies := by
  unfold State.airReexamine
  (repeat' split) <;> simp

theorem State.airChoose_replies (s : State) (w : AB) : (s.airChoose w).lc.replies = s.lc.replies :=
  ((s.choosing w).airReexamine_keeps).2.2.2.trans (s.choosing_frame w).2

theorem State.airCompare_replies (s : State) : s.airCompare.lc.replies = s.lc.replies := by
  unfold State.airCompare
  (repeat' split) <;> rfl

/-- What AIR_RESET leaves: the blower GOOD, and FAULT left where the roles allow it (R52, R62). -/
theorem State.airResets_failed {s : State} {which : AB} (h : (s.as.blower which).failed = true)
    (hlen : s.lc.conds.length = 69) :
    ((s.airResets which).as.blower which).failed = false ∧
      (s.airResets which).as.blower which.other = s.as.blower which.other ∧ (s.airResets which).lc.Tells [68] ∧
      (s.as.state ≠ .fault → (s.airResets which).as.state = s.as.state ∧ (s.airResets which).as.set = s.as.set) ∧
      (s.as.state = .fault → s.as.set.duty = which → (s.airResets which).as.state = .economy ∧
        (s.airResets which).as.set = s.as.set ∧ ((s.airResets which).zone .airFail).cause = false) ∧
      (s.as.state = .fault → s.as.set.duty ≠ which → s.as.duty.failed = true →
        (s.as.set.autoSwitch = true → (s.airResets which).as.state = .economy ∧
          (s.airResets which).as.set = { s.as.set with duty := which } ∧
          ((s.airResets which).zone .airFail).cause = false) ∧
        (s.as.set.autoSwitch = false → (s.airResets which).as.state = .fault ∧ (s.airResets which).as.set = s.as.set)) ∧
      (s.airResets which).li = s.li ∧ (s.airResets which).td = s.td ∧ (s.airResets which).dp = s.dp ∧
      (s.airResets which).lc.replies = s.lc.replies := by
  have hresets : s.airResets which =
      ((s.modAS fun as => as.modBlower which fun r => { r with failed := false }).airChange).airReexamine := if_pos h
  rw [hresets]
  have htells : ((s.modAS fun as => as.modBlower which fun r => { r with failed := false }).airChange).lc.Tells [68] :=
    LC.raise_tells_new (LC.tells_nil hlen) (by decide) _
  have huas : ((s.modAS fun as => as.modBlower which fun r => { r with failed := false }).airChange).as =
      s.as.modBlower which fun r => { r with failed := false } := rfl
  have hukeeps : ∀ u : State, u = (s.modAS fun as => as.modBlower which fun r => { r with failed := false }).airChange →
      u.li = s.li ∧ u.td = s.td ∧ u.dp = s.dp ∧ u.lc.replies = s.lc.replies := fun u hu => by
    rw [hu]
    simp
  generalize (s.modAS fun as => as.modBlower which fun r => { r with failed := false }).airChange = u at htells huas hukeeps
  obtain ⟨hli, htd, hdp, hreplies⟩ := hukeeps u rfl
  have hrest := AS.modBlower_rest s.as which fun r => { r with failed := false }
  rw [← huas] at hrest
  have hstate : u.as.state = s.as.state := by rw [hrest]
  have hset : u.as.set = s.as.set := by rw [hrest]
  have hblower : ∀ w, u.as.blower w = if w = which then { s.as.blower w with failed := false } else s.as.blower w := fun w => by
    rw [huas]
    exact AS.modBlower_blower ..
  have hwhich : (u.as.blower which).failed = false := by rw [hblower, if_pos rfl]
  have hother : u.as.blower which.other = s.as.blower which.other := by rw [hblower, if_neg (AB.other_ne which)]
  obtain ⟨hrli, hrtd, hrdp, hrreplies⟩ := u.airReexamine_keeps
  refine ⟨by rw [State.airReexamine_blower]; exact hwhich, by rw [State.airReexamine_blower]; exact hother,
    State.airReexamine_tells u htells, fun hst => ?_, fun hst hd => ?_, fun hst hd hf => ⟨fun hauto => ?_, fun hauto => ?_⟩,
    hrli.trans hli, hrtd.trans htd, hrdp.trans hdp, hrreplies.trans hreplies⟩
  · rw [State.airReexamine_other (by rw [hstate]; exact hst)]
    exact ⟨hstate, hset⟩
  · have hgood : u.as.duty.failed = false := by
      rw [AS.duty, hset, hd]
      exact hwhich
    rw [State.airReexamine_good (hstate.trans hst) hgood]
    obtain ⟨hleft, hcause⟩ := u.airLeavesFault_as
    rw [hleft]
    exact ⟨rfl, hset, hcause⟩
  all_goals
    have hwo : s.as.set.duty.other = which := AB.eq_other (Ne.symm hd)
    have hbad : u.as.duty.failed = true := by
      rw [AS.duty, hset, hblower, if_neg hd]
      exact hf
    have hstandby : u.as.standby.failed = false := by
      rw [AS.standby, hset, hwo]
      exact hwhich
  · have hswap : u.as.canSwap = true := by simp [AS.canSwap, hset, hauto, hstandby]
    rw [State.airReexamine_swaps (hstate.trans hst) hbad hswap]
    obtain ⟨hleft, hcause⟩ := u.airSwap.airLeavesFault_as
    rw [hleft]
    refine ⟨rfl, ?_, hcause⟩
    show { u.as.set with duty := u.as.set.duty.other } = _
    rw [hset, hwo]
  · have hswap : u.as.canSwap = false := by simp [AS.canSwap, hset, hauto]
    rw [State.airReexamine_stays hbad hswap]
    exact ⟨hstate.trans hst, hset⟩

/-- Settles O40: each request by the state of the supply, the settings through their comparison and the duty choice. -/
theorem airRequestsGoByTheState : Obligations.AirRequestsGoByTheState := by
  intro tag s hs
  refine ⟨fun mode idle refresh auto duty h => ?_, ?_, fun c kind hc hf => ?_, fun h => ?_, fun h => ?_, fun h => ?_, fun h => ?_,
    fun h hc => ?_, fun h hc => ?_, fun n h1 h2 => ?_, fun which => ⟨fun h => ?_, fun h hlen => ?_⟩⟩
  · refine exec_serves_to rfl hs ?_
    rw [← State.counted_refuse rfl]
    show s.counted.ownAirSettings tag mode idle refresh auto duty = _
    unfold State.ownAirSettings
    rcases h with ⟨h1, h2⟩ | h | ⟨h1, h2⟩
    · rw [modeOf_none h1 h2]
    · rw [onOff_gt h]
      cases modeOf mode <;> rfl
    · rw [blowerOf_none h1 h2]
      cases modeOf mode <;> cases onOff auto <;> rfl
  · intro mode idle refresh auto threshold interval chosen count body hm ha ht hi hc hbody set hset
    have hbodyw : ∀ w, body w = 0x00#8 :: (u8 mode ++ u16 threshold ++ u16 interval ++ u8 auto ++ u8 (abCode w)) := fun w => by
      rw [hbody]
    have hvas : (s.counted.airApplied count set).as = { s.as with idle := count, set := set } := rfl
    have hvduty : set.duty = s.as.set.duty := by rw [hset]
    have hvdir : set.directed = (mode == 2) := by rw [hset]
    have hvthr : set.idleThreshold = threshold := by rw [hset]
    have hvint : set.refreshInterval = interval := by rw [hset]
    have hstay : ∀ u, ((s.counted.airApplied count set).airCompare).airChoose chosen = u → ∀ w, u.as.set = { set with duty := w } →
        exec (.airSettings tag mode idle refresh auto (abCode chosen)) s = .next (u.replied 0x20 tag (body w)).finish :=
      fun u hu w hw => by rw [hbodyw]; exact exec_airSettings hs hm ha ht hi hc hset hu hw
    generalize hv : s.counted.airApplied count set = v at hvas hstay
    have hvnow : v.now = s.now := by rw [← hv]; rfl
    have hvconds : v.lc.conds.length = s.lc.conds.length := by rw [← hv]; rfl
    have hvreplies : (v.airCompare.airChoose chosen).lc.replies = s.lc.replies := by
      rw [State.airChoose_replies, State.airCompare_replies, ← hv]
      rfl
    have hecobelow : v.as.state = .economy → s.as.refresh.since = none ∨ s.as.refresh.value s.now < interval * 1000 →
        v.airCompare = v := fun heco hb => State.airCompare_below
      (fun hn => absurd (heco.symm.trans hn) nofun) fun _ => by
        rw [hvas, hvnow]
        show s.as.refresh.since = none ∨ s.as.refresh.value s.now < set.refreshInterval * 1000
        rw [hvint]
        exact hb
    refine ⟨fun h => ?_, fun hlen => ⟨fun hst hmode hsince hval => ?_, fun hst hne hr => ?_, fun hst hsince hval => ?_,
      fun hst => ⟨fun hgood => ?_, fun hbad hother => ?_⟩⟩⟩
    · have hsame : v.airCompare.airChoose chosen = v := by
        rcases h with h | ⟨h, hb⟩ | ⟨h, hch, hb⟩
        · have hbusy : v.as.state ≠ .ready ∧ v.as.state ≠ .economy ∧ v.as.state ≠ .fault := by
            rw [hvas]
            simp only [List.mem_cons, List.not_mem_nil, or_false] at h
            rcases h with h | h | h <;> rw [h] <;> exact ⟨nofun, nofun, nofun⟩
          obtain ⟨hready, heco, hfault⟩ := hbusy
          rw [State.airCompare_below (fun hn => absurd hn hready) (fun hn => absurd hn heco),
            State.airChoose_settled heco hfault]
        · have hready : v.as.state = .ready := by rw [hvas]; exact h
          have hbelow : v.airCompare = v := State.airCompare_below (fun _ => by
            rw [hvas, hvnow]
            show set.directed = true ∨ count.since = none ∨ count.value s.now < set.idleThreshold * 1000
            rw [hvdir, hvthr]
            exact hb.imp_left fun hm2 => by rw [hm2]; rfl) (fun hn => by rw [hready] at hn; exact absurd hn nofun)
          rw [hbelow, State.airChoose_settled (by rw [hready]; exact nofun) (by rw [hready]; exact nofun)]
        · have heco : v.as.state = .economy := by rw [hvas]; exact h
          have hbelow : v.airCompare = v := hecobelow heco hb
          have hduty : v.as.set.duty = chosen := by rw [hvas, hch]; exact hvduty
          rw [hbelow, State.airChoose_economy heco]
          exact if_neg fun hn => hn.2 hduty
      rw [hstay v hsame s.as.set.duty (by rw [hvas, ← hvduty]), ← hv]
      rfl
    · have hready : v.as.state = .ready := by rw [hvas]; exact hst
      have hcmp : v.airCompare = v.modAS fun as => as.enterEconomy v.now := State.airCompare_idle hready
        (by rw [hvas]; show set.directed = false; rw [hvdir, hmode]; rfl) (by rw [hvas]; exact hsince)
        (by rw [hvas, hvnow]; show set.idleThreshold * 1000 ≤ count.value s.now; rw [hvthr]; exact hval)
      have heco : v.airCompare.as.state = .economy := by rw [hcmp]; rfl
      have has : (v.airCompare.airChoose chosen).as = v.airCompare.as.withDuty chosen := by
        rw [State.airChoose_economy heco]
        exact State.choosing_as (.inl heco) chosen
      obtain ⟨htas, htreplies, -, -⟩ := State.answered_reads (v.airCompare.airChoose chosen) 0x20 tag (body chosen)
      refine ⟨_, hstay _ rfl chosen (by rw [has, hcmp]; show { v.as.set with duty := chosen } = _; rw [hvas]), ?_, ?_, ?_, ?_, ?_⟩
      · rw [htas, has]
        exact heco
      · rw [htas, has, hcmp]
        rfl
      · rw [htas, has, hcmp, ← hvnow]
        rfl
      · rw [htas, has, hcmp]
        show { v.as.set with duty := chosen } = _
        rw [hvas]
      · rw [htreplies, hvreplies]
    · have heco : v.as.state = .economy := by rw [hvas]; exact hst
      have hbelow : v.airCompare = v := hecobelow heco hr
      obtain ⟨has, htells⟩ := State.airChoose_swaps heco (by rw [hvas]; show chosen ≠ set.duty; rw [hvduty]; exact hne)
        (LC.tells_nil (hvconds.trans hlen))
      obtain ⟨htas, htreplies, htpending, -⟩ := State.answered_reads (v.airCompare.airChoose chosen) 0x20 tag (body chosen)
      rw [hbelow] at htas htreplies htpending hvreplies hstay
      refine ⟨_, hstay _ rfl chosen (by rw [has, hvas]; rfl), ?_, ?_, ?_⟩
      · rw [htas, has, hvas]
        rfl
      · rw [htpending]
        exact htells.pending
      · rw [htreplies, hvreplies]
    · have heco : v.as.state = .economy := by rw [hvas]; exact hst
      have hcmp : v.airCompare = v.modAS fun as => as.enterRefresh v.now := State.airCompare_refresh heco
        (by rw [hvas]; exact hsince)
        (by rw [hvas, hvnow]; show set.refreshInterval * 1000 ≤ s.as.refresh.value s.now; rw [hvint]; exact hval)
      have hrun : (v.airCompare.airChoose chosen) = v.modAS fun as => as.enterRefresh v.now := by
        rw [hcmp]
        exact State.airChoose_settled (s := v.modAS fun as => as.enterRefresh v.now) nofun nofun chosen
      obtain ⟨htas, htreplies, -, -⟩ := State.answered_reads (v.airCompare.airChoose chosen) 0x20 tag (body s.as.set.duty)
      rw [hrun] at htas htreplies hvreplies hstay
      refine ⟨_, hstay _ rfl s.as.set.duty (by rw [← hvduty]; show v.as.set = _; rw [hvas]), ?_, ?_, ?_, ?_, ?_⟩
      · rw [htas]
        rfl
      · rw [htas]
        show v.as.set = set
        rw [hvas]
      · rw [htas, ← hvnow]
        rfl
      · rw [htas]
        rfl
      · rw [htreplies, hvreplies]
    all_goals
      have hfault : v.as.state = .fault := by rw [hvas]; exact hst
      have hbelow : v.airCompare = v := State.airCompare_below (fun hn => absurd (hfault.symm.trans hn) nofun)
        (fun hn => absurd (hfault.symm.trans hn) nofun)
      rw [hbelow] at hvreplies hstay
      have hblower : ∀ w, v.as.blower w = s.as.blower w := fun w => by rw [hvas]; cases w <;> rfl
      have hauto : v.as.set.autoSwitch = (auto == 1) := by rw [hvas, hset]
    · obtain ⟨has, hcause, htells⟩ := State.airChoose_leaves hfault (w := chosen) (LC.tells_nil (hvconds.trans hlen))
        (by rw [hblower, hblower, hauto]; exact hgood.imp_right fun hg => ⟨by rw [hg.1]; rfl, hg.2⟩)
      rw [hblower] at has
      obtain ⟨htas, htreplies, htpending, htzone⟩ := State.answered_reads (v.airChoose chosen) 0x20 tag
        (body (if (s.as.blower chosen).failed = false then chosen else chosen.other))
      refine ⟨_, _, hstay _ rfl _ (by rw [has, hvas]; rfl), rfl, ?_, ?_, ?_, ?_, ?_, ?_⟩
      · rw [htas, has]
        rfl
      · rw [htas, has, hvas]
        rfl
      · rw [htas, has, hvnow]
        rfl
      · rw [htzone]
        exact hcause
      · rw [htpending]
        exact htells.pending
      · rw [htreplies, hvreplies]
    · have has := State.airChoose_faulted hfault (w := chosen) (by rw [hblower]; exact hbad)
        (by rw [hauto, hblower]; exact hother.imp_left fun h0 => by rw [h0]; rfl)
      obtain ⟨htas, htreplies, -, -⟩ := State.answered_reads (v.airChoose chosen) 0x20 tag (body chosen)
      refine ⟨_, hstay _ rfl chosen (by rw [has, hvas]; rfl), ?_, ?_⟩
      · rw [htas, has, hvas]
        rfl
      · rw [htreplies, hvreplies]
  · have hwrong : ∀ kind, requestKinds.contains kind = true → s.counted.refuse kind tag .wrongState [] =
        s.refused kind tag .wrongState := fun kind hk => State.counted_refuse hk s tag _
    rcases hc with ⟨rfl, rfl⟩ | ⟨rfl, rfl⟩
    · refine exec_serves_to rfl hs ?_
      rw [← hwrong _ rfl]
      simp [State.serve, State.ownAirEconomy, State.counted, hf]
    · refine exec_serves_to rfl hs ?_
      rw [← hwrong _ rfl]
      simp [State.serve, State.ownAirWake, State.counted, hf]
  · refine exec_serves_to rfl hs ?_
    rw [← State.counted_refuse rfl]
    rcases h with h | ⟨h, hd⟩ | ⟨h, hd⟩ <;> simp [State.serve, State.ownAirEconomy, State.counted, *]
  · refine exec_serves_to rfl hs ?_
    have hown : s.counted.ownAirEconomy tag = s.counted.okAir 0x21 tag := by
      simp only [List.mem_cons, List.not_mem_nil, or_false] at h
      rcases h with h | h <;> simp [State.ownAirEconomy, State.counted, h]
    exact hown.trans (State.ok_replied rfl ..)
  · refine exec_serves_to rfl hs ?_
    have hown : s.counted.ownAirEconomy tag = (s.counted.modAS fun as => as.enterEconomy s.counted.now).okAir 0x21 tag := by
      rcases h with ⟨h, hd⟩ | ⟨h, hd⟩ <;> simp [State.ownAirEconomy, State.counted, *]
    exact hown.trans (State.ok_replied rfl ..)
  · refine exec_serves_to rfl hs ?_
    have hown : s.counted.ownAirWake tag = s.counted.okAir 0x22 tag := by
      simp only [List.mem_cons, List.not_mem_nil, or_false] at h
      rcases h with h | h | h <;> simp [State.ownAirWake, State.counted, h]
    exact hown.trans (State.ok_replied rfl ..)
  · have hown : s.counted.ownAirWake tag =
        (s.counted.modAS fun as => as.enterSpinUp s.counted.now).replied 0x22 tag [0x00#8, 0x03#8] := by
      have hopen : ((s.counted.modAS fun as => as.enterSpinUp s.counted.now).okAir 0x22 tag).as.duty.switchClosed = false := by
        rw [State.okAir, State.ok_replied rfl]
        exact hc
      simp only [State.ownAirWake]
      rw [show s.counted.as.state = .economy from h]
      exact (State.airFoundClosed_open hopen).trans (State.ok_replied rfl ..)
    obtain ⟨htas, htreplies, -, -⟩ := State.answered_reads (s.counted.modAS fun as => as.enterSpinUp s.counted.now) 0x22 tag
      [0x00#8, 0x03#8]
    refine ⟨_, exec_serves_to rfl hs hown, ?_, ?_, ?_, ?_, ?_, htreplies⟩ <;> rw [htas] <;> rfl
  · have hown : s.counted.ownAirWake tag =
        (s.counted.modAS fun as => { as with state := .spinUp, closedInRun := false }).replied 0x22 tag [0x00#8, 0x03#8] := by
      have hopen : ((s.counted.modAS fun as => { as with state := .spinUp, closedInRun := false }).okAir 0x22
          tag).as.duty.switchClosed = false := by
        rw [State.okAir, State.ok_replied rfl]
        exact hc
      simp only [State.ownAirWake]
      rw [show s.counted.as.state = .refresh from h]
      exact (State.airFoundClosed_open hopen).trans (State.ok_replied rfl ..)
    obtain ⟨htas, -, -, -⟩ := State.answered_reads
      (s.counted.modAS fun as => { as with state := .spinUp, closedInRun := false }) 0x22 tag [0x00#8, 0x03#8]
    exact ⟨_, exec_serves_to rfl hs hown, htas⟩
  · refine exec_serves_to rfl hs ?_
    rw [← State.counted_refuse rfl]
    show s.counted.ownAirReset tag n = _
    unfold State.ownAirReset
    rw [blowerOf_none h1 h2]
  all_goals
    have hown : s.counted.ownAirReset tag (abCode which) = (s.counted.airResets which).replied 0x23 tag
        (0x00#8 :: (u8 (s.counted.airResets which).as.blowerA.healthCode ++ u8 (s.counted.airResets which).as.blowerB.healthCode ++
          u8 (abCode (s.counted.airResets which).as.set.duty) ++ u8 (s.counted.airResets which).as.state.code)) := by
      unfold State.ownAirReset
      rw [blowerOf_abCode]
      exact State.ok_replied rfl ..
  · refine exec_serves_to rfl hs (hown.trans ?_)
    have hsame : s.counted.airResets which = s.counted := if_neg (by rw [show (s.counted.as.blower which).failed = false from h]; exact nofun)
    rw [hsame]
    rfl
  · obtain ⟨hgood, hother, htells, hstays, hduty, hstandby, hli, htd, hdp, hreplies⟩ :=
      State.airResets_failed (s := s.counted) (which := which) h hlen
    obtain ⟨htas, htreplies, htpending, htzone⟩ := State.answered_reads (s.counted.airResets which) 0x23 tag
        (0x00#8 :: (u8 (s.counted.airResets which).as.blowerA.healthCode ++ u8 (s.counted.airResets which).as.blowerB.healthCode ++
          u8 (abCode (s.counted.airResets which).as.set.duty) ++ u8 (s.counted.airResets which).as.state.code))
    refine ⟨_, exec_serves_to rfl hs hown, ?_⟩
    rw [htas, htreplies, htpending, htzone, hreplies]
    refine ⟨hgood, hother, htells.pending, hstays, hduty, hstandby, rfl, ?_, ?_, ?_⟩
    · simp only [State.finish_frame]
      exact hli
    · simp only [State.finish_frame]
      exact htd
    · simp only [State.finish_frame]
      exact hdp

/-! ## A failure of the duty blower (R47, R51 to R53, R57) -/

section
variable (s : State)

theorem State.dutyFails_as : s.dutyFails.as =
    { s.as.modBlower s.as.set.duty (fun b => { b with failed := true }) with started := none, closedInRun := false } := rfl

/-- The duty blower is FAILED and stopped; the standby, the settings and the state are as they were. -/
theorem State.dutyFails_fails : s.dutyFails.as.set = s.as.set ∧ s.dutyFails.as.state = s.as.state ∧
    s.dutyFails.as.demand = s.as.demand ∧ s.dutyFails.as.duty.failed = true ∧ s.dutyFails.as.standby = s.as.standby ∧
    s.dutyFails.as.started = none := by
  have hrest := AS.modBlower_rest s.as s.as.set.duty fun b => { b with failed := true }
  have hset : s.dutyFails.as.set = s.as.set := by rw [State.dutyFails_as, hrest]
  have hblower : ∀ w, s.dutyFails.as.blower w =
      if w = s.as.set.duty then { s.as.blower w with failed := true } else s.as.blower w := fun w =>
    AS.modBlower_blower s.as s.as.set.duty w _
  refine ⟨hset, by rw [State.dutyFails_as, hrest], by rw [State.dutyFails_as, hrest], ?_, ?_, rfl⟩
  · rw [AS.duty, hset, hblower, if_pos rfl]
  · rw [AS.standby, hset, hblower, if_neg (AB.other_ne _)]
    rfl

theorem State.dutyFails_canSwap : s.dutyFails.as.canSwap = s.as.canSwap := by
  obtain ⟨hset, -, -, -, hstandby, -⟩ := s.dutyFails_fails
  rw [AS.canSwap, AS.canSwap, hset, hstandby]

theorem State.dutyFails_tellsIt {s : State} (hlen : s.lc.conds.length = 69) : s.dutyFails.lc.Tells [68] :=
  LC.raise_tells_new (LC.tells_nil hlen) (by decide) _

end

theorem AS.canSwap_iff (as : AS) : as.canSwap = true ↔ as.set.autoSwitch = true ∧ as.standby.failed = false := by
  simp [AS.canSwap]

theorem AS.canSwap_not {as : AS} (h : as.set.autoSwitch = false ∨ as.standby.failed = true) : as.canSwap = false := by
  rcases h with h | h <;> simp [AS.canSwap, h]

/-! ### The roles are exchanged -/

/-- The roles after a failure that a swap answers. -/
theorem State.swapped_as (s : State) :
    s.dutyFails.airSwap.as.set = { s.as.set with duty := s.as.set.duty.other } ∧
      s.dutyFails.airSwap.as.state = s.as.state ∧ s.dutyFails.airSwap.as.demand = s.as.demand ∧
      s.dutyFails.airSwap.as.duty = s.as.standby ∧ s.dutyFails.airSwap.as.standby.failed = true := by
  obtain ⟨hset, hstate, hdemand, hduty, hstandby, -⟩ := s.dutyFails_fails
  have hswapped := s.dutyFails.airSwap_as
  refine ⟨?_, hstate, hdemand, hstandby, ?_⟩
  · rw [hswapped, AS.withDuty, hset]
  · show (s.dutyFails.as.blower s.dutyFails.as.set.duty.other.other).failed = true
    rw [AB.other_other]
    exact hduty

theorem State.swapped_tells {s : State} (hlen : s.lc.conds.length = 69) : s.dutyFails.airSwap.lc.Tells [68] :=
  State.airSwap_tells _ (State.dutyFails_tellsIt hlen)

theorem State.airSwapOrFault_swaps {s : State} (h : s.as.canSwap = true) :
    s.dutyFails.airSwapOrFault = (s.dutyFails.airSwap, false, true) :=
  if_pos ((s.dutyFails_canSwap).trans h)

section
variable {s : State} (h : s.as.canSwap = true)
include h

/-- In DRIVING the new duty blower is proved where its switch reads CLOSED (R53). -/
theorem State.airAfterFailure_driving (hst : s.as.state = .driving) : s.dutyFails.airAfterFailure =
    s.dutyFails.airSwap.modAS fun as => { as with started := if as.duty.switchClosed then none else some s.dutyFails.airSwap.now } := by
  have hstate : s.dutyFails.airSwap.as.state = .driving := (s.swapped_as).2.1.trans hst
  simp [State.airAfterFailure, State.airSwapOrFault_swaps h, hstate]

/-- In a refresh run the new duty blower's run begins (R57). -/
theorem State.airAfterFailure_refresh (hst : s.as.state = .refresh) : s.dutyFails.airAfterFailure =
    s.dutyFails.airSwap.modAS fun as => as.enterRefresh s.dutyFails.airSwap.now := by
  have hstate : s.dutyFails.airSwap.as.state = .refresh := (s.swapped_as).2.1.trans hst
  simp [State.airAfterFailure, State.airSwapOrFault_swaps h, hstate]

/-- Else the new duty blower spins up, its switch OPEN (R51). -/
theorem State.airAfterFailure_spinsUp (hst : s.as.state = .ready ∨ s.as.state = .spinUp)
    (hopen : s.as.standby.switchClosed = false) : s.dutyFails.airAfterFailure =
      (s.dutyFails.airSwap.modAS fun as => as.enterSpinUp s.dutyFails.airSwap.now).airChange := by
  obtain ⟨-, hkept, -, hduty, -⟩ := s.swapped_as
  have hopens : (s.dutyFails.airSwap.modAS fun as => as.enterSpinUp s.dutyFails.airSwap.now).airChange.as.duty.switchClosed =
      false := (congrArg Blower.switchClosed hduty).trans hopen
  have hfound := State.airFoundClosed_open hopens
  rw [← hkept] at hst
  unfold State.airAfterFailure
  rw [State.airSwapOrFault_swaps h]
  dsimp only
  rw [if_pos rfl]
  rcases hst with hst | hst <;> rw [hst] <;> exact hfound

end

/-! ### FAULT is entered -/

/-- FAULT as a failure of the duty blower leaves it (R52, R55). -/
structure State.Faulted (set : AirSettings) (u : State) : Prop where
  state : u.as.state = .fault
  set : u.as.set = set
  duty : u.as.duty.failed = true
  cause : (u.zone .airFail).cause = true
  started : u.as.started = none
  idle : u.as.idle = Count.zero
  refresh : u.as.refresh.since = none

/-- FAULT is entered with the failed duty blower; the lanes and the drive are as they were. -/
theorem State.dutyFails_faulted (s : State) :
    s.dutyFails.airFault.1.Faulted s.as.set ∧ s.dutyFails.airFault.1.li = s.li ∧ s.dutyFails.airFault.1.td = s.td ∧
      s.dutyFails.airFault.1.phase = s.phase ∧ s.dutyFails.airFault.2 = s.as.demand := by
  obtain ⟨hset, -, hdemand, hduty, -, -⟩ := s.dutyFails_fails
  unfold State.airFault
  dsimp only
  generalize hu : (s.dutyFails.modAS fun as => { as with
    state := .fault, started := none, closedInRun := false, idle := Count.zero,
    refresh := as.refresh.stop s.dutyFails.now, demand := as.demand && !(s.dutyFails.as.state == .spinUp) }).airChange = u
  have huset : u.as.set = s.as.set := by rw [← hu]; exact hset
  have hufailed : u.as.duty.failed = true := by rw [← hu]; exact hduty
  have hustate : u.as.state = .fault ∧ u.as.started = none ∧ u.as.idle = Count.zero ∧ u.as.refresh.since = none := by
    rw [← hu]
    exact ⟨rfl, rfl, rfl, rfl⟩
  have hkeeps : u.li = s.li ∧ u.td = s.td ∧ u.phase = s.phase := by
    rw [← hu]
    exact ⟨rfl, rfl, rfl⟩
  obtain ⟨has, hcause⟩ := u.setCause_airFail true
  obtain ⟨hli, htd⟩ := State.setCause_other (z := .airFail) nofun u true
  obtain ⟨hstate, hstarted, hidle, hrefresh⟩ := hustate
  obtain ⟨huli, hutd, huphase⟩ := hkeeps
  exact ⟨⟨by rw [has]; exact hstate, by rw [has]; exact huset, by rw [has]; exact hufailed, hcause,
      by rw [has]; exact hstarted, by rw [has]; exact hidle, by rw [has]; exact hrefresh⟩,
    hli.trans huli, htd.trans hutd, by simpa using huphase, hdemand⟩

/-- The supply with its demand and its drive-held mark taken away. -/
def AS.undemanded (as : AS) : AS := { as with demand := false, driveHeld := false }

theorem AS.release_fault {as : AS} (h : as.state = .fault) (now : Nat) : (as.release now).driveIdle now = as.undemanded := by
  simp [AS.release, AS.driveIdle, AS.undemanded, h]

/-- What a move that ends in FAULT leaves of the supply and of AIR_FAIL's zone. -/
theorem State.overdue_fault {s : State} {m : Move} (hm : s.td.move = some m) (h : s.as.state = .fault) :
    s.overdue.as = s.as.undemanded ∧ (s.overdue.zone .airFail).cause = (s.zone .airFail).cause := by
  rw [State.overdue_some hm]
  generalize hu : (((s.releasePressure.setLocation m.lane .unknown).setReasons m.lane Reasons.lost).tellJam).raiseLaneBare m.lane
    .overdue = u
  have has : u.as = s.as.release s.now := by
    rw [← hu]
    simp [State.releasePressure, State.modAS]
  have hnow : u.now = s.now := by
    rw [← hu]
    simp
  have hmove : u.td.move = some m := by
    rw [← hu]
    simp [hm]
  have hcause : u.au.zones.cause .airFail = s.au.zones.cause .airFail := by
    rw [← hu]
    show ((((s.releasePressure.setLocation m.lane .unknown).setReasons m.lane Reasons.lost).tellJam).au.zones.cause .airFail) = _
    rw [State.tellJam, State.setCause_causes, if_neg nofun]
    simp
  rw [State.endMove_some hmove]
  refine ⟨?_, hcause⟩
  show u.as.driveIdle u.now = _
  rw [has, hnow]
  exact AS.release_fault h s.now

/-- The drive is told FAULT: its move ends by its phase, the supply stays in FAULT (R35). -/
theorem State.toldAirFault_fault {s : State} (h : s.as.state = .fault) :
    (s.toldAirFault.as = s.as ∨ s.toldAirFault.as = s.as.undemanded) ∧
      (s.toldAirFault.zone .airFail).cause = (s.zone .airFail).cause := by
  unfold State.toldAirFault
  split
  · exact ⟨.inl rfl, rfl⟩
  · next m hm =>
    split
    · exact ⟨.inl rfl, rfl⟩
    · exact (State.overdue_fault hm h).imp_left .inr
    · rw [State.failMove_some hm]
      exact ⟨.inr (AS.release_fault h s.now), rfl⟩

theorem State.Faulted.told_fault {set : AirSettings} {s : State} (h : s.Faulted set) : s.toldAirFault.Faulted set := by
  obtain ⟨has, hcause⟩ := State.toldAirFault_fault h.state
  rcases has with has | has <;>
    exact ⟨by rw [has]; exact h.state, by rw [has]; exact h.set, by rw [has]; exact h.duty, hcause.trans h.cause,
      by rw [has]; exact h.started, by rw [has]; exact h.idle, by rw [has]; exact h.refresh⟩

theorem State.Faulted.stepEnds {set : AirSettings} {s : State} (h : s.Faulted set) : s.airStepEnds.Faulted set := by
  have has : s.airStepEnds.as = s.as := by simp
  have hcause : (s.airStepEnds.zone .airFail).cause = (s.zone .airFail).cause := by
    rw [State.cause_eq, State.airStepEnds_causes]
    rfl
  exact ⟨by rw [has]; exact h.state, by rw [has]; exact h.set, by rw [has]; exact h.duty, hcause.trans h.cause,
    by rw [has]; exact h.started, by rw [has]; exact h.idle, by rw [has]; exact h.refresh⟩

theorem State.Faulted.finished {set : AirSettings} {s : State} (h : s.Faulted set) : s.finish.Faulted set := by
  have has : s.finish.as = s.as := by simp
  exact ⟨by rw [has]; exact h.state, by rw [has]; exact h.set, by rw [has]; exact h.duty,
    by rw [State.finish_zone]; exact h.cause,
    by rw [has]; exact h.started, by rw [has]; exact h.idle, by rw [has]; exact h.refresh⟩

/-- A failure that no swap answers enters FAULT, and a TD that waits for pressure or holds it is told (R52). -/
theorem State.airAfterFailure_faults {s : State} (h : s.as.canSwap = false) :
    s.dutyFails.airAfterFailure =
      (if s.as.demand then s.dutyFails.airFault.1.toldAirFault else s.dutyFails.airFault.1).airStepEnds := by
  have hno : s.dutyFails.airSwapOrFault = (s.dutyFails.airFault.1, s.dutyFails.airFault.2, false) :=
    if_neg (by rw [State.dutyFails_canSwap, h]; exact nofun)
  have htell : s.dutyFails.airFault.2 = s.as.demand := (s.dutyFails_faulted).2.2.2.2
  unfold State.airAfterFailure
  rw [hno]
  dsimp only
  rw [if_neg nofun, htell]

theorem State.airStepEnds_running {s : State} (h : s.phase = .running) : s.airStepEnds = s := by
  simp [State.airStepEnds, h]

theorem State.airStepEnds_startUp {s : State} (h : s.phase = .startUp .air) : s.airStepEnds = s.endStartUp := by
  simp [State.airStepEnds, h]

/-- The end of start-up (R205, R206). -/
theorem State.endStartUp_begins (s : State) : s.endStartUp.phase = .running ∧ s.endStartUp.lc.notices.getLast? = some .start ∧
    s.endStartUp.lc.startEnded = s.endStartUp.now := by
  refine ⟨rfl, ?_, rfl⟩
  unfold State.endStartUp
  exact List.getLast?_concat

/-! ## The pressure switches (R47, R51, R53) -/

section
variable {s : State}

theorem State.airFoundClosed_ready (hst : s.as.state = .spinUp) (hc : s.as.duty.switchClosed = true)
    (hd : s.as.demand = false) :
    s.spinUpFound = s.modAS fun as => ({ as with started := none } : AS).enterReady s.now := by
  have hfound : s.airFoundClosed = s.airEstablished := if_pos ⟨hst, hc⟩
  simp [State.spinUpFound, hfound, State.airEstablished, hd]

theorem State.airFoundClosed_driving (hst : s.as.state = .spinUp) (hc : s.as.duty.switchClosed = true)
    (hd : s.as.demand = true) :
    s.spinUpFound = (s.modAS fun as => { as with state := .driving, started := none, idle := Count.zero }).toldReady := by
  have hfound : s.airFoundClosed = s.airEstablished := if_pos ⟨hst, hc⟩
  simp [State.spinUpFound, hfound, State.airEstablished, hd]

end

theorem State.toldReady_air {s : State} {m : Move} (hm : s.td.move = some m) (hp : m.phase = .air) :
    s.toldReady = s.enterDivert := by
  obtain ⟨lane, dir, origin, isPurge, phase⟩ := m
  subst hp
  simp [State.toldReady, hm]

/-- A supply with one pressure switch at a level. -/
def AS.switched (as : AS) (w : AB) (level : Bool) : AS := as.modBlower w fun r => { r with switchClosed := level }

theorem AS.switched_rest (as : AS) (w : AB) (level : Bool) : as.switched w level =
    { as with blowerA := (as.switched w level).blowerA, blowerB := (as.switched w level).blowerB } := AS.modBlower_rest ..

theorem AS.switched_blower (as : AS) (w : AB) (level : Bool) (k : AB) : (as.switched w level).blower k =
    if k = w then { as.blower k with switchClosed := level } else as.blower k := AS.modBlower_blower ..

theorem AS.switched_set (as : AS) (w : AB) (level : Bool) : (as.switched w level).set = as.set ∧
    (as.switched w level).state = as.state ∧ (as.switched w level).demand = as.demand := by
  rw [AS.switched_rest]
  exact ⟨rfl, rfl, rfl⟩

theorem AS.switched_duty (as : AS) (level : Bool) : (as.switched as.set.duty level).duty = { as.duty with switchClosed := level } ∧
    (as.switched as.set.duty level).standby = as.standby := by
  obtain ⟨hset, -, -⟩ := as.switched_set as.set.duty level
  constructor
  · rw [AS.duty, hset, AS.switched_blower, if_pos rfl]
    rfl
  · rw [AS.standby, hset, AS.switched_blower, if_neg (AB.other_ne _)]
    rfl

/-- The state of a level alone. -/
theorem State.finish_air (s : State) (as : AS) : ({ s with as := as } : State).finish =
    ({ s with as := ({ s with as := as } : State).finish.as } : State).finish := by
  have has : ({ s with as := as } : State).finish.as = as := by simp
  rw [has]

theorem State.switchCloses_eq (s : State) (w : AB) : s.switchCloses w =
    if s.as.set.duty = w then
      match s.as.state with
      | .spinUp => ({ s with as := s.as.switched w true } : State).spinUpFound
      | .refresh => ({ s with as := { s.as.switched w true with closedInRun := true } } : State)
      | .ready => ({ s with as := { s.as.switched w true with started := none } } : State)
      | .driving => ({ s with as := { s.as.switched w true with started := none } } : State)
      | _ => ({ s with as := s.as.switched w true } : State)
    else ({ s with as := s.as.switched w true } : State) := by
  cases w <;> rfl

/-! ## A failure, by its event -/

/-- The switch of the duty blower opening in READY or DRIVING, and a limit that runs out, fail the duty blower (R51, R53). -/
theorem exec_dutyFails {s : State} {c : Instr} (hrun : s.phase = .running)
    (hc : (c = .pressureSwitchOpen s.as.set.duty ∧ s.as.duty.switchClosed = true) ∨ (c = .spinUpLimit ∧ s.as.started ≠ none))
    (hst : (s.as.state = .ready ∨ s.as.state = .driving) ∨ (s.as.state = .spinUp ∧ c = .spinUpLimit)) :
    ∃ v : State, exec c s = .next v.dutyFails.airAfterFailure.finish ∧ v.as.state = s.as.state ∧ v.as.set = s.as.set ∧
      v.as.standby = s.as.standby ∧ v.as.demand = s.as.demand ∧ v.td = s.td ∧ v.li = s.li ∧ v.lc = s.lc ∧
      v.phase = .running := by
  have hon : s.phase ≠ .off := by rw [hrun]; exact nofun
  rcases hc with ⟨rfl, hclosed⟩ | ⟨rfl, hstarted⟩
  · have hst := hst.resolve_right fun hn => absurd hn.2 nofun
    obtain ⟨hset, hstate, hdemand⟩ := s.as.switched_set s.as.set.duty false
    have hopens : s.switchOpens s.as.set.duty =
        ({ s with as := s.as.switched s.as.set.duty false } : State).dutyFails.airAfterFailure :=
      if_pos ⟨hclosed, congrArg AirSettings.duty hset, hst.imp hstate.trans hstate.trans⟩
    exact ⟨_, exec_event_to rfl rfl hon hopens, hstate, hset, (s.as.switched_duty false).2, hdemand, rfl, rfl, rfl, hrun⟩
  · obtain ⟨since, hsince⟩ := Option.ne_none_iff_exists'.mp hstarted
    have hlimit : s.onSpinUpLimit = (s.reach (since + 3000)).dutyFails.airAfterFailure := by
      unfold State.onSpinUpLimit
      rw [hsince]
      exact if_pos (by rcases hst with (h | h) | ⟨h, -⟩ <;> simp [h])
    exact ⟨_, exec_event_to rfl rfl hon hlimit, rfl, rfl, rfl, rfl, rfl, rfl, rfl, hrun⟩

section
variable {v : State}

/-- What a failure that FAULT answers leaves of a move, by its phase (R35). -/
theorem State.faulted_move {m : Move} (hlen : v.lc.conds.length = 69) (hm : v.td.move = some m) :
    ((∃ due, m.phase = .transit due) → v.toldAirFault.td.move = none ∧ (v.toldAirFault.carrier m.lane).location = .unknown ∧
      (v.toldAirFault.laneRec m.lane).reasons.jam = true ∧ (v.toldAirFault.laneRec m.lane).reasons.carrierUnknown = true ∧
      v.toldAirFault.lc.isPending (Cond.lane m.lane .overdue).num = true) ∧
    (m.phase = .air ∨ (∃ due, m.phase = .divert due) ∨ (∃ due, m.phase = .launch due) →
      v.toldAirFault.td.move = none ∧ v.toldAirFault.carrier m.lane = { v.carrier m.lane with reservation := .none } ∧
      v.toldAirFault.lc.conds[(Cond.lane m.lane .moveFailed).num - 1]?.map (·.snapshot) =
        some (some [0x05#8, BitVec.ofNat 8 m.origin.code])) ∧
    (∀ due after, m.phase = .settle due after → v.toldAirFault.td = v.td) := by
  refine ⟨fun hp => ?_, fun hp => ?_, fun due after hp => ?_⟩
  · obtain ⟨due, hp⟩ := hp
    have htold : v.toldAirFault = v.overdue := by simp [State.toldAirFault, hm, hp]
    obtain ⟨hmove, hcar, hjam, hunknown, -, -⟩ := State.overdue_leaves hm
    rw [htold, hcar]
    exact ⟨hmove, rfl, hjam, hunknown, State.overdue_tells hm hlen⟩
  · have htold : v.toldAirFault = v.failMove .airFault := by
      rcases hp with hp | ⟨due, hp⟩ | ⟨due, hp⟩ <;> simp [State.toldAirFault, hm, hp]
    rw [htold, State.failMove_some hm]
    exact ⟨rfl, (State.carrier_modCarrier v m.lane m.lane _).trans (if_pos rfl),
      LC.raise_snapshot hlen (LaneCond.num_lt m.lane .moveFailed) _⟩
  · simp [State.toldAirFault, hm, hp]

end

theorem State.on_of_running {s : State} (h : s.phase = .running) : s.phase ≠ .off := by
  rw [h]
  exact nofun

/-- A refresh run whose blower has closed its switch and holds it so passes (R57). -/
theorem State.refreshRun_passes {s : State} {since : Nat} (hst : s.as.state = .refresh) (hstarted : s.as.started = some since)
    (hin : s.as.closedInRun = true) (hclosed : s.as.duty.switchClosed = true) : s.onRefreshRunEnd =
      ((s.reach (since + 2000)).modAS fun as => as.enterEconomy (max s.now (since + 2000))).airStepEnds := by
  unfold State.onRefreshRunEnd
  rw [hstarted]
  exact (if_pos hst).trans (if_pos ⟨hin, hclosed⟩)

theorem State.refreshRun_fails {s : State} {since : Nat} (hst : s.as.state = .refresh) (hstarted : s.as.started = some since)
    (hnot : s.as.closedInRun = false ∨ s.as.duty.switchClosed = false) : s.onRefreshRunEnd =
      (s.reach (since + 2000)).dutyFails.airAfterFailure := by
  unfold State.onRefreshRunEnd
  rw [hstarted]
  refine (if_pos hst).trans (if_neg fun hn => ?_)
  obtain ⟨hin, hclosed⟩ := hn
  rcases hnot with h | h
  · exact absurd (h.symm.trans hin) nofun
  · exact absurd (h.symm.trans hclosed) nofun

/-- Settles O41: each event by the supply's state; a failure of the duty blower by a swap or by FAULT. -/
theorem airEventsMoveTheSupply : Obligations.AirEventsMoveTheSupply := by
  refine ⟨fun s hrun => ⟨fun w hw => ?_, fun hst hd => ?_, fun m hst hd hm hp hset => ?_, fun hst => ?_, fun w h => ?_,
    fun hlen c hc => ⟨fun hauto hgood => ⟨fun hst hopen => ?_, fun hst => ?_⟩, fun hno hst => ?_⟩,
    fun since hst hdir hsince => ?_, fun since hst hsince => ?_, fun since hst hstarted hin hclosed => ?_,
    fun since hst hstarted hnot hlen => ⟨fun hauto hgood => ?_, fun hno hd => ?_⟩⟩, fun s => ?_,
    fun since s hph hst hstarted => ⟨fun hin hclosed => ?_, fun hnot hno hd => ?_, fun hnot hauto hgood => ?_⟩⟩
  · have hcloses : s.switchCloses w = { s with as := s.as.switched w true } := by
      rw [State.switchCloses_eq]
      exact if_neg hw
    obtain ⟨hset, hstate, -⟩ := s.as.switched_set w true
    have has : ({ s with as := s.as.switched w true } : State).finish.as = s.as.switched w true := by simp
    refine ⟨_, exec_event_to rfl rfl (State.on_of_running hrun) hcloses, ?_, ?_, ?_, State.finish_air s _⟩
    · rw [has, AS.switched_blower, if_pos rfl]
    · rw [has]
      exact hstate
    · rw [has, AS.duty, hset, AS.switched_blower, if_neg hw]
      rfl
  · obtain ⟨-, hstate, hdemand⟩ := s.as.switched_set s.as.set.duty true
    have hduty := (s.as.switched_duty true).1
    have hcloses : s.switchCloses s.as.set.duty = (({ s with as := s.as.switched s.as.set.duty true } : State).modAS fun as =>
        ({ as with started := none } : AS).enterReady s.now) := by
      rw [State.switchCloses_eq, if_pos rfl, hst]
      exact State.airFoundClosed_ready (hstate.trans hst) (by rw [hduty]) (hdemand.trans hd)
    refine ⟨_, exec_event_to rfl rfl (State.on_of_running hrun) hcloses, ?_, ?_, ?_, ?_, ?_, ?_⟩
    all_goals simp only [State.finish_frame, State.finish_conds]
    · rfl
    · rfl
    · exact congrArg Blower.switchClosed hduty
    · show (if !(s.as.switched s.as.set.duty true).set.directed && !(s.as.switched s.as.set.duty true).driveHeld then
        Count.start s.now else Count.zero) = _
      rw [AS.switched_rest]
      simp [Count.start, Count.zero]
    · rfl
    · rfl
  · obtain ⟨-, hstate, hdemand⟩ := s.as.switched_set s.as.set.duty true
    have hduty := (s.as.switched_duty true).1
    have hcloses : s.switchCloses s.as.set.duty = (({ s with as := s.as.switched s.as.set.duty true } : State).modAS fun as =>
        { as with state := .driving, started := none, idle := Count.zero }).setPhase (.divert (s.now + 300)) := by
      rw [State.switchCloses_eq, if_pos rfl, hst]
      refine (State.airFoundClosed_driving (hstate.trans hst) (by rw [hduty]) (hdemand.trans hd)).trans ?_
      generalize hu : (({ s with as := s.as.switched s.as.set.duty true } : State).modAS fun as =>
        { as with state := .driving, started := none, idle := Count.zero }) = u
      have hutd : u.td = s.td := by rw [← hu]; rfl
      have hunow : u.now = s.now := by rw [← hu]; rfl
      rw [← hutd] at hm hset
      rw [State.toldReady_air hm hp, State.enterDivert_settles hm hset, hunow]
    rw [State.setPhase_some (m := m) (by exact hm)] at hcloses
    refine ⟨_, exec_event_to rfl rfl (State.on_of_running hrun) hcloses, ?_, ?_, ?_⟩ <;>
      simp only [State.finish_frame, State.finish_conds] <;> rfl
  · have hcloses : s.switchCloses s.as.set.duty =
        { s with as := { s.as.switched s.as.set.duty true with closedInRun := true } } := by
      rw [State.switchCloses_eq, if_pos rfl, hst]
    refine ⟨_, exec_event_to rfl rfl (State.on_of_running hrun) hcloses, ?_, ?_⟩
    all_goals simp only [State.finish_frame]
    exact ((s.as.switched_set s.as.set.duty true).2.1).trans hst
  · obtain ⟨hset, hstate, -⟩ := s.as.switched_set w false
    have hopens : s.switchOpens w = { s with as := s.as.switched w false } := by
      refine if_neg fun hn => ?_
      obtain ⟨hbefore, hduty, hat⟩ := hn
      rcases h with h | h | ⟨hnr, hnd⟩
      · exact absurd (h.symm.trans hbefore) nofun
      · exact h ((congrArg AirSettings.duty hset).symm.trans hduty)
      · exact hat.elim (fun hr => hnr (hstate.symm.trans hr)) fun hr => hnd (hstate.symm.trans hr)
    have has : ({ s with as := s.as.switched w false } : State).finish.as = s.as.switched w false := by simp
    refine ⟨_, exec_event_to rfl rfl (State.on_of_running hrun) hopens, ?_, State.finish_air s _, ?_, ?_⟩
    · rw [has, AS.switched_blower, if_pos rfl]
    · rw [has]
      exact hstate
    · rw [has, AS.switched_blower, if_pos rfl]
  · obtain ⟨v, hexec, hvst, hvset, hvstandby, hvdemand, hvtd, -, hvlc, -⟩ := exec_dutyFails hrun hc
      (hst.imp_left .inl)
    have hswap : v.as.canSwap = true := (AS.canSwap_iff _).mpr ⟨by rw [hvset]; exact hauto, by rw [hvstandby]; exact hgood⟩
    have hvlen : v.lc.conds.length = 69 := by rw [hvlc]; exact hlen
    rw [State.airAfterFailure_spinsUp hswap (by rw [hvst]; exact hst.imp_right And.left) (by rw [hvstandby]; exact hopen)] at hexec
    obtain ⟨hset, -, hdemand, hduty, hstandby⟩ := v.swapped_as
    have htells := State.swapped_tells hvlen
    have htd : v.dutyFails.airSwap.td = v.td := rfl
    generalize v.dutyFails.airSwap = w at hexec hset hdemand hduty hstandby htells htd
    refine ⟨_, hexec, ?_, ?_, ?_, ?_, ?_, ?_, ?_, ?_, ?_⟩
    all_goals simp only [State.finish_frame, State.finish_conds, State.finish_isPending]
    · rw [← hvset]
      exact hset
    · rfl
    · rfl
    · rw [← hgood, ← hvstandby]
      exact congrArg Blower.failed hduty
    · exact hstandby
    · exact hdemand.trans hvdemand
    · exact (LC.raise_tells_new htells (by decide) _).pending
    · exact LC.raise_snapshot (n := 68) htells.1 (by decide) _
    · exact htd.trans hvtd
  · obtain ⟨v, hexec, hvst, hvset, hvstandby, hvdemand, hvtd, -, hvlc, -⟩ := exec_dutyFails hrun hc (.inl (.inr hst))
    have hswap : v.as.canSwap = true := (AS.canSwap_iff _).mpr ⟨by rw [hvset]; exact hauto, by rw [hvstandby]; exact hgood⟩
    rw [State.airAfterFailure_driving hswap (hvst.trans hst)] at hexec
    obtain ⟨hset, hstate, hdemand, hduty, hstandby⟩ := v.swapped_as
    have htells := State.swapped_tells (s := v) (by rw [hvlc]; exact hlen)
    have htd : v.dutyFails.airSwap.td = v.td := rfl
    generalize v.dutyFails.airSwap = w at hexec hset hdemand hduty hstandby htells htd hstate
    refine ⟨_, hexec, ?_, ?_, ?_, ?_, ?_, ?_, ?_⟩
    all_goals simp only [State.finish_frame, State.finish_isPending]
    · rw [← hvset]
      exact hset
    · exact hstate.trans (hvst.trans hst)
    · rw [← hvstandby, ← hduty]
      rfl
    · exact hstandby
    · exact hdemand.trans hvdemand
    · exact htells.pending
    · exact htd.trans hvtd
  · obtain ⟨v, hexec, hvst, hvset, hvstandby, hvdemand, hvtd, hvli, hvlc, hvrun⟩ := exec_dutyFails hrun hc (by
      simp only [List.mem_cons, List.not_mem_nil, or_false] at hst
      exact hst)
    have hswap : v.as.canSwap = false := AS.canSwap_not (by rw [hvset, hvstandby]; exact hno)
    have hvlen : v.lc.conds.length = 69 := by rw [hvlc]; exact hlen
    obtain ⟨hfaulted, hli, htd, hphase, -⟩ := v.dutyFails_faulted
    have htells := State.airFault_tells v.dutyFails (State.dutyFails_tellsIt hvlen)
    rw [State.airAfterFailure_faults hswap, hvdemand] at hexec
    rw [hvset] at hfaulted
    generalize v.dutyFails.airFault.1 = w at hexec hfaulted hli htd hphase htells
    have hwtd : w.td = s.td := htd.trans hvtd
    have hwli : w.li = s.li := hli.trans hvli
    have hwphase : w.phase = .running := hphase.trans hvrun
    cases hdemand : s.as.demand with
    | false =>
      rw [hdemand, if_neg nofun, State.airStepEnds_running hwphase] at hexec
      have hend := hfaulted.finished
      refine ⟨_, hexec, hend.state, hend.set, hend.duty, hend.cause, hend.started, hend.idle, hend.refresh, ?_, fun _ => ?_,
        fun m hn => absurd hn nofun⟩
      · rw [State.finish_isPending]
        exact htells.pending
      · simpa using hwtd
    | true =>
      have htoldphase : w.toldAirFault.phase = .running := by simpa using hwphase
      rw [hdemand, if_pos rfl, State.airStepEnds_running htoldphase] at hexec
      have hend := hfaulted.told_fault.finished
      refine ⟨_, hexec, hend.state, hend.set, hend.duty, hend.cause, hend.started, hend.idle, hend.refresh, ?_,
        fun hn => absurd hn nofun, fun m _ hm => ?_⟩
      · rw [State.finish_isPending]
        exact (State.toldAirFault_tells w htells).pending
      · have hwm : w.td.move = some m := by rw [hwtd]; exact hm
        obtain ⟨htransit, hbefore, hsettle⟩ := State.faulted_move htells.1 hwm
        have hcar : w.carrier m.lane = s.carrier m.lane := by rw [State.carrier, hwtd]; rfl
        simp only [State.finish_carrier, State.finish_laneRec, State.finish_isPending, State.finish_frame, State.finish_conds]
        rw [hcar] at hbefore
        exact ⟨htransit, hbefore, fun due after hp => (hsettle due after hp).trans hwtd⟩
  · have hdoes : s.onIdleThresholdReached =
        (s.reach (since + (s.as.set.idleThreshold * 1000 - s.as.idle.spent))).modAS fun as =>
          as.enterEconomy (max s.now (since + (s.as.set.idleThreshold * 1000 - s.as.idle.spent))) := by
      simp [State.onIdleThresholdReached, Count.reaches, hsince, hst, hdir, State.reach]
    refine ⟨_, exec_event_to rfl rfl (State.on_of_running hrun) hdoes, ?_, ?_, ?_, ?_, ?_⟩ <;>
      simp only [State.finish_frame] <;> rfl
  · have hdoes : s.onRefreshDue =
        (s.reach (since + (s.as.set.refreshInterval * 1000 - s.as.refresh.spent))).modAS fun as =>
          as.enterRefresh (max s.now (since + (s.as.set.refreshInterval * 1000 - s.as.refresh.spent))) := by
      simp [State.onRefreshDue, Count.reaches, hsince, hst, State.reach]
    refine ⟨_, exec_event_to rfl rfl (State.on_of_running hrun) hdoes, ?_, ?_, ?_, ?_, ?_⟩ <;>
      simp only [State.finish_frame] <;> rfl
  · have hdoes := State.refreshRun_passes hst hstarted hin hclosed
    rw [State.airStepEnds_running (by exact hrun)] at hdoes
    refine ⟨_, exec_event_to rfl rfl (State.on_of_running hrun) hdoes, ?_, ?_, ?_, ?_, ?_⟩ <;>
      simp only [State.finish_frame, State.finish_conds] <;> rfl
  · have hdoes := State.refreshRun_fails hst hstarted hnot
    have hswap : (s.reach (since + 2000)).as.canSwap = true := (AS.canSwap_iff _).mpr ⟨hauto, hgood⟩
    rw [State.airAfterFailure_refresh hswap hst] at hdoes
    obtain ⟨hset, hstate, -, hduty, hstandby⟩ := (s.reach (since + 2000)).swapped_as
    have htells := State.swapped_tells (s := s.reach (since + 2000)) hlen
    have htd : (s.reach (since + 2000)).dutyFails.airSwap.td = s.td := rfl
    generalize (s.reach (since + 2000)).dutyFails.airSwap = w at hdoes hset hduty hstandby htells htd hstate
    refine ⟨_, exec_event_to rfl rfl (State.on_of_running hrun) hdoes, ?_, ?_, ?_, ?_, ?_, ?_, ?_⟩
    all_goals simp only [State.finish_frame, State.finish_isPending]
    · rfl
    · rfl
    · exact hset
    · exact hstandby
    · exact congrArg Blower.switchClosed hduty
    · exact htells.pending
    · exact htd
  · have hdoes := State.refreshRun_fails hst hstarted hnot
    obtain ⟨hfaulted, -, htd, hphase, -⟩ := (s.reach (since + 2000)).dutyFails_faulted
    have htells := State.airFault_tells (s.reach (since + 2000)).dutyFails (State.dutyFails_tellsIt hlen)
    rw [State.airAfterFailure_faults (s := s.reach (since + 2000)) (AS.canSwap_not hno),
      if_neg (by rw [show (s.reach (since + 2000)).as.demand = false from hd]; exact nofun),
      State.airStepEnds_running (hphase.trans hrun)] at hdoes
    have hend := hfaulted.finished
    refine ⟨_, exec_event_to rfl rfl (State.on_of_running hrun) hdoes, hend.state, hend.duty, hend.set, hend.cause, ?_, ?_⟩
    · rw [State.finish_isPending]
      exact htells.pending
    · simp only [State.finish_frame]
      exact htd
  · have hother : s.as.set.duty.other ≠ s.as.set.duty := AB.other_ne _
    refine ⟨if_neg hother, ?_, ?_, ?_⟩
    all_goals
      rw [AS.blowerDrive, if_pos rfl]
      cases s.as.state <;> simp
  · have hdoes := State.refreshRun_passes hst hstarted hin hclosed
    rw [State.airStepEnds_startUp (by exact hph)] at hdoes
    generalize hu : ((s.reach (since + 2000)).modAS fun as => as.enterEconomy (max s.now (since + 2000))) = u at hdoes
    obtain ⟨hphase, hnotice, hended⟩ := u.endStartUp_begins
    have has : u.endStartUp.as = u.as ∧ u.endStartUp.now = u.now := by simp
    refine ⟨_, exec_event_to rfl rfl (by rw [hph]; exact nofun) hdoes, ?_, ?_, ?_, ?_, ?_, ?_⟩
    all_goals simp only [State.finish_frame, State.finish_conds]
    · exact hphase
    · rw [has.1, ← hu]
      rfl
    · rw [has.1, ← hu]
      rfl
    · exact hnotice
    · rw [State.finish_eq]
      exact hended
    · rw [has.2, ← hu]
      rfl
  · have hdoes := State.refreshRun_fails hst hstarted hnot
    obtain ⟨hfaulted, -, htd, hphase, -⟩ := (s.reach (since + 2000)).dutyFails_faulted
    rw [State.airAfterFailure_faults (s := s.reach (since + 2000)) (AS.canSwap_not hno),
      if_neg (by rw [show (s.reach (since + 2000)).as.demand = false from hd]; exact nofun)] at hdoes
    have hend := hfaulted.stepEnds.finished
    obtain ⟨hended, hnotice, -⟩ := (s.reach (since + 2000)).dutyFails.airFault.1.endStartUp_begins
    rw [State.airStepEnds_startUp (hphase.trans hph)] at hdoes hend
    refine ⟨_, exec_event_to rfl rfl (by rw [hph]; exact nofun) hdoes, ?_, hend.state, hend.duty, hend.cause, ?_⟩
    all_goals simp only [State.finish_frame, State.finish_conds]
    · exact hended
    · exact hnotice
  · have hdoes := State.refreshRun_fails hst hstarted hnot
    have hswap : (s.reach (since + 2000)).as.canSwap = true := (AS.canSwap_iff _).mpr ⟨hauto, hgood⟩
    rw [State.airAfterFailure_refresh hswap hst] at hdoes
    obtain ⟨hset, -, -, -, -⟩ := (s.reach (since + 2000)).swapped_as
    have hphase : (s.reach (since + 2000)).dutyFails.airSwap.phase = s.phase := rfl
    generalize (s.reach (since + 2000)).dutyFails.airSwap = w at hdoes hset hphase
    refine ⟨_, exec_event_to rfl rfl (by rw [hph]; exact nofun) hdoes, ?_, ?_, ?_⟩
    all_goals simp only [State.finish_frame]
    · exact hphase.trans hph
    · rfl
    · exact congrArg AirSettings.duty hset

end Sys2Proof.Machine
end

section
/-! The note dispenser: ledgers, picking, the gauge, the safe door, clearings and the cassette requests (chapter 4). -/

namespace Sys2Proof.Machine

/-! ## Ledgers and their states (R65, R66) -/

/-- A ledger whose PRESENT or LOW state follows its estimate (R65). -/
def Ledger.levelled (k : Ledger) : Ledger := { k with state := if k.state = .present ∨ k.state = .low then k.level else k.state }

/-- A cassette's ledger changed, its state following. -/
def Cassette.ledger (r : Cassette) (f : Ledger → Ledger) : Cassette := { r with kept := (f r.kept).levelled }

theorem Cassette.usable_iff (r : Cassette) : r.usable = true ↔ r.kept.state = .present ∨ r.kept.state = .low := by
  simp [Cassette.usable]

theorem Ledger.level_usable (k : Ledger) : k.level = .present ∨ k.level = .low := by
  unfold Ledger.level
  split <;> simp

/-- A cassette stays PRESENT or LOW when its state follows its estimate. -/
theorem Ledger.levelled_usable (k : Ledger) : (k.levelled.state = .present ∨ k.levelled.state = .low) ↔
    (k.state = .present ∨ k.state = .low) := by
  unfold Ledger.levelled
  dsimp only
  split
  · next h => simp [h, k.level_usable]
  · rfl

/-- A cassette whose ledger is changed in a usable state stays usable. -/
theorem Cassette.ledger_listed {r : Cassette} {f : Ledger → Ledger}
    (h : (f r.kept).state = .present ∨ (f r.kept).state = .low) :
    (r.ledger f).kept.state ∈ [CassState.present, .low] := by
  have hlevel := (Ledger.levelled_usable (f r.kept)).mpr h
  simpa [Cassette.ledger] using hlevel

theorem State.relevel_nd (s : State) (c : Cass) : (s.relevel c).nd = (s.modCass c fun r => r.ledger id).nd := by
  have hcongr : ∀ f : Cassette → Cassette, f (s.cass c) = (s.cass c).ledger id →
      (s.modCass c f).nd = (s.modCass c fun r => r.ledger id).nd := fun f hf => by
    refine congrArg (fun cs => { s.nd with cassettes := cs }) (Four.ext_get fun k => ?_)
    rw [Four.get_modify, Four.get_modify]
    split
    · next hk => rw [hk]; exact hf
    · rfl
  unfold State.relevel
  split
  · next h =>
    rw [State.cassTo_nd]
    refine hcongr _ ?_
    rw [Cassette.usable_iff] at h
    simp [Cassette.inState, Cassette.ledger, Ledger.levelled, h]
  · next h =>
    rw [Cassette.usable_iff] at h
    have hsame : s.nd = (s.modCass c fun r => r).nd :=
      congrArg (fun cs => { s.nd with cassettes := cs }) (Four.modify_same rfl).symm
    rw [hsame]
    refine hcongr _ ?_
    simp [Cassette.ledger, Ledger.levelled, h]

theorem State.modLedger_nd (s : State) (c : Cass) (f : Ledger → Ledger) :
    (s.modLedger c f).nd = { s.nd with cassettes := s.nd.cassettes.modify c fun r => r.ledger f } := by
  unfold State.modLedger
  rw [State.relevel_nd]
  simp only [State.modCass, Four.modify_modify]
  rfl

theorem State.modLedger_cass (s : State) (c k : Cass) (f : Ledger → Ledger) :
    (s.modLedger c f).cass k = if k = c then (s.cass k).ledger f else s.cass k := by
  unfold State.cass
  rw [State.modLedger_nd, Four.get_modify]

/-- A cassette's slot and what is committed of it aside from its ledger are as they were. -/
theorem State.modLedger_at (s : State) (c : Cass) (f : Ledger → Ledger) :
    (s.modLedger c f).cass c = { s.cass c with kept := (f (s.cass c).kept).levelled } := by
  rw [State.modLedger_cass, if_pos rfl]
  rfl

theorem State.modLedger_ne (s : State) {c k : Cass} (h : k ≠ c) (f : Ledger → Ledger) :
    (s.modLedger c f).cass k = s.cass k := by
  rw [State.modLedger_cass, if_neg h]

theorem State.cassTo_cass (s : State) (c k : Cass) (st : CassState) :
    (s.cassTo c st).cass k = if k = c then (s.cass k).inState st else s.cass k := by
  unfold State.cass
  rw [State.cassTo_nd]
  exact Four.get_modify ..

/-! ## The dispenser with what is committed left out (R94) -/

/-- The dispenser with what is committed left out. -/
def ND.uncommitted (nd : ND) : ND := { nd with cassettes := nd.cassettes.map fun r => { r with committed := 0 } }

/-- Dispensers that differ in what is committed alone. -/
theorem ND.uncommitted_kept {a b : ND} (h : a.uncommitted = b.uncommitted) (k : Cass) :
    (a.cassettes.get k).kept = (b.cassettes.get k).kept := by
  have hget := congrArg (fun nd => (nd.cassettes.get k).kept) h
  simpa only [ND.uncommitted, Four.get_map] using hget

theorem ND.uncommitted_fields {a b : ND} (h : a.uncommitted = b.uncommitted) : a.state = b.state ∧ a.box = b.box ∧
    a.current = b.current ∧ a.pick = b.pick ∧ a.arrivalDue = b.arrivalDue ∧ a.gauge = b.gauge ∧ a.rejects = b.rejects ∧
    a.ceiling = b.ceiling ∧ a.strayInPath = b.strayInPath ∧ a.stopping = b.stopping ∧ a.safeDoorOpen = b.safeDoorOpen := by
  have field : ∀ {α : Type} (f : ND → α), (∀ nd : ND, f nd.uncommitted = f nd) → f a = f b := fun f hf => by
    rw [← hf a, ← hf b, h]
  exact ⟨field _ fun _ => rfl, field _ fun _ => rfl, field _ fun _ => rfl, field _ fun _ => rfl, field _ fun _ => rfl,
    field _ fun _ => rfl, field _ fun _ => rfl, field _ fun _ => rfl, field _ fun _ => rfl, field _ fun _ => rfl,
    field _ fun _ => rfl⟩

@[simp] theorem State.modCass_uncommitted {s : State} {c : Cass} {f : Cassette → Cassette}
    (hf : ∀ r, { f r with committed := 0 } = { r with committed := 0 }) : (s.modCass c f).nd.uncommitted = s.nd.uncommitted := by
  refine congrArg (fun cs => { s.nd with cassettes := cs }) (Four.ext_get fun k => ?_)
  simp only [Four.get_map, State.modCass, Four.get_modify]
  split
  · exact hf _
  · rfl

@[simp] theorem State.releaseCommitted_uncommitted (s : State) (ld : Load) :
    (s.releaseCommitted ld).nd.uncommitted = s.nd.uncommitted := by
  unfold State.releaseCommitted
  generalize (Ix4.all : List Cass) = cs
  induction cs generalizing s with
  | nil => rfl
  | cons c cs ih => exact (ih _).trans (State.modCass_uncommitted fun _ => rfl)

/-- What is committed of a cassette falls by the notes of the load that were planned and not accepted (R94). -/
theorem State.releaseCommitted_cass (s : State) (ld : Load) (k : Cass) : (s.releaseCommitted ld).cass k =
    { s.cass k with committed := (s.cass k).committed - (ld.planned.get k - ld.accepted.get k) } := by
  simp only [State.releaseCommitted, Ix4.all, List.foldl_cons, List.foldl_nil, State.cass_modCass]
  cases k <;> rfl

theorem State.handBack_uncommitted {s : State} (id : Nat) (h : s.nd.state ≠ .waiting) : s.handBack id = s :=
  if_neg fun hn => h hn.1

/-- A PLANNED load that is given up leaves of the dispenser all but what is committed, the dispenser not WAITING. -/
theorem State.cancelIfPlanned_uncommitted {s : State} (id : Nat) (h : s.nd.state ≠ .waiting) :
    (s.cancelIfPlanned id).nd.uncommitted = s.nd.uncommitted := by
  unfold State.cancelIfPlanned
  split
  · split
    · rw [State.cancelLoad, State.handBack_uncommitted _ h]
      simp
    · rfl
  · rfl

theorem State.cancelPlanned_uncommitted {s : State} (ids : List Nat) (h : s.nd.state ≠ .waiting) :
    (s.cancelPlanned ids).nd.uncommitted = s.nd.uncommitted := by
  unfold State.cancelPlanned
  induction ids generalizing s with
  | nil => rfl
  | cons i ids ih =>
    have hi := State.cancelIfPlanned_uncommitted (s := s) i h
    refine (ih ?_).trans hi
    rw [(ND.uncommitted_fields hi).1]
    exact h

/-- A load that is not in the table stays out of it when others are given up. -/
theorem State.cancelPlanned_load {s : State} {id : Nat} (ids : List Nat) (h : s.load id = none) :
    (s.cancelPlanned ids).load id = none := by
  have hone : ∀ (u : State) (i : Nat), u.load id = none → (u.cancelIfPlanned i).load id = none := fun u i hu => by
    unfold State.cancelIfPlanned
    split
    · split
      · rw [State.cancelLoad, State.freeLoad_load]
        split
        · rfl
        · rw [State.load_of_dp (s := u) (by simp)]
          exact hu
      · exact hu
    · exact hu
  unfold State.cancelPlanned
  induction ids generalizing s with
  | nil => exact h
  | cons i ids ih => exact ih (hone s i h)

/-! ## The reject box and the pick side (R68, R102) -/

/-- The dispenser with notes put into the reject box. -/
def ND.boxed (nd : ND) (n : Nat) : ND :=
  { nd with box := min 300 (nd.box + n), emptying := nd.emptying.map fun e => { e with added := e.added + n } }

theorem State.purgePick_nd (s : State) : s.purgePick.nd = s.nd.boxed s.ss.pick.notes := State.boxAdd_nd ..

theorem State.purgePick_ss (s : State) : s.purgePick.ss = { s.ss with pick := .empty } := State.boxAdd_ss ..

theorem ND.boxed_uncommitted (nd : ND) (n : Nat) : (nd.boxed n).uncommitted = nd.uncommitted.boxed n := rfl

/-! ## A load that fails in picking (R73, R96) -/

/-- What a load that fails leaves: its record freed, its notes in the reject box, its cause told (R96). -/
theorem State.failLoad_fails {s : State} {id : Nat} {ld : Load} (h : s.load id = some ld) (hw : s.nd.state ≠ .waiting)
    (cause : FailCause) :
    (s.failLoad id cause).load id = none ∧ (s.failLoad id cause).ss = { s.ss with pick := .empty } ∧
      (s.failLoad id cause).nd.uncommitted = (s.nd.boxed s.ss.pick.notes).uncommitted ∧
      (s.lc.conds.length = 69 → (s.failLoad id cause).lc.conds[(Cond.lane ld.lane .dispenseFailed).num - 1]?.map (·.snapshot) =
        some (some (u8 id ++ u8 cause.code))) := by
  have heq : s.failLoad id cause = ((((s.releaseCommitted ld).freeLoad id .failed).purgePick.cancelPlanned
      (s.dp.mates id)).raiseLane ld.lane .dispenseFailed (u8 id ++ u8 cause.code)) := by
    unfold State.failLoad
    rw [h]
  generalize hu : ((s.releaseCommitted ld).freeLoad id .failed).purgePick = u at heq
  have hufreed : u.load id = none := by
    rw [← hu, State.load_of_dp (s := (s.releaseCommitted ld).freeLoad id .failed) (by simp), State.freeLoad_load, if_pos rfl]
  have hupick : ((s.releaseCommitted ld).freeLoad id .failed).ss = s.ss := by simp
  have huss : u.ss = { s.ss with pick := .empty } := by
    rw [← hu, State.purgePick_ss, hupick]
  have hund : u.nd.uncommitted = (s.nd.boxed s.ss.pick.notes).uncommitted := by
    have hnd : ((s.releaseCommitted ld).freeLoad id .failed).nd = (s.releaseCommitted ld).nd := by simp
    rw [← hu, State.purgePick_nd, hupick, hnd, ND.boxed_uncommitted, State.releaseCommitted_uncommitted, ND.boxed_uncommitted]
  have hustate : u.nd.state ≠ .waiting := by
    rw [(ND.uncommitted_fields hund).1]
    exact hw
  have huconds : s.lc.conds.length = 69 → u.lc.Tells [] := fun hlen => by
    rw [← hu]
    apply_rules [State.purgePick_tells, State.freeLoad_tells]
    simpa using LC.tells_nil hlen
  rw [heq]
  refine ⟨State.cancelPlanned_load _ hufreed, ?_, (State.cancelPlanned_uncommitted _ hustate).trans hund, fun hlen => ?_⟩
  · show (u.cancelPlanned _).ss = _
    simpa using huss
  · exact LC.raise_snapshot (State.cancelPlanned_tells _ _ (huconds hlen)).1 (LaneCond.num_lt ld.lane .dispenseFailed) _

/-- The dispenser that has dropped its load. -/
def ND.dropped (nd : ND) (st : NDState) : ND :=
  { nd with state := st, current := none, pick := none, arrivalDue := none, stopping := false }

theorem State.ndTo_nd (s : State) (st : NDState) : (s.ndTo st).nd = s.nd.dropped st := rfl

/-- The current load fails, the dispenser in the state its cause leaves it in (R73, R96). -/
theorem State.pickFails_fails {s : State} {id : Nat} {ld : Load} (hc : s.nd.current = some id) (h : s.load id = some ld)
    (cause : FailCause) {st : NDState} (hst : st ≠ .waiting) :
    (s.pickFails cause st).load id = none ∧ (s.pickFails cause st).ss = { s.ss with pick := .empty } ∧
      (s.pickFails cause st).nd.uncommitted = ((s.nd.dropped st).boxed s.ss.pick.notes).uncommitted ∧
      (s.lc.conds.length = 69 → (s.pickFails cause st).lc.conds[(Cond.lane ld.lane .dispenseFailed).num - 1]?.map (·.snapshot) =
        some (some (u8 id ++ u8 cause.code))) := by
  have heq : s.pickFails cause st = (s.ndTo st).failLoad id cause := by
    unfold State.pickFails
    rw [hc]
  rw [heq]
  exact State.failLoad_fails (s := s.ndTo st) h hst cause

section
set_option backward.isDefEq.respectTransparency false
variable {told : List Nat}

@[simp] theorem State.failLoad_tells (s : State) (id : Nat) (cause : FailCause) (ht : s.lc.Tells told) :
    (s.failLoad id cause).lc.Tells told := by
  unfold State.failLoad
  split
  · exact ht
  · next ld h =>
    have hpurged : ((s.releaseCommitted ld).freeLoad id .failed).purgePick.lc.Tells told := by
      apply_rules [State.purgePick_tells, State.freeLoad_tells]
    exact LC.raise_tells (State.cancelPlanned_tells _ _ hpurged) _ _

@[simp] theorem State.pickFails_tells (s : State) (cause : FailCause) (st : NDState) (ht : s.lc.Tells told) :
    (s.pickFails cause st).lc.Tells told := by
  unfold State.pickFails
  split
  · exact ht
  · exact State.failLoad_tells _ _ _ ht

end

/-- What picking that fails leaves of the dispenser, whether a load is there or not (R73). -/
theorem State.pickFails_stops (s : State) (cause : FailCause) {st : NDState} (hst : st ≠ .waiting) :
    ∃ nd, (s.pickFails cause st).nd.uncommitted = (s.nd.dropped st).uncommitted.boxed nd ∨
      (s.pickFails cause st).nd.uncommitted = (s.nd.dropped st).uncommitted := by
  cases hc : s.nd.current with
  | none => exact ⟨0, .inr (by simp [State.pickFails, hc, State.ndTo_nd])⟩
  | some id =>
    have heq : s.pickFails cause st = (s.ndTo st).failLoad id cause := by simp [State.pickFails, hc]
    cases h : s.load id with
    | none =>
      have hnone : (s.ndTo st).failLoad id cause = s.ndTo st := by
        have : (s.ndTo st).load id = none := h
        simp [State.failLoad, this]
      exact ⟨0, .inr (by rw [heq, hnone, State.ndTo_nd])⟩
    | some ld => exact ⟨_, .inl (State.pickFails_fails hc h cause hst).2.2.1⟩

/-! ## Picking (R69, R70) -/

theorem Load.nextCass_some {ld : Load} {before after : List Cass} {k : Cass} (ho : ld.order = before ++ k :: after)
    (hb : ∀ b ∈ before, ld.planned.get b ≤ ld.accepted.get b) (hk : ld.accepted.get k < ld.planned.get k) :
    ld.nextCass = some k := by
  unfold Load.nextCass
  rw [ho, List.find?_append, List.find?_eq_none.mpr fun b hm => by simpa using hb b hm, Option.none_or,
    List.find?_cons_of_pos (by simpa using hk)]

theorem Load.nextCass_none {ld : Load} (h : ∀ c ∈ ld.order, ld.planned.get c ≤ ld.accepted.get c) : ld.nextCass = none :=
  List.find?_eq_none.mpr fun c hc => by simpa using h c hc

/-- A ledger with its note on the way (R70). -/
def Ledger.picked (k : Ledger) : Ledger := { k with inPath := 1, estimate := k.estimate - 1 }

/-- A dispenser whose next note is on the way (R70). -/
def ND.picking (nd : ND) (k : Cass) (due : Nat) : ND :=
  { nd with
    cassettes := nd.cassettes.modify k fun r => r.ledger Ledger.picked
    pick := some k, lastPick := some k, arrivalDue := some due }

theorem State.pickFrom_nd (s : State) (k : Cass) : (s.pickFrom k).nd = s.nd.picking k (s.now + 250) := by
  have hnow : (s.modLedger k Ledger.picked).now = s.now := by simp
  show { (s.modLedger k Ledger.picked).nd with
    pick := some k, lastPick := some k, arrivalDue := some ((s.modLedger k Ledger.picked).now + 250) } = _
  rw [State.modLedger_nd, hnow]
  rfl

section
variable {s : State} {id : Nat} {ld : Load}

theorem State.nextPick_picks {k : Cass} (hc : s.nd.current = some id) (h : s.load id = some ld) (hn : ld.nextCass = some k)
    (hu : (s.cass k).kept.state ∈ [CassState.present, .low]) : s.nextPick = s.pickFrom k := by
  have husable : (s.cass k).usable = true := by simpa [Cassette.usable] using hu
  simp [State.nextPick, hc, h, hn, husable]

theorem State.nextPick_completes (hc : s.nd.current = some id) (h : s.load id = some ld) (hn : ld.nextCass = none) :
    s.nextPick = s.loadComplete id := by
  simp [State.nextPick, hc, h, hn, State.load_id h]

/-- A load with room in the box for it (R68). -/
theorem State.loadFits_iff (h : s.load id = some ld) : s.loadFits id = true ↔
    s.nd.box + s.ss.notes + ld.planned.sum + s.dp.set.rejectCeiling + 2 ≤ 300 := by
  simp [State.loadFits, h, State.headroom, Config.boxCapacity]

theorem State.loadFits_not (h : s.load id = some ld)
    (hbig : 300 < s.nd.box + s.ss.notes + ld.planned.sum + s.dp.set.rejectCeiling + 2) : s.loadFits id = false := by
  rw [← Bool.not_eq_true, State.loadFits_iff h]
  omega

/-- The dispenser as picking begins (R69). -/
def State.beginning (s : State) (id : Nat) : State :=
  { s.modLoad id fun ld => { ld with state := .picking } with
    nd := { s.nd with state := .picking, current := some id, ceiling := s.dp.set.rejectCeiling, rejects := 0 } }

theorem State.startPicking_eq (s : State) (id : Nat) : s.startPicking id = (s.beginning id).nextPick := rfl

theorem State.beginning_load (h : s.load id = some ld) : (s.beginning id).load id = some { ld with state := .picking } :=
  State.modLoad_at h fun _ => rfl

theorem exec_loadHandOver (hrun : s.phase = .running) (hg : s.nd.gauge = none) {c : Instr}
    (hc : (c = .loadHandOver ∧ s.nd.state = .idle ∧ s.ss.pick = .empty ∧ s.dp.nextLoad = some id) ∨
      (c = .pickingStart ∧ s.nd.state = .waiting ∧ s.nd.current = some id)) :
    exec c s = .next (if s.loadFits id then s.startPicking id
      else { s with nd := { s.nd with state := .waiting, current := some id } }).finish := by
  have hstarted : s.started = true := by simp [State.started, hrun]
  rcases hc with ⟨rfl, hidle, hpick, hnext⟩ | ⟨rfl, hwait, hcur⟩
  · refine exec_event_to rfl rfl (State.on_of_running hrun) ?_
    show s.handOverLoad = _
    simp [State.handOverLoad, hstarted, hidle, hg, hpick, hnext, State.modND]
  · refine exec_event_to rfl rfl (State.on_of_running hrun) ?_
    show s.pickWaiting = _
    have hsame : ({ s with nd := { s.nd with state := .waiting, current := some id } } : State) = s := by
      rw [← hwait, ← hcur]
    rw [hsame]
    simp [State.pickWaiting, hstarted, hwait, hg, hcur]

end

/-! ## Misses (R70) -/

/-- A ledger whose note did not come (R70). -/
def Ledger.missed (k : Ledger) : Ledger := { k with inPath := 0, estimate := k.estimate + 1, misses := k.misses + 1 }

/-- The dispenser once a miss is booked. -/
def State.missing (s : State) (k : Cass) : State := (s.modLedger k Ledger.missed).modND fun nd => { nd with pick := none, arrivalDue := none }

theorem State.missing_nd (s : State) (k : Cass) : (s.missing k).nd = { s.nd with
    cassettes := s.nd.cassettes.modify k fun r => r.ledger Ledger.missed, pick := none, arrivalDue := none } := by
  show { (s.modLedger k Ledger.missed).nd with pick := none, arrivalDue := none } = _
  rw [State.modLedger_nd]

theorem State.missing_frame (s : State) (k : Cass) : (s.missing k).dp = s.dp ∧ (s.missing k).ss = s.ss ∧
    (s.missing k).now = s.now ∧ (∀ told, s.lc.Tells told → (s.missing k).lc.Tells told) := by
  refine ⟨by simp [State.missing, State.modND], by simp [State.missing, State.modND], by simp [State.missing, State.modND],
    fun told h => State.modLedger_tells _ _ _ h⟩

theorem State.missed_eq (s : State) (k : Cass) : s.missed k =
    if 3 ≤ ((s.missing k).cass k).kept.misses then ((s.missing k).cassTo k .empty).pickFails .pickFailed .idle
    else if (s.missing k).nd.stopping then (s.missing k).loadStopped else (s.missing k).nextPick := rfl

/-- Settles O42: a load handed over picks its first note or waits; a miss picks again or fails the load. -/
theorem picksAndMisses : Obligations.PicksAndMisses := by
  intro id ld s hrun hload hg
  refine ⟨fun c hc => ⟨fun hbig => ?_, fun hfits before after k ho hb hk hu => ?_⟩,
    fun k due hpick hdue hcur hstop => ⟨fun hm hn hu => ?_, fun hm hlen => ?_⟩⟩
  · rw [exec_loadHandOver hrun hg hc, State.loadFits_not hload hbig]
    rfl
  · have hnext : ({ ld with state := .picking } : Load).nextCass = some k := Load.nextCass_some ho hb hk
    have hstart : s.startPicking id = (s.beginning id).pickFrom k := by
      rw [State.startPicking_eq]
      exact State.nextPick_picks (s := s.beginning id) rfl (State.beginning_load hload) hnext hu
    have hnd := State.pickFrom_nd (s.beginning id) k
    have hcass : ∀ j, ((s.beginning id).pickFrom k).cass j =
        if j = k then (s.cass j).ledger Ledger.picked else s.cass j := fun j => by
      rw [State.cass, hnd]
      exact Four.get_modify ..
    refine ⟨_, by rw [exec_loadHandOver hrun hg hc, (State.loadFits_iff hload).mpr hfits, if_pos rfl, hstart], ?_⟩
    simp only [State.finish_load, State.finish_cass, State.finish_frame, hcass, if_true, hnd]
    refine ⟨?_, rfl, rfl, rfl, rfl, rfl, rfl, rfl, rfl, rfl, fun j hj => if_neg hj, rfl, ?_, ?_⟩
    · rw [State.load_of_dp (s := s.beginning id) (by simp)]
      exact State.beginning_load hload
    · simp [State.beginning]
    · simp [State.beginning]
  all_goals
    have hdoes : s.onPickMiss = (s.reach due).missed k := by simp [State.onPickMiss, hpick, hdue]
    have hnd := State.missing_nd (s.reach due) k
    obtain ⟨hdp, hss, hnow, htells⟩ := State.missing_frame (s.reach due) k
    have hcass : ∀ j, ((s.reach due).missing k).cass j =
        if j = k then (s.cass j).ledger Ledger.missed else s.cass j := fun j => by
      rw [State.cass, hnd]
      exact Four.get_modify ..
    have hmisses : (((s.reach due).missing k).cass k).kept.misses = (s.cass k).kept.misses + 1 := by
      rw [hcass, if_pos rfl]
      rfl
    have hmcur : ((s.reach due).missing k).nd.current = some id := by rw [hnd]; exact hcur
    have hmload : ((s.reach due).missing k).load id = some ld := by
      rw [State.load_of_dp hdp]
      exact hload
    rw [State.missed_eq, hmisses] at hdoes
  · have hmstop : ((s.reach due).missing k).nd.stopping = false := by rw [hnd]; exact hstop
    have hustill : (((s.reach due).missing k).cass k).kept.state ∈ [CassState.present, .low] := by
      rw [hcass, if_pos rfl]
      exact Cassette.ledger_listed (List.mem_pair.mp hu)
    rw [if_neg (by omega), hmstop, if_neg nofun, State.nextPick_picks hmcur hmload hn hustill] at hdoes
    have hpnd := State.pickFrom_nd ((s.reach due).missing k) k
    generalize (s.reach due).missing k = u at hdoes hnd hdp hss hnow hcass hmload hpnd
    have hpcass : (u.pickFrom k).cass k = ((s.cass k).ledger Ledger.missed).ledger Ledger.picked := by
      rw [State.cass, hpnd]
      refine (Four.get_modify ..).trans ((if_pos rfl).trans ?_)
      rw [← State.cass, hcass, if_pos rfl]
    have hunow : u.now = max s.now due := hnow
    refine ⟨_, exec_event_to rfl rfl (State.on_of_running hrun) hdoes, ?_⟩
    simp only [State.finish_load, State.finish_cass, State.finish_frame, hpcass, hpnd]
    refine ⟨?_, rfl, ?_, rfl, rfl, ?_, ?_, ?_, ?_⟩
    · simpa using hunow
    · show (s.cass k).kept.estimate + 1 - 1 = _
      omega
    · rw [← hunow]
      rfl
    · rw [State.load_of_dp (s := u) (by simp)]
      exact hmload
    · show u.nd.box = s.nd.box
      rw [hnd]
      rfl
    · simpa using hss
  · rw [if_pos (by omega)] at hdoes
    have hecass := State.cassTo_cass ((s.reach due).missing k) k k .empty
    rw [if_pos rfl, hcass, if_pos rfl] at hecass
    have hend : (((s.reach due).missing k).cassTo k .empty).nd =
        (((s.reach due).missing k).modCass k fun r => r.inState .empty).nd := State.cassTo_nd ..
    have hetells : (((s.reach due).missing k).cassTo k .empty).lc.Tells [] :=
      State.cassTo_tells _ _ _ (htells _ (LC.tells_nil hlen))
    have heload : (((s.reach due).missing k).cassTo k .empty).load id = some ld := by
      rw [State.load_of_dp (s := (s.reach due).missing k) (by simp)]
      exact hmload
    have hess : (((s.reach due).missing k).cassTo k .empty).ss = s.ss := by
      simpa using hss
    generalize ((s.reach due).missing k).cassTo k .empty = u at hdoes hecass hend hetells heload hess
    have hucur : u.nd.current = some id := by rw [hend]; exact hmcur
    have hubox : u.nd.box = s.nd.box := by
      rw [hend]
      show ((s.reach due).missing k).nd.box = s.nd.box
      rw [hnd]
      rfl
    obtain ⟨hfreed, hpicked, hfnd, hsnap⟩ := State.pickFails_fails hucur heload .pickFailed (st := .idle) nofun
    obtain ⟨-, hbox, -⟩ := ND.uncommitted_fields hfnd
    have hkept : ((u.pickFails .pickFailed .idle).cass k).kept = (u.cass k).kept := ND.uncommitted_kept hfnd k
    rw [hecass] at hkept
    refine ⟨_, exec_event_to rfl rfl (State.on_of_running hrun) hdoes, ?_⟩
    simp only [State.finish_load, State.finish_cass, State.finish_frame, State.finish_conds, hkept, hpicked, hbox]
    refine ⟨rfl, ?_, rfl, rfl, hfreed, trivial, ?_, hsnap hetells.1⟩
    · show (s.cass k).kept.misses + 1 = 3
      omega
    · show min 300 (u.nd.box + u.ss.pick.notes) = _
      rw [hubox, hess]

/-! ## The gauge (R71, R72) -/

theorem classify_thin {reading reference threshold : Nat} (h : reading < reference * 50 / 100) :
    classify reading reference threshold = .thin := if_pos h

theorem classify_double {reading reference threshold : Nat} (h : reference * 50 / 100 ≤ reading)
    (hd : reference * threshold / 100 ≤ reading) : classify reading reference threshold = .double :=
  (if_neg (by omega)).trans (if_pos hd)

theorem classify_single {reading reference threshold : Nat} (h : reference * 50 / 100 ≤ reading)
    (hd : reading < reference * threshold / 100) : classify reading reference threshold = .single :=
  (if_neg (by omega)).trans (if_neg (by omega))

/-- A ledger once a SINGLE of a reading is booked (R71, R72). -/
def Ledger.single (reading : Nat) (k : Ledger) : Ledger :=
  { k with accepted := k.accepted + 1, inPath := 0, doubles := 0, thickness := learn k.thickness reading }

/-- A ledger once `n` notes are booked as rejects: 2 of a DOUBLE, 1 of a THIN (R71). -/
def Ledger.rejecting (n : Nat) (k : Ledger) : Ledger :=
  { k with
    estimate := k.estimate - ((n : Int) - 1), rejected := k.rejected + n, inPath := 0
    doubles := if n = 2 then k.doubles + 1 else 0 }

/-- A dispenser whose gauge is free again. -/
def ND.freed (nd : ND) : ND := { nd with gauge := none, pick := none }

/-- A dispenser once a SINGLE is booked. -/
def ND.singled (nd : ND) (k : Cass) (reading : Nat) : ND :=
  { nd.freed with cassettes := nd.cassettes.modify k fun r => { r.ledger (Ledger.single reading) with committed := r.committed - 1 } }

/-- A cassette once `n` notes are booked as rejects, in FAULT at its fifth DOUBLE in a row (R71, R73). -/
def Cassette.rejecting (n : Nat) (r : Cassette) : Cassette :=
  if 5 ≤ (r.ledger (Ledger.rejecting n)).kept.doubles ∧ n = 2 then (r.ledger (Ledger.rejecting n)).inState .fault
  else r.ledger (Ledger.rejecting n)

/-- A dispenser once `n` notes are booked as rejects. -/
def ND.rejecting (nd : ND) (k : Cass) (n : Nat) : ND :=
  { nd.freed.boxed n with cassettes := nd.cassettes.modify k fun r => r.rejecting n, rejects := nd.rejects + n }

section
variable {s : State} {g : Gauge} {k : Cass}

/-- A note of a pick leaves the gauge. -/
def State.leaving (s : State) : State := { s with nd := s.nd.freed }

theorem State.noteLeaves_picked (hst : g.stray = false) (hk : g.cassette = some k) :
    s.noteLeaves g = (s.leaving.applyOutcome k g).afterOutcome k := by
  simp [State.noteLeaves, hst, hk, State.modND, State.leaving, ND.freed]

/-- A SINGLE booked on its cassette (R71). -/
def State.booked (s : State) (k : Cass) (reading : Nat) : State :=
  (s.modLedger k (Ledger.single reading)).modCass k fun r => { r with committed := r.committed - 1 }

theorem State.booked_nd (s : State) (k : Cass) (reading : Nat) : (s.booked k reading).nd = { s.nd with
    cassettes := s.nd.cassettes.modify k fun r => { r.ledger (Ledger.single reading) with committed := r.committed - 1 } } := by
  unfold State.booked State.modCass
  dsimp only
  rw [State.modLedger_nd]
  dsimp only
  rw [Four.modify_modify]
  rfl

theorem State.booked_frame (s : State) (k : Cass) (reading : Nat) : (s.booked k reading).dp = s.dp ∧
    (s.booked k reading).ss = s.ss ∧ (s.booked k reading).now = s.now := by
  simp [State.booked]

theorem State.applySingle_eq {id : Nat} (hc : s.nd.current = some id) (reading : Nat) : s.applySingle k reading =
    { (s.booked k reading).modLoad id fun ld => { ld with accepted := ld.accepted.modify k (· + 1) } with
      ss := { s.ss with pick := .filling id (s.ss.pick.notes + 1) } } := by
  obtain ⟨-, hss, -⟩ := s.booked_frame k reading
  have hcur : (s.booked k reading).nd.current = some id := by
    rw [State.booked_nd]
    exact hc
  unfold State.applySingle
  generalize hu : s.booked k reading = u at hss hcur
  have hbooked : ((s.modLedger k fun k => { k with
      accepted := k.accepted + 1, inPath := 0, doubles := 0, thickness := learn k.thickness reading }).modCass k fun r =>
    { r with committed := r.committed - 1 }) = u := hu
  dsimp only
  rw [hbooked, hcur]
  dsimp only
  rw [← hss]
  rfl

/-- A SINGLE booked (R71, R101). -/
theorem State.applied_single {id : Nat} {ld : Load} (ho : g.outcome = .single) (hc : s.nd.current = some id)
    (h : s.load id = some ld) :
    (s.leaving.applyOutcome k g).nd = s.nd.singled k g.reading ∧
      (s.leaving.applyOutcome k g).load id = some { ld with accepted := ld.accepted.modify k (· + 1) } ∧
      (s.leaving.applyOutcome k g).ss = { s.ss with pick := .filling id (s.ss.pick.notes + 1) } ∧
      (s.leaving.applyOutcome k g).now = s.now := by
  have happly : s.leaving.applyOutcome k g = s.leaving.applySingle k g.reading := by
    unfold State.applyOutcome
    rw [ho]
  obtain ⟨hdp, -, hnow⟩ := s.leaving.booked_frame k g.reading
  rw [happly, State.applySingle_eq (s := s.leaving) hc]
  refine ⟨s.leaving.booked_nd k g.reading, ?_, rfl, hnow⟩
  refine State.modLoad_at (s := s.leaving.booked k g.reading) ?_ fun _ => rfl
  rw [State.load_of_dp hdp]
  exact h

/-- Notes booked as rejects, the cassette in FAULT at its fifth DOUBLE in a row (R71, R73). -/
theorem State.applied_rejects {n : Nat} (ho : (g.outcome = .double ∧ n = 2) ∨ (g.outcome = .thin ∧ n = 1)) :
    (s.leaving.applyOutcome k g).nd = s.nd.rejecting k n ∧
      (s.leaving.applyOutcome k g).dp = s.dp ∧ (s.leaving.applyOutcome k g).ss = s.ss ∧
      (s.leaving.applyOutcome k g).now = s.now ∧
      (∀ told, s.lc.Tells told → (s.leaving.applyOutcome k g).lc.Tells told) := by
  rcases ho with ⟨ho, rfl⟩ | ⟨ho, rfl⟩
  · generalize hu : s.leaving.modLedger k (Ledger.rejecting 2) = u
    have happly : s.leaving.applyOutcome k g =
        ((if 5 ≤ (u.cass k).kept.doubles then u.cassTo k .fault else u).boxAdd 2).modND fun nd =>
          { nd with rejects := nd.rejects + 2 } := by
      have hf : Ledger.rejecting 2 = fun k => { k with
          estimate := k.estimate - 1, rejected := k.rejected + 2, inPath := 0, doubles := k.doubles + 1 } := by
        funext l
        simp [Ledger.rejecting]
      rw [← hu, hf]
      unfold State.applyOutcome
      rw [ho]
      rfl
    have hucass : u.cass k = (s.cass k).ledger (Ledger.rejecting 2) := by
      rw [← hu, State.modLedger_cass, if_pos rfl]
      rfl
    have hund : (if 5 ≤ (u.cass k).kept.doubles then u.cassTo k .fault else u).nd = { s.nd.freed with
        cassettes := s.nd.cassettes.modify k fun r => r.rejecting 2 } := by
      have hnd : u.nd = { s.nd.freed with cassettes := s.nd.cassettes.modify k fun r => r.ledger (Ledger.rejecting 2) } := by
        rw [← hu]
        exact State.modLedger_nd ..
      have hext : ∀ f g : Cassette → Cassette, f (s.cass k) = g (s.cass k) →
          s.nd.cassettes.modify k f = s.nd.cassettes.modify k g := fun f g hfg => Four.ext_get fun j => by
        rw [Four.get_modify, Four.get_modify]
        split
        · next hj => rw [hj]; exact hfg
        · rfl
      split
      · next hd =>
        rw [hucass] at hd
        rw [State.cassTo_nd, State.modCass, hnd]
        dsimp only
        rw [Four.modify_modify]
        refine congrArg (fun cs => { s.nd.freed with cassettes := cs }) (hext _ _ ?_)
        exact (if_pos ⟨hd, rfl⟩).symm
      · next hd =>
        rw [hucass] at hd
        rw [hnd]
        refine congrArg (fun cs => { s.nd.freed with cassettes := cs }) (hext _ _ ?_)
        exact (if_neg fun hn => hd hn.1).symm
    have hframe : ∀ v : State, v = (if 5 ≤ (u.cass k).kept.doubles then u.cassTo k .fault else u) →
        v.dp = s.dp ∧ v.ss = s.ss ∧ v.now = s.now ∧ ∀ told, s.lc.Tells told → v.lc.Tells told := by
      have hukeeps : u.dp = s.dp ∧ u.ss = s.ss ∧ u.now = s.now := by
        rw [← hu]
        exact ⟨by simp [State.leaving], by simp [State.leaving], by simp [State.leaving]⟩
      have hutells : ∀ told, s.lc.Tells told → u.lc.Tells told := fun told ht => by
        rw [← hu]
        exact State.modLedger_tells _ _ _ ht
      rintro v rfl
      split
      · exact ⟨by simpa using hukeeps.1, by simpa using hukeeps.2.1, by simpa using hukeeps.2.2,
          fun told ht => State.cassTo_tells _ _ _ (hutells told ht)⟩
      · exact ⟨hukeeps.1, hukeeps.2.1, hukeeps.2.2, hutells⟩
    rw [happly]
    generalize (if 5 ≤ (u.cass k).kept.doubles then u.cassTo k .fault else u) = v at hund hframe
    obtain ⟨hdp, hss, hnow, htells⟩ := hframe v rfl
    refine ⟨?_, by simpa [State.modND] using hdp, by simpa [State.modND] using hss, by simpa [State.modND] using hnow,
      fun told ht => State.boxAdd_tells _ _ (htells told ht)⟩
    unfold State.modND
    dsimp only
    rw [State.boxAdd_nd, hund]
    rfl
  · have happly : s.leaving.applyOutcome k g = ((s.leaving.modLedger k (Ledger.rejecting 1)).boxAdd 1).modND fun nd =>
        { nd with rejects := nd.rejects + 1 } := by
      unfold State.applyOutcome
      rw [ho]
      have hf : Ledger.rejecting 1 = fun k => { k with rejected := k.rejected + 1, inPath := 0, doubles := 0 } := by
        funext l
        simp [Ledger.rejecting]
      rw [hf]
      rfl
    have hf : Cassette.rejecting 1 = fun r => r.ledger (Ledger.rejecting 1) :=
      funext fun r => if_neg fun hn => absurd hn.2 (by decide)
    rw [happly]
    refine ⟨?_, by simp [State.leaving, State.modND], by simp [State.leaving, State.modND], by simp [State.leaving, State.modND],
      fun told ht => State.boxAdd_tells _ _ (State.modLedger_tells _ _ _ ht)⟩
    unfold State.modND
    dsimp only
    rw [State.boxAdd_nd, State.modLedger_nd]
    show _ = { s.nd.freed.boxed 1 with cassettes := s.nd.cassettes.modify k (Cassette.rejecting 1), rejects := s.nd.rejects + 1 }
    rw [hf]
    rfl

end

/-! ## What follows an outcome (R71, R73) -/

section
variable {s : State} {k : Cass}

theorem State.afterOutcome_faulted (h : 5 ≤ (s.cass k).kept.doubles) : s.afterOutcome k = s.pickFails .pickFailed .idle := if_pos h

theorem State.afterOutcome_over (h : (s.cass k).kept.doubles < 5) (hc : s.nd.ceiling < s.nd.rejects) :
    s.afterOutcome k = s.pickFails .rejectCeiling .idle :=
  (if_neg (by simpa [Config.doubleLimit] using h)).trans (if_pos hc)

theorem State.afterOutcome_goesOn (h : (s.cass k).kept.doubles < 5) (hc : s.nd.rejects ≤ s.nd.ceiling)
    (hs : s.nd.stopping = false) : s.afterOutcome k = s.nextPick :=
  (if_neg (by simpa [Config.doubleLimit] using h)).trans ((if_neg (by omega)).trans (if_neg (by rw [hs]; exact nofun)))

/-- A load complete: the pick side FULL, the load STAGED, the dispenser IDLE (R73, R101). -/
theorem State.loadComplete_stages {id : Nat} {ld : Load} (h : s.load id = some ld) :
    (s.loadComplete id).nd = s.nd.dropped .idle ∧ (s.loadComplete id).load id = some { ld with state := .staged } ∧
      (s.loadComplete id).ss = { s.ss with pick := .full id s.ss.pick.notes } :=
  ⟨rfl, (State.modLoad_at (s := s.ndTo .idle) h fun _ => rfl), rfl⟩

/-- A ledger whose stray note is charged (R71). -/
def Ledger.strayed (k : Ledger) : Ledger := { k with estimate := k.estimate - 1, rejected := k.rejected + 1 }

/-- A cassette once a SINGLE is booked (R71). -/
def Cassette.singled (r : Cassette) (reading : Nat) : Cassette :=
  { r.ledger (Ledger.single reading) with committed := r.committed - 1 }

/-- A reject that is no fifth DOUBLE leaves the cassette's state to its estimate. -/
theorem Cassette.rejecting_kept (r : Cassette) {n : Nat} (h : n ≠ 2 ∨ r.kept.doubles < 4) :
    r.rejecting n = r.ledger (Ledger.rejecting n) := by
  refine if_neg fun hn => ?_
  obtain ⟨hd, rfl⟩ := hn
  have hd' : 5 ≤ r.kept.doubles + 1 := hd
  omega

theorem State.leavesGauge_eq {g : Gauge} (hg : s.nd.gauge = some g) (hst : g.stray = false) (hk : g.cassette = some k) :
    s.onNoteLeavesGauge = (s.leaving.applyOutcome k g).afterOutcome k := by
  unfold State.onNoteLeavesGauge
  rw [hg]
  exact State.noteLeaves_picked hst hk

/-- PATH_JAM is told of the note's cassette. -/
def State.jamTold (s : State) (g : Gauge) : State :=
  match g.cassette with
  | some c => s.stopPath.raise .pathJam (u8 c.num)
  | none => s.stopPath.raiseBare .pathJam

theorem State.jamTold_keeps (s : State) (g : Gauge) : (s.jamTold g).nd = s.stopPath.nd ∧ (s.jamTold g).dp = s.dp ∧
    (s.jamTold g).ss = s.ss := by
  unfold State.jamTold
  split <;> exact ⟨rfl, rfl, rfl⟩

theorem State.jamTold_tells {g : Gauge} (hlen : s.lc.conds.length = 69) : (s.jamTold g).lc.Tells [59] := by
  unfold State.jamTold
  split <;> exact LC.raise_tells_new (lc := s.lc) (LC.tells_nil hlen) (by decide) _

theorem State.jam_eq (s : State) (g : Gauge) : s.jam g =
    if s.nd.state = .picking then (s.jamTold g).pickFails .pathJam .fault else (s.jamTold g).ndTo .fault := by
  unfold State.jam State.jamTold
  simp only [beq_iff_eq] <;> cases g.cassette <;> rfl

/-- The path jams: the dispenser is in FAULT, a stray note's mark set, the ledgers as they were (R75). -/
theorem State.jam_stops (s : State) (g : Gauge) : (s.jam g).nd.state = .fault ∧ (s.jam g).nd.gauge = none ∧
    (s.jam g).nd.current = none ∧ (∀ k, ((s.jam g).cass k).kept = (s.cass k).kept) ∧
    (s.jam g).nd.strayInPath = s.stopPath.nd.strayInPath := by
  obtain ⟨hnd, -, -⟩ := s.jamTold_keeps g
  have hkept : ∀ (a : ND) (n : Nat), a.uncommitted = ((s.jamTold g).nd.dropped .fault).uncommitted.boxed n ∨
      a.uncommitted = ((s.jamTold g).nd.dropped .fault).uncommitted →
      a.state = .fault ∧ a.gauge = none ∧ a.current = none ∧ (∀ k, (a.cassettes.get k).kept = (s.cass k).kept) ∧
        a.strayInPath = s.stopPath.nd.strayInPath := by
    intro a n ha
    rw [hnd] at ha
    rcases ha with ha | ha
    · obtain ⟨hst, -, hcur, -, -, hg, -, -, hstray, -⟩ := ND.uncommitted_fields (b := (s.stopPath.nd.dropped .fault).boxed n) ha
      exact ⟨hst, hg, hcur, fun k => ND.uncommitted_kept (b := (s.stopPath.nd.dropped .fault).boxed n) ha k, hstray⟩
    · obtain ⟨hst, -, hcur, -, -, hg, -, -, hstray, -⟩ := ND.uncommitted_fields ha
      exact ⟨hst, hg, hcur, fun k => ND.uncommitted_kept ha k, hstray⟩
  rw [State.jam_eq]
  split
  · obtain ⟨n, hn⟩ := (s.jamTold g).pickFails_stops .pathJam (st := .fault) nofun
    exact hkept _ n hn
  · exact hkept _ 0 (.inr rfl)

end

/-- Settles O43: each note by its class, and what its outcome leads to. -/
theorem gaugeJudgesNotes : Obligations.GaugeJudgesNotes := by
  intro s hrun
  have hon := State.on_of_running hrun
  refine ⟨fun t k hst hg hp => ?_, fun t hst hg hp => ?_, fun g k hg hstray hk => ?_,
    fun g k id ld hg hstray hk hc hload hstop hd hr => ⟨fun ho hall => ?_, fun n extra hn => ⟨fun hle hnext hu => ?_, fun hover hlen => ?_⟩⟩,
    fun g k id ld hg hstray hk hc hload => ⟨fun j ho hstop hr hnext hu => ?_, fun ho hd hlen => ?_⟩, fun g hg hlen => ?_⟩
  · have hnd := State.modLedger_nd s k fun l => { l with misses := 0 }
    have hat := s.modLedger_at k fun l => { l with misses := 0 }
    have hne : ∀ j, j ≠ k → (s.modLedger k fun l => { l with misses := 0 }).cass j = s.cass j :=
      fun j hj => s.modLedger_ne hj _
    have hframe : (s.modLedger k fun l => { l with misses := 0 }).dp = s.dp ∧
        (s.modLedger k fun l => { l with misses := 0 }).ss = s.ss := by simp
    have hopen : s.nd.pathOpen = true := by simp [ND.pathOpen, hst]
    have hdoes : s.onNoteAtGauge t = ((s.modLedger k fun l => { l with misses := 0 }).modND fun nd => { nd with
        arrivalDue := none, gauge := some ⟨some k, false,
          classify (16 * t) ((s.modLedger k fun l => { l with misses := 0 }).cass k).kept.thickness
            (s.modLedger k fun l => { l with misses := 0 }).dp.set.doubleThreshold, 16 * t, s.now + 500⟩ }) := by
      unfold State.onNoteAtGauge State.noteReaches
      rw [if_pos ⟨hopen, hg⟩]
      dsimp only
      rw [hp]
      rfl
    have hthick : ((s.modLedger k fun l => { l with misses := 0 }).cass k).kept.thickness = (s.cass k).kept.thickness := by
      rw [hat]
      rfl
    rw [hthick, hframe.1] at hdoes
    generalize (s.modLedger k fun l => { l with misses := 0 }) = v at hnd hat hne hframe hdoes
    refine ⟨_, ⟨some k, false, classify (16 * t) (s.cass k).kept.thickness s.dp.set.doubleThreshold, 16 * t, s.now + 500⟩,
      exec_event_to rfl rfl hon hdoes, ?_⟩
    simp only [State.finish_cass, State.finish_frame]
    refine ⟨rfl, trivial, trivial, trivial, trivial, rfl, ?_, classify_thin, classify_double, classify_single, hne, hframe.1, hframe.2⟩
    show (v.cass k).kept.misses = 0
    rw [hat]
    rfl
  · have hopen : s.nd.pathOpen = true := by
      rcases List.mem_pair.mp hst with h | h <;> simp [ND.pathOpen, h]
    refine exec_event_to rfl rfl hon ?_
    show s.noteReaches t = _
    unfold State.noteReaches
    rw [if_pos ⟨hopen, hg⟩]
    dsimp only
    conv_lhs => rw [hp]
    rfl
  · have hdoes : s.onNoteLeavesGauge = (({ s with nd := { s.nd with gauge := none } } : State).modLedger k Ledger.strayed).boxAdd 1 := by
      unfold State.onNoteLeavesGauge
      rw [hg]
      unfold State.noteLeaves
      dsimp only
      rw [if_pos hstray, hk]
      rfl
    have hnd : s.onNoteLeavesGauge.nd = { s.nd.boxed 1 with
        gauge := none, cassettes := s.nd.cassettes.modify k fun r => r.ledger Ledger.strayed } := by
      rw [hdoes, State.boxAdd_nd, State.modLedger_nd]
      rfl
    have hframe : s.onNoteLeavesGauge.dp = s.dp ∧ s.onNoteLeavesGauge.ss = s.ss := by
      rw [hdoes]
      simp
    have hcass : ∀ j, s.onNoteLeavesGauge.cass j = if j = k then (s.cass j).ledger Ledger.strayed else s.cass j := fun j => by
      rw [State.cass, hnd]
      exact Four.get_modify ..
    refine ⟨_, exec_event_to rfl rfl hon (t := s.onNoteLeavesGauge) rfl, ?_⟩
    simp only [State.finish_cass, State.finish_frame, hcass, hnd, hframe, if_true]
    exact ⟨trivial, rfl, rfl, rfl, fun j hj => if_neg hj, rfl, trivial, trivial⟩
  · have hdoes := State.leavesGauge_eq hg hstray hk
    obtain ⟨hnd, hl, hss, -⟩ := State.applied_single (k := k) ho hc hload
    generalize s.leaving.applyOutcome k g = v at hdoes hnd hl hss
    have hcass : ∀ j, v.cass j = if j = k then (s.cass j).singled g.reading else s.cass j := fun j => by
      rw [State.cass, hnd]
      exact Four.get_modify ..
    have hk0 : (v.cass k).kept.doubles = 0 := by
      rw [hcass, if_pos rfl]
      rfl
    rw [State.afterOutcome_goesOn (by rw [hk0]; decide) (by rw [hnd]; exact hr) (by rw [hnd]; exact hstop),
      State.nextPick_completes (by rw [hnd]; exact hc) hl (Load.nextCass_none hall)] at hdoes
    obtain ⟨hend, hstaged, hfull⟩ := State.loadComplete_stages hl
    have hcass' : ∀ j, (v.loadComplete id).cass j = v.cass j := fun j => by rw [State.cass, hend]; rfl
    refine ⟨_, exec_event_to rfl rfl hon hdoes, ?_⟩
    simp only [State.finish_cass, State.finish_load, State.finish_frame, hcass', hcass, hend, hstaged, hfull, hnd, hss, if_true]
    exact ⟨rfl, rfl, rfl, rfl, trivial, rfl, rfl, rfl, rfl, rfl, rfl, rfl, rfl⟩
  · have hdoes := State.leavesGauge_eq hg hstray hk
    obtain ⟨hnd, hdp, hss, hnow, -⟩ := State.applied_rejects (s := s) (k := k) (n := n) (hn.imp (fun h => ⟨h.1, h.2.1⟩) fun h => ⟨h.1, h.2.1⟩)
    generalize s.leaving.applyOutcome k g = v at hdoes hnd hdp hss hnow
    have hdoubles := (s.cass k).rejecting_kept (n := n) (.inr (by omega))
    have hcass : ∀ j, v.cass j = if j = k then (s.cass j).rejecting n else s.cass j := fun j => by
      rw [State.cass, hnd]
      exact Four.get_modify ..
    have hl : v.load id = some ld := (State.load_of_dp hdp id).trans hload
    have hk5 : (v.cass k).kept.doubles < 5 := by
      rw [hcass, if_pos rfl, hdoubles]
      show (if n = 2 then (s.cass k).kept.doubles + 1 else 0) < 5
      split <;> omega
    have hustill : (v.cass k).kept.state ∈ [CassState.present, .low] := by
      rw [hcass, if_pos rfl, hdoubles]
      exact Cassette.ledger_listed (r := s.cass k) (List.mem_pair.mp hu)
    rw [State.afterOutcome_goesOn hk5 (by rw [hnd]; exact hle) (by rw [hnd]; exact hstop),
      State.nextPick_picks (by rw [hnd]; exact hc) hl hnext hustill] at hdoes
    have hend := State.pickFrom_nd v k
    have hend' : (v.pickFrom k).cass k = ((s.cass k).ledger (Ledger.rejecting n)).ledger Ledger.picked := by
      rw [State.cass, hend]
      refine (Four.get_modify ..).trans ((if_pos rfl).trans ?_)
      rw [← State.cass, hcass, if_pos rfl, hdoubles]
    have hload' : (v.pickFrom k).load id = some ld := by
      rw [State.load_of_dp (s := v) (by simp)]
      exact hl
    have hss' : (v.pickFrom k).ss = s.ss := by simpa using hss
    refine ⟨_, exec_event_to rfl rfl hon hdoes, ?_⟩
    simp only [State.finish_cass, State.finish_load, State.finish_frame, hend', hend, hload', hss', hnow, hnd]
    refine ⟨rfl, rfl, rfl, rfl, rfl, rfl, ?_, rfl, rfl, rfl, trivial, trivial⟩
    show (s.cass k).kept.estimate - ((n : Int) - 1) - 1 = _
    omega
  · have hdoes := State.leavesGauge_eq hg hstray hk
    obtain ⟨hnd, hdp, hss, -, htells⟩ := State.applied_rejects (s := s) (k := k) (n := n) (hn.imp (fun h => ⟨h.1, h.2.1⟩) fun h => ⟨h.1, h.2.1⟩)
    generalize s.leaving.applyOutcome k g = v at hdoes hnd hdp hss htells
    have hl : v.load id = some ld := (State.load_of_dp hdp id).trans hload
    have hk5 : (v.cass k).kept.doubles < 5 := by
      have hcass : v.cass k = (s.cass k).rejecting n := by
        rw [State.cass, hnd]
        exact (Four.get_modify ..).trans (if_pos rfl)
      rw [hcass, (s.cass k).rejecting_kept (.inr (by omega))]
      show (if n = 2 then (s.cass k).kept.doubles + 1 else 0) < 5
      split <;> omega
    rw [State.afterOutcome_over hk5 (by rw [hnd]; exact hover)] at hdoes
    obtain ⟨hfreed, hpicked, hend, hsnap⟩ := State.pickFails_fails (by rw [hnd]; exact hc) hl .rejectCeiling (st := .idle) nofun
    obtain ⟨hst, hbox, hcur, -⟩ := ND.uncommitted_fields hend
    refine ⟨_, exec_event_to rfl rfl hon hdoes, ?_⟩
    simp only [State.finish_load, State.finish_frame, State.finish_conds, hfreed, hpicked, hst, hbox, hcur, hss, hnd]
    exact ⟨rfl, rfl, trivial, trivial, rfl, hsnap (htells _ (LC.tells_nil hlen)).1⟩
  · have hdoes := State.leavesGauge_eq hg hstray hk
    obtain ⟨hnd, hl, hss, hnow⟩ := State.applied_single (k := k) ho hc hload
    generalize s.leaving.applyOutcome k g = v at hdoes hnd hl hss hnow
    have hcass : ∀ i, v.cass i = if i = k then (s.cass i).singled g.reading else s.cass i := fun i => by
      rw [State.cass, hnd]
      exact Four.get_modify ..
    have hk0 : (v.cass k).kept.doubles = 0 := by
      rw [hcass, if_pos rfl]
      rfl
    have hustill : (v.cass j).kept.state ∈ [CassState.present, .low] := by
      rw [hcass]
      split
      · exact Cassette.ledger_listed (r := s.cass j) (List.mem_pair.mp hu)
      · exact hu
    rw [State.afterOutcome_goesOn (by rw [hk0]; decide) (by rw [hnd]; exact hr) (by rw [hnd]; exact hstop),
      State.nextPick_picks (by rw [hnd]; exact hc) hl hnext hustill] at hdoes
    have hend := State.pickFrom_nd v j
    have hend' : ∀ i, (v.pickFrom j).cass i = if i = j then (v.cass i).ledger Ledger.picked else v.cass i := fun i => by
      rw [State.cass, hend]
      exact Four.get_modify ..
    have hload' : (v.pickFrom j).load id = some { ld with accepted := ld.accepted.modify k (· + 1) } := by
      rw [State.load_of_dp (s := v) (by simp)]
      exact hl
    have hss' : (v.pickFrom j).ss = { s.ss with pick := .filling id (s.ss.pick.notes + 1) } := by simpa using hss
    refine ⟨_, exec_event_to rfl rfl hon hdoes, ?_⟩
    simp only [State.finish_cass, State.finish_load, State.finish_frame, hend', hend, hload', hss', hnow, hnd, if_true]
    refine ⟨rfl, rfl, hc, rfl, rfl, trivial, trivial, rfl, ?_, fun hj => ?_, ?_, ?_, ?_, rfl, rfl⟩
    · rw [hcass]
      split <;> rfl
    · rw [if_neg (Ne.symm hj), hcass, if_pos rfl]
      rfl
    all_goals
      rw [hcass, if_pos rfl]
      split <;> rfl
  · have hdoes := State.leavesGauge_eq hg hstray hk
    obtain ⟨hnd, hdp, hss, -, htells⟩ := State.applied_rejects (s := s) (k := k) (g := g) (n := 2) (.inl ⟨ho, rfl⟩)
    generalize s.leaving.applyOutcome k g = v at hdoes hnd hdp hss htells
    have hcass : v.cass k = (s.cass k).rejecting 2 := by
      rw [State.cass, hnd]
      exact (Four.get_modify ..).trans (if_pos rfl)
    have hfaulted : (s.cass k).rejecting 2 = ((s.cass k).ledger (Ledger.rejecting 2)).inState .fault :=
      if_pos ⟨by show 5 ≤ (s.cass k).kept.doubles + 1; omega, rfl⟩
    rw [hfaulted] at hcass
    have hl : v.load id = some ld := (State.load_of_dp hdp id).trans hload
    have hdoubles : (v.cass k).kept.doubles = 5 := by
      rw [hcass]
      show (s.cass k).kept.doubles + 1 = 5
      omega
    rw [State.afterOutcome_faulted (by omega)] at hdoes
    obtain ⟨hfreed, hpicked, hend, hsnap⟩ := State.pickFails_fails (by rw [hnd]; exact hc) hl .pickFailed (st := .idle) nofun
    obtain ⟨hst, hbox, hcur, -⟩ := ND.uncommitted_fields hend
    have hkept : ((v.pickFails .pickFailed .idle).cass k).kept = (v.cass k).kept := ND.uncommitted_kept hend k
    refine ⟨_, exec_event_to rfl rfl hon hdoes, ?_⟩
    simp only [State.finish_cass, State.finish_load, State.finish_frame, State.finish_conds, hkept, hdoubles, hfreed, hpicked, hst,
      hbox, hcur, hss, hnd]
    rw [hcass]
    exact ⟨rfl, trivial, rfl, rfl, rfl, rfl, trivial, trivial, rfl, hsnap (htells _ (LC.tells_nil hlen)).1⟩
  · have hdoes : s.onGaugeTimeout = (s.reach g.due).jam g := by
      unfold State.onGaugeTimeout
      rw [hg]
    obtain ⟨hst, hgauge, hcur, hkept, hmark⟩ := (s.reach g.due).jam_stops g
    have htells := State.jamTold_tells (s := s.reach g.due) (g := g) hlen
    have hjam := (s.reach g.due).jam_eq g
    have hnow : ((s.reach g.due).jam g).now = max s.now g.due := by simp [State.reach]
    refine ⟨_, exec_event_to rfl rfl hon hdoes, ?_⟩
    simp only [State.finish_cass, State.finish_load, State.finish_frame, State.finish_conds, State.finish_isPending, hst, hgauge,
      hcur, hkept, hmark, hnow]
    refine ⟨trivial, trivial, trivial, trivial, ?_, fun _ => rfl, fun h => ?_, fun id ld hp hc hload => ?_⟩
    · rw [hjam]
      split
      · exact (State.pickFails_tells _ _ _ htells).pending
      · exact htells.pending
    · show (s.nd.strayInPath || s.nd.gauge.any (·.stray)) = true
      rw [hg]
      simp [h]
    · obtain ⟨hnd, hdp, -⟩ := (s.reach g.due).jamTold_keeps g
      obtain ⟨hfreed, -, -, hsnap⟩ := State.pickFails_fails (s := (s.reach g.due).jamTold g) (by rw [hnd]; exact hc)
        ((State.load_of_dp hdp id).trans hload) .pathJam (st := .fault) nofun
      rw [hjam, if_pos (by exact hp)]
      exact ⟨hfreed, hsnap htells.1⟩

/-! ## The lanes' conditions (R195) -/

/-- The instances of the lanes' conditions: numbers 1 to 56. -/
def LC.laneConds (lc : LC) : List CondRec := lc.conds.take 56

theorem LC.laneConds_at (lc : LC) (l : Lane) (c : LaneCond) :
    lc.conds[(Cond.lane l c).num - 1]? = lc.laneConds[(Cond.lane l c).num - 1]? := by
  have hl : l.num ≤ 4 := by cases l <;> decide
  have hc := c.num_bounds
  have hlt : (Cond.lane l c).num - 1 < 56 := by
    simp only [Cond.num]
    omega
  rw [LC.laneConds, List.getElem?_take_of_lt hlt]

@[simp] theorem LC.raise_laneConds (lc : LC) {n : Nat} (hn : 56 < n) (o : Option (List Byte)) :
    (lc.raise n o).laneConds = lc.laneConds := by
  refine List.ext_getElem? fun i => ?_
  simp only [LC.laneConds, List.getElem?_take]
  split
  · rw [LC.raise_conds, if_neg (by omega)]
  · rfl

section
set_option backward.isDefEq.respectTransparency false
variable {z : ZoneId}

@[simp] theorem State.noteFree_laneConds (s : State) (before : Nat) : (s.noteFree before).lc.laneConds = s.lc.laneConds := by
  unfold State.noteFree
  split
  · exact LC.raise_laneConds _ (by decide) _
  · rfl

@[simp] theorem State.append_laneConds (s : State) (owner : Owner) (kind : RecKind) (lane : Nat) (body : List Byte)
    (duress closed : Bool) : (s.append owner kind lane body duress closed).1.lc.laneConds = s.lc.laneConds := by
  unfold State.append
  dsimp only
  split
  · simp
  · rfl

@[simp] theorem State.alarmRecord_laneConds (s : State) (z : ZoneId) (left entered : ZoneState) :
    (s.alarmRecord z left entered).lc.laneConds = s.lc.laneConds := by
  unfold State.alarmRecord
  dsimp only
  split
  · simp
  · exact State.append_laneConds ..

/-- A zone of no lane raises no lane's condition. -/
@[simp] theorem State.zoneTo_laneConds (hz : ∀ l, z ≠ .tamper l) (s : State) (entered : ZoneState) :
    (s.zoneTo z entered).lc.laneConds = s.lc.laneConds := by
  unfold State.zoneTo
  dsimp only
  split
  · rfl
  · rw [State.tellTamper_other hz]
    split
    · rw [State.alarmRecord_laneConds]
      exact LC.raise_laneConds _ (by decide) _
    · exact LC.raise_laneConds _ (by decide) _

@[simp] theorem State.zoneIdle_laneConds (hz : ∀ l, z ≠ .tamper l) (s : State) :
    (s.zoneIdle z).lc.laneConds = s.lc.laneConds := by
  unfold State.zoneIdle
  dsimp only
  split
  · exact absurd rfl (hz _)
  · simp [hz]

@[simp] theorem State.startDelay_laneConds (s : State) (d : Door) : (s.startDelay d).lc.laneConds = s.lc.laneConds := by
  unfold State.startDelay
  split <;> simp

@[simp] theorem State.closeWindow_laneConds (s : State) (d : Door) : (s.closeWindow d).lc.laneConds = s.lc.laneConds := by
  unfold State.closeWindow
  dsimp only
  split <;> simp

@[simp] theorem State.lockIn_laneConds (hz : ∀ l, z ≠ .tamper l) (s : State) : (s.lockIn z).lc.laneConds = s.lc.laneConds := by
  unfold State.lockIn
  dsimp only
  split <;> simp [hz]

@[simp] theorem State.doorOpens_laneConds (s : State) (d : Door) : (s.doorOpens d).lc.laneConds = s.lc.laneConds := by
  unfold State.doorOpens
  dsimp only
  (repeat' split) <;> simp

@[simp] theorem State.causeRises_laneConds (hz : ∀ l, z ≠ .tamper l) (s : State) :
    (s.causeRises z).lc.laneConds = s.lc.laneConds := by
  unfold State.causeRises
  (repeat' split) <;> simp_all

@[simp] theorem State.causeFalls_laneConds (hz : ∀ l, z ≠ .tamper l) (s : State) :
    (s.causeFalls z).lc.laneConds = s.lc.laneConds := by
  unfold State.causeFalls
  (repeat' split) <;> simp [hz]

@[simp] theorem State.setCause_laneConds (hz : ∀ l, z ≠ .tamper l) (s : State) (active : Bool) :
    (s.setCause z active).lc.laneConds = s.lc.laneConds := by
  unfold State.setCause
  dsimp only
  (repeat' split) <;> simp [hz]

end

/-! ## A cassette's state, told (R65) -/

/-- A cassette that changes its state tells it (R65). -/
theorem State.cassTo_told {s : State} (hlen : s.lc.conds.length = 69) {c : Cass} {st : CassState}
    (h : (s.cass c).kept.state ≠ st) : (s.cassTo c st).lc.Tells [57] := by
  unfold State.cassTo
  rw [if_neg h]
  exact LC.raise_tells_new (LC.tells_nil (lc := s.lc) hlen) (by decide) _

/-- A cassette drawn out or put in tells a state that changes (R65). -/
theorem State.slotChange_told {s : State} (hlen : s.lc.conds.length = 69) {c : Cass} {present : Bool}
    (h : (s.cass c).kept.state.slotted present ≠ (s.cass c).kept.state) : (s.slotChange c present).lc.Tells [57] := by
  have hcass : ((s.modCass c fun r => { r with slot := present }).cass c).kept = (s.cass c).kept := by
    rw [State.cass_modCass, if_pos rfl]
  have hlen' : (s.modCass c fun r => { r with slot := present }).lc.conds.length = 69 := hlen
  unfold State.slotChange
  cases present with
  | false =>
    refine State.cassTo_told hlen' ?_
    rw [hcass]
    exact Ne.symm h
  | true =>
    dsimp only
    rw [if_pos rfl, hcass]
    have habsent : (s.cass c).kept.state = .absent := by
      by_contra hn
      simp [CassState.slotted, hn] at h
    rw [if_pos habsent]
    refine State.cassTo_told hlen' ?_
    rw [hcass, habsent]
    exact nofun

theorem State.slotChange_cass (s : State) (c k : Cass) (present : Bool) : (s.slotChange c present).cass k =
    if k = c then { s.cass k with slot := present, kept := { (s.cass k).kept with
      state := (s.cass k).kept.state.slotted present } } else s.cass k := by
  rw [State.cass, State.slotChange_nd]
  exact Four.get_modify ..

/-! ## The end of a clearing (R77) -/

/-- A ledger whose note in the path is charged as a reject (R75, R77). -/
def Ledger.charged (k : Ledger) : Ledger := { k with inPath := 0, rejected := k.rejected + 1 }

/-- A cassette whose note in the path is charged. -/
def Cassette.charged (r : Cassette) : Cassette := if r.kept.inPath = 0 then r else r.ledger Ledger.charged

/-- The dispenser's cassettes and its box changed alone. -/
def ND.counts (nd nd' : ND) : Prop :=
  ∃ cs box em, nd' = { nd with cassettes := cs, box := box, emptying := em }

theorem ND.counts_trans {a b c : ND} (hab : a.counts b) (hbc : b.counts c) : a.counts c := by
  obtain ⟨cs, box, em, rfl⟩ := hab
  obtain ⟨cs', box', em', rfl⟩ := hbc
  exact ⟨cs', box', em', rfl⟩

theorem State.boxAdd_counts (s : State) (n : Nat) : s.nd.counts (s.boxAdd n).nd := ⟨_, _, _, State.boxAdd_nd s n⟩

theorem State.modLedger_counts (s : State) (c : Cass) (f : Ledger → Ledger) : s.nd.counts (s.modLedger c f).nd :=
  ⟨_, _, _, State.modLedger_nd s c f⟩

theorem State.chargeInPath_counts (s : State) (c : Cass) : s.nd.counts (s.chargeInPath c).nd := by
  unfold State.chargeInPath
  split
  · exact ⟨_, _, _, rfl⟩
  · exact ND.counts_trans (s.modLedger_counts c _) (State.boxAdd_counts _ 1)

theorem State.chargeInPath_cass (s : State) (c k : Cass) :
    (s.chargeInPath c).cass k = if k = c then (s.cass k).charged else s.cass k := by
  unfold State.chargeInPath
  split
  · next h =>
    split
    · next hk =>
      subst hk
      exact (if_pos h).symm
    · rfl
  · next h =>
    have hbox : ∀ u : State, (u.boxAdd 1).cass k = u.cass k := fun u => by
      rw [State.cass, State.boxAdd_nd]
      rfl
    rw [hbox, State.modLedger_cass]
    split
    · next hk =>
      subst hk
      exact (if_neg h).symm
    · rfl

theorem State.chargeStray_counts (s : State) (c : Option Cass) : s.nd.counts (s.chargeStray c).nd := by
  unfold State.chargeStray
  cases c with
  | none => exact s.boxAdd_counts 1
  | some c => exact ND.counts_trans (s.modLedger_counts c _) (State.boxAdd_counts _ 1)

/-- The four cassettes' notes in the path charged, one after the other. -/
def State.chargedInPath (s : State) : State := Ix4.all.foldl State.chargeInPath s

theorem State.chargedInPath_cass (s : State) (k : Cass) : s.chargedInPath.cass k = (s.cass k).charged := by
  simp only [State.chargedInPath, Ix4.all, List.foldl_cons, List.foldl_nil, State.chargeInPath_cass]
  cases k <;> rfl

theorem State.chargedInPath_counts (s : State) : s.nd.counts s.chargedInPath.nd := by
  simp only [State.chargedInPath, Ix4.all, List.foldl_cons, List.foldl_nil]
  exact ND.counts_trans (ND.counts_trans (ND.counts_trans (State.chargeInPath_counts ..) (State.chargeInPath_counts ..))
    (State.chargeInPath_counts ..)) (State.chargeInPath_counts ..)

/-- A clear path ends the clearing: the notes that had stopped there are charged (R77). -/
theorem State.chargePath_ends (s : State) : s.chargePath.nd.state = s.nd.state ∧
    s.chargePath.nd.clearingDue = s.nd.clearingDue ∧ s.chargePath.nd.strayInPath = false ∧
    (s.nd.strayInPath = false → ∀ k, s.chargePath.cass k = (s.cass k).charged) := by
  have heq : s.chargePath = { (if s.chargedInPath.nd.strayInPath then s.chargedInPath.chargeStray s.chargedInPath.nd.lastPick
      else s.chargedInPath) with nd := { (if s.chargedInPath.nd.strayInPath then
        s.chargedInPath.chargeStray s.chargedInPath.nd.lastPick else s.chargedInPath).nd with strayInPath := false } } := rfl
  have hcounts := s.chargedInPath_counts
  have hcass := s.chargedInPath_cass
  generalize s.chargedInPath = u at heq hcounts hcass
  have hend : u.nd.counts (if u.nd.strayInPath then u.chargeStray u.nd.lastPick else u).nd := by
    split
    · exact u.chargeStray_counts _
    · exact ⟨_, _, _, rfl⟩
  obtain ⟨cs, box, em, hall⟩ := ND.counts_trans hcounts hend
  obtain ⟨cs', box', em', hu⟩ := hcounts
  rw [heq]
  refine ⟨?_, ?_, rfl, fun hno k => ?_⟩
  · show (if u.nd.strayInPath then u.chargeStray u.nd.lastPick else u).nd.state = _
    rw [hall]
  · show (if u.nd.strayInPath then u.chargeStray u.nd.lastPick else u).nd.clearingDue = _
    rw [hall]
  · have hustray : u.nd.strayInPath = false := by
      rw [hu]
      exact hno
    show (if u.nd.strayInPath then u.chargeStray u.nd.lastPick else u).cass k = _
    rw [hustray, if_neg nofun]
    exact hcass k

/-! ## Records whose owner is told -/

section
variable {s : State} {owner : Owner} {r : Record}

/-- A programmed append in a running part: its owner is told (R149). -/
theorem exec_appendMade (hrun : s.phase = .running) (ha : s.appending owner r) :
    ∃ jn p, p.owner = owner ∧ p.work = .append r ∧ jn.failed = s.jn.failed ∧ jn.counter = s.jn.counter ∧
      (((({ s with jn := jn } : State).tellOwner p true).phase = .running) →
        exec (.journalProgramDone []) s = .next ((({ s with jn := jn } : State).tellOwner p true).jnRun).finish) := by
  obtain ⟨p, rest, i, k, hb, hq, ho, hw, hf⟩ := (s.appending_iff _ _).mp ha
  obtain ⟨-, -, -, -, -, -, hfailed, -, hcounter, -⟩ := JN.appendEnded_rest hq hw i k
  refine ⟨s.jn.appendEnded r i k, p, ho, hw, hfailed, hcounter, fun hphase => ?_⟩
  rw [exec_programDone (State.on_of_running hrun), State.programMade_append hb hq hw hf, State.scanStepEnds_past]
  simp only [State.jnRun_frame, hphase]
  exact nofun

/-- The last failure of an append in a running part: its owner is told, the journal is FAILED (R151). -/
theorem exec_appendFails (hrun : s.phase = .running) (ha : s.appending owner r) (hl : s.lastChance) :
    ∃ jn p, p.owner = owner ∧ p.work = .append r ∧ jn.failed = true ∧
      (((({ s with jn := jn } : State).tellOwner p false).phase = .running) →
        exec (.journalProgramDone [0xFF#8]) s =
          .next (((({ s with jn := jn } : State).tellOwner p false).raise .journalFailed (u32 r.seq)).jnRun).finish) := by
  obtain ⟨p, rest, i, k, hb, hq, ho, hw, hf⟩ := (s.appending_iff _ _).mp ha
  have hrest : rest = [] := by simpa [hq] using hl.2.1
  obtain ⟨mem, hmade⟩ := State.programMade_fails hb (hrest ▸ hq) hw hf hl
  refine ⟨{ s.jn with
    mem := mem, filling := some (i, k + 1), failures := 3, failed := true, queue := [], busy := false,
    claims := s.jn.claims - 1 }, p, ho, hw, rfl, fun hphase => ?_⟩
  rw [exec_programDone (State.on_of_running hrun), hmade, hw, State.scanStepEnds_past]
  · rfl
  · simp only [State.jnRun_frame, State.raiseFailed_frame]
    rw [hphase]
    exact nofun

end

/-! ## The safe door and the clearing (R76, R77) -/

section
variable {s : State}

/-- The safe door as its level stands. -/
def State.doored (s : State) (opened : Bool) : State := { s with nd := { s.nd with safeDoorOpen := opened } }

theorem State.safeDoor_moves {opened : Bool} (hrun : s.phase = .running) (h : s.nd.safeDoorOpen ≠ opened) :
    s.safeDoor opened = ((if opened then (s.doored opened).halt else (s.doored opened).startClearing).setCause .safeDoor opened) := by
  have hd : (s.doored opened).derived = true := State.derived_running hrun
  unfold State.safeDoor
  rw [if_neg h]
  exact congrArg (State.setCause · .safeDoor opened) (if_pos hd)

/-- The safe door's zone holds its level as its cause (R169). -/
theorem State.setCause_zone (s : State) (z : ZoneId) (active : Bool) : ((s.setCause z active).zone z).cause = active := by
  rw [State.cause_eq, State.setCause_causes, if_pos rfl]

theorem State.notePathStepEnds_running (h : s.phase = .running) : s.notePathStepEnds = s := by
  unfold State.notePathStepEnds
  rw [h]

theorem State.notePathStepEnds_startUp (h : s.phase = .startUp .notePath) : s.notePathStepEnds = s.beginAir := by
  unfold State.notePathStepEnds
  rw [h]

/-- The path stops with the door: the clearing's timer with it. -/
def State.pathStopped (s : State) : State := s.stopPath.modND fun nd => { nd with clearingDue := none }

theorem State.halt_idle (hrun : s.phase = .running) (h : s.nd.state ≠ .picking) : s.halt = s.pathStopped.ndTo .halted := by
  have hend : (s.pathStopped.ndTo .halted).notePathStepEnds = s.pathStopped.ndTo .halted :=
    State.notePathStepEnds_running hrun
  unfold State.halt
  dsimp only
  split
  · next hp => exact absurd hp h
  · exact hend

theorem State.halt_picking (h : s.nd.state = .picking) : s.halt = s.pathStopped.pickFails .halted .halted := by
  unfold State.halt
  dsimp only
  rw [h]
  rfl

theorem exec_safeDoor {opened : Bool} (hrun : s.phase = .running) :
    exec (.safeDoorChange opened) s = .next (s.safeDoor opened).finish :=
  exec_event_to rfl rfl (State.on_of_running hrun) rfl

/-- The safe door opens on a dispenser that picks nothing (R76). -/
theorem exec_safeDoorOpens (hrun : s.phase = .running) (hd : s.nd.safeDoorOpen = false) (hst : s.nd.state ≠ .picking) :
    ∃ t, exec (.safeDoorChange true) s = .next t ∧ t.nd.safeDoorOpen = true ∧ t.nd.state = .halted ∧ t.nd.current = none ∧
      t.nd.clearingDue = none ∧ t.nd.cassettes = s.nd.cassettes ∧ (t.zone .safeDoor).cause = true ∧ t.dp = s.dp := by
  have hmoves := State.safeDoor_moves hrun (opened := true) (by rw [hd]; exact nofun)
  rw [if_pos rfl, State.halt_idle (s := s.doored true) hrun hst] at hmoves
  refine ⟨_, exec_safeDoor hrun, ?_⟩
  rw [hmoves]
  simp only [State.finish_zone, State.setCause_zone, State.finish_frame, State.setCause_frame]
  exact ⟨rfl, rfl, rfl, rfl, rfl, trivial, rfl⟩

/-- The safe door opens on a load in picking, which fails (R73, R76). -/
theorem exec_safeDoorHalts {id : Nat} {ld : Load} (hrun : s.phase = .running) (hd : s.nd.safeDoorOpen = false)
    (hst : s.nd.state = .picking) (hc : s.nd.current = some id) (hload : s.load id = some ld) (hlen : s.lc.conds.length = 69) :
    ∃ t, exec (.safeDoorChange true) s = .next t ∧ t.nd.safeDoorOpen = true ∧ t.nd.state = .halted ∧ t.nd.current = none ∧
      t.nd.pick = none ∧ t.nd.arrivalDue = none ∧ t.nd.gauge = none ∧ t.load id = none ∧ t.ss.pick = .empty ∧
      t.nd.box = min 300 (s.nd.box + s.ss.pick.notes) ∧ (∀ k, (t.cass k).kept = (s.cass k).kept) ∧
      (t.zone .safeDoor).cause = true ∧ t.lc.conds[(Cond.lane ld.lane .dispenseFailed).num - 1]?.map (·.snapshot) =
        some (some [BitVec.ofNat 8 id, 0x04#8]) := by
  have hmoves := State.safeDoor_moves hrun (opened := true) (by rw [hd]; exact nofun)
  rw [if_pos rfl, State.halt_picking (s := s.doored true) hst] at hmoves
  obtain ⟨hfreed, hpicked, hend, hsnap⟩ := State.pickFails_fails (s := (s.doored true).pathStopped) hc hload .halted
    (st := .halted) nofun
  obtain ⟨hstate, hbox, hcur, hpick, harr, hgauge, -, -, -, -, hdoor⟩ := ND.uncommitted_fields hend
  have hkept := fun k => ND.uncommitted_kept hend k
  clear hend
  generalize (s.doored true).pathStopped.pickFails .halted .halted = u at *
  have hload' : (u.setCause .safeDoor true).load id = none := (State.load_of_dp (by simp) id).trans hfreed
  have hconds : (u.setCause .safeDoor true).lc.conds[(Cond.lane ld.lane .dispenseFailed).num - 1]? =
      u.lc.conds[(Cond.lane ld.lane .dispenseFailed).num - 1]? := by
    rw [LC.laneConds_at, LC.laneConds_at, State.setCause_laneConds (z := .safeDoor) nofun]
  have hcass : ∀ k, (u.setCause .safeDoor true).cass k = u.cass k := fun k => by simp [State.cass]
  refine ⟨_, exec_safeDoor hrun, ?_⟩
  rw [hmoves]
  simp only [State.finish_zone, State.finish_load, State.finish_cass, State.setCause_zone, State.finish_frame, State.setCause_frame,
    State.finish_conds, hload', hconds, hcass]
  exact ⟨hdoor, hstate, hcur, hpick, harr, hgauge, trivial, congrArg SS.pick hpicked, hbox, hkept, trivial, hsnap hlen⟩

/-- The safe door closes on an empty pick side: the path is cleared (R77). -/
theorem exec_safeDoorCloses (hrun : s.phase = .running) (hd : s.nd.safeDoorOpen = true) (hp : s.ss.pick = .empty) :
    ∃ t, exec (.safeDoorChange false) s = .next t ∧ t.nd.safeDoorOpen = false ∧ t.nd.state = .clearing ∧
      t.nd.clearingDue = some (s.now + 2000) ∧ t.nd.cassettes = s.nd.cassettes ∧ (t.zone .safeDoor).cause = false := by
  have hmoves := State.safeDoor_moves hrun (opened := false) (by rw [hd]; exact nofun)
  rw [if_neg nofun, State.startClearing_empty (s := s.doored false) hp] at hmoves
  refine ⟨_, exec_safeDoor hrun, ?_⟩
  rw [hmoves]
  simp only [State.finish_zone, State.setCause_zone, State.finish_frame, State.setCause_frame]
  exact ⟨rfl, trivial, rfl, rfl, trivial⟩

/-- A clearing's end, before what a start-up step adds. -/
theorem State.onClearingEnd_eq {due : Nat} (hdue : s.nd.clearingDue = some due) (clear : Bool) :
    s.onClearingEnd clear = ((s.reach due).endClearing clear).notePathStepEnds := by
  unfold State.onClearingEnd
  rw [hdue]

theorem Cassette.charged_kept (r : Cassette) : r.charged.kept.inPath = 0 ∧
    r.charged.kept.rejected = r.kept.rejected + (if r.kept.inPath = 0 then 0 else 1) ∧ r.charged.kept.estimate = r.kept.estimate := by
  unfold Cassette.charged
  split
  · next h => exact ⟨h, rfl, rfl⟩
  · exact ⟨rfl, rfl, rfl⟩

end

/-! ## Records of the dispenser (R78, R82) -/

section
variable {s : State} {r : Record}

/-- A cassette as a REPLENISH sets it (R78). -/
def Cassette.replenished (c : Cassette) (q : Replenishing) : Cassette :=
  { c with
    pending := none
    kept := { c.kept with
      denomination := some q.denomination, loaded := q.count, estimate := q.count, inPath := 0, accepted := 0, rejected := 0
      misses := 0, doubles := 0, thickness := max 16 (min 16383 (q.nominal * 16)), low := q.low
      state := if c.kept.state = .absent then .absent else if q.count ≤ q.low then .low else .present } }

theorem State.replenishEnds_refused {k : Cass} {q : Replenishing} (h : (s.cass k).pending = some q) :
    s.replenishEnds k false = (s.modCass k fun r => { r with pending := none }).replied 0x28 q.tag [0x17#8] := by
  unfold State.replenishEnds
  rw [h]
  exact State.refuse_replied rfl ..

/-- The ledger set afresh, its state following (R78). -/
theorem State.replenishEnds_sets {k : Cass} {q : Replenishing} (h : (s.cass k).pending = some q) :
    ∃ u : State, s.replenishEnds k true = u.replied 0x28 q.tag (0x00#8 :: (u8 k.num ++ u24 q.denomination ++ u16 q.count ++
        u16 (u.cass k).kept.thickness ++ u16 q.low ++ u8 (u.cass k).kept.state.code)) ∧
      u.phase = s.phase ∧ u.lc.replies = s.lc.replies ∧
      (∀ j, u.cass j = if j = k then (s.cass k).replenished q else s.cass j) ∧
      (s.lc.conds.length = 69 → (u.cass k).kept.state ≠ (s.cass k).kept.state → u.lc.Tells [57]) := by
  generalize hv : (s.modCass k fun r => { r with pending := none }).modCass k (fun r => { r with kept := { r.kept with
        denomination := some q.denomination, loaded := q.count, estimate := q.count, inPath := 0, accepted := 0,
        rejected := 0, misses := 0, doubles := 0, thickness := clamp 16 16383 (q.nominal * 16), low := q.low } }) = v
  have heq : s.replenishEnds k true = (if (v.cass k).kept.state = .absent then v else v.cassTo k (v.cass k).kept.level).ok 0x28
      q.tag (u8 k.num ++ u24 q.denomination ++ u16 q.count ++
        u16 ((if (v.cass k).kept.state = .absent then v else v.cassTo k (v.cass k).kept.level).cass k).kept.thickness ++ u16 q.low ++
        u8 ((if (v.cass k).kept.state = .absent then v else v.cassTo k (v.cass k).kept.level).cass k).kept.state.code) := by
    rw [← hv]
    unfold State.replenishEnds
    rw [h]
    rfl
  have hvcass : ∀ j, v.cass j = if j = k then { s.cass k with
      pending := none
      kept := { (s.cass k).kept with
        denomination := some q.denomination, loaded := q.count, estimate := q.count, inPath := 0, accepted := 0,
        rejected := 0, misses := 0, doubles := 0, thickness := max 16 (min 16383 (q.nominal * 16)), low := q.low } }
      else s.cass j := fun j => by
    rw [← hv, State.cass_modCass, State.cass_modCass]
    split
    · next hj => rw [hj]; rfl
    · rfl
  have hvkept := congrArg Cassette.kept ((hvcass k).trans (if_pos rfl))
  have hvlc : v.lc = s.lc ∧ v.phase = s.phase := by rw [← hv]; exact ⟨rfl, rfl⟩
  have hvstate : (v.cass k).kept.state = (s.cass k).kept.state := by rw [hvkept]
  have hlevel : (v.cass k).kept.level = if q.count ≤ q.low then .low else .present := by
    rw [hvkept]
    unfold Ledger.level
    simp only [Nat.cast_le]
  rw [State.ok_replied rfl] at heq
  by_cases habsent : (s.cass k).kept.state = .absent
  · rw [if_pos (hvstate.trans habsent)] at heq
    refine ⟨v, heq, hvlc.2, congrArg LC.replies hvlc.1, fun j => ?_, fun _ hne => absurd hvstate hne⟩
    rw [hvcass]
    split
    · simp [Cassette.replenished, habsent]
    · rfl
  · rw [if_neg (fun hn => habsent (hvstate.symm.trans hn)), hlevel] at heq
    refine ⟨_, heq, by simpa using hvlc.2, ?_, fun j => ?_, fun hlen hne => ?_⟩
    · simpa using congrArg LC.replies hvlc.1
    · rw [State.cassTo_cass, hvcass]
      split
      · simp [Cassette.inState, Cassette.replenished, habsent]
      · rfl
    · refine State.cassTo_told (by rw [hvlc.1]; exact hlen) fun hn => hne ?_
      rw [State.cassTo_cass, if_pos rfl, Cassette.inState, ← hn]
      exact hvstate

end

/-! ## The cassette requests (R78 to R82) -/

section
variable {s : State}

/-- An ordinary append with room for it: its program joins the queue's tail (R145). -/
theorem State.append_taken (hf : s.jn.failed = false) (hr : 16 < s.jn.free) (he : s.jn.exhausted = false) (owner : Owner)
    {kind : RecKind} (hk : kind.reserve = false) (lane : Nat) (body : List Byte) (duress closed : Bool) :
    (s.append owner kind lane body duress closed).2 = true ∧
      (s.append owner kind lane body duress closed).1.jn.queue = s.jn.queue ++
        [{ owner := owner, work := .append ⟨kind, lane, s.jn.counter, s.lc.clock, body, duress, closed⟩ }] ∧
      (s.append owner kind lane body duress closed).1.jn.claims = s.jn.claims + 1 := by
  have hadmits : s.jn.admits kind = true := by
    simp [JN.admits, JN.roomFor, hf, hk, he, hr, Config.reserveSlots]
  rw [State.append_admitted hadmits]
  have hrest := State.jnRun_rest (({ s with
    jn := s.jn.appended owner ⟨kind, lane, s.jn.counter, s.lc.clock, body, duress, closed⟩ } : State).noteFree s.jn.free)
  obtain ⟨-, -, -, -, hclaims, hqueue, -⟩ := hrest
  refine ⟨rfl, ?_, ?_⟩
  · rw [hqueue]
    simp only [State.noteFree_frame]
    rfl
  · rw [hclaims]
    simp only [State.noteFree_frame]
    rfl

theorem JN.takesOrdinary_not {jn : JN} (h : jn.failed = true ∨ jn.free ≤ 16) : jn.takesOrdinary = false := by
  rcases h with h | h
  · simp [JN.takesOrdinary, h]
  · have hno : ¬ 16 < jn.free := by omega
    simp [JN.takesOrdinary, Config.reserveSlots, hno]

theorem JN.takesOrdinary_yes {jn : JN} (hf : jn.failed = false) (hr : 16 < jn.free) : jn.takesOrdinary = true := by
  simp [JN.takesOrdinary, Config.reserveSlots, hf, hr]

end

/-- A cassette taken up by CONFIRM, where it is not in use (R79). -/
def Cassette.confirmed (r : Cassette) : Cassette :=
  if r.kept.state ∈ [CassState.present, .low] then r
  else { r with kept := { r.kept with
    misses := 0, doubles := 0, state := if r.kept.estimate ≤ (r.kept.low : Int) then .low else .present } }

/-- CONFIRM's cassette taken up. -/
def State.confirmed (s : State) (k : Cass) : State :=
  if (s.cass k).usable then s
  else (s.modCass k fun r => { r with kept := { r.kept with misses := 0, doubles := 0 } }).cassTo k
    ((s.modCass k fun r => { r with kept := { r.kept with misses := 0, doubles := 0 } }).cass k).kept.level

theorem State.confirmed_cass (s : State) (k j : Cass) : (s.confirmed k).cass j = if j = k then (s.cass j).confirmed else s.cass j := by
  have hlisted : (s.cass k).usable = true ↔ (s.cass k).kept.state ∈ [CassState.present, .low] := by
    rw [Cassette.usable_iff]
    simp
  unfold State.confirmed
  split
  · next h =>
    split
    · next hj =>
      subst hj
      exact (if_pos (hlisted.mp h)).symm
    · rfl
  · next h =>
    rw [State.cassTo_cass, State.cass_modCass, State.cass_modCass]
    split
    · next hj =>
      subst hj
      rw [Cassette.confirmed, if_neg fun hn => h (hlisted.mpr hn), if_pos rfl]
      rfl
    · rfl

theorem State.ownConfirm_confirms {s : State} {k : Cass} (tag : Nat) (ha : (s.cass k).kept.state ≠ .absent)
    (hd : (s.cass k).kept.denomination ≠ none) (hp : (s.cass k).pending = none) : s.ownConfirm tag k.num =
      (s.confirmed k).replied 0x29 tag (0x00#8 :: (u8 ((s.confirmed k).cass k).kept.state.code ++
        ((s.confirmed k).cass k).ledgerBytes)) := by
  unfold State.ownConfirm
  rw [Ix4.ofNum_num]
  refine ((if_neg fun hn => hn.elim ha hd).trans (if_neg fun hn => hn hp)).trans ?_
  exact State.ok_replied rfl ..

/-- What a state reads as once the engine has gone on and the step has ended. -/
theorem State.ran_reads (v : State) : v.jnRun.finish.nd = v.nd ∧ (∀ k, v.jnRun.finish.cass k = v.cass k) ∧
    v.jnRun.finish.lc.replies = v.lc.replies ∧ (∀ n, v.jnRun.finish.lc.isPending n = v.lc.isPending n) ∧
    v.jnRun.finish.lc.conds = v.lc.conds := by
  refine ⟨by simp, fun k => by simp [State.cass], by simp, fun n => ?_, ?_⟩
  · rw [State.finish_isPending]
    simp
  · simp

/-- Settles O44: the safe door and the clearing, the slots, the records' ends, and the requests. -/
theorem cassettesAndPathAreServed : Obligations.CassettesAndPathAreServed := by
  refine ⟨fun s hrun hlen => ⟨fun hd hst => ?_, fun id ld hd hst hc hl => ?_, fun opened h => ?_, fun hd hp => ?_,
      fun due hdue => ⟨?_, ?_⟩, fun k b => ⟨fun h => ?_, fun h => ?_⟩⟩, fun due clear s hph hdue => ?_,
    fun r s hrun => ⟨fun k q ha hq => ⟨?_, fun hl => ?_⟩, fun e ha he => ⟨?_, fun hl => ?_⟩⟩, fun tag s hs => ?_⟩
  · exact exec_safeDoorOpens hrun hd fun hn => by rw [hn] at hst; simp at hst
  · exact exec_safeDoorHalts hrun hd hst hc hl hlen
  · rw [exec_safeDoor hrun, State.safeDoor, if_pos h]
  · exact exec_safeDoorCloses hrun hd hp
  · have hends := State.onClearingEnd_eq hdue true
    generalize hu : ({ s.reach due with nd := { s.nd with state := .idle, clearingDue := none } } : State) = u
    have hend : (s.reach due).endClearing true = u.chargePath := by
      rw [← hu]
      rfl
    obtain ⟨hst, hclr, hstray, hcharged⟩ := u.chargePath_ends
    have hkeeps : u.chargePath.phase = .running ∧ u.chargePath.now = max s.now due := by
      rw [← hu]
      simpa [State.reach] using hrun
    rw [hend, State.notePathStepEnds_running hkeeps.1] at hends
    have hustate : u.nd.state = .idle ∧ u.nd.clearingDue = none ∧ u.nd.strayInPath = s.nd.strayInPath ∧
        ∀ k, u.cass k = s.cass k := by
      rw [← hu]
      exact ⟨rfl, rfl, rfl, fun k => rfl⟩
    obtain ⟨hidle, hnodue, hmark, hcass⟩ := hustate
    refine ⟨_, exec_event_to rfl rfl (State.on_of_running hrun) hends, ?_⟩
    simp only [State.finish_frame, State.finish_cass]
    refine ⟨hkeeps.2, hst.trans hidle, hclr.trans hnodue, hstray, fun hno k => ?_⟩
    rw [hcharged (hmark.trans hno), hcass]
    exact Cassette.charged_kept _
  · have hends := State.onClearingEnd_eq hdue false
    have hend : (s.reach due).endClearing false = ({ s.reach due with nd := { s.nd with state := .fault, clearingDue := none } } :
      State).raiseBare .pathJam := rfl
    rw [hend, State.notePathStepEnds_running (by exact hrun)] at hends
    refine ⟨_, exec_event_to rfl rfl (State.on_of_running hrun) hends, ?_⟩
    simp only [State.finish_frame, State.finish_isPending]
    exact ⟨rfl, rfl, rfl, rfl, (LC.raise_tells_new (lc := s.lc) (LC.tells_nil hlen) (by decide) none).pending⟩
  · refine exec_event_to rfl rfl (State.on_of_running hrun) ?_
    exact if_pos h
  · have hslot : s.slotSensor k b = s.slotChange k b := by
      unfold State.slotSensor
      rw [if_neg h, State.derived_running hrun, if_pos rfl]
    have hcass := s.slotChange_cass k
    refine ⟨_, exec_event_to rfl rfl (State.on_of_running hrun) hslot, ?_⟩
    simp only [State.finish_cass, State.finish_isPending, hcass, if_true]
    exact ⟨trivial, rfl, fun j hj => if_neg hj, fun hne => (State.slotChange_told hlen hne).pending⟩
  · have hends := State.onClearingEnd_eq hdue clear
    generalize hv : (s.reach due).endClearing clear = v at hends
    have hkeeps : v.phase = .startUp .notePath ∧ v.now = max s.now due ∧ v.as.set = s.as.set ∧
        v.nd.state = (if clear then .idle else .fault) := by
      rw [← hv]
      cases clear with
      | false => exact ⟨hph, rfl, rfl, rfl⟩
      | true =>
        generalize hu : ({ s.reach due with nd := { s.nd with state := .idle, clearingDue := none } } : State) = u
        have hend : (s.reach due).endClearing true = u.chargePath := by
          rw [← hu]
          rfl
        have hukeeps : u.phase = .startUp .notePath ∧ u.now = max s.now due ∧ u.as.set = s.as.set ∧ u.nd.state = .idle := by
          rw [← hu]
          exact ⟨hph, rfl, rfl, rfl⟩
        obtain ⟨h1, h2, h3, h4⟩ := hukeeps
        rw [hend]
        exact ⟨by simpa using h1, by simpa using h2, by simp [h3], (u.chargePath_ends).1.trans h4⟩
    obtain ⟨hvphase, hvnow, hvset, hvstate⟩ := hkeeps
    rw [State.notePathStepEnds_startUp hvphase] at hends
    refine ⟨_, exec_event_to rfl rfl (by rw [hph]; exact nofun) hends, ?_⟩
    simp only [State.finish_frame, State.beginAir_frame, hvnow, hvstate]
    exact ⟨rfl, trivial, trivial, rfl, congrArg some hvnow, hvset⟩
  · obtain ⟨jn, p, ho, -, -, -, hmade⟩ := exec_appendMade hrun ha
    obtain ⟨u, hends, hphase, hreplies, hcass, htold⟩ := State.replenishEnds_sets (s := { s with jn := jn }) (k := k) hq
    have htell : ({ s with jn := jn } : State).tellOwner p true = ({ s with jn := jn } : State).replenishEnds k true := by
      unfold State.tellOwner
      rw [ho]
    rw [htell, hends] at hmade
    have hat : u.cass k = (s.cass k).replenished q := (hcass k).trans (if_pos rfl)
    obtain ⟨-, htcass, htreplies, htpending, -⟩ := (u.replied 0x28 q.tag (0x00#8 :: (u8 k.num ++ u24 q.denomination ++
      u16 q.count ++ u16 (u.cass k).kept.thickness ++ u16 q.low ++ u8 (u.cass k).kept.state.code))).ran_reads
    have hucass : ∀ kind tag body j, (u.replied kind tag body).cass j = u.cass j := fun _ _ _ _ => rfl
    refine ⟨_, hmade (hphase.trans hrun), fun j hj => ?_, ?_, fun hlen hne => ?_, ?_⟩
    · rw [htcass, hucass]
      exact (hcass j).trans (if_neg hj)
    · rw [htcass, hucass]
      exact hat
    · rw [htcass, hucass] at hne
      rw [htpending]
      exact (htold hlen hne).pending
    · rw [htreplies, htcass, hucass, ← hreplies]
      rfl
  · obtain ⟨jn, p, ho, -, -, hmade⟩ := exec_appendFails hrun ha hl
    have htell : ({ s with jn := jn } : State).tellOwner p false =
        (({ s with jn := jn } : State).modCass k fun r => { r with pending := none }).replied 0x28 q.tag [0x17#8] := by
      unfold State.tellOwner
      rw [ho]
      exact State.replenishEnds_refused (s := { s with jn := jn }) hq
    rw [htell] at hmade
    obtain ⟨-, htcass, htreplies, -, -⟩ := (((({ s with jn := jn } : State).modCass k fun r =>
      { r with pending := none }).replied 0x28 q.tag [0x17#8]).raise .journalFailed (u32 r.seq)).ran_reads
    have hcass := fun j => State.cass_modCass ({ s with jn := jn } : State) k j fun r => { r with pending := none }
    refine ⟨_, hmade hrun, ?_, fun j hj => ?_, ?_⟩
    · rw [htcass]
      exact (hcass k).trans (if_pos rfl)
    · rw [htcass]
      exact (hcass j).trans (if_neg hj)
    · rw [htreplies]
      simp
      rfl
  · obtain ⟨jn, p, ho, -, -, -, hmade⟩ := exec_appendMade hrun ha
    have htell : ({ s with jn := jn } : State).tellOwner p true = (({ s with jn := jn } : State).modND fun nd =>
        { nd with box := min 300 e.added, emptying := none }).replied 0x2C e.tag (0x00#8 :: u16 e.count) := by
      unfold State.tellOwner State.boxEmptiedEnds
      rw [ho]
      dsimp only
      rw [he]
      exact State.ok_replied rfl ..
    rw [htell] at hmade
    obtain ⟨htnd, -, htreplies, -, -⟩ := ((({ s with jn := jn } : State).modND fun nd =>
        { nd with box := min 300 e.added, emptying := none }).replied 0x2C e.tag (0x00#8 :: u16 e.count)).ran_reads
    exact ⟨_, hmade hrun, htnd, htreplies⟩
  · obtain ⟨jn, p, ho, -, -, hmade⟩ := exec_appendFails hrun ha hl
    have htell : ({ s with jn := jn } : State).tellOwner p false =
        (({ s with jn := jn } : State).modND fun nd => { nd with emptying := none }).replied 0x2C e.tag [0x17#8] := by
      unfold State.tellOwner State.boxEmptiedEnds
      rw [ho]
      dsimp only
      rw [he]
      exact State.refuse_replied rfl ..
    rw [htell] at hmade
    obtain ⟨htnd, -, htreplies, -, -⟩ := (((({ s with jn := jn } : State).modND fun nd =>
        { nd with emptying := none }).replied 0x2C e.tag [0x17#8]).raise .journalFailed (u32 r.seq)).ran_reads
    refine ⟨_, hmade hrun, htnd, ?_⟩
    rw [htreplies]
    simp
    rfl
  · refine ⟨fun n hn => ⟨?_, fun denomination count nominal low => ?_⟩, fun h => ?_, fun h => ?_, fun h => ?_, fun h hp => ?_,
      fun h => ?_, fun h he => ?_, fun h he hj => ?_, fun h he hf hr hx => ?_, fun k => ⟨fun h => ?_, fun ha hd hp => ?_,
      fun ha hd hp => ?_, fun denomination count nominal low => ⟨fun h => ?_, fun h1 h2 h3 => ⟨fun h => ?_, fun ha h => ?_,
      fun ha hi hc hp hcur => ⟨fun hj => ?_, fun hf hr hx => ?_⟩⟩⟩⟩⟩
    · refine exec_serves_to rfl hs ?_
      rw [← State.counted_refuse rfl]
      show s.counted.ownConfirm tag n = _
      unfold State.ownConfirm
      rw [Ix4.ofNum_none' hn]
    · refine exec_serves_to rfl hs ?_
      rw [← State.counted_refuse rfl]
      show s.counted.ownReplenish tag n denomination count nominal low = _
      unfold State.ownReplenish
      rw [Ix4.ofNum_none' hn]
    · refine exec_serves_to rfl hs ?_
      rw [← State.counted_refuse rfl]
      show s.counted.ownClearPath tag = _
      rcases List.mem_pair.mp h with h | h <;> simp [State.ownClearPath, State.counted, h]
    · refine exec_serves_to rfl hs ?_
      rw [← State.counted_refuse rfl]
      show s.counted.ownClearPath tag = _
      simp [State.ownClearPath, State.counted, h]
    · refine exec_serves_to rfl hs ?_
      show s.counted.ownClearPath tag = _
      have hown : s.counted.ownClearPath tag = s.counted.ok 0x2B tag (u8 NDState.clearing.code) := by
        simp [State.ownClearPath, State.counted, h]
      exact hown.trans (State.ok_replied rfl ..)
    · have hown : s.counted.ownClearPath tag = s.counted.startClearing.replied 0x2B tag [0x00#8, 0x05#8] := by
        have hclear : s.counted.ownClearPath tag = s.counted.startClearing.ok 0x2B tag (u8 NDState.clearing.code) := by
          rcases List.mem_pair.mp h with h | h <;> simp [State.ownClearPath, State.counted, h]
        exact hclear.trans (State.ok_replied rfl ..)
      rw [State.startClearing_empty (s := s.counted) hp] at hown
      refine ⟨_, exec_serves_to rfl hs hown, ?_⟩
      simp only [State.finish_frame]
      exact ⟨rfl, rfl, rfl, rfl⟩
    · refine exec_serves_to rfl hs ?_
      rw [← State.counted_refuse rfl]
      exact if_pos h
    · refine exec_serves_to rfl hs ?_
      rw [← State.counted_refuse rfl]
      show s.counted.ownBoxEmptied tag = _
      simp [State.ownBoxEmptied, State.counted, h, Option.isSome_iff_ne_none, he]
    · refine exec_serves_to rfl hs ?_
      rw [← State.counted_refuse rfl]
      show s.counted.ownBoxEmptied tag = _
      have htakes := JN.takesOrdinary_not hj
      simp [State.ownBoxEmptied, State.counted, h, he, htakes]
    · have htakes := JN.takesOrdinary_yes hf hr
      obtain ⟨hok, hqueue, hclaims⟩ := State.append_taken (s := s.counted) hf hr hx .boxEmptied (kind := .boxEmptied) rfl 0
        (u16 s.nd.box) false true
      have hnd : (s.counted.append .boxEmptied .boxEmptied 0 (u16 s.nd.box) false true).1.nd = s.nd := by simp [State.counted]
      have hown : s.counted.ownBoxEmptied tag = (s.counted.append .boxEmptied .boxEmptied 0 (u16 s.nd.box) false true).1.modND
          fun nd => { nd with emptying := some ⟨tag, nd.box, 0⟩ } := by
        have hdoor : s.counted.nd.safeDoorOpen = true := h
        have hnone : s.counted.nd.emptying = none := he
        unfold State.ownBoxEmptied
        rw [if_neg (by rw [hdoor]; exact nofun), if_neg (by rw [hnone]; exact nofun),
          if_neg (by rw [show s.counted.jn.takesOrdinary = true from htakes]; exact nofun)]
        exact if_pos hok
      generalize (s.counted.append .boxEmptied .boxEmptied 0 (u16 s.nd.box) false true).1 = v at hown hqueue hclaims hnd
      refine ⟨_, exec_serves_to rfl hs hown, ?_⟩
      simp only [State.finish_frame]
      refine ⟨?_, hqueue, hclaims⟩
      show { v.nd with emptying := some ⟨tag, v.nd.box, 0⟩ } = _
      rw [hnd]
    · refine exec_serves_to rfl hs ?_
      rw [← State.counted_refuse rfl]
      show s.counted.ownConfirm tag k.num = _
      unfold State.ownConfirm
      rw [Ix4.ofNum_num]
      exact if_pos h
    · refine exec_serves_to rfl hs ?_
      rw [← State.counted_refuse rfl]
      show s.counted.ownConfirm tag k.num = _
      unfold State.ownConfirm
      rw [Ix4.ofNum_num]
      exact (if_neg fun hn => hn.elim ha hd).trans (if_pos hp)
    · have hown := State.ownConfirm_confirms (s := s.counted) (k := k) tag ha hd hp
      have hcass := s.counted.confirmed_cass k
      generalize s.counted.confirmed k = v at hown hcass
      have hsame : ∀ j, s.counted.cass j = s.cass j := fun _ => rfl
      refine ⟨_, exec_serves_to rfl hs hown, ?_⟩
      simp only [State.finish_cass]
      have hv : ∀ kind body j, (v.replied kind tag body).cass j = v.cass j := fun _ _ _ => rfl
      simp only [hv, hcass, hsame, if_true]
      refine ⟨fun j hj => if_neg hj, fun hu => if_pos hu, fun hst => ?_⟩
      have hnot : ¬ (s.cass k).kept.state ∈ [CassState.present, .low] := fun hn => by
        simp only [List.mem_cons, List.not_mem_nil, or_false] at hst hn
        rcases hst with h | h | h <;> rw [h] at hn <;> simp at hn
      rw [Cassette.confirmed, if_neg hnot]
    · refine exec_serves_to rfl hs ?_
      rw [← State.counted_refuse rfl]
      show s.counted.ownReplenish tag k.num denomination count nominal low = _
      unfold State.ownReplenish
      rw [Ix4.ofNum_num]
      exact if_pos h
    all_goals
      have hrange : ¬ (denomination < 100 ∨ 100000 < denomination ∨ Config.cassetteMax < count) := by
        show ¬ (denomination < 100 ∨ 100000 < denomination ∨ 2500 < count)
        omega
    · refine exec_serves_to rfl hs ?_
      rw [← State.counted_refuse rfl]
      show s.counted.ownReplenish tag k.num denomination count nominal low = _
      unfold State.ownReplenish
      rw [Ix4.ofNum_num]
      exact (if_neg hrange).trans (if_pos h)
    · refine exec_serves_to rfl hs ?_
      rw [← State.counted_refuse rfl]
      show s.counted.ownReplenish tag k.num denomination count nominal low = _
      unfold State.ownReplenish
      rw [Ix4.ofNum_num]
      exact (if_neg hrange).trans ((if_neg ha).trans (if_pos (h.imp_right fun h => h.imp_right .inl)))
    all_goals
      have hfree : ¬ ((s.counted.cass k).kept.inPath ≠ 0 ∨ (s.counted.cass k).committed ≠ 0 ∨ (s.counted.cass k).pending ≠ none ∨
          s.counted.currentUses k = true) := by
        have huses : s.counted.currentUses k = false := by simp [State.currentUses, State.counted, hcur]
        rintro (h | h | h | h)
        · exact h hi
        · exact h hc
        · exact h hp
        · exact absurd (huses.symm.trans h) nofun
    · refine exec_serves_to rfl hs ?_
      rw [← State.counted_refuse rfl]
      show s.counted.ownReplenish tag k.num denomination count nominal low = _
      unfold State.ownReplenish
      rw [Ix4.ofNum_num]
      exact (if_neg hrange).trans ((if_neg ha).trans ((if_neg hfree).trans (if_pos (JN.takesOrdinary_not hj))))
    · have htakes := JN.takesOrdinary_yes hf hr
      obtain ⟨hok, hqueue, hclaims⟩ := State.append_taken (s := s.counted) hf hr hx (.replenish k) (kind := .replenish) rfl 0
        (replenishBody k denomination count nominal (s.cass k).kept.estimate) false true
      have hnd : (s.counted.append (.replenish k) .replenish 0 (replenishBody k denomination count nominal (s.cass k).kept.estimate)
        false true).1.nd = s.nd := by simp [State.counted]
      have hown : s.counted.ownReplenish tag k.num denomination count nominal low =
          (s.counted.append (.replenish k) .replenish 0 (replenishBody k denomination count nominal (s.cass k).kept.estimate)
            false true).1.modCass k fun r => { r with pending := some ⟨tag, denomination, count, nominal, clamp 0 2500 low⟩ } := by
        unfold State.ownReplenish
        rw [Ix4.ofNum_num]
        exact (if_neg hrange).trans ((if_neg ha).trans ((if_neg hfree).trans ((if_neg (by
          rw [show s.counted.jn.takesOrdinary = true from htakes]
          exact nofun)).trans (if_pos hok))))
      generalize (s.counted.append (.replenish k) .replenish 0 (replenishBody k denomination count nominal
        (s.cass k).kept.estimate) false true).1 = v at hown hqueue hnd
      have hcass := fun j => State.cass_modCass v k j fun r =>
        { r with pending := some ⟨tag, denomination, count, nominal, clamp 0 2500 low⟩ }
      have hvcass : ∀ j, v.cass j = s.cass j := fun j => by rw [State.cass, hnd]; rfl
      refine ⟨_, exec_serves_to rfl hs hown, ?_⟩
      simp only [State.finish_frame, State.finish_cass, hcass, if_true, hvcass]
      refine ⟨?_, fun j hj => if_neg hj, hqueue⟩
      rw [clamp_zero]

end Sys2Proof.Machine
end

section
/-! PROOFS. Planning and DISPENSE (O45, O46): the search and its plan, the loads made of it, and the checks in their order. -/

namespace Sys2Proof.Machine

/-! ## The bounded search (R91) -/

/-- The counts that a pool is tried with (R91). -/
theorem mem_tried {g x : Nat} : x ∈ (List.range (min (Config.searchSpan + 1) (g + 1))).map (g - ·) ↔ x ≤ g ∧ g ≤ x + 4 := by
  simp only [List.mem_map, List.mem_range, Config.searchSpan]
  constructor
  · rintro ⟨i, hi, rfl⟩
    omega
  · intro h
    exact ⟨g - x, by omega, by omega⟩

/-- One count tried after those before it. -/
def tryCount (f : Nat → Option (List Nat) × Bool) (acc : Option (List Nat) × Bool) (x : Nat) : Option (List Nat) × Bool :=
  if acc.1.isSome then acc else ((f x).1.map (x :: ·), acc.2 || (f x).2)

/-- Counts tried in order: the first that leads to a combination, else whether one led above the ceiling. -/
theorem tried_foldl (f : Nat → Option (List Nat) × Bool) (cs : List Nat) (acc : Option (List Nat) × Bool) (h : acc.1 = none) :
    (∀ ys, (cs.foldl (tryCount f) acc).1 = some ys → ∃ x ∈ cs, ∃ xs, (f x).1 = some xs ∧ ys = x :: xs) ∧
      ((cs.foldl (tryCount f) acc).1 = none → (∀ x ∈ cs, (f x).1 = none) ∧
        ((cs.foldl (tryCount f) acc).2 = true ↔ acc.2 = true ∨ ∃ x ∈ cs, (f x).2 = true)) := by
  have hdone : ∀ (cs : List Nat) (a : Option (List Nat) × Bool), a.1.isSome = true → cs.foldl (tryCount f) a = a := by
    intro cs
    induction cs with
    | nil => exact fun a _ => rfl
    | cons x cs ih =>
      intro a ha
      have hstep : tryCount f a x = a := if_pos ha
      rw [List.foldl_cons, hstep]
      exact ih a ha
  induction cs generalizing acc with
  | nil =>
    refine ⟨fun ys hys => ?_, fun _ => ?_⟩
    · rw [List.foldl_nil, h] at hys
      exact absurd hys nofun
    · simp
  | cons x cs ih =>
    have hstep : tryCount f acc x = ((f x).1.map (x :: ·), acc.2 || (f x).2) := if_neg (by rw [h]; exact nofun)
    rw [List.foldl_cons, hstep]
    cases hx : (f x).1 with
    | some xs =>
      rw [hdone _ _ (by rfl)]
      refine ⟨fun ys hys => ⟨x, List.mem_cons_self, xs, hx, (Option.some.inj hys).symm⟩, fun hn => absurd hn nofun⟩
    | none =>
      obtain ⟨hsome, hnone⟩ := ih (none, acc.2 || (f x).2) rfl
      refine ⟨fun ys hys => ?_, fun hn => ?_⟩
      · obtain ⟨y, hy, xs, hf, hys⟩ := hsome ys hys
        exact ⟨y, List.mem_cons_of_mem _ hy, xs, hf, hys⟩
      · obtain ⟨hall, hflag⟩ := hnone hn
        refine ⟨fun y hy => ?_, ?_⟩
        · rcases List.mem_cons.mp hy with rfl | hy
          · exact hx
          · exact hall y hy
        · refine hflag.trans ?_
          simp only [Bool.or_eq_true, List.mem_cons, exists_eq_or_imp, or_assoc]

theorem search_last (ceiling : Nat) (p : Pool) (rem total : Nat) : search ceiling [p] rem total =
    if rem % p.denomination = 0 ∧ rem / p.denomination ≤ p.available then
      if 1 ≤ total + rem / p.denomination ∧ total + rem / p.denomination ≤ ceiling then (some [rem / p.denomination], false)
      else (none, decide (ceiling < total + rem / p.denomination))
    else (none, false) := rfl

theorem search_cons (ceiling : Nat) (p q : Pool) (ps : List Pool) (rem total : Nat) :
    search ceiling (p :: q :: ps) rem total =
      ((List.range (min (Config.searchSpan + 1) (min p.available (rem / p.denomination) + 1))).map
        (min p.available (rem / p.denomination) - ·)).foldl
          (tryCount fun x => search ceiling (q :: ps) (rem - p.denomination * x) (total + x)) (none, false) := rfl

/-- The search finds an exact combination within the ceiling, or tells whether one above the ceiling was tried (R91). -/
theorem search_spec (ceiling : Nat) (ps : List Pool) (rem total : Nat) :
    (∀ xs, (search ceiling ps rem total).1 = some xs →
      searched ps rem xs ∧ 1 ≤ total + xs.sum ∧ total + xs.sum ≤ ceiling) ∧
    ((search ceiling ps rem total).1 = none →
      ((search ceiling ps rem total).2 = true → ∃ xs, searched ps rem xs ∧ ceiling < total + xs.sum) ∧
      ((search ceiling ps rem total).2 = false → ∀ xs, searched ps rem xs → total + xs.sum = 0)) := by
  match ps with
  | [] => exact ⟨fun xs h => absurd h nofun, fun _ => ⟨fun h => absurd h nofun, fun _ xs h => absurd h not_false⟩⟩
  | [p] =>
    have hlast : ∀ xs, searched [p] rem xs ↔ xs = [rem / p.denomination] ∧ rem % p.denomination = 0 ∧
        rem / p.denomination ≤ p.available := by
      intro xs
      cases xs with
      | nil => exact ⟨fun h => absurd h not_false, fun h => absurd h.1 nofun⟩
      | cons x xs =>
        constructor
        · rintro ⟨rfl, hm, rfl, ha⟩
          exact ⟨rfl, hm, ha⟩
        · rintro ⟨hx, hm, ha⟩
          obtain ⟨rfl, rfl⟩ := List.cons.inj hx
          exact ⟨rfl, hm, rfl, ha⟩
    rw [search_last]
    by_cases hfits : rem % p.denomination = 0 ∧ rem / p.denomination ≤ p.available
    · rw [if_pos hfits]
      by_cases hall : 1 ≤ total + rem / p.denomination ∧ total + rem / p.denomination ≤ ceiling
      · rw [if_pos hall]
        refine ⟨fun xs hxs => ?_, fun hn => absurd hn nofun⟩
        obtain rfl := Option.some.inj hxs
        refine ⟨(hlast _).mpr ⟨rfl, hfits⟩, ?_⟩
        simpa using hall
      · rw [if_neg hall]
        refine ⟨fun xs hxs => absurd hxs nofun, fun _ => ⟨fun hover => ⟨[rem / p.denomination], (hlast _).mpr ⟨rfl, hfits⟩, ?_⟩,
          fun hunder xs hxs => ?_⟩⟩
        · simpa using hover
        · obtain rfl := ((hlast xs).mp hxs).1
          have hle : total + rem / p.denomination ≤ ceiling := by simpa using hunder
          simp only [List.sum_cons, List.sum_nil]
          generalize rem / p.denomination = quotient at hall hle ⊢
          omega
    · rw [if_neg hfits]
      exact ⟨fun xs hxs => absurd hxs nofun, fun _ => ⟨fun hover => absurd hover nofun,
        fun _ xs hxs => absurd ((hlast xs).mp hxs).2 hfits⟩⟩
  | p :: q :: ps =>
    have ih := fun x => search_spec ceiling (q :: ps) (rem - p.denomination * x) (total + x)
    have hcons : ∀ x xs, searched (p :: q :: ps) rem (x :: xs) ↔ x ∈ (List.range (min (Config.searchSpan + 1)
        (min p.available (rem / p.denomination) + 1))).map (min p.available (rem / p.denomination) - ·) ∧
        searched (q :: ps) (rem - p.denomination * x) xs := fun x xs => by
      rw [mem_tried, and_assoc]
      rfl
    rw [search_cons]
    obtain ⟨hsome, hnone⟩ := tried_foldl (fun x => search ceiling (q :: ps) (rem - p.denomination * x) (total + x))
      ((List.range (min (Config.searchSpan + 1) (min p.available (rem / p.denomination) + 1))).map
        (min p.available (rem / p.denomination) - ·)) (none, false) rfl
    refine ⟨fun ys hys => ?_, fun hn => ?_⟩
    · obtain ⟨x, hx, xs, hf, rfl⟩ := hsome ys hys
      obtain ⟨hxs, hlo, hhi⟩ := (ih x).1 xs hf
      refine ⟨(hcons x xs).mpr ⟨hx, hxs⟩, ?_⟩
      simp only [List.sum_cons]
      omega
    · obtain ⟨hall, hflag⟩ := hnone hn
      refine ⟨fun hover => ?_, fun hunder ys hys => ?_⟩
      · obtain ⟨x, hx, hxo⟩ := (hflag.mp hover).resolve_left nofun
        obtain ⟨xs, hxs, hlt⟩ := ((ih x).2 (hall x hx)).1 hxo
        refine ⟨x :: xs, (hcons x xs).mpr ⟨hx, hxs⟩, ?_⟩
        simp only [List.sum_cons]
        omega
      · cases ys with
        | nil => exact absurd hys not_false
        | cons x xs =>
          obtain ⟨hx, hxs⟩ := (hcons x xs).mp hys
          have hxu : (search ceiling (q :: ps) (rem - p.denomination * x) (total + x)).2 = false := by
            by_contra hne
            have hflagged := hflag.mpr (.inr ⟨x, hx, by simpa using hne⟩)
            exact absurd (hunder.symm.trans hflagged) nofun
          have hzero := ((ih x).2 (hall x hx)).2 hxu xs hxs
          simp only [List.sum_cons]
          omega
termination_by ps.length

/-- An exact combination has a count for each pool, within the pool, and its notes are worth the amount. -/
theorem searched_exact {ps : List Pool} {rem : Nat} {xs : List Nat} (h : searched ps rem xs) :
    xs.length = ps.length ∧ (∀ e ∈ ps.zip xs, e.2 ≤ e.1.available) ∧
      ((ps.zip xs).map fun e => e.1.denomination * e.2).sum = rem := by
  match ps, xs with
  | [], _ => exact absurd h not_false
  | [p], [] => exact absurd h not_false
  | [p], x :: xs =>
    obtain ⟨rfl, hm, rfl, ha⟩ := h
    refine ⟨rfl, ?_, ?_⟩
    · simpa using ha
    · simpa using Nat.mul_div_cancel' (Nat.dvd_of_mod_eq_zero hm)
  | _ :: _ :: _, [] => exact absurd h not_false
  | p :: q :: ps, x :: xs =>
    obtain ⟨hx, -, hxs⟩ := h
    obtain ⟨hlen, hle, hsum⟩ := searched_exact hxs
    refine ⟨by simpa using hlen, fun e he => ?_, ?_⟩
    · rcases List.mem_cons.mp he with rfl | he
      · exact le_trans hx (Nat.min_le_left _ _)
      · exact hle e he
    · rw [List.zip_cons_cons, List.map_cons, List.sum_cons, hsum]
      have hworth : p.denomination * x ≤ rem :=
        le_trans (Nat.mul_le_mul_left _ (le_trans hx (Nat.min_le_right _ _))) (Nat.mul_div_le rem p.denomination)
      dsimp only
      omega

/-! ## The pools (R90) -/

/-- A cassette's place in the draw order adds it and no other. -/
theorem drawInsert_perm (m : Cass × Nat) (ms : List (Cass × Nat)) : (drawInsert m ms).Perm (m :: ms) := by
  induction ms with
  | nil => exact .refl _
  | cons x xs ih =>
    unfold drawInsert
    split
    · exact .refl _
    · exact (ih.cons x).trans (.swap m x xs)

/-- The members of a list of pools. -/
def members (ps : List Pool) : List (Cass × Nat) := ps.flatMap (·.members)

theorem poolInsert_members (d : Nat) (m : Cass × Nat) (ps : List Pool) : (members (poolInsert d m ps)).Perm (m :: members ps) := by
  induction ps with
  | nil => exact .refl _
  | cons p ps ih =>
    unfold poolInsert
    split
    · exact (drawInsert_perm m p.members).append_right _
    · split
      · exact .refl _
      · refine (ih.append_left p.members).trans ?_
        exact List.perm_middle

/-- Each pool's members are of its denomination, with their availability. -/
def State.Pooled (s : State) (ps : List Pool) : Prop :=
  ∀ p ∈ ps, ∀ m ∈ p.members, (s.cass m.1).kept.denomination = some p.denomination ∧ m.2 = (s.cass m.1).available

theorem State.poolInsert_pooled {s : State} {ps : List Pool} (h : s.Pooled ps) {d : Nat} {m : Cass × Nat}
    (hm : (s.cass m.1).kept.denomination = some d ∧ m.2 = (s.cass m.1).available) : s.Pooled (poolInsert d m ps) := by
  induction ps with
  | nil =>
    intro p hp k hk
    obtain rfl := List.mem_singleton.mp hp
    obtain rfl := List.mem_singleton.mp hk
    exact hm
  | cons p ps ih =>
    have hrest : s.Pooled ps := fun q hq => h q (List.mem_cons_of_mem _ hq)
    have hp := h p List.mem_cons_self
    unfold poolInsert
    split
    · next hd =>
      intro q hq k hk
      rcases List.mem_cons.mp hq with rfl | hq
      · rcases List.mem_cons.mp ((drawInsert_perm m p.members).mem_iff.mp hk) with rfl | hk
        · exact ⟨hd ▸ hm.1, hm.2⟩
        · exact hp k hk
      · exact hrest q hq k hk
    · split
      · intro q hq k hk
        rcases List.mem_cons.mp hq with rfl | hq
        · obtain rfl := List.mem_singleton.mp hk
          exact hm
        · exact h q hq k hk
      · intro q hq k hk
        rcases List.mem_cons.mp hq with rfl | hq
        · exact hp k hk
        · exact ih hrest q hq k hk

/-- A cassette that stands in a pool, with its availability (R90). -/
def State.pooledMember (s : State) (c : Cass) : Option (Cass × Nat) :=
  match (s.cass c).kept.denomination with
  | none => none
  | some _ => if (s.cass c).available = 0 then none else some (c, (s.cass c).available)

/-- One cassette put in its pool (R90). -/
def State.poolOne (s : State) (ps : List Pool) (c : Cass) : List Pool :=
  match (s.cass c).kept.denomination with
  | none => ps
  | some d => if (s.cass c).available = 0 then ps else poolInsert d (c, (s.cass c).available) ps

theorem State.pools_eq (s : State) : s.pools = Ix4.all.foldl s.poolOne [] := rfl

/-- The pools hold each cassette that stands in one, once, in the pool of its denomination. -/
theorem State.poolOne_foldl (s : State) (cs : List Cass) (ps : List Pool) (h : s.Pooled ps) :
    s.Pooled (cs.foldl s.poolOne ps) ∧ (members (cs.foldl s.poolOne ps)).Perm (members ps ++ cs.filterMap s.pooledMember) := by
  induction cs generalizing ps with
  | nil => exact ⟨h, by simp⟩
  | cons c cs ih =>
    have hnone : s.pooledMember c = none → s.poolOne ps c = ps := fun hm => by
      unfold State.pooledMember at hm
      unfold State.poolOne
      split
      · rfl
      · next d hd =>
        rw [hd] at hm
        dsimp only at hm
        split at hm
        · next ha => exact if_pos ha
        · exact absurd hm nofun
    have hsome : ∀ m, s.pooledMember c = some m → ∃ d, s.poolOne ps c = poolInsert d m ps ∧
        (s.cass m.1).kept.denomination = some d ∧ m.2 = (s.cass m.1).available := fun m hm => by
      unfold State.pooledMember at hm
      unfold State.poolOne
      split at hm
      · exact absurd hm nofun
      · next d hd =>
        split at hm
        · exact absurd hm nofun
        · next ha =>
          obtain rfl := Option.some.inj hm
          exact ⟨d, if_neg ha, hd, rfl⟩
    rw [List.foldl_cons]
    cases hm : s.pooledMember c with
    | none =>
      rw [hnone hm, List.filterMap_cons_none hm]
      exact ih ps h
    | some m =>
      obtain ⟨d, heq, hmd, hma⟩ := hsome m hm
      obtain ⟨hpooled, hperm⟩ := ih _ (State.poolInsert_pooled h ⟨hmd, hma⟩)
      rw [heq, List.filterMap_cons_some hm]
      refine ⟨hpooled, hperm.trans ?_⟩
      exact ((poolInsert_members d m ps).append_right _).trans (List.perm_middle.symm)

theorem State.pools_pooled (s : State) : s.Pooled s.pools :=
  (s.poolOne_foldl Ix4.all [] fun _ hp => absurd hp List.not_mem_nil).1

/-- No cassette stands in two places of the pools. -/
theorem State.pools_nodup (s : State) : ((members s.pools).map (·.1)).Nodup := by
  have hperm := (s.poolOne_foldl Ix4.all [] fun _ hp => absurd hp List.not_mem_nil).2
  have hkey : ∀ c m, s.pooledMember c = some m → m.1 = c := fun c m hm => by
    unfold State.pooledMember at hm
    split at hm
    · exact absurd hm nofun
    · split at hm
      · exact absurd hm nofun
      · exact congrArg Prod.fst (Option.some.inj hm).symm
  have hnodup : ((Ix4.all.filterMap s.pooledMember).map (·.1)).Nodup := by
    have hall : (Ix4.all : List Cass).Nodup := by decide
    generalize (Ix4.all : List Cass) = cs at hall
    induction cs with
    | nil => exact .nil
    | cons c cs ih =>
      obtain ⟨hc, hcs⟩ := List.nodup_cons.mp hall
      cases hm : s.pooledMember c with
      | none =>
        rw [List.filterMap_cons_none hm]
        exact ih hcs
      | some m =>
        rw [List.filterMap_cons_some hm, List.map_cons]
        refine List.nodup_cons.mpr ⟨fun hin => ?_, ih hcs⟩
        obtain ⟨k, hk, hk1⟩ := List.mem_map.mp hin
        obtain ⟨d, hd, hdm⟩ := List.mem_filterMap.mp hk
        have hcd : c = d := (hkey c m hm).symm.trans (hk1.symm.trans (hkey d k hdm))
        exact hc (hcd ▸ hd)
  exact ((hperm.map (·.1)).nodup_iff).mpr hnodup

/-! ## The line of planned notes (R92, R93) -/

theorem draw_keys (ms : List (Cass × Nat)) (n : Nat) : (draw ms n).map (·.1) = ms.map (·.1) := by
  induction ms generalizing n with
  | nil => rfl
  | cons m ms ih => exact congrArg (m.1 :: ·) (ih _)

/-- No cassette is drawn beyond its availability. -/
theorem draw_within {ms : List (Cass × Nat)} {n : Nat} {e : Cass × Nat} (h : e ∈ draw ms n) : ∃ m ∈ ms, m.1 = e.1 ∧ e.2 ≤ m.2 := by
  induction ms generalizing n with
  | nil => exact absurd h List.not_mem_nil
  | cons m ms ih =>
    rcases List.mem_cons.mp h with rfl | h
    · exact ⟨m, List.mem_cons_self, rfl, Nat.min_le_left _ _⟩
    · obtain ⟨k, hk, hk1, hk2⟩ := ih h
      exact ⟨k, List.mem_cons_of_mem _ hk, hk1, hk2⟩

/-- A pool's count is drawn in full. -/
theorem draw_sum (ms : List (Cass × Nat)) (n : Nat) (h : n ≤ (ms.map (·.2)).sum) : ((draw ms n).map (·.2)).sum = n := by
  induction ms generalizing n with
  | nil =>
    have hn : n = 0 := Nat.le_zero.mp h
    subst hn
    rfl
  | cons m ms ih =>
    simp only [List.map_cons, List.sum_cons] at h
    have hrest := ih (n - min m.2 n) (by omega)
    show min m.2 n + ((draw ms (n - min m.2 n)).map (·.2)).sum = n
    omega

/-- What a line gives of a cassette. -/
def lineOf (line : List (Cass × Nat)) (c : Cass) : Nat := (line.map fun e => if e.1 = c then e.2 else 0).sum

theorem lineOf_notin {line : List (Cass × Nat)} {c : Cass} (h : c ∉ line.map (·.1)) : lineOf line c = 0 := by
  refine List.sum_eq_zero fun n hn => ?_
  obtain ⟨e, he, rfl⟩ := List.mem_map.mp hn
  exact if_neg fun hc => h (List.mem_map.mpr ⟨e, he, hc⟩)

/-- A line that names each cassette once gives no more of one than the bound of its place. -/
theorem lineOf_le {line : List (Cass × Nat)} {bound : Cass → Nat} (hnodup : (line.map (·.1)).Nodup)
    (h : ∀ e ∈ line, e.2 ≤ bound e.1) (c : Cass) : lineOf line c ≤ bound c := by
  induction line with
  | nil => exact Nat.zero_le _
  | cons e line ih =>
    obtain ⟨he, hline⟩ := List.nodup_cons.mp hnodup
    have hrest := ih hline fun e he => h e (List.mem_cons_of_mem _ he)
    show (if e.1 = c then e.2 else 0) + lineOf line c ≤ bound c
    split
    · next hc =>
      subst hc
      have hzero : lineOf line e.1 = 0 := lineOf_notin he
      have hle := h e List.mem_cons_self
      omega
    · omega

/-- The money of a line, by cassette and by place. -/
theorem lineOf_worth (line : List (Cass × Nat)) (d : Cass → Nat) :
    (Ix4.all.map fun c => lineOf line c * d c).sum = (line.map fun e => d e.1 * e.2).sum := by
  induction line with
  | nil => simp [lineOf]
  | cons e line ih =>
    have hone : (Ix4.all.map fun c => (if e.1 = c then e.2 else 0) * d c).sum = d e.1 * e.2 := by
      obtain ⟨k, n⟩ := e
      cases k <;> simp [Ix4.all, Nat.mul_comm]
    have hsplit : (Ix4.all.map fun c => lineOf (e :: line) c * d c) =
        Ix4.all.map fun c => (if e.1 = c then e.2 else 0) * d c + lineOf line c * d c :=
      List.map_congr_left fun c _ => Nat.add_mul ..
    rw [hsplit, List.sum_map_add, hone, ih]
    rfl

/-! ## Counts of notes and the loads (R93) -/

theorem countNotes_get (notes : List Cass) (c : Cass) : (countNotes notes).get c = notes.count c := by
  have hgen : ∀ (notes : List Cass) (f : Four Nat),
      (notes.foldl (fun f c => f.modify c (· + 1)) f).get c = f.get c + notes.count c := by
    intro notes
    induction notes with
    | nil => exact fun f => rfl
    | cons k notes ih =>
      intro f
      rw [List.foldl_cons, ih, Four.get_modify, List.count_cons]
      by_cases hk : c = k
      · subst hk
        simp
        omega
      · have hk' : (k == c) = false := beq_eq_false_iff_ne.mpr (Ne.symm hk)
        simp [hk, hk']
  rw [countNotes, hgen, Four.get_const, Nat.zero_add]

theorem Four.sum_modify (f : Four Nat) (c : Ix4) : (f.modify c (· + 1)).sum = f.sum + 1 := by
  cases c <;> simp only [Four.modify, Four.set, Four.get, Four.sum] <;> omega

theorem countNotes_sum (notes : List Cass) : (countNotes notes).sum = notes.length := by
  have hgen : ∀ (notes : List Cass) (f : Four Nat),
      (notes.foldl (fun f c => f.modify c (· + 1)) f).sum = f.sum + notes.length := by
    intro notes
    induction notes with
    | nil => exact fun f => rfl
    | cons k notes ih =>
      intro f
      rw [List.foldl_cons, ih, Four.sum_modify, List.length_cons]
      omega
  rw [countNotes, hgen]
  exact Nat.zero_add _

/-- The notes of a line, one by one. -/
def lineNotes (line : List (Cass × Nat)) : List Cass := line.flatMap fun x => List.replicate x.2 x.1

theorem lineNotes_count (line : List (Cass × Nat)) (c : Cass) : (lineNotes line).count c = lineOf line c := by
  induction line with
  | nil => rfl
  | cons e line ih =>
    have hhead : (List.replicate e.2 e.1).count c = if e.1 = c then e.2 else 0 := by
      rw [List.count_replicate]
      simp only [beq_iff_eq]
    show (List.replicate e.2 e.1 ++ lineNotes line).count c = (if e.1 = c then e.2 else 0) + lineOf line c
    rw [List.count_append, hhead, ih]

/-- The loads of a line that has room for them: few, within the capacity, and holding each note once (R93). -/
theorem cutLine_cuts (fuel k : Nat) (notes : List Cass) (h : notes.length ≤ fuel * k) :
    (cutLine fuel k notes).length ≤ fuel ∧ (∀ n ∈ cutLine fuel k notes, 1 ≤ n.sum ∧ n.sum ≤ k) ∧
      ∀ c, ((cutLine fuel k notes).map (Four.get · c)).sum = notes.count c := by
  induction fuel generalizing notes with
  | zero =>
    have hnil : notes = [] := List.length_eq_zero_iff.mp (by omega)
    subst hnil
    exact ⟨Nat.le_refl _, fun _ hn => absurd hn List.not_mem_nil, fun _ => rfl⟩
  | succ fuel ih =>
    unfold cutLine
    split
    · next hempty =>
      have hnil : notes = [] := List.isEmpty_iff.mp hempty
      subst hnil
      exact ⟨Nat.zero_le _, fun _ hn => absurd hn List.not_mem_nil, fun _ => rfl⟩
    · next hsome =>
      have hlen : 0 < notes.length := List.length_pos_iff.mpr fun hn => hsome (by rw [hn]; rfl)
      have hk : 0 < k := by
        by_contra hn
        have hzero : k = 0 := by omega
        rw [hzero, Nat.mul_zero] at h
        omega
      have hdrop : (notes.drop k).length ≤ fuel * k := by
        rw [List.length_drop]
        rw [Nat.add_mul, Nat.one_mul] at h
        omega
      obtain ⟨hl, hw, hc⟩ := ih _ hdrop
      refine ⟨Nat.succ_le_succ hl, fun n hn => ?_, fun c => ?_⟩
      · rcases List.mem_cons.mp hn with rfl | hn
        · rw [countNotes_sum, List.length_take]
          omega
        · exact hw n hn
      · rw [List.map_cons, List.sum_cons, hc, countNotes_get, ← List.count_append, List.take_append_drop]

/-! ## Plans (R91 to R93) -/

section
variable {s : State} {amount : Nat}

/-- The notes of a combination of the pools. -/
def State.combined (s : State) (xs : List Nat) : List (Cass × Nat) := planLine s.pools xs

theorem State.plan_none (h : (search s.dp.set.noteCeiling s.pools amount 0).1 = none) : s.plan amount =
    .error (if (search s.dp.set.noteCeiling s.pools amount 0).2 then .noteCeiling else .noMix) := by
  unfold State.plan
  dsimp only
  rw [h]

theorem State.plan_some {xs : List Nat} (h : (search s.dp.set.noteCeiling s.pools amount 0).1 = some xs) : s.plan amount =
    if 4 * s.dp.set.capacity < (lineNotes (s.combined xs)).length then .error .noteCeiling
    else .ok ⟨countNotes (lineNotes (s.combined xs)), (s.combined xs).map (·.1),
      cutLine 4 s.dp.set.capacity (lineNotes (s.combined xs))⟩ := by
  unfold State.plan
  dsimp only
  rw [h]
  rfl

end

/-- The line of counts within their pools: its cassettes, its bounds, its money and its length. -/
theorem State.planLine_exact {s : State} {ps : List Pool} {xs : List Nat} (hlen : xs.length = ps.length)
    (hle : ∀ e ∈ ps.zip xs, e.2 ≤ e.1.available) (hp : s.Pooled ps) :
    (planLine ps xs).map (·.1) = (members ps).map (·.1) ∧ (∀ e ∈ planLine ps xs, e.2 ≤ (s.cass e.1).available) ∧
      ((planLine ps xs).map fun e => (s.cass e.1).kept.denomination.getD 0 * e.2).sum =
        ((ps.zip xs).map fun e => e.1.denomination * e.2).sum ∧
      (lineNotes (planLine ps xs)).length = xs.sum := by
  induction ps generalizing xs with
  | nil =>
    obtain rfl := List.length_eq_zero_iff.mp hlen
    exact ⟨rfl, fun _ he => absurd he List.not_mem_nil, rfl, rfl⟩
  | cons p ps ih =>
    cases xs with
    | nil => exact absurd hlen nofun
    | cons x xs =>
      have hx : x ≤ p.available := hle (p, x) List.mem_cons_self
      obtain ⟨hkeys, hwithin, hworth, hcount⟩ := ih (Nat.succ.inj hlen) (fun e he => hle e (List.mem_cons_of_mem _ he))
        fun q hq => hp q (List.mem_cons_of_mem _ hq)
      have hline : planLine (p :: ps) (x :: xs) = draw p.members x ++ planLine ps xs := rfl
      have hmembers : members (p :: ps) = p.members ++ members ps := rfl
      have hdrawn := draw_sum p.members x hx
      have hden : ∀ e ∈ draw p.members x, (s.cass e.1).kept.denomination.getD 0 = p.denomination := fun e he => by
        obtain ⟨m, hm, hm1, -⟩ := draw_within he
        rw [← hm1, (hp p List.mem_cons_self m hm).1]
        rfl
      rw [hline, hmembers]
      refine ⟨?_, fun e he => ?_, ?_, ?_⟩
      · rw [List.map_append, List.map_append, draw_keys, hkeys]
      · rcases List.mem_append.mp he with he | he
        · obtain ⟨m, hm, hm1, hm2⟩ := draw_within he
          rw [← hm1, ← (hp p List.mem_cons_self m hm).2]
          exact hm2
        · exact hwithin e he
      · have hhead : ((draw p.members x).map fun e => (s.cass e.1).kept.denomination.getD 0 * e.2).sum = p.denomination * x := by
          have hmul : ((draw p.members x).map fun e => (s.cass e.1).kept.denomination.getD 0 * e.2) =
              (draw p.members x).map fun e => p.denomination * e.2 := List.map_congr_left fun e he => by rw [hden e he]
          rw [hmul, List.sum_map_mul_left, hdrawn]
        rw [List.map_append, List.sum_append, hhead, hworth]
        rfl
      · have hhead : (lineNotes (draw p.members x)).length = x := by
          rw [lineNotes, List.length_flatMap]
          simpa using hdrawn
        have happend : lineNotes (draw p.members x ++ planLine ps xs) = lineNotes (draw p.members x) ++ lineNotes (planLine ps xs) :=
          List.flatMap_append
        rw [happend, List.length_append, hhead, hcount]
        rfl

/-- The line of an exact combination of the pools: each cassette once, none beyond its availability, worth the amount. -/
theorem State.combined_exact {s : State} {amount : Nat} {xs : List Nat} (h : searched s.pools amount xs) :
    ((s.combined xs).map (·.1)).Nodup ∧ (∀ e ∈ s.combined xs, e.2 ≤ (s.cass e.1).available) ∧
      ((s.combined xs).map fun e => (s.cass e.1).kept.denomination.getD 0 * e.2).sum = amount ∧
      (lineNotes (s.combined xs)).length = xs.sum := by
  obtain ⟨hlen, hle, hsum⟩ := searched_exact h
  obtain ⟨hkeys, hwithin, hworth, hcount⟩ := State.planLine_exact hlen hle s.pools_pooled
  refine ⟨?_, hwithin, hworth.trans hsum, hcount⟩
  unfold State.combined
  rw [hkeys]
  exact s.pools_nodup

/-- A plan made is the line of an exact combination within the ceilings (R91 to R93). -/
theorem State.plan_ok {s : State} {amount : Nat} {p : Plan} (h : s.plan amount = .ok p) :
    ∃ xs, searched s.pools amount xs ∧ 1 ≤ xs.sum ∧ xs.sum ≤ s.dp.set.noteCeiling ∧ xs.sum ≤ 4 * s.dp.set.capacity ∧
      p = ⟨countNotes (lineNotes (s.combined xs)), (s.combined xs).map (·.1),
        cutLine 4 s.dp.set.capacity (lineNotes (s.combined xs))⟩ := by
  obtain ⟨hsome, -⟩ := search_spec s.dp.set.noteCeiling s.pools amount 0
  cases hx : (search s.dp.set.noteCeiling s.pools amount 0).1 with
  | none =>
    rw [State.plan_none hx] at h
    exact absurd h nofun
  | some xs =>
    obtain ⟨hxs, hlo, hhi⟩ := hsome xs hx
    obtain ⟨-, -, -, hcount⟩ := State.combined_exact hxs
    rw [State.plan_some hx, hcount] at h
    split at h
    · exact absurd h nofun
    · exact ⟨xs, hxs, by omega, by omega, by omega, (Except.ok.inj h).symm⟩

/-- A plan refused: no exact combination above none, or one above a ceiling (R91, R93). -/
theorem State.plan_error {s : State} {amount : Nat} {code : Code} (h : s.plan amount = .error code) :
    (code = .noMix ∧ ∀ xs, searched s.pools amount xs → xs.sum = 0) ∨
      (code = .noteCeiling ∧ ∃ xs, searched s.pools amount xs ∧
        (s.dp.set.noteCeiling < xs.sum ∨ 4 * s.dp.set.capacity < xs.sum)) := by
  obtain ⟨hsome, hnone⟩ := search_spec s.dp.set.noteCeiling s.pools amount 0
  cases hx : (search s.dp.set.noteCeiling s.pools amount 0).1 with
  | none =>
    obtain ⟨hover, hunder⟩ := hnone hx
    rw [State.plan_none hx] at h
    have hcode := Except.error.inj h
    cases hf : (search s.dp.set.noteCeiling s.pools amount 0).2 with
    | true =>
      obtain ⟨xs, hxs, hlt⟩ := hover hf
      rw [hf, if_pos rfl] at hcode
      exact .inr ⟨hcode.symm, xs, hxs, .inl (by omega)⟩
    | false =>
      rw [hf, if_neg nofun] at hcode
      refine .inl ⟨hcode.symm, fun xs hxs => ?_⟩
      have hzero := hunder hf xs hxs
      omega
  | some xs =>
    obtain ⟨hxs, -, -⟩ := hsome xs hx
    obtain ⟨-, -, -, hcount⟩ := State.combined_exact hxs
    rw [State.plan_some hx, hcount] at h
    split at h
    · next hlt => exact .inr ⟨(Except.error.inj h).symm, xs, hxs, .inr hlt⟩
    · exact absurd h nofun

/-- Settles O45: a plan is the line of an exact combination of the pools, cut into its loads. -/
theorem plansPayTheAmountExactly : Obligations.PlansPayTheAmountExactly := by
  intro amount p s h
  obtain ⟨xs, hxs, hlo, hceil, hcap, rfl⟩ := State.plan_ok h
  obtain ⟨hnodup, hwithin, hworth, hcount⟩ := State.combined_exact hxs
  obtain ⟨hloads, hsmall, hall⟩ := cutLine_cuts 4 s.dp.set.capacity (lineNotes (s.combined xs)) (by rw [hcount]; exact hcap)
  have hget : ∀ c, (countNotes (lineNotes (s.combined xs))).get c = lineOf (s.combined xs) c := fun c => by
    rw [countNotes_get, lineNotes_count]
  refine ⟨?_, ?_, ?_, fun c => ?_, hloads, fun n hn => (hsmall n hn).2, fun c => ?_⟩
  · rw [← hworth, ← lineOf_worth (s.combined xs) fun c => (s.cass c).kept.denomination.getD 0]
    exact congrArg List.sum (List.map_congr_left fun c _ => by rw [hget])
  · rw [countNotes_sum, hcount]
    exact hlo
  · rw [countNotes_sum, hcount]
    exact hceil
  · rw [hget]
    exact lineOf_le (bound := fun c => (s.cass c).available) hnodup hwithin c
  · rw [hall, countNotes_get]

/-! ## Load ids (R86) -/

/-- The id after one, 255 being followed by 1. -/
def idAfter (id : Nat) : Nat := if 255 ≤ id then 1 else id + 1

/-- The ids that follow one, up to nine of them. -/
theorem idAfter_iterate {id j : Nat} (h : j ≤ 9) : idAfter^[j] id =
    if id ≤ 255 then (if id + j ≤ 255 then id + j else id + j - 255) else if j = 0 then id else j := by
  induction j with
  | zero =>
    by_cases hid : id ≤ 255 <;> simp [hid]
  | succ j ih =>
    rw [Function.iterate_succ_apply', ih (by omega), idAfter]
    by_cases hid : id ≤ 255
    · simp only [hid, if_true]
      by_cases hj : id + j ≤ 255
      · simp only [hj, if_true]
        split_ifs <;> omega
      · simp only [hj, if_false]
        split_ifs <;> omega
    · rw [if_neg hid, if_neg hid, if_neg (Nat.succ_ne_zero j)]
      by_cases hj : j = 0
      · rw [if_pos hj, if_pos (by omega), hj]
      · rw [if_neg hj, if_neg (by omega)]

theorem idAfter_iterate_inj {id i j : Nat} (hi : i ≤ 9) (hj : j ≤ 9) (h : idAfter^[i] id = idAfter^[j] id) : i = j := by
  rw [idAfter_iterate hi, idAfter_iterate hj] at h
  split_ifs at h <;> omega

theorem DP.freeId_succ (dp : DP) (fuel id : Nat) : dp.freeId (fuel + 1) id =
    if dp.loads.any (·.id == id) then dp.freeId fuel (idAfter id) else id := rfl

/-- An id given is one that no live load holds, where some id of those tried is (R86). -/
theorem DP.freeId_free (dp : DP) (fuel id : Nat) (h : ∃ j < fuel, dp.loads.any (·.id == idAfter^[j] id) = false) :
    dp.loads.any (·.id == dp.freeId fuel id) = false := by
  induction fuel generalizing id with
  | zero =>
    obtain ⟨j, hj, -⟩ := h
    exact absurd hj (Nat.not_lt_zero j)
  | succ fuel ih =>
    rw [DP.freeId_succ]
    split
    · next htaken =>
      refine ih (idAfter id) ?_
      obtain ⟨j, hj, hfree⟩ := h
      cases j with
      | zero => exact absurd (htaken.symm.trans hfree) nofun
      | succ j => exact ⟨j, by omega, hfree⟩
    · next hfree => exact Bool.eq_false_iff.mpr hfree

/-- Among nine ids in a row one is free of a table of at most eight loads. -/
theorem DP.freeId_new (dp : DP) (h : dp.loads.length ≤ 8) (id : Nat) :
    ∀ ld ∈ dp.loads, ld.id ≠ dp.freeId (Config.loadTableMax + 1) id := by
  have hfree := dp.freeId_free (Config.loadTableMax + 1) id (by
    by_contra hall
    have htaken : (List.range 9).map (fun j => idAfter^[j] id) ⊆ dp.loads.map (·.id) := by
      intro n hn
      obtain ⟨j, hj, rfl⟩ := List.mem_map.mp hn
      have hj9 : j < 9 := List.mem_range.mp hj
      have hin : dp.loads.any (·.id == idAfter^[j] id) = true := by
        by_contra hno
        exact hall ⟨j, hj9, Bool.eq_false_iff.mpr hno⟩
      obtain ⟨ld, hld, heq⟩ := List.any_eq_true.mp hin
      exact List.mem_map.mpr ⟨ld, hld, beq_iff_eq.mp heq⟩
    have hnodup : ((List.range 9).map (fun j => idAfter^[j] id)).Nodup :=
      List.Nodup.map_on (fun i hi j hj heq => idAfter_iterate_inj (by have := List.mem_range.mp hi; omega)
        (by have := List.mem_range.mp hj; omega) heq) List.nodup_range
    have hlen := (hnodup.subperm htaken).length_le
    simp only [List.length_map, List.length_range] at hlen
    omega)
  intro ld hld heq
  rw [List.any_eq_false] at hfree
  exact hfree ld hld (by rw [heq]; exact beq_self_eq_true _)

/-! ## The loads of a plan (R86, R88) -/

/-- A load newly made of a plan's notes. -/
def Load.made (ld : Load) (s : State) (l : Lane) (reference : Nat) (autoSend : Bool) (order : List Cass) (count : Nat) : Prop :=
  ld.lane = l ∧ ld.state = .planned ∧ ld.reference = reference ∧ ld.amount = s.worth ld.planned ∧ ld.accepted = Four.const 0 ∧
    ld.count = count ∧ ld.autoSend = autoSend ∧ ld.order = order

/-- The loads made of a plan join the table with ids of their own (R86, R88). -/
theorem State.createLoads_makes (l : Lane) (reference : Nat) (autoSend : Bool) (order : List Cass) (count : Nat)
    (notes : List (Four Nat)) (s : State) (index : Nat) (hroom : s.dp.loads.length + notes.length ≤ 8) :
    ∃ new next, s.createLoads l reference autoSend order count index notes =
        ({ s with dp := { s.dp with loads := s.dp.loads ++ new, nextId := next } }, new.map (·.id)) ∧
      new.map (·.planned) = notes ∧ (∀ ld ∈ new, ld.made s l reference autoSend order count) ∧
      (new.map (·.id)).Nodup ∧ ∀ ld ∈ new, ∀ old ∈ s.dp.loads, old.id ≠ ld.id := by
  induction notes generalizing s index with
  | nil =>
    refine ⟨[], s.dp.nextId, ?_, rfl, fun _ h => absurd h List.not_mem_nil, List.nodup_nil, fun _ h => absurd h List.not_mem_nil⟩
    rw [List.append_nil]
    rfl
  | cons n notes ih =>
    have hfresh := s.dp.freeId_new (by simp only [List.length_cons] at hroom; omega) s.dp.nextId
    generalize hid : s.dp.freeId (Config.loadTableMax + 1) s.dp.nextId = id at hfresh
    obtain ⟨ld, u, hu, hld, hlid, hplanned, hmade⟩ : ∃ ld u, s.createLoad l reference autoSend order count index n = (u, id) ∧
        u = { s with dp := { s.dp with loads := s.dp.loads ++ [ld], nextId := if 255 ≤ id then 1 else id + 1 } } ∧
        ld.id = id ∧ ld.planned = n ∧ ld.made s l reference autoSend order count := by
      refine ⟨⟨id, l, reference, autoSend, index, count, n, Four.const 0, order, s.worth n, .planned, none, none, none, false,
        none, none⟩, _, ?_, rfl, rfl, rfl, rfl, rfl, rfl, rfl, rfl, rfl, rfl, rfl⟩
      rw [← hid]
      rfl
    have hulen : u.dp.loads.length + notes.length ≤ 8 := by
      rw [hld]
      simp only [List.length_append, List.length_cons, List.length_nil] at hroom ⊢
      omega
    obtain ⟨new, next, hnew, hnotes, hmades, hnodup, hold⟩ := ih u (index + 1) hulen
    refine ⟨ld :: new, next, ?_, ?_, ?_, ?_, ?_⟩
    · show ((State.createLoads (s.createLoad l reference autoSend order count index n).1 l reference autoSend order count
        (index + 1) notes).1, (s.createLoad l reference autoSend order count index n).2 ::
        (State.createLoads (s.createLoad l reference autoSend order count index n).1 l reference autoSend order count
          (index + 1) notes).2) = _
      rw [hu]
      dsimp only
      rw [hnew, hld, List.map_cons, hlid]
      dsimp only
      rw [List.append_assoc]
      rfl
    · rw [List.map_cons, hplanned, hnotes]
    · intro k hk
      rcases List.mem_cons.mp hk with rfl | hk
      · exact hmade
      · obtain ⟨h1, h2, h3, h4, h5, h6, h7, h8⟩ := hmades k hk
        refine ⟨h1, h2, h3, ?_, h5, h6, h7, h8⟩
        rw [h4, hld]
        rfl
    · rw [List.map_cons, List.nodup_cons]
      refine ⟨fun hin => ?_, hnodup⟩
      obtain ⟨k, hk, hkid⟩ := List.mem_map.mp hin
      refine hold k hk ld ?_ hkid.symm
      rw [hld]
      exact List.mem_append_right _ (List.mem_singleton.mpr rfl)
    · intro k hk old hold'
      rcases List.mem_cons.mp hk with rfl | hk
      · rw [hlid]
        exact hfresh old hold'
      · refine hold k hk old ?_
        rw [hld]
        exact List.mem_append_left _ hold'

/-- A new load is found in the table by its id. -/
theorem State.load_new {s : State} {old new : List Load} (h : s.dp.loads = old ++ new) (hnodup : (new.map (·.id)).Nodup)
    (hold : ∀ ld ∈ new, ∀ o ∈ old, o.id ≠ ld.id) {ld : Load} (hld : ld ∈ new) : s.load ld.id = some ld := by
  unfold State.load
  rw [h, List.find?_append, List.find?_eq_none.mpr fun o ho => by simpa using hold ld hld o ho, Option.none_or]
  clear h hold
  induction new with
  | nil => exact absurd hld List.not_mem_nil
  | cons k new ih =>
    obtain ⟨hk, hnew⟩ := List.nodup_cons.mp hnodup
    rcases List.mem_cons.mp hld with rfl | hld
    · exact List.find?_cons_of_pos (by simp)
    · have hne : k.id ≠ ld.id := fun heq => hk (List.mem_map.mpr ⟨ld, hld, heq.symm⟩)
      rw [List.find?_cons_of_neg (by simpa using hne)]
      exact ih hnew hld

/-! ## The room for a plan (R68, R87) -/

theorem foldl_max_le (xs : List Nat) (a b : Nat) : xs.foldl max a ≤ b ↔ a ≤ b ∧ ∀ x ∈ xs, x ≤ b := by
  induction xs generalizing a with
  | nil => simp
  | cons x xs ih =>
    rw [List.foldl_cons, ih]
    simp only [List.mem_cons, forall_eq_or_imp, max_le_iff, and_assoc]

/-- The greatest load of a plan fits the reject box (R68, R87). -/
theorem State.headroom_loads (s : State) (loads : List (Four Nat)) :
    s.headroom 0 ((loads.map Four.sum).foldl max 0) = true ↔ s.nd.box + s.dp.set.rejectCeiling + 2 ≤ 300 ∧
      ∀ n ∈ loads, s.nd.box + n.sum + s.dp.set.rejectCeiling + 2 ≤ 300 := by
  have hmax := foldl_max_le (loads.map Four.sum) 0
  unfold State.headroom
  rw [decide_eq_true_iff]
  show s.nd.box + 0 + (loads.map Four.sum).foldl max 0 + s.dp.set.rejectCeiling + 2 ≤ 300 ↔ _
  constructor
  · intro h
    have hle := (hmax (300 - (s.nd.box + s.dp.set.rejectCeiling + 2))).mp (by omega)
    refine ⟨by omega, fun n hn => ?_⟩
    have hx := hle.2 n.sum (List.mem_map_of_mem hn)
    omega
  · rintro ⟨hbase, hall⟩
    have hle := (hmax (300 - (s.nd.box + s.dp.set.rejectCeiling + 2))).mpr ⟨Nat.zero_le _, fun x hx => by
      obtain ⟨n, hn, rfl⟩ := List.mem_map.mp hx
      have := hall n hn
      omega⟩
    omega

/-! ## Notes committed (R88, R94) -/

theorem State.commit_cass (s : State) (notes : Four Nat) (k : Cass) : (s.commit notes).cass k =
    { s.cass k with committed := (s.cass k).committed + notes.get k } := by
  simp only [State.commit, Ix4.all, List.foldl_cons, List.foldl_nil, State.cass_modCass]
  cases k <;> rfl

/-- Committing changes what is committed alone. -/
theorem State.commit_eq (s : State) (notes : Four Nat) : s.commit notes =
    { s with nd := { s.nd with cassettes := (s.commit notes).nd.cassettes } } := rfl

/-! ## What a plan's loads pick (R92, R93) -/

theorem Four.get_le_sum (f : Four Nat) (c : Ix4) : f.get c ≤ f.sum := by
  cases c <;> simp only [Four.get, Four.sum] <;> omega

theorem Four.exists_pos {f : Four Nat} (h : 1 ≤ f.sum) : ∃ c, 0 < f.get c := by
  by_contra hn
  have hzero : ∀ c, f.get c = 0 := fun c => Nat.eq_zero_of_not_pos fun hc => hn ⟨c, hc⟩
  have h1 := hzero .i1
  have h2 := hzero .i2
  have h3 := hzero .i3
  have h4 := hzero .i4
  simp only [Four.get] at h1 h2 h3 h4
  simp only [Four.sum] at h
  omega

theorem Cassette.available_pos {r : Cassette} (h : 0 < r.available) : r.kept.state ∈ [CassState.present, .low] := by
  unfold Cassette.available at h
  split at h
  · next hu => simpa [Cassette.usable] using hu.1
  · exact absurd h (Nat.lt_irrefl 0)

/-- A plan has loads, and the notes of each come from cassettes of its order that have them. -/
theorem State.plan_loads {s : State} {amount : Nat} {p : Plan} (h : s.plan amount = .ok p) :
    p.loads ≠ [] ∧ p.loads.length ≤ 4 ∧ ∀ n ∈ p.loads, (∃ c ∈ p.order, 0 < n.get c) ∧
      ∀ c, 0 < n.get c → (s.cass c).kept.state ∈ [CassState.present, .low] := by
  obtain ⟨-, hlo, -, hwithin, hfew, -, hall⟩ := plansPayTheAmountExactly amount p s h
  obtain ⟨xs, hxs, -, -, hcap, rfl⟩ := State.plan_ok h
  obtain ⟨-, -, -, hcount⟩ := State.combined_exact hxs
  obtain ⟨-, hsmall, -⟩ := cutLine_cuts 4 s.dp.set.capacity (lineNotes (s.combined xs)) (by rw [hcount]; exact hcap)
  dsimp only at hlo hwithin hfew hall ⊢
  have hnotes : ∀ n ∈ cutLine 4 s.dp.set.capacity (lineNotes (s.combined xs)), ∀ c,
      n.get c ≤ (countNotes (lineNotes (s.combined xs))).get c := fun n hn c => by
    rw [← hall c]
    exact List.single_le_sum (fun _ _ => Nat.zero_le _) _ (List.mem_map_of_mem hn)
  refine ⟨fun hnil => ?_, hfew, fun n hn => ⟨?_, fun c hc => ?_⟩⟩
  · obtain ⟨c, hc⟩ := Four.exists_pos hlo
    rw [← hall c, hnil] at hc
    exact absurd hc (Nat.lt_irrefl 0)
  · obtain ⟨c, hc⟩ := Four.exists_pos (hsmall n hn).1
    refine ⟨c, ?_, hc⟩
    by_contra hout
    have hle := hnotes n hn c
    rw [countNotes_get, lineNotes_count, lineOf_notin hout] at hle
    omega
  · exact Cassette.available_pos (lt_of_lt_of_le hc (le_trans (hnotes n hn c) (hwithin c)))

/-- The first pick of a load made of a plan (R70, R93). -/
theorem Load.nextCass_made {ld : Load} (ha : ld.accepted = Four.const 0) (h : ∃ c ∈ ld.order, 0 < ld.planned.get c) :
    ∃ k, ld.nextCass = some k ∧ 0 < ld.planned.get k := by
  obtain ⟨c, hc, hpos⟩ := h
  have hsome : (ld.order.find? fun c => ld.accepted.get c < ld.planned.get c).isSome = true :=
    List.find?_isSome.mpr ⟨c, hc, by simpa [ha] using hpos⟩
  obtain ⟨k, hk⟩ := Option.isSome_iff_exists.mp hsome
  have hkpos := List.find?_some hk
  exact ⟨k, hk, by simpa [ha] using hkpos⟩

/-! ## A DISPENSE that is accepted (R88) -/

section
variable {s : State}

/-- A state with a plan taken up: its notes committed, its loads in the table, its request at the queue's tail (R88). -/
def State.planned (s : State) (notes : Four Nat) (new : List Load) (next : Nat) (entry : Request) : State :=
  { s.commit notes with dp := { s.dp with
    loads := s.dp.loads ++ new, nextId := next, queue := s.dp.queue ++ [entry] } }

/-- The DISPENSE reply's values (R88). -/
def dispenseBody (asked planned : Nat) (p : Plan) (new : List Load) : List Byte :=
  0x00#8 :: (u32 planned ++ u8 (if planned < asked then 1 else 0) ++ p.notes.toList.flatMap u8 ++ u8 p.loads.length ++
    new.flatMap (fun ld => u8 ld.id ++ u8 ld.planned.sum ++ u32 ld.amount) ++ [0x00#8])

theorem State.acceptDispense_makes (tag : Nat) (l : Lane) (asked planned reference : Nat) (auto : Bool) (p : Plan)
    (hroom : s.dp.loads.length + p.loads.length ≤ 8) :
    ∃ new next, s.acceptDispense tag l asked planned reference auto p =
        (if s.dp.queue.isEmpty then ((s.planned p.notes new next ⟨l, reference, auto, asked, planned, decide (planned < asked),
            new.map (·.id)⟩).replied 0x31 tag (dispenseBody asked planned p new)).handOverLoad
          else (s.planned p.notes new next ⟨l, reference, auto, asked, planned, decide (planned < asked),
            new.map (·.id)⟩).replied 0x31 tag (dispenseBody asked planned p new)) ∧
      new.map (·.planned) = p.loads ∧ (∀ ld ∈ new, ld.made s l reference auto p.order p.loads.length) ∧
      (new.map (·.id)).Nodup ∧ ∀ ld ∈ new, ∀ old ∈ s.dp.loads, old.id ≠ ld.id := by
  obtain ⟨new, next, hnew, hnotes, hmade, hnodup, hold⟩ := State.createLoads_makes l reference auto p.order p.loads.length p.loads
    (s.commit p.notes) 1 hroom
  have hworth : ∀ notes, (s.commit p.notes).worth notes = s.worth notes := fun notes => by
    unfold State.worth
    simp only [State.commit_cass]
  refine ⟨new, next, ?_, hnotes, fun ld hld => ?_, hnodup, hold⟩
  · generalize hd : s.planned p.notes new next ⟨l, reference, auto, asked, planned, decide (planned < asked),
      new.map (·.id)⟩ = d
    have hdloads : d.dp.loads = s.dp.loads ++ new := by rw [← hd]; rfl
    have hentries : (new.map (·.id)).flatMap d.dispenseEntry = new.flatMap fun ld =>
        u8 ld.id ++ u8 ld.planned.sum ++ u32 ld.amount := by
      rw [List.flatMap_map]
      refine List.flatMap_congr fun ld hld => ?_
      unfold State.dispenseEntry
      rw [State.load_new hdloads hnodup hold hld]
    have hlen : (new.map (·.id)).length = p.loads.length := by rw [← hnotes, List.length_map, List.length_map]
    have hreply : d.ok 0x31 tag (u32 planned ++ clampedByte (decide (planned < asked)) ++ p.notes.toList.flatMap u8 ++
        u8 (new.map (·.id)).length ++ (new.map (·.id)).flatMap d.dispenseEntry ++ u8 0) =
        d.replied 0x31 tag (dispenseBody asked planned p new) := by
      rw [State.ok_replied rfl, hentries, hlen]
      simp only [dispenseBody, clampedByte, decide_eq_true_eq]
      rfl
    have hmodDP : (({ s.commit p.notes with dp := { (s.commit p.notes).dp with
        loads := (s.commit p.notes).dp.loads ++ new, nextId := next } } : State).modDP fun dp => { dp with
          queue := dp.queue ++ [⟨l, reference, auto, asked, planned, decide (planned < asked), new.map (·.id)⟩] }) = d := hd
    unfold State.acceptDispense
    dsimp only
    rw [hnew]
    dsimp only at hmodDP ⊢
    rw [hmodDP, hreply]
  · obtain ⟨h1, h2, h3, h4, h5, h6, h7, h8⟩ := hmade ld hld
    exact ⟨h1, h2, h3, h4.trans (hworth _), h5, h6, h7, h8⟩

/-- The next load of a table whose one request has its first load PLANNED (R95). -/
theorem DP.nextLoad_first {dp : DP} {entry : Request} {first : Load} {ids : List Nat} (hq : dp.queue = [entry])
    (he : entry.loads = first.id :: ids) (hin : first ∈ dp.loads) (hst : first.state = .planned) :
    dp.nextLoad = some first.id := by
  unfold DP.nextLoad
  rw [hq]
  dsimp only
  rw [he]
  refine List.find?_cons_of_pos ?_
  exact List.any_eq_true.mpr ⟨first, hin, by simp [hst]⟩

end

section
variable {s : State}

/-- Nothing is handed over to a dispenser that is not free (R69, R95). -/
theorem State.handOverLoad_stays (h : s.nd.state ≠ .idle ∨ s.nd.gauge ≠ none ∨ s.ss.pick ≠ .empty) : s.handOverLoad = s := by
  refine if_neg fun hn => ?_
  obtain ⟨-, hst, hg, hp⟩ := hn
  exact h.elim (· hst) fun h => h.elim (· hg) (· hp)

theorem State.handOverLoad_hands {id : Nat} (hrun : s.phase = .running) (hst : s.nd.state = .idle) (hg : s.nd.gauge = none)
    (hp : s.ss.pick = .empty) (hn : s.dp.nextLoad = some id) : s.handOverLoad =
      if s.loadFits id then s.startPicking id else { s with nd := { s.nd with state := .waiting, current := some id } } := by
  have hstarted : s.started = true := by simp [State.started, hrun]
  unfold State.handOverLoad
  rw [if_pos ⟨hstarted, hst, hg, hp⟩, hn]
  rfl

/-! ## DISPENSE's checks (R87) -/

variable {tag amount auto reference : Nat} {l : Lane}

/-- DISPENSE of a lane and an auto-send value that are of their sets, check by check (R87). -/
theorem State.ownDispense_eq (hauto : auto ≤ 1) : s.ownDispense tag l.num amount auto reference =
    if (s.carrier l).location = .unknown then s.refuse 0x31 tag .carrierElsewhere []
    else if (s.laneRec l).state = .closed then s.refuse 0x31 tag .laneNotOpen []
    else if (s.laneRec l).state = .outOfService then s.refuse 0x31 tag .laneBlocked []
    else if s.nd.state = .halted ∨ s.nd.state = .fault then s.refuse 0x31 tag .dispenserHalted []
    else if s.jn.takesOrdinary = false then s.refuse 0x31 tag .journalUnavailable []
    else if amount < 1 ∨ 10000000 < amount then s.refuse 0x31 tag .malformed []
    else
      match s.plan (s.clampedAmount amount) with
      | .error code => s.refuse 0x31 tag code (u32 (s.clampedAmount amount) ++ clampedByte (decide (s.clampedAmount amount < amount)))
      | .ok p =>
        if s.headroom 0 ((p.loads.map Four.sum).foldl max 0) = false then s.refuse 0x31 tag .boxFull []
        else if 3 ≤ s.dp.queue.length then s.refuse 0x31 tag .queueFull []
        else if 8 < s.dp.loads.length + p.loads.length then s.refuse 0x31 tag .tableFull []
        else s.acceptDispense tag l amount (s.clampedAmount amount) reference (auto == 1) p := by
  unfold State.ownDispense
  rw [Ix4.ofNum_num, onOff_le hauto]
  rfl

/-- DISPENSE whose checks before the mix pass, with its plan (R87, R91). -/
theorem State.ownDispense_plans {planned : Nat} (hauto : auto ≤ 1) (hplanned : s.clampedAmount amount = planned)
    (hloc : (s.carrier l).location ≠ .unknown) (hlane : (s.laneRec l).state = .opened)
    (hnd : s.nd.state ∉ [NDState.halted, .fault]) (hj : s.jn.takesOrdinary = true) (h1 : 1 ≤ amount) (h2 : amount ≤ 10000000) :
    (∀ code, s.plan planned = .error code → s.ownDispense tag l.num amount auto reference =
      s.refuse 0x31 tag code (u32 planned ++ clampedByte (decide (planned < amount)))) ∧
    ∀ p, s.plan planned = .ok p → s.ownDispense tag l.num amount auto reference =
      if s.headroom 0 ((p.loads.map Four.sum).foldl max 0) = false then s.refuse 0x31 tag .boxFull []
      else if 3 ≤ s.dp.queue.length then s.refuse 0x31 tag .queueFull []
      else if 8 < s.dp.loads.length + p.loads.length then s.refuse 0x31 tag .tableFull []
      else s.acceptDispense tag l amount planned reference (auto == 1) p := by
  have hnd' : ¬ (s.nd.state = .halted ∨ s.nd.state = .fault) := by simpa using hnd
  rw [State.ownDispense_eq hauto, if_neg hloc, if_neg (by rw [hlane]; exact nofun), if_neg (by rw [hlane]; exact nofun),
    if_neg hnd', if_neg (by rw [hj]; exact nofun), if_neg (by omega), hplanned]
  exact ⟨fun code h => by rw [h], fun p h => by rw [h]⟩

/-- A plan taken up: the state with its loads, its entry and its answer, before the dispenser takes the first of them (R88). -/
theorem State.acceptDispense_takes {planned : Nat} {p : Plan} {auto : Bool} (hp : s.plan planned = .ok p)
    (hroom : s.dp.loads.length + p.loads.length ≤ 8) :
    ∃ new next d, s.counted.acceptDispense tag l amount planned reference auto p =
        (if s.dp.queue.isEmpty then d.handOverLoad else d) ∧
      new.map (·.planned) = p.loads ∧ new ≠ [] ∧ (∀ ld ∈ new, ld.made s l reference auto p.order p.loads.length) ∧
      (∀ ld ∈ new, d.load ld.id = some ld) ∧
      d.dp = { s.dp with loads := s.dp.loads ++ new, nextId := next, queue := s.dp.queue ++
        [⟨l, reference, auto, amount, planned, decide (planned < amount), new.map (·.id)⟩] } ∧
      d.nd = { s.nd with cassettes := d.nd.cassettes } ∧
      (∀ c, d.cass c = { s.cass c with committed := (s.cass c).committed + p.notes.get c }) ∧
      d.lc.replies = s.lc.replies ++ [answer 0x31 tag (dispenseBody amount planned p new)] ∧ d.lc.conds = s.lc.conds ∧
      d.phase = s.phase ∧ d.ss = s.ss ∧ d.now = s.now := by
  obtain ⟨new, next, hacc, hnotes, hmade, hnodup, hold⟩ := State.acceptDispense_makes (s := s.counted) tag l amount planned
    reference auto p hroom
  have hne : new ≠ [] := fun hnil => by
    rw [hnil] at hnotes
    exact (State.plan_loads hp).1 hnotes.symm
  have hcass : ∀ c, (s.counted.commit p.notes).nd.cassettes.get c = { s.cass c with committed := (s.cass c).committed + p.notes.get c } :=
    fun c => s.counted.commit_cass p.notes c
  unfold State.planned at hacc
  rw [State.commit_eq] at hacc
  generalize (s.counted.commit p.notes).nd.cassettes = cassettes at hacc hcass
  exact ⟨new, next, _, hacc, hnotes, hne, hmade, fun ld hld => State.load_new rfl hnodup hold hld, rfl, rfl, hcass, rfl, rfl, rfl,
    rfl, rfl⟩

/-- Whether the dispenser takes the first load of a plan, or has something else in hand (R69, R95). -/
theorem State.handOverLoad_first {d : State} {entry : Request} {first : Load} {ids : List Nat} (hrun : d.phase = .running)
    (hst : d.nd.state = .idle) (hg : d.nd.gauge = none) (hp : d.ss.pick = .empty) (hq : d.dp.queue = [entry])
    (he : entry.loads = first.id :: ids) (hload : d.load first.id = some first) (hpl : first.state = .planned) :
    d.handOverLoad = if d.loadFits first.id then d.startPicking first.id
      else { d with nd := { d.nd with state := .waiting, current := some first.id } } :=
  State.handOverLoad_hands hrun hst hg hp (DP.nextLoad_first hq he (List.mem_of_find?_eq_some hload) hpl)

/-- The first load of a plan, picked at once by an idle dispenser with room in the box (R69, R70). -/
theorem State.startPicking_picks {id : Nat} {ld : Load} {k : Cass} (h : s.load id = some ld) (hn : ld.nextCass = some k)
    (hu : (s.cass k).kept.state ∈ [CassState.present, .low]) :
    s.startPicking id = (s.beginning id).pickFrom k ∧
      ((s.beginning id).pickFrom k).nd = ({ s.nd with
        state := .picking, current := some id, ceiling := s.dp.set.rejectCeiling, rejects := 0 } : ND).picking k (s.now + 250) ∧
      ((s.beginning id).pickFrom k).load id = some { ld with state := .picking } ∧
      ((s.beginning id).pickFrom k).dp.queue = s.dp.queue ∧ ((s.beginning id).pickFrom k).lc.replies = s.lc.replies := by
  have hnext : ({ ld with state := .picking } : Load).nextCass = some k := hn
  have hdp : ((s.beginning id).pickFrom k).dp = (s.beginning id).dp := by simp
  refine ⟨State.nextPick_picks (s := s.beginning id) rfl (State.beginning_load h) hnext hu, State.pickFrom_nd _ _, ?_, ?_, ?_⟩
  · rw [State.load_of_dp hdp]
    exact State.beginning_load h
  · rw [hdp]
    rfl
  · simp [State.beginning]

end

/-- Settles O46: the checks in their order, the plan, and what its first load does. -/
theorem dispenseIsCheckedAndPlanned : Obligations.DispenseIsCheckedAndPlanned := by
  refine ⟨fun tag n amount auto reference s hs h => ?_, fun tag amount auto reference planned l s hs hauto hplanned => ?_⟩
  · refine exec_serves_to rfl hs ?_
    rw [← State.counted_refuse rfl]
    show s.counted.ownDispense tag n amount auto reference = _
    unfold State.ownDispense
    rcases or_assoc.mpr h with hn | ha
    · rw [Ix4.ofNum_none' hn]
    · rw [onOff_gt ha]
      cases Ix4.ofNum n <;> rfl
  · have hclamped : s.counted.clampedAmount amount = planned := by
      have hduress : s.au.duress = true ↔ s.au.zones.holdupA.state = .locked ∨ s.au.zones.holdupB.state = .locked := by
        simp [AU.duress]
      rw [hplanned]
      exact if_congr hduress rfl rfl
    have hrefused : ∀ code, s.counted.ownDispense tag l.num amount auto reference = s.counted.refuse 0x31 tag code [] →
        exec (.dispense tag l.num amount auto reference) s = .next (s.refused 0x31 tag code).finish := fun code h =>
      exec_serves_to rfl hs (h.trans (State.counted_refuse rfl ..))
    have heq := State.ownDispense_eq (s := s.counted) (tag := tag) (amount := amount) (reference := reference) (l := l) hauto
    refine ⟨fun h => hrefused _ (heq.trans (if_pos h)), fun hloc => ⟨fun h => ?_, fun h => ?_, fun hlane => ⟨fun h => ?_,
      fun hnd => ⟨fun h => ?_, fun hf hr => ⟨fun h => ?_, fun h1 h2 => ⟨fun code hcode => ?_, fun p hp => ⟨fun h => ?_,
        fun hall hbase => ⟨fun h => ?_, fun hq h => ?_, fun hq hroom => ?_⟩⟩⟩⟩⟩⟩⟩⟩
    · exact hrefused _ (heq.trans ((if_neg hloc).trans (if_pos h)))
    · exact hrefused _ (heq.trans ((if_neg hloc).trans ((if_neg (by
        rw [show (s.counted.laneRec l).state = .outOfService from h]; exact nofun)).trans (if_pos h))))
    · refine hrefused _ (heq.trans ((if_neg hloc).trans ((if_neg (by
        rw [show (s.counted.laneRec l).state = .opened from hlane]; exact nofun)).trans ((if_neg (by
        rw [show (s.counted.laneRec l).state = .opened from hlane]; exact nofun)).trans (if_pos ?_)))))
      exact List.mem_pair.mp h
    all_goals
      have hloc' : (s.counted.carrier l).location ≠ .unknown := hloc
      have hlane' : (s.counted.laneRec l).state = .opened := hlane
      have hnd' : ¬ (s.counted.nd.state = .halted ∨ s.counted.nd.state = .fault) := fun hn => hnd (List.mem_pair.mpr hn)
      rw [if_neg hloc', if_neg (by rw [hlane']; exact nofun), if_neg (by rw [hlane']; exact nofun), if_neg hnd'] at heq
    · exact hrefused _ (heq.trans (if_pos (JN.takesOrdinary_not h)))
    all_goals
      have htakes : s.counted.jn.takesOrdinary = true := JN.takesOrdinary_yes hf hr
    · exact hrefused _ (heq.trans ((if_neg (by rw [htakes]; exact nofun)).trans (if_pos h)))
    all_goals
      obtain ⟨herror, hok⟩ := State.ownDispense_plans (s := s.counted) (tag := tag) (reference := reference) hauto hclamped
        hloc hlane' hnd htakes h1 h2
    · refine ⟨exec_serves_to rfl hs ((herror code hcode).trans ?_), State.plan_error hcode⟩
      show s.counted.reply 0x31 tag _ = _
      rw [State.reply_replied rfl, ← List.append_assoc]
      rfl
    all_goals
      have hown := hok p hp
    · refine hrefused _ (hown.trans (if_pos ?_))
      rw [← Bool.not_eq_true, State.headroom_loads]
      rintro ⟨-, hfits⟩
      obtain ⟨n, hn, hbig⟩ := h
      have hle : s.nd.box + n.sum + s.dp.set.rejectCeiling + 2 ≤ 300 := hfits n hn
      omega
    all_goals
      have hfits : s.counted.headroom 0 ((p.loads.map Four.sum).foldl max 0) = true :=
        (State.headroom_loads _ _).mpr ⟨hbase, hall⟩
      rw [if_neg (by rw [hfits]; exact nofun)] at hown
    · exact hrefused _ (hown.trans (if_pos h))
    · exact hrefused _ (hown.trans ((if_neg (by show ¬ 3 ≤ s.dp.queue.length; omega)).trans (if_pos h)))
    · rw [if_neg (by show ¬ 3 ≤ s.dp.queue.length; omega),
        if_neg (by show ¬ 8 < s.dp.loads.length + p.loads.length; omega)] at hown
      obtain ⟨new, next, d, hacc, hnotes, hne, hmade, hload, hddp, hdnd, hdcass, hdreplies, hdconds, hdphase, hdss, hdnow⟩ :=
        State.acceptDispense_takes (tag := tag) (l := l) (amount := amount) (reference := reference)
          (auto := auto == 1) hp hroom
      rw [hacc] at hown
      have hexec : exec (.dispense tag l.num amount auto reference) s =
          .next (if s.dp.queue.isEmpty then d.handOverLoad else d).finish := exec_serves_to rfl hs hown
      clear hown hacc herror hok heq hrefused
      have hmade' : ∀ ld ∈ new, ld.lane = l ∧ ld.state = .planned ∧ ld.reference = reference ∧ ld.amount = s.worth ld.planned ∧
          ld.accepted = Four.const 0 ∧ ld.count = p.loads.length ∧ ld.autoSend = (auto == 1) := fun ld hld => by
        obtain ⟨h1, h2, h3, h4, h5, h6, h7, -⟩ := hmade ld hld
        exact ⟨h1, h2, h3, h4, h5, h6, h7⟩
      by_cases hfree : s.nd.state = .idle ∧ s.dp.queue = [] ∧ s.nd.gauge = none ∧ s.ss.pick = .empty
      · obtain ⟨hidle, hqueue, hgauge, hpick⟩ := hfree
        obtain ⟨first, rest, rfl⟩ := List.exists_cons_of_ne_nil hne
        obtain ⟨-, hfplanned, -, -, hfaccepted, -, -, hforder⟩ := hmade first List.mem_cons_self
        have hdload : d.load first.id = some first := hload first List.mem_cons_self
        have hentry : d.dp.queue = [⟨l, reference, auto == 1, amount, planned, decide (planned < amount),
            (first :: rest).map (·.id)⟩] := by
          rw [hddp]
          exact congrArg (· ++ _) hqueue
        rw [if_pos (by rw [hqueue]; rfl), State.handOverLoad_first (hdphase.trans hs.1)
          (by rw [hdnd]; exact hidle) (by rw [hdnd]; exact hgauge) (by rw [hdss]; exact hpick) hentry rfl
          hdload hfplanned] at hexec
        have hroomy : d.nd.box = s.nd.box ∧ d.ss.notes = s.ss.notes ∧ d.dp.set = s.dp.set :=
          ⟨by rw [hdnd], by rw [hdss], by rw [hddp]⟩
        obtain ⟨hdbox, hdnotes, hdset⟩ := hroomy
        have hfirstplanned : first.planned ∈ p.loads := by
          rw [← hnotes]
          exact List.mem_cons_self
        obtain ⟨-, -, hpicks⟩ := State.plan_loads hp
        obtain ⟨hsome, husable⟩ := hpicks _ hfirstplanned
        by_cases hbox : s.nd.box + s.ss.notes + first.planned.sum + s.dp.set.rejectCeiling + 2 ≤ 300
        · obtain ⟨k, hk, hkpos⟩ := Load.nextCass_made hfaccepted (by rw [hforder]; exact hsome)
          have hkstate : (d.cass k).kept.state ∈ [CassState.present, .low] := by
            rw [hdcass]
            exact husable k hkpos
          obtain ⟨hstart, hend, htload, htqueue, htreplies⟩ := State.startPicking_picks hdload hk hkstate
          rw [if_pos ((State.loadFits_iff hdload).mpr (by rw [hdbox, hdnotes, hdset]; exact hbox)), hstart] at hexec
          have htcass : ∀ c, ((d.beginning first.id).pickFrom k).cass c =
              if c = k then (d.cass c).ledger Ledger.picked else d.cass c := fun c => by
            rw [State.cass, hend]
            exact Four.get_modify ..
          refine ⟨_, first :: rest, _, hexec, hnotes, rfl, hmade', ?_⟩
          simp only [State.finish_frame, State.finish_cass, State.finish_load, State.finish_conds, htqueue, htreplies, htcass, hdreplies,
            hddp, hend]
          refine ⟨trivial, fun c => ?_, rfl, fun hn => ?_, fun _ _ _ _ => ⟨first, rest, rfl, rfl, fun _ => ⟨rfl, rfl, rfl, htload,
            ?_, k, rfl, hkpos, ?_, ?_⟩, fun hbig => absurd hbig (by omega)⟩⟩
          · by_cases hc : c = k
            · rw [if_pos hc, hdcass]
              rfl
            · rw [if_neg hc, hdcass]
          · exact absurd hn (by simp [hidle, hqueue, hgauge, hpick])
          · rw [← hdnow]
            rfl
          · rw [if_pos rfl]
            rfl
          · rw [if_pos rfl, hdcass]
            rfl
        · rw [State.loadFits_not hdload (by rw [hdbox, hdnotes, hdset]; omega), if_neg nofun] at hexec
          refine ⟨_, first :: rest, _, hexec, hnotes, rfl, hmade', ?_⟩
          simp only [State.finish_frame, State.finish_cass, State.finish_load, State.finish_conds, hdreplies, hddp]
          refine ⟨trivial, fun c => ?_, rfl, fun hn => ?_, fun _ _ _ _ => ⟨first, rest, rfl, rfl, fun hsmall => absurd hsmall hbox,
            fun _ => ⟨trivial, trivial, ?_⟩⟩⟩
          · exact congrArg Cassette.committed (hdcass c)
          · exact absurd hn (by simp [hidle, hqueue, hgauge, hpick])
          · rw [hdnd]
      · have hstay : (if s.dp.queue.isEmpty then d.handOverLoad else d) = d := by
          split
          · next hempty =>
            refine State.handOverLoad_stays ?_
            rw [hdnd, hdss]
            by_contra hn
            simp only [not_or, not_not] at hn
            exact hfree ⟨hn.1, List.isEmpty_iff.mp hempty, hn.2.1, hn.2.2⟩
          · rfl
        rw [hstay] at hexec
        refine ⟨_, new, _, hexec, hnotes, rfl, hmade', ?_⟩
        simp only [State.finish_frame, State.finish_cass, State.finish_load, State.finish_conds, hdreplies, hdconds, hddp]
        refine ⟨trivial, fun c => ?_, rfl, fun _ => ⟨trivial, hdnd, fun c => ?_, trivial⟩, fun h1 h2 h3 h4 =>
          absurd ⟨h1, h2, h3, h4⟩ hfree⟩
        · rw [hdcass]
        · rw [hdcass]

end Sys2Proof.Machine
end

section
/-! Cancels, the stacker, the shuttle and LOAD_CLOSE (O47 to O50): owed closes, freed loads, the transfer, the presentation and the withdrawal. -/

namespace Sys2Proof.Machine

/-! ## Owed closes (R118, R119) -/

/-- The SS with one owed close more, handed to the JN or waiting its turn. -/
def SS.owing (ss : SS) (c : OwedClose) (handed : Bool) : SS := { ss with owed := ss.owed ++ [c], closeHanded := handed }

theorem State.handOwedClose_ss (s : State) : ∃ handed, s.handOwedClose.ss = { s.ss with closeHanded := handed } := by
  unfold State.handOwedClose
  split
  · exact ⟨_, rfl⟩
  · split
    · exact ⟨_, rfl⟩
    · dsimp only
      split
      · exact ⟨true, congrArg (fun ss : SS => { ss with closeHanded := true }) (by simp)⟩
      · exact ⟨s.ss.closeHanded, by simp⟩

theorem State.oweClose_ss (s : State) (c : OwedClose) : ∃ handed, (s.oweClose c).ss = s.ss.owing c handed :=
  State.handOwedClose_ss _

/-- A load that was HELD leaves its record's close owed (R118). -/
theorem State.closeHeld_ss {s : State} {id q : Nat} {ld : Load} (h : s.load id = some ld) (hq : ld.seq = some q)
    (outcome : LoadOutcome) : ∃ handed, (s.closeHeld id outcome).ss = s.ss.owing ⟨q, outcome, ld.planned.sum⟩ handed := by
  unfold State.closeHeld
  rw [h]
  dsimp only
  rw [hq]
  dsimp only
  obtain ⟨handed, hss⟩ := State.oweClose_ss (if (s.carrier ld.lane).outstanding = some id then
    s.modCarrier ld.lane fun c => { c with outstanding := none } else s) ⟨q, outcome, ld.planned.sum⟩
  refine ⟨handed, (State.freeLoad_frame ..).2.2.2.2.2.2.2.1.trans (hss.trans ?_)⟩
  split <;> rfl

/-- The carrier of a load that is closed gives it up (R118). -/
theorem State.closeHeld_outstanding {s : State} {id : Nat} {ld : Load} (h : s.load id = some ld) (outcome : LoadOutcome)
    (hc : (s.carrier ld.lane).outstanding = some id) : ((s.closeHeld id outcome).carrier ld.lane).outstanding = none := by
  have htd := State.closeHeld_td h outcome
  unfold State.carrier
  rw [htd]
  refine (congrArg Carrier.outstanding ((Four.get_modify ..).trans (if_pos rfl))).trans ?_
  exact if_pos hc

theorem State.purgeDelivery_nd (s : State) : s.purgeDelivery.nd = s.nd.boxed s.ss.delivery.notes := State.boxAdd_nd ..

theorem State.purgeDelivery_ss (s : State) : s.purgeDelivery.ss = { s.ss with delivery := .empty } := State.boxAdd_ss ..

/-- The delivery side's load, purged and closed: what is left of stacker, reject box and load table. -/
theorem State.purgeDelivery_closeHeld {s : State} {id q : Nat} {ld : Load} (h : s.load id = some ld) (hq : ld.seq = some q)
    (outcome : LoadOutcome) : ∃ handed,
      (s.purgeDelivery.closeHeld id outcome).ss = SS.owing { s.ss with delivery := .empty } ⟨q, outcome, ld.planned.sum⟩ handed ∧
      (s.purgeDelivery.closeHeld id outcome).nd = s.nd.boxed s.ss.delivery.notes ∧
      (s.purgeDelivery.closeHeld id outcome).load id = none := by
  have hload : s.purgeDelivery.load id = some ld := (State.load_of_dp (by simp) id).trans h
  obtain ⟨handed, hss⟩ := State.closeHeld_ss hload hq outcome
  refine ⟨handed, hss.trans ?_, ?_, ?_⟩
  · rw [State.purgeDelivery_ss]
  · rw [← State.purgeDelivery_nd]
    simp
  · rw [State.closeHeld_load, if_pos rfl]

/-! ## Loads that are freed (R86) -/

/-- A freed load is taken out of the table. -/
theorem State.freeLoad_loads (s : State) (id : Nat) (outcome : LoadOutcome) :
    (s.freeLoad id outcome).dp.loads = s.dp.loads.filter fun ld => ld.id != id := by
  unfold State.freeLoad
  split
  · next h =>
    refine (List.filter_eq_self.mpr fun ld hld => ?_).symm
    simpa using List.find?_eq_none.mp h ld hld
  · show List.filter _ (List.map _ _) = _
    rw [List.filter_map]
    refine (List.map_congr_left fun ld hld => ?_).trans ((List.map_id _).trans (List.filter_congr fun ld _ => ?_))
    · have hne := (List.mem_filter.mp hld).2
      by_cases hid : ld.id = id
      · simp [hid] at hne
      · exact if_neg hid
    · by_cases hid : ld.id = id <;> simp [hid]

theorem State.cancelLoad_loads (s : State) (ld : Load) :
    (s.cancelLoad ld).dp.loads = s.dp.loads.filter fun x => x.id != ld.id := by
  unfold State.cancelLoad
  rw [State.freeLoad_loads]
  simp

theorem State.cancelLoad_box (s : State) (ld : Load) : (s.cancelLoad ld).nd.box = s.nd.box := by
  have hrelease := congrArg ND.box (State.releaseCommitted_uncommitted (s.handBack ld.id) ld)
  have hnd : (s.cancelLoad ld).nd = ((s.handBack ld.id).releaseCommitted ld).nd := by simp [State.cancelLoad]
  rw [hnd]
  refine hrelease.trans ?_
  show (s.handBack ld.id).nd.box = s.nd.box
  unfold State.handBack
  split <;> rfl

theorem State.cancelLoad_cass (s : State) (ld : Load) (c : Cass) : ((s.cancelLoad ld).cass c).committed =
    (s.cass c).committed - (ld.planned.get c - ld.accepted.get c) := by
  have hback : ∀ k, (s.handBack ld.id).cass k = s.cass k := fun k => by
    unfold State.handBack
    split <;> rfl
  have hfree : (s.cancelLoad ld).cass c = ((s.handBack ld.id).releaseCommitted ld).cass c := by
    unfold State.cass State.cancelLoad
    simp
  rw [hfree, State.releaseCommitted_cass, hback]

/-! ## Lists that fit a reply's body (R193, R208) -/

theorem cutEntries_fits : ∀ (entries : List (List Byte)) (room : Nat), entries.flatten.length ≤ room →
    cutEntries room entries = (entries.flatten, 0)
  | [], _, _ => by unfold cutEntries; rfl
  | e :: es, room, h => by
    rw [List.flatten_cons, List.length_append] at h
    unfold cutEntries
    rw [if_pos (by omega), cutEntries_fits es (room - e.length) (by omega)]
    rfl

theorem listBody_fits {entries : List (List Byte)} (h : entries.flatten.length ≤ Config.bodyMax - 3) :
    listBody [0x00#8] entries [] = 0x00#8 :: (u8 entries.length ++ entries.flatten ++ [0x00#8]) := by
  unfold listBody
  rw [cutEntries_fits entries _ (by show _ ≤ Config.bodyMax - 1 - 0 - 2; omega)]
  simp [u8]

/-! ## CANCEL_DISPENSE (R97, R98) -/

section
variable {s : State} {l : Lane} {tag : Nat} {ld : Load}

/-- A cancel for a lane with one live load that it does not leave. -/
theorem State.takeCancel_one {code : Nat} (h : s.dp.loads.filter (fun x => x.lane = l) = [ld])
    (hw : s.cancelWord ld ≠ .left) (hcode : (s.cancelWord ld).code = code) : s.takeCancel tag l =
      (s.cancelOne ld).replied 0x32 tag [0x00#8, 0x01#8, BitVec.ofNat 8 ld.id, BitVec.ofNat 8 code, 0x00#8] := by
  have hlives : (s.dp.loads.filter fun x => x.lane == l) = [ld] := h
  have hall : ([ld].all fun ld => s.cancelWord ld == .left) = false := by simpa using hw
  unfold State.takeCancel
  dsimp only
  rw [hlives, hall, if_neg nofun, if_neg nofun, State.reply_replied rfl, listBody_fits (by simp [u8, Config.bodyMax])]
  simp [State.cancelEach, u8, hcode]

/-- A cancel for a lane whose live loads are all left (R98). -/
theorem State.takeCancel_left (h : s.dp.loads.filter (fun x => x.lane = l) = [ld]) (hw : s.cancelWord ld = .left) :
    s.takeCancel tag l = s.refuse 0x32 tag .tooLate [] := by
  have hlives : (s.dp.loads.filter fun x => x.lane == l) = [ld] := h
  unfold State.takeCancel
  dsimp only
  rw [hlives]
  simp [hw]

theorem State.takeCancel_none (h : ∀ ld ∈ s.dp.loads, ld.lane ≠ l) : s.takeCancel tag l = s.refuse 0x32 tag .noSuchLoad [] := by
  have hlives : (s.dp.loads.filter fun x => x.lane == l) = [] := List.filter_eq_nil_iff.mpr fun ld hld => by simpa using h ld hld
  unfold State.takeCancel
  dsimp only
  rw [hlives]
  rfl

/-- What a cancel does with loads that are PLANNED or on their way (R97). -/
theorem State.cancelOne_early (hst : ld.state ∈ [LoadState.planned, .sent, .delivered, .awaitingClose]) :
    s.cancelOne ld = (if ld.state = .planned then s.cancelLoad ld else s) ∧
      (s.cancelWord ld).code = (if ld.state = .planned then 1 else 6) ∧
      (s.cancelWord ld = .left ↔ ld.state ≠ .planned) := by
  unfold State.cancelOne State.cancelWord
  simp only [List.mem_cons, List.not_mem_nil, or_false] at hst
  obtain h | h | h | h := hst <;> simp [h, CancelWord.code]

theorem State.cancelEach_early {lds : List Load} (hst : ∀ ld ∈ lds, ld.state ∈ [LoadState.planned, .sent, .delivered, .awaitingClose]) :
    (s.cancelEach lds).dp.loads = s.dp.loads.filter (fun x => ∀ ld ∈ lds, ld.state = .planned → x.id ≠ ld.id) ∧
      (s.cancelEach lds).ss = s.ss ∧ (s.cancelEach lds).nd.box = s.nd.box ∧ (s.cancelEach lds).jn = s.jn := by
  unfold State.cancelEach
  induction lds generalizing s with
  | nil => exact ⟨(List.filter_eq_self.mpr fun _ _ => by simp).symm, rfl, rfl, rfl⟩
  | cons ld lds ih =>
    obtain ⟨hone, -⟩ := State.cancelOne_early (s := s) (hst ld List.mem_cons_self)
    obtain ⟨hloads, hss, hbox, hjn⟩ := ih (s := s.cancelOne ld) fun x hx => hst x (List.mem_cons_of_mem _ hx)
    simp only [List.foldl_cons]
    rw [hloads, hss, hbox, hjn, hone]
    by_cases hp : ld.state = .planned
    · rw [if_pos hp]
      refine ⟨?_, by simp, State.cancelLoad_box s ld, by simp⟩
      rw [State.cancelLoad_loads, List.filter_filter]
      refine List.filter_congr fun x _ => ?_
      by_cases hx : x.id = ld.id <;> simp [hp, hx]
    · rw [if_neg hp]
      refine ⟨List.filter_congr fun x _ => ?_, rfl, rfl, rfl⟩
      simp [hp]

theorem State.ownCancelDispense_takes (h : s.transferLane ≠ some l) : State.ownCancelDispense tag l.num s = s.takeCancel tag l := by
  unfold State.ownCancelDispense
  rw [Ix4.ofNum_num]
  exact if_neg h

theorem exec_cancelDispense (hs : s.Serves tag) (h : s.transferLane ≠ some l) {t : State} (ht : s.counted.takeCancel tag l = t) :
    exec (.cancelDispense tag l.num) s = .next t.finish :=
  exec_serves_to rfl hs ((State.ownCancelDispense_takes (s := s.counted) h).trans ht)

end

section
variable {s : State} {l : Lane} {tag : Nat} {ld : Load}

/-- What a cancel does with a load, state by state (R97). -/
theorem State.cancelOne_staged (h : ld.state = .staged) :
    s.cancelWord ld = .purged ∧ s.cancelOne ld = s.purgePick.freeLoad ld.id .purged := by
  have hw : s.cancelWord ld = .purged := by simp [State.cancelWord, h]
  refine ⟨hw, ?_⟩
  unfold State.cancelOne
  rw [hw, h]

theorem State.cancelOne_held (h : ld.state = .held) :
    s.cancelWord ld = .purged ∧ s.cancelOne ld = s.purgeDelivery.closeHeld ld.id .purged := by
  have hw : s.cancelWord ld = .purged := by simp [State.cancelWord, h]
  refine ⟨hw, ?_⟩
  unfold State.cancelOne
  rw [hw, h]

theorem State.cancelOne_presented (h : ld.state = .presented) (hr : (s.carrier ld.lane).reservation = .none) :
    s.cancelWord ld = .returned ∧ s.cancelOne ld = s.closeHeld ld.id .returned := by
  have hw : s.cancelWord ld = .returned := by simp [State.cancelWord, h, hr]
  refine ⟨hw, ?_⟩
  unfold State.cancelOne
  rw [hw]

theorem State.cancelOne_picking (h : ld.state = .picking) (hp : s.nd.pick ≠ none) :
    s.cancelWord ld = .stopping ∧ s.cancelOne ld = { s with nd := { s.nd with stopping := true } } := by
  have hw : s.cancelWord ld = .stopping := by simp [State.cancelWord, h, Option.isSome_iff_ne_none, hp]
  refine ⟨hw, ?_⟩
  unfold State.cancelOne
  rw [hw]
  rfl

theorem State.cancelOne_presenting {due : Nat} (h : ld.state = .presenting) (hsh : s.ss.shuttle = .pushing l due) :
    s.cancelWord ld = .withdrawing ∧
      s.cancelOne ld = { s.modLoad ld.id fun ld => { ld with expiryMarked := false } with
        ss := { s.ss with shuttle := .withdrawing l (s.now + 1500) .cancelled } } := by
  have hw : s.cancelWord ld = .withdrawing := by simp [State.cancelWord, h]
  have hsh' : (s.modLoad ld.id fun ld => { ld with expiryMarked := false }).ss.shuttle = .pushing l due := hsh
  refine ⟨hw, ?_⟩
  unfold State.cancelOne
  rw [hw]
  dsimp only
  unfold State.withdraw
  rw [hsh']
  rfl

/-- A load STAGED or HELD, purged by a cancel: it is freed and its side of the stacker is empty (R97, R102). -/
theorem State.cancelOne_purges (h : ld.state ∈ [LoadState.staged, .held]) (hload : s.load ld.id = some ld) :
    s.cancelWord ld = .purged ∧ (s.cancelOne ld).load ld.id = none ∧ (s.cancelOne ld).ss.deferred = s.ss.deferred ∧
      (ld.state = .staged → (s.cancelOne ld).ss.pick = .empty) ∧ (ld.state = .held → (s.cancelOne ld).ss.delivery = .empty) := by
  obtain h | h := List.mem_pair.mp h
  · obtain ⟨hw, hone⟩ := State.cancelOne_staged (s := s) h
    have hss : (s.cancelOne ld).ss = { s.ss with pick := .empty } := by
      rw [hone, ← State.purgePick_ss]
      simp
    exact ⟨hw, by rw [hone, State.freeLoad_load, if_pos rfl], by rw [hss], fun _ => by rw [hss], fun h' => absurd (h.symm.trans h') nofun⟩
  · obtain ⟨hw, hone⟩ := State.cancelOne_held (s := s) h
    have hss : (s.cancelOne ld).ss.deferred = s.ss.deferred ∧ (s.cancelOne ld).ss.delivery = .empty := by
      have hpurged : s.purgeDelivery.load ld.id = some ld := (State.load_of_dp (by simp) _).trans hload
      have hdelivery := State.purgeDelivery_ss s
      rw [hone]
      cases hq : ld.seq with
      | some q =>
        obtain ⟨handed, hss, -, -⟩ := State.purgeDelivery_closeHeld hload hq .purged
        rw [hss]
        exact ⟨rfl, rfl⟩
      | none =>
        have hclose : (s.purgeDelivery.closeHeld ld.id .purged).ss = s.purgeDelivery.ss := by
          unfold State.closeHeld
          rw [hpurged]
          dsimp only
          rw [hq]
          dsimp only
          refine (State.freeLoad_frame ..).2.2.2.2.2.2.2.1.trans ?_
          split <;> rfl
        rw [hclose, hdelivery]
        exact ⟨rfl, rfl⟩
    exact ⟨hw, by rw [hone, State.closeHeld_load, if_pos rfl], hss.1, fun h' => absurd (h.symm.trans h') nofun, fun _ => hss.2⟩

end

/-- Settles O47: the cancel of a lane's loads by their states, and of one whose transfer was in progress. -/
theorem cancelGoesByTheLoadsState : Obligations.CancelGoesByTheLoadsState := by
  refine ⟨fun tag l s hs => ⟨fun n hn => ?_, fun lives hlives hnodup hlen hst hplanned htr => ?_, fun hnone htr => ?_, fun htr => ?_,
    fun ld hone hload htr => ?_⟩, fun tag l rest s hrun hdef => ⟨fun htr => ?_, fun ld htr hone hload hst => ?_⟩⟩
  · refine exec_serves_to rfl hs ?_
    rw [← State.counted_refuse rfl]
    show State.ownCancelDispense tag n s.counted = _
    unfold State.ownCancelDispense
    rw [Ix4.ofNum_none' hn]
  · obtain ⟨hloads, hss, hbox, hjn⟩ := State.cancelEach_early (s := s.counted) hst
    have hword : ∀ ld ∈ lives, (s.counted.cancelWord ld).code = if ld.state = .planned then 1 else 6 := fun ld hld =>
      (State.cancelOne_early (hst ld hld)).2.1
    obtain ⟨first, hfirst, hfp⟩ := hplanned
    have hfew : lives.length ≤ 8 := by
      rw [← hlives]
      exact (List.length_filter_le ..).trans hlen
    have hentries : (lives.map fun ld => u8 ld.id ++ u8 (s.counted.cancelWord ld).code).flatten =
        lives.flatMap fun ld => u8 ld.id ++ u8 (if ld.state = .planned then 1 else 6) := by
      rw [← List.flatMap_def]
      exact List.flatMap_congr fun ld hld => by rw [hword ld hld]
    have htake : s.counted.takeCancel tag l = (s.counted.cancelEach lives).replied 0x32 tag (0x00#8 :: (u8 lives.length ++
        lives.flatMap (fun ld => u8 ld.id ++ u8 (if ld.state = .planned then 1 else 6)) ++ [0x00#8])) := by
      have hall : (lives.all fun ld => s.counted.cancelWord ld == .left) = false := by
        refine List.all_eq_false.mpr ⟨first, hfirst, ?_⟩
        have hleft := (State.cancelOne_early (s := s.counted) (hst first hfirst)).2.2
        simpa [hfp] using hleft
      have hsize : (lives.map fun ld => u8 ld.id ++ u8 (s.counted.cancelWord ld).code).flatten.length ≤ Config.bodyMax - 3 := by
        have hlength : (lives.map fun ld => u8 ld.id ++ u8 (s.counted.cancelWord ld).code).flatten.length = lives.length * 2 := by
          simp [u8, Function.comp_def]
        rw [hlength]
        simp only [Config.bodyMax]
        omega
      have hlives' : (s.counted.dp.loads.filter fun x => x.lane == l) = lives := hlives
      unfold State.takeCancel
      dsimp only
      rw [hlives', hall, if_neg (by rw [List.isEmpty_eq_false_iff.mpr (List.ne_nil_of_mem hfirst)]; exact nofun), if_neg nofun,
        State.reply_replied rfl, listBody_fits hsize, hentries, List.length_map]
    refine ⟨_, exec_cancelDispense hs htr htake, ?_⟩
    simp only [State.finish_frame, State.replied, hloads, hss, hbox, hjn, State.cancelEach_frame]
    refine ⟨List.filter_congr fun x hx => decide_eq_decide.mpr ⟨fun h hxl => ?_, fun h ld hld hp hid => ?_⟩, rfl, rfl, rfl, rfl⟩
    · exact h x (by rw [← hlives]; exact List.mem_filter.mpr ⟨hx, decide_eq_true hxl.1⟩) hxl.2 rfl
    · obtain ⟨hin, hlane⟩ := List.mem_filter.mp (hlives ▸ hld)
      have hsame : x = ld := List.inj_on_of_nodup_map hnodup hx hin hid
      exact h ⟨hsame ▸ of_decide_eq_true hlane, hsame ▸ hp⟩
  · exact exec_cancelDispense hs htr ((State.takeCancel_none (s := s.counted) hnone).trans (State.counted_refuse rfl ..))
  · refine exec_serves_to rfl hs ?_
    show State.ownCancelDispense tag l.num s.counted = _
    unfold State.ownCancelDispense
    rw [Ix4.ofNum_num]
    exact if_pos htr
  · have hlane : ld.lane = l := by
      have hin := (List.mem_filter.mp (hone ▸ List.mem_singleton_self ld)).2
      exact of_decide_eq_true hin
    have hcload : s.counted.load ld.id = some ld := hload
    have hexec : ∀ {word : CancelWord} {code : Nat}, s.counted.cancelWord ld = word → word ≠ .left → word.code = code →
        exec (.cancelDispense tag l.num) s = .next (((s.counted.cancelOne ld).replied 0x32 tag
          [0x00#8, 0x01#8, BitVec.ofNat 8 ld.id, BitVec.ofNat 8 code, 0x00#8]).finish) := fun hw hne hcode =>
      exec_cancelDispense hs htr (State.takeCancel_one (s := s.counted) hone (hw ▸ hne) (hw ▸ hcode))
    have hreplies : ∀ body, ((s.counted.cancelOne ld).replied 0x32 tag body).finish.lc.replies =
        s.lc.replies ++ [answer 0x32 tag body] := fun body => by
      simp [State.replied, State.counted]
    refine ⟨fun hst => ?_, fun hst => ?_, fun hst => ?_, fun q hst hq => ?_, fun q hst hres hout hq => ?_, fun hst hp => ?_,
      fun due hst hsh => ?_⟩
    · refine exec_cancelDispense hs htr ((State.takeCancel_left (s := s.counted) hone ?_).trans (State.counted_refuse rfl ..))
      have hne : ld.state ≠ .planned := fun h => by simp [h] at hst
      exact (State.cancelOne_early (List.mem_cons_of_mem _ hst)).2.2.mpr hne
    · obtain ⟨hcancel, hcode, hleft⟩ := State.cancelOne_early (s := s.counted) (ld := ld) (by simp [hst])
      rw [if_pos hst] at hcancel hcode
      have hbox := State.cancelLoad_box s.counted ld
      have hcass := State.cancelLoad_cass s.counted ld
      refine ⟨_, exec_cancelDispense hs htr (State.takeCancel_one (s := s.counted) hone (fun h => hleft.mp h hst) hcode), ?_, hreplies _, ?_⟩
      · rw [State.finish_load, hcancel]
        show (s.counted.cancelLoad ld).load ld.id = none
        unfold State.cancelLoad
        rw [State.freeLoad_load, if_pos rfl]
      · simp only [State.finish_frame, State.finish_cass, State.replied, hcancel, hbox]
        refine ⟨hcass, rfl, ?_⟩
        simp [State.counted]
    · obtain ⟨hword, hcancel⟩ := State.cancelOne_staged (s := s.counted) hst
      have hnd := State.purgePick_nd s.counted
      have hss := State.purgePick_ss s.counted
      refine ⟨_, hexec hword nofun rfl, ?_, hreplies _, ?_⟩
      · rw [State.finish_load, hcancel]
        exact (State.freeLoad_load ..).trans (if_pos rfl)
      · simp only [State.finish_frame, State.replied, hcancel, State.freeLoad_frame, hnd, hss, State.purgePick_frame]
        exact ⟨rfl, rfl, rfl⟩
    · obtain ⟨hword, hcancel⟩ := State.cancelOne_held (s := s.counted) hst
      obtain ⟨handed, hss, hnd, hfreed⟩ := State.purgeDelivery_closeHeld hcload hq .purged
      refine ⟨_, hexec hword nofun rfl, ?_, hreplies _, ?_⟩
      · rw [State.finish_load, hcancel]
        exact hfreed
      · simp only [State.finish_frame, State.replied, hcancel, hss, hnd]
        exact ⟨rfl, rfl, rfl⟩
    · obtain ⟨hword, hcancel⟩ := State.cancelOne_presented (s := s.counted) (ld := ld) hst (by rw [hlane]; exact hres)
      obtain ⟨handed, hss⟩ := State.closeHeld_ss hcload hq .returned
      have hcarrier := State.closeHeld_outstanding hcload .returned (by rw [hlane]; exact hout)
      rw [hlane] at hcarrier
      refine ⟨_, hexec hword nofun rfl, ?_, hreplies _, ?_⟩
      · rw [State.finish_load, hcancel]
        exact (State.closeHeld_load ..).trans (if_pos rfl)
      · simp only [State.finish_frame, State.finish_carrier, State.replied, hcancel, hss, State.closeHeld_frame]
        exact ⟨hcarrier, rfl, rfl⟩
    · obtain ⟨hword, hcancel⟩ := State.cancelOne_picking (s := s.counted) hst hp
      rw [hexec hword nofun rfl, hcancel]
      rfl
    · obtain ⟨hword, hcancel⟩ := State.cancelOne_presenting (s := s.counted) hst hsh
      refine ⟨_, hexec hword nofun rfl, ?_, ?_, hreplies _⟩
      · simp only [State.finish_frame, State.replied, hcancel]
        rfl
      · rw [State.finish_load, hcancel]
        exact State.modLoad_at hload fun _ => rfl
  · refine exec_event_to rfl rfl (State.on_of_running hrun) ?_
    show s.takeDeferred = s
    unfold State.takeDeferred
    rw [hdef]
    exact if_pos (Option.isSome_iff_ne_none.mpr htr)
  · obtain ⟨hword, hfreed, hkept, hpick, hdelivery⟩ := State.cancelOne_purges
      (s := { s with ss := { s.ss with deferred := rest } }) hst hload
    have htake : s.takeDeferred = ((({ s with ss := { s.ss with deferred := rest } } : State).cancelOne ld).replied 0x32 tag
        [0x00#8, 0x01#8, BitVec.ofNat 8 ld.id, 0x02#8, 0x00#8]) := by
      unfold State.takeDeferred
      rw [hdef]
      dsimp only
      rw [if_neg (by rw [htr]; exact nofun)]
      exact State.takeCancel_one hone (by rw [hword]; exact nofun) (by rw [hword]; rfl)
    refine ⟨_, exec_event_to rfl rfl (State.on_of_running hrun) htake, ?_⟩
    simp only [State.finish_frame, State.finish_load]
    refine ⟨hfreed, hkept, ?_, hpick, hdelivery⟩
    simp [State.replied]

section
variable {s : State} {id n : Nat} {ld : Load}

/-! ## The transfer (R103, R104) -/

theorem State.transferable_full (hpick : s.ss.pick = .full id n) : s.transferable =
    if s.started ∧ s.ss.delivery = .empty ∧ s.ss.transfer = none ∧ s.ss.owed = [] ∧ s.jn.takesOrdinary ∧ s.ss.deferred = [] then
      s.load id
    else none := by
  unfold State.transferable
  rw [hpick]

theorem State.startTransfer_stays (h : s.transferable = none) : s.startTransfer = s := by
  unfold State.startTransfer
  rw [h]

/-- What a programmed LOAD record leaves (R104). -/
theorem State.transferEnds_holds (hload : s.load id = some ld) (hpick : s.ss.pick = .full id n) (seq : Nat) :
    (s.transferEnds id seq true).load id = some { ld with
        state := .held, seq := some seq, holdDue := some (s.now + s.ss.stageHold * 1000) } ∧
      (s.transferEnds id seq true).ss = { s.ss with transfer := none, pick := .empty, delivery := .holding id n } ∧
      (s.transferEnds id seq true).lc = s.lc.raise (Cond.lane ld.lane .loadHeld).num (some (u8 id)) := by
  have heq : s.transferEnds id seq true =
      (({ s with ss := { s.ss with transfer := none, pick := .empty, delivery := .holding id s.ss.pick.notes } } : State).modLoad id
        fun ld => { ld with state := .held, seq := some seq, holdDue := some (s.now + s.ss.stageHold * 1000) }).raiseLane ld.lane
          .loadHeld (u8 id) := by
    have hload' : (s.modSS fun ss => { ss with transfer := none }).load id = some ld := hload
    unfold State.transferEnds
    dsimp only
    rw [if_pos rfl, hload']
    rfl
  rw [heq, hpick]
  exact ⟨State.modLoad_at hload fun _ => rfl, rfl, rfl⟩

/-! ## The presentation (R42, R107, R108) -/

/-- The delivery side's load asks for the reservation of its carrier. -/
theorem State.askPresenting_asks (hrun : s.phase = .running) (hdel : s.ss.delivery = .holding id n) (hload : s.load id = some ld)
    (hsh : s.ss.shuttle = .home) (hmark : ld.expiryMarked = false) (hdef : s.ss.deferred = []) :
    (∀ code, s.presentingRefusal ld.lane = some code →
      s.askPresenting = s.modLoad id fun ld => { ld with lastRefusal := some code }) ∧
    (s.presentingRefusal ld.lane = none → s.askPresenting =
      ((s.modCarrier ld.lane fun c => { c with reservation := .presenting }).modLoad id fun ld => { ld with state := .presenting }).modSS
        fun ss => { ss with delivery := .presenting id n, shuttle := .pushing ld.lane (s.now + 4000) }) := by
  have hfree : s.started ∧ s.ss.shuttle = .home ∧ ld.expiryMarked = false ∧
      ¬ (s.ss.transfer = none ∧ s.ss.deferred.any fun d => d.2 == ld.lane) := by
    refine ⟨by simp [State.started, hrun], hsh, hmark, ?_⟩
    rw [hdef]
    exact fun h => absurd h.2 nofun
  unfold State.askPresenting
  rw [hdel]
  dsimp only
  rw [hload]
  dsimp only
  rw [if_pos hfree]
  exact ⟨fun code h => by rw [h], fun h => by rw [h]; rfl⟩

/-- The refusals of R42, each where those before it pass. -/
theorem State.presentingRefusal_eq {l : Lane} {reason : Code} (h :
    (((s.carrier l).location ≠ .atBay ∨ (s.bay l).present = false) ∧ reason = Code.carrierElsewhere) ∨
    ((s.carrier l).location = .atBay ∧ (s.bay l).present = true ∧
      (((s.carrier l).reservation ≠ .none ∧ reason = .carrierBusy) ∨
      ((s.carrier l).reservation = .none ∧
        (((s.carrier l).outstanding ≠ none ∧ reason = .loadOutstanding) ∨
        ((s.carrier l).outstanding = none ∧
          ((s.bayContent l ≠ .empty ∧ reason = .contentPresent) ∨
          (s.bayContent l = .empty ∧ (s.bay l).doorClosed = false ∧ reason = .bayDoorOpen)))))))) :
    s.presentingRefusal l = some reason := by
  unfold State.presentingRefusal
  rcases h with ⟨hbay, rfl⟩ | ⟨hloc, hpres, h⟩
  · exact if_pos hbay
  · rw [if_neg (by rw [hloc, hpres]; exact fun h => h.elim (fun h => h rfl) nofun)]
    rcases h with ⟨hres, rfl⟩ | ⟨hres, h⟩
    · exact if_pos hres
    · rw [if_neg (not_not.mpr hres)]
      rcases h with ⟨hout, rfl⟩ | ⟨hout, h⟩
      · exact if_pos hout
      · rw [if_neg (not_not.mpr hout)]
        rcases h with ⟨hcont, rfl⟩ | ⟨hcont, hdoor, rfl⟩
        · exact if_pos hcont
        · rw [if_neg (not_not.mpr hcont), if_pos hdoor]

theorem State.presentingRefusal_none {l : Lane} (hloc : (s.carrier l).location = .atBay) (hpres : (s.bay l).present = true)
    (hres : (s.carrier l).reservation = .none) (hout : (s.carrier l).outstanding = none) (hcont : s.bayContent l = .empty)
    (hdoor : (s.bay l).doorClosed = true) : s.presentingRefusal l = none := by
  unfold State.presentingRefusal
  rw [if_neg (by rw [hloc, hpres]; exact fun h => h.elim (fun h => h rfl) nofun), if_neg (not_not.mpr hres),
    if_neg (not_not.mpr hout), if_neg (not_not.mpr hcont), if_neg (by rw [hdoor]; exact nofun)]

end

/-- Settles O48: the transfer's start and end, and the reservation that a HELD load asks for. -/
theorem transferAndPresentationBegin : Obligations.TransferAndPresentationBegin := by
  intro id n ld s hrun hload
  have hid : ld.id = id := State.load_id hload
  have hstays : s.transferable = none → exec .transferStart s = .next s.finish := fun h =>
    exec_event_to rfl rfl (State.on_of_running hrun) (State.startTransfer_stays h)
  refine ⟨fun hpick => ⟨fun hdel htr howed hdef hf hr hx => ?_, fun h => hstays ?_⟩, fun r hpick ha hlen => ⟨?_, fun hl => ?_⟩,
    fun hpick => hstays ?_, fun hdel hsh hmark hdef => ⟨fun reason h => ?_, fun hloc hpres hres hout hcont hdoor => ?_⟩⟩
  · have hgoes : s.transferable = some ld := by
      rw [State.transferable_full hpick, if_pos ⟨by simp [State.started, hrun], hdel, htr, howed, JN.takesOrdinary_yes hf hr, hdef⟩,
        hload]
    obtain ⟨htaken, hqueue, hclaims⟩ := State.append_taken (s := s) hf hr hx (.transfer ld.id) (kind := .load) rfl ld.lane.num
      (loadBody ld) false false
    have hrest : (s.append (.transfer ld.id) .load ld.lane.num (loadBody ld) false false).1.ss = s.ss ∧
        (s.append (.transfer ld.id) .load ld.lane.num (loadBody ld) false false).1.dp = s.dp ∧
        (s.append (.transfer ld.id) .load ld.lane.num (loadBody ld) false false).1.td = s.td := by simp
    have hstart : s.startTransfer = (s.append (.transfer ld.id) .load ld.lane.num (loadBody ld) false false).1.modSS fun ss =>
        { ss with transfer := some ld.id } := by
      unfold State.startTransfer
      rw [hgoes]
      exact if_pos htaken
    generalize (s.append (.transfer ld.id) .load ld.lane.num (loadBody ld) false false).1 = v at *
    obtain ⟨hss, hdp, htd⟩ := hrest
    refine ⟨_, exec_event_to rfl rfl (State.on_of_running hrun) hstart, ?_⟩
    simp only [State.finish_frame]
    exact ⟨congrArg (fun ss : SS => { ss with transfer := some ld.id }) hss, hqueue, hclaims, hdp, htd⟩
  · rw [State.transferable_full hpick, if_neg]
    rintro ⟨-, hdel, htr, howed, hj, -⟩
    rcases h with h | h | h | h
    · exact h hdel
    · exact h htr
    · exact h howed
    · rw [JN.takesOrdinary_not h] at hj
      exact absurd hj nofun
  · obtain ⟨jn, p, ho, hw, -, -, hmade⟩ := exec_appendMade hrun ha
    have htell : ({ s with jn := jn } : State).tellOwner p true = ({ s with jn := jn } : State).transferEnds id r.seq true := by
      unfold State.tellOwner
      rw [ho, hw]
      rfl
    obtain ⟨hheld, hss, hlc⟩ := State.transferEnds_holds (s := { s with jn := jn }) hload hpick r.seq
    obtain ⟨-, -, -, -, htd, -, hnd, hcu, -⟩ := State.transferEnds_frame { s with jn := jn } id r.seq true
    have hphase : (({ s with jn := jn } : State).transferEnds id r.seq true).phase = s.phase := by simp
    rw [htell] at hmade
    generalize ({ s with jn := jn } : State).transferEnds id r.seq true = v at *
    have hlen' : v.lc.conds.length = 69 ∧ v.lc.isPending (Cond.lane ld.lane .loadHeld).num = true ∧
        v.lc.conds[(Cond.lane ld.lane .loadHeld).num - 1]?.map (·.snapshot) = some (some (u8 id)) := by
      rw [hlc]
      exact ⟨(LC.raise_length ..).trans hlen, (LC.raise_tells_new (LC.tells_nil hlen) (LaneCond.num_lt ..) _).pending,
        LC.raise_snapshot hlen (LaneCond.num_lt ..) _⟩
    obtain ⟨-, hpending, hsnapshot⟩ := hlen'
    refine ⟨_, hmade (hphase.trans hrun), ?_⟩
    simp only [State.finish_frame, State.finish_load, State.finish_isPending, State.finish_conds, State.jnRun_frame]
    exact ⟨(State.load_of_dp (by simp) id).trans hheld, hss, hpending, hsnapshot, htd, hnd, hcu⟩
  · obtain ⟨jn, p, ho, hw, hfailed, hmade⟩ := exec_appendFails hrun ha hl
    have htell : ({ s with jn := jn } : State).tellOwner p false =
        { s with jn := jn, ss := { s.ss with transfer := none } } := by
      unfold State.tellOwner
      rw [ho]
      rfl
    rw [htell] at hmade
    refine ⟨_, hmade hrun, ?_⟩
    simp only [State.finish_frame, State.jnRun_frame, State.jnRun_rest]
    exact ⟨rfl, rfl, rfl, rfl, hfailed⟩
  · unfold State.transferable
    rw [hpick]
  · refine ⟨_, exec_event_to rfl rfl (State.on_of_running hrun)
      ((State.askPresenting_asks hrun hdel hload hsh hmark hdef).1 _ (State.presentingRefusal_eq h)), ?_⟩
    simp only [State.finish_frame, State.finish_load, State.finish_conds]
    exact ⟨State.modLoad_at hload fun _ => rfl, rfl, rfl, rfl⟩
  · refine ⟨_, exec_event_to rfl rfl (State.on_of_running hrun)
      ((State.askPresenting_asks hrun hdel hload hsh hmark hdef).2 (State.presentingRefusal_none hloc hpres hres hout hcont hdoor)), ?_⟩
    simp only [State.finish_frame, State.finish_load, State.finish_conds, State.finish_carrier]
    exact ⟨State.modLoad_at hload fun _ => rfl, (Four.get_modify ..).trans (if_pos rfl), rfl, rfl⟩

section
variable {s : State} {id n q due : Nat} {ld cur : Load} {l : Lane}

/-! ## A load that leaves the delivery side and takes its request with it (R96, R111, R113) -/

/-- The delivery side purged, its load closed, its request's loads still to be picked given up, DISPENSE_FAILED risen. -/
def State.givenUp (s : State) (ld : Load) (outcome : LoadOutcome) (cause : FailCause) : State :=
  ((s.purgeDelivery.closeHeld ld.id outcome).cancelPlanned (s.dp.mates ld.id)).raiseLane ld.lane .dispenseFailed
    (u8 ld.id ++ u8 cause.code)

theorem State.holdExpires_gives (s : State) (ld : Load) : s.holdExpires ld = s.givenUp ld .purged .holdExpired := rfl

theorem State.presentFails_gives (s : State) (ld : Load) : s.presentFails ld = s.givenUp ld .failed .presentFailed := rfl

theorem State.cancelPlanned_box (s : State) (ids : List Nat) : (s.cancelPlanned ids).nd.box = s.nd.box := by
  unfold State.cancelPlanned
  induction ids generalizing s with
  | nil => rfl
  | cons i ids ih =>
    refine (ih _).trans ?_
    unfold State.cancelIfPlanned
    split
    · split
      · exact State.cancelLoad_box ..
      · rfl
    · rfl

theorem State.givenUp_leaves (hload : s.load ld.id = some cur) (hq : cur.seq = some q) (outcome : LoadOutcome) (cause : FailCause) :
    ∃ handed, (s.givenUp ld outcome cause).ss = SS.owing { s.ss with delivery := .empty } ⟨q, outcome, cur.planned.sum⟩ handed ∧
      (s.givenUp ld outcome cause).nd.box = min 300 (s.nd.box + s.ss.delivery.notes) ∧
      (s.givenUp ld outcome cause).load ld.id = none := by
  obtain ⟨handed, hss, hnd, hfreed⟩ := State.purgeDelivery_closeHeld hload hq outcome
  have hbox := State.cancelPlanned_box (s.purgeDelivery.closeHeld ld.id outcome) (s.dp.mates ld.id)
  have hkept := State.cancelPlanned_load (s.dp.mates ld.id) hfreed
  unfold State.givenUp
  generalize s.purgeDelivery.closeHeld ld.id outcome = v at *
  refine ⟨handed, ?_, ?_, ?_⟩
  · rw [← hss]
    simp
  · show (v.cancelPlanned _).nd.box = _
    rw [hbox, hnd]
    rfl
  · exact hkept

/-- DISPENSE_FAILED and LOAD_CLOSED of a load given up (R96, R86). -/
theorem State.givenUp_tells (hlen : s.lc.conds.length = 69) (hload : s.load ld.id = some cur) (outcome : LoadOutcome)
    (cause : FailCause) : (s.givenUp ld outcome cause).lc.Tells [(Cond.lane cur.lane .loadClosed).num] ∧
      (s.givenUp ld outcome cause).lc.conds[(Cond.lane ld.lane .dispenseFailed).num - 1]?.map (·.snapshot) =
        some (some [BitVec.ofNat 8 ld.id, BitVec.ofNat 8 cause.code]) := by
  have hpurged : s.purgeDelivery.lc.Tells [] := State.purgeDelivery_tells s (LC.tells_nil hlen)
  have hload' : s.purgeDelivery.load ld.id = some cur := (State.load_of_dp (by simp) _).trans hload
  have hclosed : (s.purgeDelivery.closeHeld ld.id outcome).lc.Tells [(Cond.lane cur.lane .loadClosed).num] := by
    rw [State.closeHeld_lc hload']
    exact LC.raise_tells_new hpurged (LaneCond.num_lt ..) _
  have hgiven := State.cancelPlanned_tells (s.purgeDelivery.closeHeld ld.id outcome) (s.dp.mates ld.id) hclosed
  exact ⟨LC.raise_tells hgiven _ _, LC.raise_snapshot hgiven.1 (LaneCond.num_lt ..) _⟩

@[simp] theorem State.givenUp_frame (s : State) (ld : Load) (outcome : LoadOutcome) (cause : FailCause) :
    (s.givenUp ld outcome cause).now = s.now ∧ (s.givenUp ld outcome cause).phase = s.phase := by
  simp [State.givenUp]

/-- What a load given up leaves of its carrier is all but the outstanding load. -/
theorem State.givenUp_reservation (s : State) (ld : Load) (outcome : LoadOutcome) (cause : FailCause) (k : Lane) :
    ((s.givenUp ld outcome cause).carrier k).reservation = (s.carrier k).reservation := by
  have htd : (s.givenUp ld outcome cause).td.placing = s.td.placing := by simp [State.givenUp]
  have hplacing := congrArg (fun p : Four (Location × Reservation) => (p.get k).2) htd
  simpa only [State.placing_eq] using hplacing

/-! ## The withdrawal's end (R110 to R112) -/

/-- The shuttle HOME, the reservation given back. -/
def State.homed (s : State) (l : Lane) : State :=
  (s.modCarrier l fun c => if c.reservation = .presenting then { c with reservation := .none } else c).modSS fun ss =>
    { ss with shuttle := .home }

/-- The bundle back on the delivery side, its load HELD. -/
def State.regained (s : State) (id n : Nat) : State :=
  (s.modSS fun ss => { ss with delivery := .holding id n }).modLoad id fun ld => { ld with state := .held }

theorem State.homed_carrier (hres : (s.carrier l).reservation = .presenting) :
    (s.homed l).carrier l = { s.carrier l with reservation := .none } := by
  refine ((Four.get_modify ..).trans (if_pos rfl)).trans ?_
  exact if_pos hres

theorem State.regained_load (hload : s.load id = some ld) : (s.regained id n).load id = some { ld with state := .held } :=
  State.modLoad_at (s := s.modSS fun ss => { ss with delivery := .holding id n }) hload fun _ => rfl

theorem exec_withdrawalEnd {why : WithdrawWhy} (hrun : s.phase = .running) (hsh : s.ss.shuttle = .withdrawing l due why)
    (hdel : s.ss.delivery = .presenting id n) (hload : s.load id = some ld) :
    (why = .aborted → exec .withdrawalEnd s = .next (if ld.expiryMarked then
      (((s.reach due).homed l).regained id n).givenUp ld .purged .holdExpired else ((s.reach due).homed l).regained id n).finish) ∧
    (why = .pushFailed → exec .withdrawalEnd s = .next (((s.reach due).homed l).givenUp ld .failed .presentFailed).finish) ∧
    (why = .cancelled → exec .withdrawalEnd s = .next (((s.reach due).homed l).purgeDelivery.closeHeld id .purged).finish) := by
  have hid : ld.id = id := State.load_id hload
  have hlive : s.live = true := by simp [State.live, hrun]
  have hend : s.onWithdrawalEnd = (s.reach due).withdrawn l why := by
    unfold State.onWithdrawalEnd
    rw [hsh]
    exact if_pos hlive
  have hfound : ((s.reach due).homed l).ss.delivery.loadId.bind ((s.reach due).homed l).load = some ld := by
    have hdel' : ((s.reach due).homed l).ss.delivery = .presenting id n := hdel
    rw [hdel']
    exact hload
  have hnotes : ((s.reach due).homed l).ss.delivery.notes = n := by
    have hdel' : ((s.reach due).homed l).ss.delivery = .presenting id n := hdel
    rw [hdel']
    rfl
  have hwithdrawn : ∀ t, (s.reach due).withdrawn l why = t → exec .withdrawalEnd s = .next t.finish := fun t h =>
    exec_event_to rfl rfl (State.on_of_running hrun) (hend.trans h)
  refine ⟨?_, ?_, ?_⟩
  all_goals
    rintro rfl
    refine hwithdrawn _ ?_
    unfold State.withdrawn
    dsimp only
    rw [show ((s.reach due).modCarrier l fun c => if c.reservation = .presenting then { c with reservation := .none } else c).modSS
      (fun ss => { ss with shuttle := .home }) = (s.reach due).homed l from rfl, hfound]
    dsimp only
  · rw [hid]
    exact congrArg (fun m => if ld.expiryMarked then (((s.reach due).homed l).regained id m).givenUp ld .purged .holdExpired
      else ((s.reach due).homed l).regained id m) hnotes
  · rfl
  · rw [hid]

/-! ## The stage hold (R112, R113) -/

/-- The stage hold of the delivery side's load runs out: a HELD one is given up, a PRESENTING one is marked. -/
theorem State.onStageHoldExpiry_eq (hid : s.ss.delivery.loadId = some ld.id) (hload : s.load ld.id = some ld)
    (hdue : ld.holdDue = some due) :
    (ld.state = .held → s.onStageHoldExpiry =
      ((s.reach due).modLoad ld.id fun ld => { ld with holdDue := none }).givenUp ld .purged .holdExpired) ∧
    (ld.state = .presenting → s.onStageHoldExpiry =
      ((s.reach due).modLoad ld.id fun ld => { ld with holdDue := none }).modLoad ld.id fun ld => { ld with expiryMarked := true }) := by
  have hfound : s.ss.delivery.loadId.bind s.load = some ld := by
    rw [hid]
    exact hload
  unfold State.onStageHoldExpiry
  rw [hfound]
  dsimp only
  rw [hdue]
  dsimp only
  exact ⟨fun hst => by rw [hst]; rfl, fun hst => by rw [hst]⟩

end

/-- Settles O49: the shuttle's timers, the withdrawal's end and the stage hold. -/
theorem shuttleAndStageHoldRun : Obligations.ShuttleAndStageHoldRun := by
  intro l due id n ld s hrun hload hlane hlen
  subst hlane
  obtain rfl := State.load_id hload
  have hlive : s.live = true := by simp [State.live, hrun]
  refine ⟨fun hsh => ?_, fun hsh => ?_, fun hdel hres => ⟨fun hsh hmark => ?_, fun q hsh hmark hq => ?_, fun why outcome hwhy q hsh hq => ?_⟩,
    fun q hdel hst hdue hq => ?_, fun hdel hst hdue => ?_⟩
  · refine exec_event_to rfl rfl (State.on_of_running hrun) ?_
    show s.onPushTimeout = _
    unfold State.onPushTimeout
    rw [hsh]
    exact if_pos hlive
  · refine exec_event_to rfl rfl (State.on_of_running hrun) ?_
    show s.onShuttleHome = _
    unfold State.onShuttleHome
    rw [hsh]
    exact if_pos hlive
  · have hexec := (exec_withdrawalEnd hrun hsh hdel hload).1 rfl
    rw [hmark, if_neg nofun] at hexec
    refine ⟨_, hexec, ?_⟩
    simp only [State.finish_frame, State.finish_load, State.finish_carrier]
    exact ⟨rfl, State.homed_carrier (s := s.reach due) hres, rfl, State.regained_load (s := (s.reach due).homed ld.lane) hload, rfl⟩
  · have hexec := (exec_withdrawalEnd hrun hsh hdel hload).1 rfl
    rw [hmark, if_pos rfl] at hexec
    have hback : (((s.reach due).homed ld.lane).regained ld.id n).load ld.id = some { ld with state := .held } := State.regained_load (s := (s.reach due).homed ld.lane) hload
    obtain ⟨handed, hss, hbox, hfreed⟩ := State.givenUp_leaves hback hq .purged .holdExpired
    have htold := (State.givenUp_tells (s := ((s.reach due).homed ld.lane).regained ld.id n) hlen hback .purged .holdExpired).2
    have hcarrier := (State.givenUp_reservation (((s.reach due).homed ld.lane).regained ld.id n) ld .purged .holdExpired ld.lane).trans
      (congrArg Carrier.reservation (State.homed_carrier (s := s.reach due) hres))
    generalize (((s.reach due).homed ld.lane).regained ld.id n).givenUp ld .purged .holdExpired = v at *
    refine ⟨_, hexec, ?_⟩
    simp only [State.finish_frame, State.finish_load, State.finish_carrier, State.finish_conds, hss]
    exact ⟨hcarrier, rfl, rfl, hfreed, hbox, rfl, htold⟩
  · have hheld : ((s.reach due).homed ld.lane).load ld.id = some ld := hload
    have hdel' : ((s.reach due).homed ld.lane).ss.delivery.notes = n := congrArg DeliverySide.notes hdel
    have hfree := congrArg Carrier.reservation (State.homed_carrier (s := s.reach due) hres)
    obtain ⟨rfl, rfl⟩ | ⟨rfl, rfl⟩ := hwhy
    · have hexec := (exec_withdrawalEnd hrun hsh hdel hload).2.1 rfl
      obtain ⟨handed, hss, hbox, hfreed⟩ := State.givenUp_leaves hheld hq .failed .presentFailed
      obtain ⟨hclosed, htold⟩ := State.givenUp_tells (s := (s.reach due).homed ld.lane) hlen hheld .failed .presentFailed
      have hcarrier := (State.givenUp_reservation ((s.reach due).homed ld.lane) ld .failed .presentFailed ld.lane).trans hfree
      rw [hdel'] at hbox
      generalize ((s.reach due).homed ld.lane).givenUp ld .failed .presentFailed = v at *
      refine ⟨_, hexec, ?_⟩
      simp only [State.finish_frame, State.finish_load, State.finish_carrier, State.finish_conds, State.finish_isPending, hss]
      exact ⟨hcarrier, rfl, rfl, hfreed, hbox, rfl, hclosed.pending, fun _ => htold⟩
    · have hexec := (exec_withdrawalEnd hrun hsh hdel hload).2.2 rfl
      obtain ⟨handed, hss, hnd, hfreed⟩ := State.purgeDelivery_closeHeld hheld hq .purged
      have hpurged : ((s.reach due).homed ld.lane).purgeDelivery.load ld.id = some ld := (State.load_of_dp (by simp) _).trans hheld
      have hlc := State.closeHeld_lc hpurged .purged
      have hcleared : ((s.reach due).homed ld.lane).purgeDelivery.lc.Tells [] := State.purgeDelivery_tells _ (LC.tells_nil hlen)
      have hclosed : (((s.reach due).homed ld.lane).purgeDelivery.closeHeld ld.id .purged).lc.Tells
          [(Cond.lane ld.lane .loadClosed).num] := by
        rw [hlc]
        exact LC.raise_tells_new hcleared (LaneCond.num_lt ..) _
      have hplacing := congrArg (fun p : Four (Location × Reservation) => (p.get ld.lane).2)
        (State.closeHeld_placing ((s.reach due).homed ld.lane).purgeDelivery ld.id .purged)
      simp only [State.placing_eq] at hplacing
      have hcarrier := hplacing.trans ((congrArg (fun td : TD => (td.carriers.get ld.lane).reservation)
        (State.purgeDelivery_frame ((s.reach due).homed ld.lane)).2.2.2.2.1).trans hfree)
      rw [hdel'] at hnd
      generalize ((s.reach due).homed ld.lane).purgeDelivery.closeHeld ld.id .purged = v at *
      refine ⟨_, hexec, ?_⟩
      simp only [State.finish_frame, State.finish_load, State.finish_carrier, State.finish_isPending, hss, hnd]
      exact ⟨hcarrier, rfl, rfl, hfreed, rfl, rfl, hclosed.pending, nofun⟩
  · have hgoes := (State.onStageHoldExpiry_eq (by rw [hdel]; rfl) hload hdue).1 hst
    have hkept : ((s.reach due).modLoad ld.id fun ld => { ld with holdDue := none }).load ld.id = some { ld with holdDue := none } :=
      State.modLoad_at (s := s.reach due) hload fun _ => rfl
    obtain ⟨handed, hss, hbox, hfreed⟩ := State.givenUp_leaves hkept hq .purged .holdExpired
    have htold := (State.givenUp_tells (s := (s.reach due).modLoad ld.id fun ld => { ld with holdDue := none }) hlen hkept .purged .holdExpired).2
    have hnow := (State.givenUp_frame ((s.reach due).modLoad ld.id fun ld => { ld with holdDue := none }) ld .purged .holdExpired).1
    rw [show ((s.reach due).modLoad ld.id fun ld => { ld with holdDue := none }).ss.delivery.notes = n from
      congrArg DeliverySide.notes hdel] at hbox
    refine ⟨_, exec_event_to rfl rfl (State.on_of_running hrun) hgoes, ?_⟩
    generalize ((s.reach due).modLoad ld.id fun ld => { ld with holdDue := none }).givenUp ld .purged .holdExpired = v at *
    simp only [State.finish_frame, State.finish_load, State.finish_conds, hss]
    exact ⟨hnow, hfreed, rfl, hbox, rfl, htold⟩
  · have hgoes := (State.onStageHoldExpiry_eq (by rw [hdel]; rfl) hload hdue).2 hst
    refine ⟨_, exec_event_to rfl rfl (State.on_of_running hrun) hgoes, ?_⟩
    simp only [State.finish_frame, State.finish_load]
    have hkept : ((s.reach due).modLoad ld.id fun ld => { ld with holdDue := none }).load ld.id = some { ld with holdDue := none } :=
      State.modLoad_at (s := s.reach due) hload fun _ => rfl
    exact ⟨rfl, State.modLoad_at hkept fun _ => rfl, rfl, rfl⟩

/-! ## LOAD_CLOSE (R121) -/

theorem closeOutcome_of {outcome : Nat} (h : outcome = 1 ∨ outcome = 2) :
    closeOutcome outcome = some (if outcome = 1 then .taken else .returned) ∧
      (if outcome = 1 then LoadOutcome.taken else .returned).code = outcome := by
  rcases h with rfl | rfl <;> exact ⟨rfl, rfl⟩

theorem closeOutcome_none {outcome : Nat} (h1 : outcome ≠ 1) (h2 : outcome ≠ 2) : closeOutcome outcome = none := by
  match outcome, h1, h2 with
  | 0, _, _ => rfl
  | 1, h, _ => exact absurd rfl h
  | 2, _, h => exact absurd rfl h
  | _ + 3, _, _ => rfl

/-- Settles O50: LOAD_CLOSE's refusals in order, and the close of a load that awaits it. -/
theorem loadCloseEndsATrip : Obligations.LoadCloseEndsATrip := by
  intro tag id outcome s hs
  have hrefused : ∀ code, s.counted.ownLoadClose tag id outcome = s.counted.refuse 0x35 tag code [] →
      exec (.loadClose tag id outcome) s = .next (s.refused 0x35 tag code).finish := fun code h =>
    exec_serves_to rfl hs (h.trans (State.counted_refuse rfl ..))
  refine ⟨fun h => hrefused _ ?_, fun hout hid => ?_⟩
  · unfold State.ownLoadClose
    rcases h with ⟨h1, h2⟩ | h
    · rw [closeOutcome_none h1 h2]
    · split
      · rfl
      · exact if_pos h
  · obtain ⟨hcode, hcodes⟩ := closeOutcome_of hout
    generalize (if outcome = 1 then LoadOutcome.taken else .returned) = o at *
    refine ⟨fun hload => hrefused _ ?_, fun ld hload => ⟨fun hst => ?_, fun q hst hq hcar hlen => ?_⟩⟩
    · have hload' : s.counted.load id = none := hload
      unfold State.ownLoadClose
      rw [hcode]
      dsimp only
      rw [if_neg hid, hload']
    all_goals
      have hload' : s.counted.load id = some ld := hload
    · have hown : s.counted.ownLoadClose tag id outcome = s.counted.refuse 0x35 tag .wrongState (u8 ld.state.code) := by
        unfold State.ownLoadClose
        rw [hcode]
        dsimp only
        rw [if_neg hid, hload']
        exact if_neg hst
      refine exec_serves_to rfl hs (hown.trans ?_)
      exact State.reply_replied rfl ..
    · have hown : s.counted.ownLoadClose tag id outcome =
          (s.counted.closeHeld id o).replied 0x35 tag [0x00#8, BitVec.ofNat 8 id, BitVec.ofNat 8 outcome] := by
        unfold State.ownLoadClose
        rw [hcode]
        dsimp only
        rw [if_neg hid, hload']
        refine (if_pos hst).trans ((State.ok_replied rfl ..).trans ?_)
        rw [hcodes]
        rfl
      obtain ⟨handed, hss⟩ := State.closeHeld_ss hload' hq o
      have hfree := State.closeHeld_outstanding hload' o hcar
      have hlc := State.closeHeld_lc hload' o
      have hload := State.closeHeld_load s.counted id id o
      rw [if_pos rfl] at hload
      have hconds : (s.counted.closeHeld id o).lc.conds[(Cond.lane ld.lane .loadClosed).num - 1]?.map (·.snapshot) =
          some (some [BitVec.ofNat 8 id, BitVec.ofNat 8 outcome]) := by
        rw [hlc, ← hcodes]
        exact LC.raise_snapshot (lc := s.counted.lc) hlen (LaneCond.num_lt ..) _
      have hreplies : (s.counted.closeHeld id o).lc.replies = s.lc.replies := by simp [State.counted]
      generalize s.counted.closeHeld id o = v at *
      refine ⟨_, exec_serves_to rfl hs hown, ?_⟩
      simp only [State.finish_frame, State.finish_load, State.finish_carrier, State.finish_conds]
      refine ⟨hload, hfree, congrArg SS.owed hss, hconds, ?_⟩
      exact congrArg (· ++ _) hreplies

end Sys2Proof.Machine
end

section
/-! The capture unit (O51 to O53): changes of its record, the opening, lift, stamp and drop, the bin, and its requests. -/

namespace Sys2Proof.Machine

/-! ## Work handed to the journal (R134, R149) -/

section
variable {s : State}

/-- A change handed to an OPERATING journal joins the queue's tail; to a FAILED one it does nothing. -/
theorem State.hand_taken (hf : s.jn.failed = false) (owner : Owner) (work : Work) :
    ∃ jn, s.hand owner work = ({ s with jn := jn }, true) ∧ jn.queue = s.jn.queue ++ [{ owner := owner, work := work }] ∧
      jn.failed = false := by
  obtain ⟨hfailed, -, -, -, -, hqueue, -⟩ :=
    State.jnRun_rest ({ s with jn := { s.jn with queue := s.jn.queue ++ [{ owner := owner, work := work }] } } : State)
  have hhand : s.hand owner work = (({ s with jn := { s.jn with queue := s.jn.queue ++ [{ owner := owner, work := work }] } } :
      State).jnRun, true) := if_neg (by rw [hf]; exact nofun)
  exact ⟨_, hhand, hqueue, hfailed.trans hf⟩

theorem State.hand_refused (hf : s.jn.failed = true) (owner : Owner) (work : Work) : s.hand owner work = (s, false) := if_pos hf

/-- A change of a capture's record touches the journal and what is owed, and nothing else. -/
theorem State.changeRecord_eq (c : CaptureChange) : ∃ jn owed, s.changeRecord c = { s with
    jn := jn
    cu := { s.cu with owed := owed } } := by
  unfold State.changeRecord
  split
  · exact ⟨s.jn, _, rfl⟩
  · cases hf : s.jn.failed with
    | true =>
      rw [State.hand_refused hf]
      exact ⟨s.jn, _, rfl⟩
    | false =>
      obtain ⟨jn, hhand, -⟩ := State.hand_taken hf (.captureChange c) c.work
      rw [hhand]
      exact ⟨jn, s.cu.owed, rfl⟩

/-- With no change owed and the journal OPERATING, the change is handed to the JN (R134). -/
theorem State.changeRecord_hands (ho : s.cu.owed = none) (hf : s.jn.failed = false) (c : CaptureChange) :
    ∃ jn, s.changeRecord c = { s with jn := jn } ∧ jn.queue = s.jn.queue ++ [{ owner := .captureChange c, work := c.work }] := by
  obtain ⟨jn, hhand, hqueue, -⟩ := State.hand_taken hf (.captureChange c) c.work
  refine ⟨jn, ?_, hqueue⟩
  unfold State.changeRecord
  rw [if_neg (by rw [ho]; exact nofun), hhand]
  rfl

/-! ## The reservation given back and the unit IDLE again (R44) -/

/-- A carrier whose CAPTURING reservation, and no other, is released. -/
def Carrier.uncaptured (c : Carrier) : Carrier := if c.reservation = .capturing then { c with reservation := .none } else c

theorem State.releaseCapturing_carrier (s : State) (l k : Lane) :
    (s.releaseCapturing l).carrier k = if k = l then (s.carrier l).uncaptured else s.carrier k := by
  refine (Four.get_modify ..).trans ?_
  by_cases hk : k = l
  · rw [if_pos hk, if_pos hk, hk]
    rfl
  · rw [if_neg hk, if_neg hk]
    rfl

theorem State.captureOver_eq (s : State) (h : Capture) : s.captureOver h = { s.releaseCapturing h.bay with
    cu := { s.cu with hand := none, state := .idle } } := rfl

theorem State.captureOver_carrier (s : State) (h : Capture) (k : Lane) :
    (s.captureOver h).carrier k = if k = h.bay then (s.carrier h.bay).uncaptured else s.carrier k :=
  State.releaseCapturing_carrier ..

theorem Carrier.uncaptured_of {c : Carrier} (h : c.reservation = .capturing) : c.uncaptured = { c with reservation := .none } :=
  if_pos h

/-- The change that closes a record without an envelope (R129, R130). -/
def abortWork (seq : Nat) : Work := .change ⟨seq, [], { RecFlags.none with aborted := true }, true⟩

/-- A capture ends without an envelope: the record's close handed over, the carrier released, the unit IDLE (R129, R130). -/
theorem State.captureAborted_leaves {h : Capture} {q : Nat} (hq : h.seq = some q) :
    (s.captureAborted h).cu.state = .idle ∧ (s.captureAborted h).cu.hand = none ∧ (s.captureAborted h).cu.set = s.cu.set ∧
      (∀ k, (s.captureAborted h).carrier k = if k = h.bay then (s.carrier h.bay).uncaptured else s.carrier k) ∧
      (s.cu.owed = none → s.jn.failed = false →
        (s.captureAborted h).cu = { s.cu with state := .idle, hand := none } ∧
        ∃ p : Program, (s.captureAborted h).jn.queue = s.jn.queue ++ [p] ∧ p.work = abortWork q) := by
  have hcarrier : ∀ k, (s.captureAborted h).carrier k = if k = h.bay then (s.carrier h.bay).uncaptured else s.carrier k := fun k => by
    unfold State.captureAborted
    obtain ⟨jn, owed, heq⟩ := State.changeRecord_eq (s := s) (h.closeWith { RecFlags.none with aborted := true })
    rw [heq]
    exact State.captureOver_carrier ..
  have hset : (s.captureAborted h).cu.set = s.cu.set := by
    unfold State.captureAborted
    obtain ⟨jn, owed, heq⟩ := State.changeRecord_eq (s := s) (h.closeWith { RecFlags.none with aborted := true })
    rw [heq]
    rfl
  refine ⟨rfl, rfl, hset, hcarrier, fun ho hf => ?_⟩
  obtain ⟨jn, heq, hqueue⟩ := State.changeRecord_hands ho hf (h.closeWith { RecFlags.none with aborted := true })
  unfold State.captureAborted
  rw [heq]
  refine ⟨rfl, _, hqueue, ?_⟩
  show CaptureChange.work _ = _
  unfold CaptureChange.work Capture.closeWith abortWork
  rw [hq]
  rfl

end

/-! ## CAPTURE's checks and its opening (R127, R128) -/

section
variable {s : State} {tag : Nat} {l : Lane}

theorem State.ownCapture_eq : State.ownCapture tag l.num s =
    if s.cu.state ≠ .idle ∨ s.cu.opening then s.refuse 0x38 tag .busy []
    else if s.cu.set.exhausted then s.refuse 0x38 tag .wrongState []
    else if s.cu.bin.state ≠ .confirmed ∨ s.cu.exchange.isSome then s.refuse 0x38 tag .binUnconfirmed []
    else if s.cu.bin.capacity ≤ s.cu.bin.count then s.refuse 0x38 tag .binFull []
    else if s.jn.takesOrdinary = false ∨ s.cu.owed.isSome then s.refuse 0x38 tag .journalUnavailable []
    else if s.cu.printerReady = false ∧ s.cu.set.stampRequired then s.refuse 0x38 tag .stampOut []
    else match s.capturingRefusal l with
      | some code => s.refuse 0x38 tag code []
      | none => s.openCapture tag l := by
  simp only [State.ownCapture, Ix4.ofNum_num] <;> rfl

/-- The capture counter after a number is given (R126). -/
def CaptureSettings.given (c : CaptureSettings) : CaptureSettings :=
  { c with next := if c.next = 4294967295 then c.next else c.next + 1, exhausted := c.next = 4294967295 }

theorem CaptureSettings.given_next {c : CaptureSettings} (hx : c.exhausted = false) (hn : c.next < 4294967295) :
    c.given = { c with next := c.next + 1 } := by
  have hne : c.next ≠ 4294967295 := by omega
  simp [CaptureSettings.given, hne, hx]

theorem CaptureSettings.given_last {c : CaptureSettings} (hn : c.next = 4294967295) : c.given = { c with exhausted := true } := by
  simp [CaptureSettings.given, hn]

/-- A capture opened: reservation, number and record (R128). -/
theorem State.openCapture_opens (hf : s.jn.failed = false) (hr : 16 < s.jn.free) (he : s.jn.exhausted = false) :
    (s.openCapture tag l).cu = { s.cu with
        set := s.cu.set.given
        hand := some ⟨l, s.cu.set.next, none, some tag, none, s.au.duress, none, true, none⟩ } ∧
      (∀ k, (s.openCapture tag l).carrier k = if k = l then { s.carrier l with reservation := .capturing } else s.carrier k) ∧
      (s.openCapture tag l).jn.queue = s.jn.queue ++ [{ owner := .captureOpening, work := .append ⟨.capture, l.num,
        s.jn.counter, s.lc.clock, u32 s.cu.set.next, s.au.duress, false⟩ }] ∧
      (s.openCapture tag l).lc.replies = s.lc.replies := by
  generalize hv : (s.modCarrier l fun c => { c with reservation := .capturing }).modCU (fun cu =>
    { cu with set := s.cu.set.given, hand := some ⟨l, s.cu.set.next, none, some tag, none, s.au.duress, none, true, none⟩ }) = v
  have hopen : s.openCapture tag l = if (v.append .captureOpening .capture l.num (u32 s.cu.set.next) s.au.duress false).2
      then (v.append .captureOpening .capture l.num (u32 s.cu.set.next) s.au.duress false).1
      else (v.append .captureOpening .capture l.num (u32 s.cu.set.next) s.au.duress false).1.captureNotOpened := by
    rw [← hv]
    rfl
  have hjn : v.jn = s.jn ∧ v.lc = s.lc := by rw [← hv]; exact ⟨rfl, rfl⟩
  have hcu : v.cu = { s.cu with
      set := s.cu.set.given
      hand := some ⟨l, s.cu.set.next, none, some tag, none, s.au.duress, none, true, none⟩ } := by rw [← hv]; rfl
  have hcarrier : ∀ k, v.carrier k = if k = l then { s.carrier l with reservation := .capturing } else s.carrier k := fun k => by
    rw [← hv]
    refine (Four.get_modify ..).trans ?_
    by_cases hk : k = l
    · rw [if_pos hk, if_pos hk, hk]
      rfl
    · rw [if_neg hk, if_neg hk]
      rfl
  obtain ⟨hjn, hlc⟩ := hjn
  obtain ⟨htaken, hqueue, -⟩ := State.append_taken (s := v) (hjn ▸ hf) (hjn ▸ hr) (hjn ▸ he) .captureOpening (kind := .capture) rfl
    l.num (u32 s.cu.set.next) s.au.duress false
  rw [hopen, if_pos htaken]
  have hrest : ∀ w : State, w = (v.append .captureOpening .capture l.num (u32 s.cu.set.next) s.au.duress false).1 →
      w.cu = v.cu ∧ w.td = v.td ∧ w.lc.replies = v.lc.replies := by
    rintro w rfl
    simp
  obtain ⟨hcu', htd, hreplies⟩ := hrest _ rfl
  refine ⟨hcu'.trans hcu, fun k => ?_, ?_, ?_⟩
  · unfold State.carrier
    rw [htd]
    exact hcarrier k
  · rw [hqueue, hjn, hlc]
  · rw [hreplies, hlc]

end

section
variable {s : State} {h : Capture} {opened : Nat} {r : Record}

/-- A programmed append in a running part: its owner is told, with the rest of the queue behind it (R149). -/
theorem exec_appendMade_queue {owner : Owner} (hrun : s.phase = .running) (ha : s.appending owner r) :
    ∃ jn p, p.owner = owner ∧ p.work = .append r ∧ jn.failed = s.jn.failed ∧ jn.queue = s.jn.queue.tail ∧
      (((({ s with jn := jn } : State).tellOwner p true).phase = .running) →
        exec (.journalProgramDone []) s = .next ((({ s with jn := jn } : State).tellOwner p true).jnRun).finish) := by
  obtain ⟨p, rest, i, k, hb, hq, ho, hw, hf⟩ := (s.appending_iff _ _).mp ha
  obtain ⟨hqueue, -, -, -, -, -, hfailed, -⟩ := JN.appendEnded_rest hq hw i k
  refine ⟨s.jn.appendEnded r i k, p, ho, hw, hfailed, by rw [hqueue, hq]; rfl, fun hphase => ?_⟩
  rw [exec_programDone (State.on_of_running hrun), State.programMade_append hb hq hw hf, State.scanStepEnds_past]
  simp only [State.jnRun_frame, hphase]
  exact nofun

/-- A capture with its record's sequence, its opening at an end. -/
def Capture.recorded (h : Capture) (seq : Nat) : Capture := { h with seq := some seq, opening := none }

/-- The end of an opening's append (R128, R129). -/
theorem State.captureOpened_eq (hh : s.cu.hand = some h) (ho : h.opening = some opened) (seq : Nat) :
    ((s.bay h.bay).doorClosed = true → (s.bay h.bay).present = true → s.captureOpened seq true =
      (s.replied 0x38 opened (0x00#8 :: (u32 h.number ++ u32 seq))).modCU fun cu => { cu with
        state := .lifting, hand := some { h.recorded seq with due := some (s.now + 2000) } }) ∧
    ((s.bay h.bay).doorClosed = false ∨ (s.bay h.bay).present = false → s.captureOpened seq true =
      ((s.replied 0x38 opened (0x00#8 :: (u32 h.number ++ u32 seq))).captureAborted (h.recorded seq)).raise .captureDone
        (captureSnapshot h 2)) ∧
    s.captureOpened seq false = (s.captureOver h).replied 0x38 opened [0x17#8] := by
  have htag : (s.cu.hand.bind (·.opening)).getD 0 = opened := by
    rw [hh]
    exact congrArg (Option.getD · 0) ho
  have hok : s.ok 0x38 opened (u32 h.number ++ u32 seq) = s.replied 0x38 opened (0x00#8 :: (u32 h.number ++ u32 seq)) :=
    State.ok_replied rfl ..
  unfold State.captureOpened
  rw [hh]
  dsimp only
  simp only [if_true, Bool.false_eq_true, if_false]
  rw [hh] at htag
  rw [htag, hok]
  refine ⟨fun hd hp => ?_, fun hgone => if_pos hgone, ?_⟩
  · refine if_neg ?_
    show ¬ ((s.bay h.bay).doorClosed = false ∨ (s.bay h.bay).present = false)
    rw [hd, hp]
    exact fun h => h.elim nofun nofun
  · unfold State.captureNotOpened
    rw [hh]
    dsimp only
    rw [ho]
    exact State.refuse_replied rfl ..

end

section
variable {s : State} {tag : Nat} {l : Lane}

theorem State.capturingRefusal_elsewhere (h : (s.carrier l).location ≠ .atBay ∨ (s.bay l).present = false) :
    s.capturingRefusal l = some .carrierElsewhere := if_pos h

/-- The refusals of R43 for a carrier that is at its bay. -/
theorem State.capturingRefusal_atBay (hloc : (s.carrier l).location = .atBay) (hp : (s.bay l).present = true) :
    s.capturingRefusal l = if (s.carrier l).reservation ≠ .none then some .carrierBusy
      else if (s.carrier l).outstanding ≠ none then some .loadOutstanding
      else if s.bayContent l ≠ .content then some .contentAbsent
      else none := by
  refine if_neg ?_
  rw [hloc, hp]
  exact fun h => h.elim (fun h => h rfl) nofun

end

/-- Settles O51: the end of an opening's record, and CAPTURE's checks in their order. -/
theorem captureIsCheckedAndOpened : Obligations.CaptureIsCheckedAndOpened := by
  refine ⟨fun h opened r s released hrun hlen hh ho ha hreleased => ⟨fun hd hp => ?_, fun hgone => ?_, fun hl => ?_⟩, fun tag l s hs => ?_⟩
  · obtain ⟨jn, p, hown, hw, -, -, hmade⟩ := exec_appendMade_queue hrun ha
    have htell : ({ s with jn := jn } : State).tellOwner p true = ({ s with jn := jn } : State).captureOpened r.seq true := by
      unfold State.tellOwner
      rw [hown, hw]
      rfl
    rw [htell, (State.captureOpened_eq (s := { s with jn := jn }) hh ho r.seq).1 hd hp] at hmade
    refine ⟨_, hmade hrun, ?_⟩
    simp only [State.finish_frame, State.jnRun_frame]
    exact ⟨rfl, rfl, rfl⟩
  · obtain ⟨jn, p, hown, hw, hfailed, hqueue, hmade⟩ := exec_appendMade_queue hrun ha
    have htell : ({ s with jn := jn } : State).tellOwner p true = ({ s with jn := jn } : State).captureOpened r.seq true := by
      unfold State.tellOwner
      rw [hown, hw]
      rfl
    rw [htell, (State.captureOpened_eq (s := { s with jn := jn }) hh ho r.seq).2.1 hgone] at hmade
    generalize hv : ({ s with jn := jn } : State).replied 0x38 opened (0x00#8 :: (u32 h.number ++ u32 r.seq)) = v at hmade
    have hvs : v.cu = s.cu ∧ v.jn = jn ∧ v.phase = s.phase ∧ (∀ k, v.carrier k = s.carrier k) ∧
        v.lc.replies = s.lc.replies ++ [answer 0x38 opened (0x00#8 :: (u32 h.number ++ u32 r.seq))] ∧
        v.lc.conds = s.lc.conds := by
      rw [← hv]
      exact ⟨rfl, rfl, rfl, fun _ => rfl, rfl, rfl⟩
    obtain ⟨hcu, hjn, hphase, hcarrier, hreplies, hconds⟩ := hvs
    obtain ⟨hidle, hnone, hset, hcarriers, hqueued⟩ := State.captureAborted_leaves (s := v) (h := h.recorded r.seq) rfl
    obtain ⟨-, -, haphase, -, -, -, -, -, -, halc, -, -, -, habin, -⟩ := State.captureAborted_frame v (h.recorded r.seq)
    have halen : (v.captureAborted (h.recorded r.seq)).lc.conds.length = 69 := by
      rw [halc, hconds]
      exact hlen
    have htold : ((v.captureAborted (h.recorded r.seq)).raise .captureDone (captureSnapshot h 2)).lc.Tells [60] :=
      LC.raise_tells_new (LC.tells_nil halen) (by decide) _
    have hshot := LC.raise_snapshot (n := 60) halen (by decide) (some (captureSnapshot h 2))
    have hareplies : ((v.captureAborted (h.recorded r.seq)).raise .captureDone (captureSnapshot h 2)).lc.replies = v.lc.replies := by
      simp
    refine ⟨_, hmade (haphase.trans (hphase.trans hrun)), ?_⟩
    simp only [State.finish_frame, State.finish_carrier, State.finish_isPending, State.finish_conds, State.jnRun_frame,
      State.jnRun_rest]
    refine ⟨hidle, hnone, hset.trans (congrArg CU.set hcu), habin.trans (congrArg CU.bin hcu), ?_, fun k hk => ?_,
      hareplies.trans hreplies, htold.pending, hshot, fun howed hf => ?_⟩
    · refine ((hcarriers h.bay).trans (if_pos rfl)).trans ?_
      rw [hcarrier, hreleased]
      rfl
    · exact ((hcarriers k).trans (if_neg hk)).trans (hcarrier k)
    · obtain ⟨hcu', p', hp', hwork⟩ := hqueued (by rw [hcu]; exact howed) (by rw [hjn, hfailed]; exact hf)
      refine ⟨?_, p', ?_, hwork⟩
      · show (v.captureAborted (h.recorded r.seq)).cu.owed = none
        rw [hcu', hcu]
        exact howed
      · refine Eq.trans ?_ (hp'.trans (by rw [hjn, hqueue]))
        rfl
  · obtain ⟨jn, p, hown, hw, -, hmade⟩ := exec_appendFails hrun ha hl
    have htell : ({ s with jn := jn } : State).tellOwner p false = ({ s with jn := jn } : State).captureOpened r.seq false := by
      unfold State.tellOwner
      rw [hown, hw]
      rfl
    rw [htell, (State.captureOpened_eq (s := { s with jn := jn }) hh ho r.seq).2.2] at hmade
    have hcarriers := State.captureOver_carrier { s with jn := jn } h
    refine ⟨_, hmade hrun, ?_⟩
    simp only [State.finish_frame, State.finish_carrier, State.jnRun_frame]
    refine ⟨rfl, ?_, fun k hk => (hcarriers k).trans (if_neg hk), ?_⟩
    · rw [hreleased]
      exact (hcarriers h.bay).trans (if_pos rfl)
    · simp [State.replied, State.captureOver_frame]
  · have hrefused : ∀ code, s.counted.ownCapture tag l.num = s.counted.refuse 0x38 tag code [] →
        exec (.capture tag l.num) s = .next (s.refused 0x38 tag code).finish := fun code h =>
      exec_serves_to rfl hs (h.trans (State.counted_refuse rfl ..))
    have heq := State.ownCapture_eq (s := s.counted) (tag := tag) (l := l)
    have hopening : s.cu.opening = true ↔ ∃ h t, s.cu.hand = some h ∧ h.opening = some t := by
      simp [CU.opening, Option.any_eq_true, Option.isSome_iff_exists]
    refine ⟨fun n hn => ?_, fun h => hrefused _ (heq.trans (if_pos ?_)), fun hst hhand => ?_⟩
    · refine exec_serves_to rfl hs ?_
      rw [← State.counted_refuse rfl]
      show State.ownCapture tag n s.counted = _
      unfold State.ownCapture
      rw [Ix4.ofNum_none' hn]
    · exact h.imp_right hopening.mpr
    · have hno : ¬ (s.counted.cu.state ≠ .idle ∨ s.counted.cu.opening = true) := by
        have hidle : s.counted.cu.state = .idle := hst
        have hopen : s.counted.cu.opening = false := by
          show s.cu.opening = false
          simp [CU.opening, hhand]
        rw [hidle, hopen]
        exact fun h => h.elim (fun h => h rfl) nofun
      rw [if_neg hno] at heq
      refine ⟨fun hx => hrefused _ (heq.trans (if_pos hx)), fun hx => ?_⟩
      rw [if_neg (by rw [show s.counted.cu.set.exhausted = false from hx]; exact nofun)] at heq
      refine ⟨fun h => hrefused _ (heq.trans (if_pos (h.imp_right Option.isSome_iff_ne_none.mpr))), fun hbin hex => ?_⟩
      have hbin' : ¬ (s.counted.cu.bin.state ≠ .confirmed ∨ s.counted.cu.exchange.isSome = true) := by
        have hb : s.counted.cu.bin.state = .confirmed := hbin
        have he : s.counted.cu.exchange = none := hex
        rw [hb, he]
        exact fun h => h.elim (fun h => h rfl) nofun
      rw [if_neg hbin'] at heq
      refine ⟨fun h => hrefused _ (heq.trans (if_pos h)), fun hroom => ?_⟩
      rw [if_neg (show ¬ s.counted.cu.bin.capacity ≤ s.counted.cu.bin.count from Nat.not_le.mpr hroom)] at heq
      refine ⟨fun h => hrefused _ (heq.trans (if_pos ?_)), fun hf hr howed => ?_⟩
      · exact (or_assoc.mpr h).imp (fun h => JN.takesOrdinary_not h) Option.isSome_iff_ne_none.mpr
      have htakes : ¬ (s.counted.jn.takesOrdinary = false ∨ s.counted.cu.owed.isSome = true) := by
        have htake : s.counted.jn.takesOrdinary = true := JN.takesOrdinary_yes hf hr
        have ho : s.counted.cu.owed = none := howed
        rw [htake, ho]
        exact fun h => h.elim nofun nofun
      rw [if_neg htakes] at heq
      refine ⟨fun hp hst => hrefused _ (heq.trans (if_pos ⟨hp, hst⟩)), fun hstamp => ?_⟩
      have hink : ¬ (s.counted.cu.printerReady = false ∧ s.counted.cu.set.stampRequired = true) := fun h =>
        hstamp.elim (fun hp => absurd (hp.symm.trans h.1) nofun) fun hp => absurd (hp.symm.trans h.2) nofun
      rw [if_neg hink] at heq
      refine ⟨fun h => hrefused _ ?_, fun hloc hp => ?_⟩
      · rw [State.capturingRefusal_elsewhere (s := s.counted) h] at heq
        exact heq
      rw [State.capturingRefusal_atBay (s := s.counted) hloc hp] at heq
      refine ⟨fun hres => hrefused _ ?_, fun hres => ⟨fun hout => hrefused _ ?_, fun hout hcont => hrefused _ ?_, fun hout hcont he => ?_⟩⟩
      · rw [if_pos (show (s.counted.carrier l).reservation ≠ .none from hres)] at heq
        exact heq
      all_goals
        rw [if_neg (show ¬ (s.counted.carrier l).reservation ≠ .none from not_not.mpr hres)] at heq
      · rw [if_pos (show (s.counted.carrier l).outstanding ≠ none from hout)] at heq
        exact heq
      all_goals
        rw [if_neg (show ¬ (s.counted.carrier l).outstanding ≠ none from not_not.mpr hout)] at heq
      · rw [if_pos (show s.counted.bayContent l ≠ .content from hcont)] at heq
        exact heq
      rw [if_neg (show ¬ s.counted.bayContent l ≠ .content from not_not.mpr hcont)] at heq
      obtain ⟨hcu, hcarrier, hqueue, hreplies⟩ := State.openCapture_opens (s := s.counted) (tag := tag) (l := l) hf hr he
      obtain ⟨-, -, -, -, -, -, -, -, -, -, -, houtstanding, -⟩ := State.openCapture_frame s.counted tag l
      dsimp only at heq
      generalize s.counted.openCapture tag l = v at *
      refine ⟨_, exec_serves_to rfl hs heq, ?_⟩
      simp only [State.finish_frame, State.finish_carrier, hcu]
      refine ⟨(hcarrier l).trans (if_pos rfl), fun k hk => (hcarrier k).trans (if_neg hk), hst, rfl, fun hn => ?_, fun hn => ?_, hqueue,
        hreplies, houtstanding⟩
      · exact CaptureSettings.given_next hx hn
      · exact CaptureSettings.given_last hn

/-! ## Records that a transition appends (R182) -/

section
variable {s : State}

/-- An append leaves what is queued before it in its place. -/
theorem State.append_grows (s : State) (owner : Owner) (kind : RecKind) (lane : Nat) (body : List Byte) (duress closed : Bool) :
    ∃ more, (s.append owner kind lane body duress closed).1.jn.queue = s.jn.queue ++ more := by
  cases hadmits : s.jn.admits kind with
  | true =>
    rw [State.append_admitted hadmits]
    refine ⟨[{ owner := owner, work := .append ⟨kind, lane, s.jn.counter, s.lc.clock, body, duress, closed⟩ }], ((State.jnRun_rest _).2.2.2.2.2.1).trans ?_⟩
    simp only [State.noteFree_frame]
    rfl
  | false =>
    rw [State.append_refused hadmits]
    exact ⟨[], (List.append_nil _).symm⟩

theorem State.alarmRecord_grows (s : State) (z : ZoneId) (left entered : ZoneState) :
    ∃ more, (s.alarmRecord z left entered).jn.queue = s.jn.queue ++ more := by
  unfold State.alarmRecord
  dsimp only
  split <;> exact State.append_grows ..

theorem State.zoneTo_grows (s : State) (z : ZoneId) (entered : ZoneState) :
    ∃ more, (s.zoneTo z entered).jn.queue = s.jn.queue ++ more := by
  unfold State.zoneTo
  dsimp only
  split
  · exact ⟨[], (List.append_nil _).symm⟩
  · split
    · obtain ⟨more, hmore⟩ := State.alarmRecord_grows _ z _ entered
      exact ⟨more, hmore.trans (by simp)⟩
    · exact ⟨[], by simp⟩

theorem State.envelopeJam_grows (s : State) : ∃ more, (s.setCause .envelopeJam true).jn.queue = s.jn.queue ++ more := by
  unfold State.setCause
  dsimp only
  split
  · exact ⟨[], (List.append_nil _).symm⟩
  · split
    · rw [if_pos rfl]
      unfold State.causeRises
      dsimp only
      split
      · exact State.zoneTo_grows ..
      · exact ⟨[], (List.append_nil _).symm⟩
    · exact ⟨[], (List.append_nil _).symm⟩

/-! ## Lift, stamp, drop (R129 to R133) -/

variable {h : Capture} {q due : Nat}

/-- The drop begins without a stamp, the record's NO_STAMP flag handed over (R131). -/
theorem State.stamped_without (hq : h.seq = some q) (ho : s.cu.owed = none) (hf : s.jn.failed = false) :
    ∃ jn, s.stamped h false = { s with
        jn := jn
        cu := { s.cu with
          state := .dropping, print := none, hand := some { h with stamp := some false, due := some (s.now + 3000) } } } ∧
      jn.queue.map (·.work) = s.jn.queue.map (·.work) ++ [.change ⟨q, [], { RecFlags.none with noStamp := true }, false⟩] := by
  obtain ⟨jn, hchange, hqueue⟩ := State.changeRecord_hands (s := s.modCU fun cu => { cu with
    state := .dropping, print := none, hand := some { h with stamp := some false, due := some (s.now + 3000) } }) ho hf
    { seq := h.seq.getD 0, flags := { RecFlags.none with noStamp := true }, closes := false, late := none }
  refine ⟨jn, hchange, ?_⟩
  rw [hqueue, List.map_append, hq]
  rfl

theorem State.noteBin_lc (s : State) : s.noteBin.lc = if s.cu.bin.capacity * 9 / 10 ≤ s.cu.bin.count then
    s.lc.raise 62 (some (u16 s.cu.bin.count ++ u16 s.cu.bin.capacity)) else s.lc := by
  unfold State.noteBin
  split <;> rfl

/-- A drop that is sensed: counted, the record closed with the count, the unit IDLE, CAPTURE_DONE risen (R132). -/
theorem State.dropped_ends (hq : h.seq = some q) (ho : s.cu.owed = none) (hf : s.jn.failed = false) (hlen : s.lc.conds.length = 69) :
    (s.dropped h).cu = { s.cu with state := .idle, hand := none, bin := { s.cu.bin with count := s.cu.bin.count + 1 } } ∧
      (s.dropped h).carrier h.bay = (s.carrier h.bay).uncaptured ∧
      (s.dropped h).jn.queue.map (·.work) = s.jn.queue.map (·.work) ++ [.change ⟨q,
        [(28, BitVec.ofNat 8 ((s.cu.bin.count + 1) / 256)), (29, BitVec.ofNat 8 (s.cu.bin.count + 1))], h.stampFlag, true⟩] ∧
      (s.dropped h).lc.conds[59]?.map (·.snapshot) =
        some (some (u8 h.bay.num ++ u32 h.number ++ u8 1 ++ u16 (s.cu.bin.count + 1))) ∧
      (s.cu.bin.capacity * 9 / 10 ≤ s.cu.bin.count + 1 → (s.dropped h).lc.isPending 62 = true) := by
  obtain ⟨jn, hchange, hqueue⟩ := State.changeRecord_hands (s := s.countEnvelope) ho hf
    { h.closeWith h.stampFlag with late := some s.countEnvelope.cu.bin.count }
  generalize hv : (({ s.countEnvelope with jn := jn } : State).captureOver h).raise .captureDone
    (captureSnapshot h 1 ++ u16 (s.cu.bin.count + 1)) = v
  have hdropped : s.dropped h = v.noteBin := by
    unfold State.dropped
    dsimp only
    rw [hchange, ← hv]
    rfl
  have hcu : v.cu = { s.cu with state := .idle, hand := none, bin := { s.cu.bin with count := s.cu.bin.count + 1 } } := by
    rw [← hv]
    rfl
  have hcarrier : v.carrier h.bay = (s.carrier h.bay).uncaptured := by
    rw [← hv]
    exact (State.captureOver_carrier ..).trans (if_pos rfl)
  have hjn : v.jn = jn := by rw [← hv]; rfl
  have hlc : v.lc = s.lc.raise 60 (some (captureSnapshot h 1 ++ u16 (s.cu.bin.count + 1))) := by rw [← hv]; rfl
  have hshot := LC.raise_snapshot (n := 60) hlen (by decide) (some (captureSnapshot h 1 ++ u16 (s.cu.bin.count + 1)))
  have hkept : v.noteBin.lc.conds[59]? = v.lc.conds[59]? := by
    rw [State.noteBin_lc]
    split
    · rw [LC.raise_conds, if_neg (by decide)]
    · rfl
  rw [hdropped]
  refine ⟨by rw [← hcu]; simp, ?_, ?_, ?_, fun hhigh => ?_⟩
  · rw [← hcarrier]
    unfold State.carrier
    simp
  · have hnoted : v.noteBin.jn = jn := by rw [← hjn]; simp
    rw [hnoted, hqueue, List.map_append]
    refine congrArg (fun w => s.jn.queue.map (·.work) ++ [w]) ?_
    unfold CaptureChange.work Capture.closeWith
    dsimp only
    rw [hq]
    rfl
  · rw [hkept, hlc]
    exact hshot
  · have hlen' : v.lc.conds.length = 69 := by rw [hlc]; exact (LC.raise_length ..).trans hlen
    rw [State.noteBin_lc, if_pos (by rw [hcu]; exact hhigh)]
    exact (LC.raise_tells_new (LC.tells_nil hlen') (by decide) _).pending

/-- A drop that is not sensed in time: the record closed DROP_FAULT, the unit in FAULT, the jam reported (R133). -/
theorem State.dropFails_ends (hq : h.seq = some q) (ho : s.cu.owed = none) (hf : s.jn.failed = false) (hlen : s.lc.conds.length = 69) :
    (s.dropFails h).now = s.now ∧ (s.dropFails h).cu = { s.cu with state := .fault, hand := some { h with due := none } } ∧
      ((s.dropFails h).zone .envelopeJam).cause = true ∧ (s.dropFails h).carrier h.bay = (s.carrier h.bay).uncaptured ∧
      (s.dropFails h).lc.isPending 61 = true ∧ ∃ more, (s.dropFails h).jn.queue.map (·.work) =
        s.jn.queue.map (·.work) ++ Work.change ⟨q, [], { h.stampFlag with dropFault := true }, true⟩ :: more := by
  obtain ⟨jn, hchange, hqueue⟩ := State.changeRecord_hands ho hf (h.closeWith { h.stampFlag with dropFault := true })
  generalize hv : (({ s with jn := jn } : State).releaseCapturing h.bay).modCU (fun cu =>
    { cu with state := .fault, hand := some { h with due := none } }) = v
  have hfails : s.dropFails h = (v.setCause .envelopeJam true).raise .captureFault (captureSnapshot h 2) := by
    unfold State.dropFails
    dsimp only
    rw [hchange, ← hv]
  have hcu : v.cu = { s.cu with state := .fault, hand := some { h with due := none } } := by rw [← hv]; rfl
  have hcarrier : v.carrier h.bay = (s.carrier h.bay).uncaptured := by
    rw [← hv]
    exact (State.releaseCapturing_carrier ..).trans (if_pos rfl)
  have hrest : v.jn = jn ∧ v.lc = s.lc ∧ v.now = s.now := by rw [← hv]; exact ⟨rfl, rfl, rfl⟩
  obtain ⟨hjn, hlc, hnow⟩ := hrest
  obtain ⟨more, hmore⟩ := State.envelopeJam_grows v
  have htold : (v.setCause .envelopeJam true).lc.Tells [] := State.setCause_tells v _ _ (LC.tells_nil (hlc ▸ hlen))
  have htd : (v.setCause .envelopeJam true).td = v.td := (State.setCause_other (z := .envelopeJam) nofun v true).2
  rw [hfails]
  refine ⟨Eq.trans (by simp) hnow, Eq.trans (by simp) hcu, State.setCause_zone v _ _, ?_, (LC.raise_tells_new htold (by decide) _).pending,
    more.map (·.work), ?_⟩
  · rw [← hcarrier]
    exact congrArg (fun td : TD => td.carriers.get h.bay) htd
  · show (v.setCause .envelopeJam true).jn.queue.map (·.work) = _
    rw [hmore, hjn, hqueue, List.map_append, List.map_append, List.append_assoc]
    refine congrArg (fun w => s.jn.queue.map (·.work) ++ w :: more.map (·.work)) ?_
    show CaptureChange.work _ = _
    unfold CaptureChange.work Capture.closeWith
    dsimp only
    rw [hq]
    rfl

end

/-- Settles O52: the capture's sequence, event by event. -/
theorem captureRunsToItsEnd : Obligations.CaptureRunsToItsEnd := by
  intro h due q s hrun hh hq hopen ho hf hlen
  have hon := State.on_of_running hrun
  refine ⟨fun hst hret => ⟨fun hp => ?_, fun hp => ?_, fun hdue => ?_⟩, fun why hst hret hdue hres => ?_, fun hst => ⟨?_, fun c now hc => ?_⟩,
    fun hst hres => ⟨?_, fun hdue => ?_⟩, fun hst => ⟨fun hu => ?_, fun hu => ?_⟩⟩
  · refine exec_event_to rfl rfl hon ?_
    show s.onArmRelease = _
    unfold State.onArmRelease
    rw [hst, hh]
    exact (if_pos hret).trans (if_pos hp)
  · obtain ⟨jn, hstamped, hqueue⟩ := State.stamped_without hq ho hf
    have hgoes : s.onArmRelease = s.stamped h false := by
      unfold State.onArmRelease
      rw [hst, hh]
      exact (if_pos hret).trans (if_neg (by rw [hp]; exact nofun))
    rw [hstamped] at hgoes
    refine ⟨_, exec_event_to rfl rfl hon hgoes, ?_⟩
    simp only [State.finish_frame]
    exact ⟨trivial, hqueue⟩
  · refine exec_event_to rfl rfl hon ?_
    show s.onLiftTimeout = _
    unfold State.onLiftTimeout
    rw [hst, hh]
    dsimp only
    rw [hret, hdue]
    rfl
  · have hgoes : s.onArmReturnEnd = (s.reach due).returned h why := by
      unfold State.onArmReturnEnd
      rw [hst, hh]
      dsimp only
      rw [hret, hdue]
    obtain ⟨-, -, -, hcarrier, hleft⟩ := State.captureAborted_leaves (s := s.reach due) hq
    obtain ⟨hcu, p, hqueue, hwork⟩ := hleft ho hf
    have hlc : ((s.reach due).captureAborted h).lc = s.lc := by simp
    have hnow : ((s.reach due).captureAborted h).now = max s.now due := by simp
    have hback := (hcarrier h.bay).trans ((if_pos rfl).trans (Carrier.uncaptured_of hres))
    have hqueued : ((s.reach due).captureAborted h).jn.queue.map (·.work) = s.jn.queue.map (·.work) ++ [abortWork q] := by
      rw [hqueue, List.map_append, List.map_singleton, hwork]
      rfl
    unfold State.returned at hgoes
    dsimp only at hgoes
    generalize (s.reach due).captureAborted h = v at *
    have htold : v.lc.Tells [] := LC.tells_nil (hlc ▸ hlen)
    cases why with
    | liftFailed =>
      refine ⟨_, exec_event_to rfl rfl hon hgoes, ?_⟩
      simp only [State.finish_frame, State.finish_carrier, State.finish_isPending]
      exact ⟨hnow, hcu, hback, hqueued, fun _ => (LC.raise_tells_new htold (by decide) _).pending, nofun⟩
    | aborted =>
      refine ⟨_, exec_event_to rfl rfl hon hgoes, ?_⟩
      simp only [State.finish_frame, State.finish_carrier, State.finish_isPending]
      exact ⟨hnow, hcu, hback, hqueued, nofun, fun _ => (LC.raise_tells_new htold (by decide) _).pending⟩
  · refine exec_event_to rfl rfl hon ?_
    show s.onPrintReport true = _
    unfold State.onPrintReport
    rw [hst, hh]
    rfl
  · have hstamps : ∃ u : State, u.now = now ∧ u.cu = s.cu ∧ u.jn = s.jn ∧ exec c s = .next (u.stamped h false).finish := by
      rcases hc with ⟨rfl, rfl⟩ | ⟨rfl, hdue, rfl⟩
      · refine ⟨s, rfl, rfl, rfl, exec_event_to rfl rfl hon ?_⟩
        show s.onPrintReport false = _
        unfold State.onPrintReport
        rw [hst, hh]
      · refine ⟨s.reach due, rfl, rfl, rfl, exec_event_to rfl rfl hon ?_⟩
        show s.onPrintTimeout = _
        unfold State.onPrintTimeout
        rw [hst, hh]
        dsimp only
        rw [hdue]
    obtain ⟨u, rfl, hcu, hjn, hexec⟩ := hstamps
    obtain ⟨jn, hstamped, hqueue⟩ := State.stamped_without (s := u) hq (hcu ▸ ho) (hjn ▸ hf)
    rw [hstamped] at hexec
    refine ⟨_, hexec, ?_⟩
    simp only [State.finish_frame, ← hcu, ← hjn]
    exact ⟨trivial, trivial, hqueue⟩
  · have hgoes : s.onDropSensed = s.dropped h := by
      unfold State.onDropSensed
      rw [hst, hh]
    obtain ⟨hcu, hcarrier, hqueue, hshot, hhigh⟩ := State.dropped_ends hq ho hf hlen
    rw [Carrier.uncaptured_of hres] at hcarrier
    refine ⟨_, exec_event_to rfl rfl hon hgoes, ?_⟩
    simp only [State.finish_frame, State.finish_carrier, State.finish_isPending, State.finish_conds]
    exact ⟨hcu, hcarrier, hqueue, hshot, hhigh⟩
  · have hgoes : s.onDropTimeout = (s.reach due).dropFails h := by
      unfold State.onDropTimeout
      rw [hst, hh]
      dsimp only
      rw [hdue]
    obtain ⟨hnow, hcu, hcause, hcarrier, htold, hqueue⟩ := State.dropFails_ends (s := s.reach due) hq ho hf hlen
    rw [Carrier.uncaptured_of (c := (s.reach due).carrier h.bay) hres] at hcarrier
    refine ⟨_, exec_event_to rfl rfl hon hgoes, ?_⟩
    simp only [State.finish_frame, State.finish_carrier, State.finish_isPending, State.finish_zone, hcu]
    exact ⟨hnow, trivial, trivial, rfl, hcause, hcarrier, htold, hqueue⟩
  · refine exec_event_to rfl rfl hon ?_
    show s.onDropSensed = _
    unfold State.onDropSensed
    rw [hst, hh]
    exact if_neg (by rw [hu]; exact nofun)
  · have hgoes : s.onDropSensed = s.droppedLate h := by
      unfold State.onDropSensed
      rw [hst, hh]
      exact if_pos hu
    refine ⟨_, exec_event_to rfl rfl hon hgoes, ?_⟩
    simp only [State.finish_frame, State.droppedLate, State.noteBin_frame]
    exact ⟨rfl, rfl, rfl⟩

/-! ## The bin (R124, R125, R139) -/

section
variable {s : State} {tag : Nat}

theorem State.binTo_tells {told : List Nat} (ht : s.lc.Tells told) {st : BinState} (h : s.cu.bin.state ≠ st) :
    (s.binTo st).lc.Tells (63 :: told) := by
  unfold State.binTo
  rw [if_neg h]
  exact LC.raise_tells_new ht (by decide) _

/-- The bin door at a new level, noted in a pending exchange where it opens (R139). -/
def State.binDoored (s : State) (closed : Bool) : State :=
  s.modCU fun cu => { cu with binDoorClosed := closed, exchange := cu.exchange.map fun e => { e with doorOpened := e.doorOpened || !closed } }

/-- A change of the bin door's level after the scan, with what it makes of the bin (R124). -/
theorem State.binDoor_moves {closed : Bool} {st : BinState} (hrun : s.phase = .running) (hlevel : s.cu.binDoorClosed ≠ closed)
    (hst : (closed = false ∧ s.cu.bin.state ∈ [BinState.confirmed, .unconfirmed] ∧ st = .doorOpen) ∨
      (closed = true ∧ s.cu.bin.state = .doorOpen ∧ s.cu.binPresent = true ∧ st = .unconfirmed)) :
    s.binDoor closed = ((s.binDoored closed).binTo st).setCause .binDoor (!closed) ∧ s.cu.bin.state ≠ st := by
  have hscanned : (s.binDoored closed).scanned = true := by
    show (s.powered && s.phase != .startUp .scan) = true
    simp [State.powered, hrun]
  have hunfold : s.binDoor closed = (if (s.binDoored closed).scanned then
        match (s.binDoored closed).cu.bin.state with
        | .confirmed => if closed then s.binDoored closed else (s.binDoored closed).binTo .doorOpen
        | .unconfirmed => if closed then s.binDoored closed else (s.binDoored closed).binTo .doorOpen
        | .doorOpen => if closed ∧ (s.binDoored closed).cu.binPresent then (s.binDoored closed).binTo .unconfirmed else s.binDoored closed
        | .removed => s.binDoored closed
      else s.binDoored closed).setCause .binDoor (!closed) := if_neg hlevel
  rw [hunfold, if_pos hscanned]
  obtain ⟨rfl, hbin, rfl⟩ | ⟨rfl, hbin, hpresent, rfl⟩ := hst
  · obtain hbin | hbin := List.mem_pair.mp hbin
    · exact ⟨by rw [show (s.binDoored false).cu.bin.state = .confirmed from hbin]; rfl, by rw [hbin]; exact nofun⟩
    · exact ⟨by rw [show (s.binDoored false).cu.bin.state = .unconfirmed from hbin]; rfl, by rw [hbin]; exact nofun⟩
  · refine ⟨?_, by rw [hbin]; exact nofun⟩
    rw [show (s.binDoored true).cu.bin.state = .doorOpen from hbin]
    dsimp only
    rw [if_pos ⟨rfl, hpresent⟩]

theorem State.binSensor_moves {present : Bool} {before after : BinState} (hrun : s.phase = .running) (hb : s.cu.bin.state = before)
    (h : (before = .doorOpen ∧ present = false ∧ after = .removed) ∨ (before = .removed ∧ present = true ∧ after = .doorOpen)) :
    s.binSensor present = (s.modCU fun cu => { cu with binPresent := present }).binTo after ∧ before ≠ after := by
  have hscanned : (s.modCU fun cu => { cu with binPresent := present }).scanned = true := by
    show (s.powered && s.phase != .startUp .scan) = true
    simp [State.powered, hrun]
  unfold State.binSensor
  dsimp only
  rw [if_pos hscanned]
  obtain ⟨rfl, rfl, rfl⟩ | ⟨rfl, rfl, rfl⟩ := h
  · rw [show (s.modCU fun cu => { cu with binPresent := false }).cu.bin.state = .doorOpen from hb]
    exact ⟨rfl, nofun⟩
  · rw [show (s.modCU fun cu => { cu with binPresent := true }).cu.bin.state = .removed from hb]
    exact ⟨rfl, nofun⟩

/-- The end of an exchange's record: the count at 0, the bin CONFIRMED where its door has stayed shut (R139). -/
theorem State.binExchangeEnds_made {e : Exchange} (he : s.cu.exchange = some e) :
    (s.binExchangeEnds true).cu = { s.cu with exchange := none, bin := { s.cu.bin with
        count := 0
        state := if s.cu.bin.state = .unconfirmed ∧ e.doorOpened = false then .confirmed else s.cu.bin.state } } ∧
      (s.binExchangeEnds true).lc.replies = s.lc.replies ++ [answer 0x3C e.tag (0x00#8 :: u16 e.outgoing)] ∧
      (s.binExchangeEnds true).phase = s.phase := by
  generalize hv : s.modCU (fun cu => { cu with exchange := none, bin := { cu.bin with count := 0 } }) = v
  have hends : s.binExchangeEnds true = (if v.cu.bin.state = .unconfirmed ∧ e.doorOpened = false then v.binTo .confirmed
      else v).replied 0x3C e.tag (0x00#8 :: u16 e.outgoing) := by
    rw [← hv]
    unfold State.binExchangeEnds
    rw [he]
    dsimp only
    rw [if_pos rfl]
    exact State.ok_replied rfl ..
  have hcu : v.cu = { s.cu with exchange := none, bin := { s.cu.bin with count := 0 } } := by rw [← hv]; rfl
  have hrest : v.lc.replies = s.lc.replies ∧ v.phase = s.phase := by rw [← hv]; exact ⟨rfl, rfl⟩
  obtain ⟨hreplies, hphase⟩ := hrest
  have hstate : v.cu.bin.state = s.cu.bin.state := by rw [hcu]
  rw [hends, hstate]
  by_cases hc : s.cu.bin.state = .unconfirmed ∧ e.doorOpened = false
  · rw [if_pos hc, if_pos hc]
    refine ⟨(State.binTo_cu v .confirmed).trans (by rw [hcu]), ?_, ?_⟩
    · rw [← hreplies]
      simp [State.replied]
    · rw [← hphase]
      simp [State.replied]
  · rw [if_neg hc, if_neg hc]
    exact ⟨hcu, congrArg (· ++ _) hreplies, hphase⟩

/-! ## The capture requests (R136 to R140) -/

theorem State.ownBinExchanged_eq : State.ownBinExchanged tag s =
    if s.cu.engaged then s.refuse 0x3C tag .busy []
    else if s.cu.bin.state ≠ .unconfirmed ∨ s.cu.exchange.isSome then s.refuse 0x3C tag .wrongState []
    else if s.jn.takesOrdinary = false then s.refuse 0x3C tag .journalUnavailable []
    else if (s.append .binExchange .binExchange 0 (u16 s.cu.bin.count ++ u32 s.cu.set.lastGiven) false true).2 then
      (s.append .binExchange .binExchange 0 (u16 s.cu.bin.count ++ u32 s.cu.set.lastGiven) false true).1.modCU fun cu =>
        { cu with exchange := some { tag := tag, outgoing := cu.bin.count, doorOpened := false } }
    else (s.append .binExchange .binExchange 0 (u16 s.cu.bin.count ++ u32 s.cu.set.lastGiven) false true).1.refuse 0x3C tag
      .journalUnavailable [] := rfl

/-- A confirm takes the bin up, or finds its state or an exchange against it (R140). -/
theorem State.ownBinConfirm_cases :
    (s.cu.exchange ≠ none ∨ s.cu.bin.state ∈ [BinState.doorOpen, .removed] →
      State.ownBinConfirm tag s = s.refuse 0x3D tag .wrongState []) ∧
    (s.cu.exchange = none → s.cu.bin.state ∈ [BinState.confirmed, .unconfirmed] → State.ownBinConfirm tag s =
      (s.binTo .confirmed).replied 0x3D tag (0x00#8 :: 0x01#8 :: u16 s.cu.bin.count)) := by
  have htaken : (s.binTo .confirmed).ok 0x3D tag (u8 (s.binTo .confirmed).cu.bin.state.code ++ u16 (s.binTo .confirmed).cu.bin.count) =
      (s.binTo .confirmed).replied 0x3D tag (0x00#8 :: 0x01#8 :: u16 s.cu.bin.count) := by
    rw [State.ok_replied rfl, State.binTo_cu]
    rfl
  unfold State.ownBinConfirm
  refine ⟨fun h => ?_, fun he hst => ?_⟩
  · split
    · rfl
    · next he =>
      have hst : s.cu.bin.state = .doorOpen ∨ s.cu.bin.state = .removed := by
        refine h.elim (fun h => absurd (Option.isSome_iff_ne_none.mpr h) he) fun h => List.mem_pair.mp h
      rcases hst with hst | hst <;> rw [hst]
  · rw [if_neg (by rw [he]; exact nofun)]
    obtain hst | hst := List.mem_pair.mp hst <;> rw [hst] <;> exact htaken

/-- The clear of a FAULT (R136). -/
theorem State.clearFault_ends {h : Capture} {inBin : Bool} :
    (s.clearFault tag h inBin).cu = { s.cu with
        state := .idle, hand := none, lateDrop := false
        bin := { s.cu.bin with count := s.cu.bin.count + if h.uncounted = true ∧ inBin = true then 1 else 0 } } ∧
      ((s.clearFault tag h inBin).zone .envelopeJam).cause = false ∧
      (s.clearFault tag h inBin).lc.replies = s.lc.replies ++ [answer 0x39 tag (0x00#8 ::
        (u8 (if h.uncounted then (if inBin then 1 else 2) else 3) ++
          u16 (s.cu.bin.count + if h.uncounted = true ∧ inBin = true then 1 else 0)))] := by
  generalize hv : (if h.uncounted ∧ inBin then s.countEnvelope.noteBin else s).modCU (fun cu =>
    { cu with hand := none, lateDrop := false, state := .idle }) = v
  have hclear : s.clearFault tag h inBin = (v.setCause .envelopeJam false).replied 0x39 tag (0x00#8 ::
      (u8 (if h.uncounted then (if inBin then 1 else 2) else 3) ++ u16 (v.setCause .envelopeJam false).cu.bin.count)) := by
    rw [← hv]
    unfold State.clearFault
    dsimp only
    rw [State.ok_replied rfl]
    simp
  have hcu : v.cu = { s.cu with
      state := .idle, hand := none, lateDrop := false
      bin := { s.cu.bin with count := s.cu.bin.count + if h.uncounted = true ∧ inBin = true then 1 else 0 } } := by
    rw [← hv]
    split
    · show { s.countEnvelope.noteBin.cu with hand := none, lateDrop := false, state := .idle } = _
      simp only [State.noteBin_frame]
      rfl
    · rfl
  have hreplies : v.lc.replies = s.lc.replies := by
    rw [← hv]
    split
    · show s.countEnvelope.noteBin.lc.replies = _
      simp
    · rfl
  have hkept : (v.setCause .envelopeJam false).cu = v.cu := by simp
  have hanswers : (v.setCause .envelopeJam false).lc.replies = v.lc.replies := by simp
  rw [hclear]
  refine ⟨hkept.trans hcu, State.setCause_zone v _ _, ?_⟩
  rw [hkept, hcu]
  show (v.setCause .envelopeJam false).lc.replies ++ _ = _
  rw [hanswers, hreplies]

/-- New settings, the capacity at or above what the bin must hold (R125, R138). -/
theorem State.ownCaptureSettings_applies {required : Bool} {stamp capacity : Nat} (hst : stampOf stamp = some required) :
    (State.ownCaptureSettings tag stamp capacity s).cu = { s.cu with
        set := { s.cu.set with stampRequired := required }, bin := { s.cu.bin with capacity := s.cu.applied capacity } } ∧
      (State.ownCaptureSettings tag stamp capacity s).lc.replies = s.lc.replies ++ [answer 0x3B tag
        (0x00#8 :: (u8 (if required then 1 else 2) ++ u16 (s.cu.applied capacity)))] ∧
      (State.ownCaptureSettings tag stamp capacity s).jn = s.jn := by
  generalize hv : s.modCU (fun cu =>
      { cu with set := { cu.set with stampRequired := required }, bin := { cu.bin with capacity := cu.applied capacity } }) = v
  generalize hw : (if v.cu.bin.capacity = s.cu.bin.capacity then v else v.noteBin) = w
  have hown : State.ownCaptureSettings tag stamp capacity s =
      w.replied 0x3B tag (0x00#8 :: (u8 (if required then 1 else 2) ++ u16 w.cu.bin.capacity)) := by
    rw [← hw, ← hv]
    unfold State.ownCaptureSettings
    rw [hst]
    exact State.ok_replied rfl ..
  have hwv : w.cu = v.cu ∧ w.jn = v.jn ∧ w.lc.replies = v.lc.replies := by
    rw [← hw]
    split <;> simp
  obtain ⟨hcu, hjn, hreplies⟩ := hwv
  rw [hown]
  refine ⟨hcu.trans (by rw [← hv]; rfl), ?_, hjn.trans (by rw [← hv]; rfl)⟩
  show w.lc.replies ++ _ = _
  rw [hreplies, hcu, ← hv]
  rfl

end

theorem dispositionOf_named {d : Nat} (h : d = 1 ∨ d = 2) : dispositionOf d = some (d == 1) := by
  rcases h with rfl | rfl <;> rfl

theorem dispositionOf_none {d : Nat} (h1 : d ≠ 1) (h2 : d ≠ 2) : dispositionOf d = none := by
  match d, h1, h2 with
  | 0, _, _ => rfl
  | 1, h, _ => exact absurd rfl h
  | 2, _, h => exact absurd rfl h
  | _ + 3, _, _ => rfl

theorem stampOf_named {n : Nat} (h : n = 1 ∨ n = 2) : stampOf n = some (n == 1) ∧ (if (n == 1) = true then 1 else 2) = n := by
  rcases h with rfl | rfl <;> exact ⟨rfl, rfl⟩

theorem stampOf_none {n : Nat} (h1 : n ≠ 1) (h2 : n ≠ 2) : stampOf n = none := by
  match n, h1, h2 with
  | 0, _, _ => rfl
  | 1, h, _ => exact absurd rfl h
  | 2, _, h => exact absurd rfl h
  | _ + 3, _, _ => rfl

/-- Settles O53: the bin's sensors and its exchange, and the capture requests. -/
theorem binAndCaptureRequestsAct : Obligations.BinAndCaptureRequestsAct := by
  refine ⟨fun s hrun hlen => ⟨fun ready => ?_, fun hd hst => ?_, fun hd hst hp => ?_, fun before after present h hb => ?_,
      fun p rest r place e hbusy hq hown hw hf he => ?_⟩,
    fun tag s hs => ⟨fun d h1 h2 => ?_, fun d hd => ⟨fun hst hh => ?_, fun hst => ?_, fun h count hst hh hcount => ?_⟩,
      fun stamp capacity h1 h2 => ?_, fun stamp capacity applied hstamp happ => ?_, fun h => ?_, fun he hst => ?_, fun hst => ?_,
      fun hst hopen => ?_⟩⟩
  · exact exec_event_to rfl rfl (State.on_of_running hrun) rfl
  · obtain ⟨hmoves, hne⟩ := State.binDoor_moves (closed := false) hrun (by rw [hd]; exact nofun) (.inl ⟨rfl, hst, rfl⟩)
    have hcu := State.binTo_cu (s.binDoored false) .doorOpen
    have htold := State.setCause_tells ((s.binDoored false).binTo .doorOpen) .binDoor true
      (State.binTo_tells (s := s.binDoored false) (LC.tells_nil hlen) hne)
    have hcause := State.setCause_zone ((s.binDoored false).binTo .doorOpen) .binDoor true
    have hkept : (((s.binDoored false).binTo .doorOpen).setCause .binDoor true).cu = ((s.binDoored false).binTo .doorOpen).cu := by simp
    rw [hcu] at hkept
    refine ⟨_, exec_event_to rfl rfl (State.on_of_running hrun) hmoves, ?_⟩
    simp only [State.finish_frame, State.finish_isPending, State.finish_zone, Bool.not_false, hkept]
    refine ⟨rfl, ?_, rfl, hcause, htold.pending, rfl⟩
    refine congrArg (fun f => s.cu.exchange.map f) (funext fun e => ?_)
    simp
  · obtain ⟨hmoves, hne⟩ := State.binDoor_moves (closed := true) hrun (by rw [hd]; exact nofun) (.inr ⟨rfl, hst, hp, rfl⟩)
    have hcu := State.binTo_cu (s.binDoored true) .unconfirmed
    have htold := State.setCause_tells ((s.binDoored true).binTo .unconfirmed) .binDoor false
      (State.binTo_tells (s := s.binDoored true) (LC.tells_nil hlen) hne)
    have hcause := State.setCause_zone ((s.binDoored true).binTo .unconfirmed) .binDoor false
    have hkept : (((s.binDoored true).binTo .unconfirmed).setCause .binDoor false).cu = ((s.binDoored true).binTo .unconfirmed).cu := by
      simp
    rw [hcu] at hkept
    refine ⟨_, exec_event_to rfl rfl (State.on_of_running hrun) hmoves, ?_⟩
    simp only [State.finish_frame, State.finish_isPending, State.finish_zone, Bool.not_true, hkept]
    exact ⟨rfl, hcause, htold.pending⟩
  · obtain ⟨hmoves, hne⟩ := State.binSensor_moves hrun hb h
    have htold := State.binTo_tells (s := s.modCU fun cu => { cu with binPresent := present }) (LC.tells_nil hlen) (st := after)
      (by rw [show (s.modCU fun cu => { cu with binPresent := present }).cu.bin.state = before from hb]; exact hne)
    refine ⟨_, exec_event_to rfl rfl (State.on_of_running hrun) hmoves, ?_⟩
    simp only [State.finish_frame, State.finish_isPending]
    exact ⟨State.binTo_cu .., htold.pending⟩
  · have ha : s.appending .binExchange r := (s.appending_iff _ _).mpr ⟨p, rest, place.1, place.2, hbusy, hq, hown, hw, hf⟩
    obtain ⟨jn, p', ho, -, -, -, hmade⟩ := exec_appendMade_queue hrun ha
    have htell : ({ s with jn := jn } : State).tellOwner p' true = ({ s with jn := jn } : State).binExchangeEnds true := by
      unfold State.tellOwner
      rw [ho]
    obtain ⟨hcu, hreplies, hphase⟩ := State.binExchangeEnds_made (s := { s with jn := jn }) he
    rw [htell] at hmade
    refine ⟨_, hmade (hphase.trans hrun), ?_⟩
    simp only [State.finish_frame, State.jnRun_frame]
    exact ⟨hcu, hreplies⟩
  · refine exec_serves_to rfl hs ?_
    rw [← State.counted_refuse rfl]
    show s.counted.ownCaptureClear tag d = _
    unfold State.ownCaptureClear
    rw [dispositionOf_none h1 h2]
  · refine exec_serves_to rfl hs ?_
    show s.counted.ownCaptureClear tag d = _
    unfold State.ownCaptureClear
    rw [dispositionOf_named hd, show s.counted.cu.state = .idle from hst, show s.counted.cu.hand = none from hh]
    exact State.ok_replied rfl ..
  · refine exec_serves_to rfl hs ?_
    rw [← State.counted_refuse rfl]
    show s.counted.ownCaptureClear tag d = _
    unfold State.ownCaptureClear
    rw [dispositionOf_named hd]
    dsimp only
    have hst' : s.counted.cu.state ∈ [CUState.lifting, .stamping, .dropping] := hst
    split
    · next hfault _ => exact absurd hst' (by rw [hfault]; decide)
    · next hidle _ => exact absurd hst' (by rw [hidle]; decide)
    · rfl
  · have hown : s.counted.ownCaptureClear tag d = s.counted.clearFault tag h (d == 1) := by
      unfold State.ownCaptureClear
      rw [dispositionOf_named hd, show s.counted.cu.state = .fault from hst, show s.counted.cu.hand = some h from hh]
    obtain ⟨hcu, hcause, hreplies⟩ := State.clearFault_ends (s := s.counted) (tag := tag) (h := h) (inBin := d == 1)
    have hcode : (if d = 1 then 1 else 2) = d := by rcases hd with rfl | rfl <;> rfl
    simp only [beq_iff_eq, hcode] at hcu hreplies
    refine ⟨_, exec_serves_to rfl hs hown, ?_⟩
    simp only [State.finish_frame, State.finish_zone, hcu, hcause, hreplies, hcount]
    exact ⟨rfl, trivial, rfl⟩
  · refine exec_serves_to rfl hs ?_
    rw [← State.counted_refuse rfl]
    show s.counted.ownCaptureSettings tag stamp capacity = _
    unfold State.ownCaptureSettings
    rw [stampOf_none h1 h2]
  · obtain ⟨hcu, hreplies, hjn⟩ := State.ownCaptureSettings_applies (s := s.counted) (tag := tag) (capacity := capacity)
      (stampOf_named hstamp).1
    simp only [(stampOf_named hstamp).2] at hreplies
    have happlied : s.counted.cu.applied capacity = applied := happ.symm
    rw [happlied] at hcu hreplies
    refine ⟨_, exec_serves_to rfl hs rfl, ?_⟩
    simp only [State.finish_frame]
    exact ⟨hcu, hreplies, hjn⟩
  · exact exec_serves_to rfl hs ((State.ownBinConfirm_cases (s := s.counted).1 h).trans (State.counted_refuse rfl ..))
  · have hcu := State.binTo_cu s.counted .confirmed
    refine ⟨_, exec_serves_to rfl hs (State.ownBinConfirm_cases (s := s.counted).2 he hst), ?_⟩
    simp only [State.finish_frame]
    exact ⟨hcu, congrArg (· ++ _) (by simp [State.counted])⟩
  · have hbusy : s.counted.cu.engaged = true := by
      simp only [List.mem_cons, List.not_mem_nil, or_false] at hst
      rcases hst with h | h | h <;> simp [CU.engaged, State.counted, h]
    exact exec_serves_to rfl hs ((State.ownBinExchanged_eq (s := s.counted).trans (if_pos hbusy)).trans (State.counted_refuse rfl ..))
  · have hfree : ¬ s.counted.cu.engaged = true := by
      have hno : s.cu.opening = false := by
        rw [CU.opening, Option.any_eq_false]
        exact fun h hh => by rw [hopen h hh]; rfl
      rcases List.mem_pair.mp hst with h | h <;> simp [CU.engaged, State.counted, h, hno]
    have heq := (State.ownBinExchanged_eq (s := s.counted) (tag := tag)).trans (if_neg hfree)
    refine ⟨fun h => ?_, fun hst he h => ?_, fun hst he hf hr hx => ?_⟩
    · exact exec_serves_to rfl hs ((heq.trans (if_pos (h.imp_right Option.isSome_iff_ne_none.mpr))).trans (State.counted_refuse rfl ..))
    all_goals
      have hready : ¬ (s.counted.cu.bin.state ≠ .unconfirmed ∨ s.counted.cu.exchange.isSome = true) := by
        rw [show s.counted.cu.bin.state = .unconfirmed from hst, show s.counted.cu.exchange = none from he]
        exact fun h => h.elim (fun h => h rfl) nofun
      rw [if_neg hready] at heq
    · exact exec_serves_to rfl hs ((heq.trans (if_pos (JN.takesOrdinary_not h))).trans (State.counted_refuse rfl ..))
    · obtain ⟨htaken, hqueue, -⟩ := State.append_taken (s := s.counted) hf hr hx .binExchange (kind := .binExchange) rfl 0
        (u16 s.counted.cu.bin.count ++ u32 s.counted.cu.set.lastGiven) false true
      have hcu : (s.counted.append .binExchange .binExchange 0 (u16 s.counted.cu.bin.count ++ u32 s.counted.cu.set.lastGiven)
        false true).1.cu = s.cu := by simp [State.counted]
      rw [if_neg (by rw [show s.counted.jn.takesOrdinary = true from JN.takesOrdinary_yes hf hr]; exact nofun), if_pos htaken] at heq
      generalize (s.counted.append .binExchange .binExchange 0 (u16 s.counted.cu.bin.count ++ u32 s.counted.cu.set.lastGiven)
        false true).1 = v at *
      refine ⟨_, exec_serves_to rfl hs heq, ?_⟩
      simp only [State.finish_frame]
      refine ⟨?_, hqueue⟩
      show { v.cu with exchange := some ⟨tag, v.cu.bin.count, false⟩ } = _
      rw [hcu]

end Sys2Proof.Machine
end

section
/-! Journal: the ends of programs, retries and the entry into FAILED (O54) -/

namespace Sys2Proof.Machine

/-! ## What the engine keeps while programs end and others are handed over (R149, R153) -/

theorem JN.target_congr {a b : JN} (hs : b.segs = a.segs) (hf : b.filling = a.filling) (w : Work) : b.target w = a.target w := by
  have hadv : b.advance.filling = a.advance.filling := by
    have hseg : ∀ i, b.seg i = a.seg i := fun i => by simp only [JN.seg, hs]
    have hnext : ∀ i, b.nextErased i = a.nextErased i := fun i => by simp only [JN.nextErased, JN.firstErased, hseg]
    unfold JN.advance
    rw [hf]
    cases a.filling with
    | none => exact hf
    | some f =>
      obtain ⟨i, n⟩ := f
      dsimp only
      rw [hnext]
      split
      · exact hf
      · cases a.nextErased i with
        | none => exact hf
        | some j => rfl
  cases w with
  | append r => exact hadv
  | change c => simp only [JN.target, JN.find, hs]
  | mark q => simp only [JN.target, JN.find, hs]
  | voidSlot i k => rfl

theorem JN.works_congr {a b : JN} (hs : b.segs = a.segs) (hf : b.filling = a.filling) (w : Work) (bank : AB) :
    b.works w bank = a.works w bank := by simp only [JN.works, JN.target_congr hs hf]

/-- A read that waits goes first: while a program is in progress the read has started, and the two share no bank (R153). -/
def JN.yields (jn : JN) (job : ReadJob) : Prop :=
  jn.busy = true → jn.reading = true ∧ ∃ p, jn.queue.head? = some p ∧
    ∀ bank, jn.works p.work bank = true → job.uses bank = true → False

/-- What a journal keeps of another from which owners and engine lead to it. -/
structure JN.Serves (a b : JN) : Prop where
  mem : b.mem = a.mem
  failures : b.failures = a.failures
  failed : b.failed = a.failed
  reads : b.reads = a.reads
  room : ∀ i k, a.filling = some (i, k) → k < 128 → b.filling = a.filling ∧ b.segs = a.segs
  ring : ∀ i k, a.filling = some (i, k) → (b.seg i).records = (a.seg i).records ∧
    ((b.filling = a.filling ∧ b.segs = a.segs) ∨ ∃ j, b.filling = some (j, 0))
  yields : ∀ job more, a.reads = job :: more → a.yields job → b.yields job

theorem JN.serves_refl (a : JN) : a.Serves a :=
  ⟨rfl, rfl, rfl, rfl, fun _ _ _ _ => ⟨rfl, rfl⟩, fun _ _ _ => ⟨rfl, .inl ⟨rfl, rfl⟩⟩, fun _ _ _ h => h⟩

theorem JN.Serves.trans {a b c : JN} (h : a.Serves b) (h' : b.Serves c) : a.Serves c where
  mem := h'.mem.trans h.mem
  failures := h'.failures.trans h.failures
  failed := h'.failed.trans h.failed
  reads := h'.reads.trans h.reads
  room i k hf hk := by
    obtain ⟨hfill, hsegs⟩ := h.room i k hf hk
    obtain ⟨hfill', hsegs'⟩ := h'.room i k (hfill.trans hf) hk
    exact ⟨hfill'.trans hfill, hsegs'.trans hsegs⟩
  ring i k hf := by
    obtain ⟨hrec, hring⟩ := h.ring i k hf
    rcases hring with ⟨hfill, hsegs⟩ | ⟨j, hj⟩
    · obtain ⟨hrec', hring'⟩ := h'.ring i k (hfill.trans hf)
      refine ⟨hrec'.trans hrec, hring'.imp_left fun ⟨hfill', hsegs'⟩ => ⟨hfill'.trans hfill, hsegs'.trans hsegs⟩⟩
    · obtain ⟨hfill', hsegs'⟩ := h'.room j 0 hj (by omega)
      exact ⟨by rw [JN.seg, hsegs']; exact hrec, .inr ⟨j, hfill'.trans hj⟩⟩
  yields job more hr hy := h'.yields job more (h.reads.trans hr) (h.yields job more hr hy)

/-- The ring's advance empties another segment than the one that is full (R144). -/
theorem JN.nextErased_ne {jn : JN} {i j : Nat} (h : jn.nextErased i = some j) : j ≠ i := by
  have hin := List.mem_of_find?_eq_some (show List.find? _ _ = some j from h)
  obtain ⟨k, hk, rfl⟩ := List.mem_map.mp hin
  have hk' : k < 15 := List.mem_range.mp hk
  simp only [Config.segments]
  omega

theorem JN.advance_ring (jn : JN) {i k : Nat} (hf : jn.filling = some (i, k)) :
    (jn.advance.seg i).records = (jn.seg i).records ∧
      ((jn.advance.filling = jn.filling ∧ jn.advance.segs = jn.segs) ∨ ∃ j, jn.advance.filling = some (j, 0)) := by
  rcases jn.advance_cases with h | ⟨i', n, j, hf', hj, h⟩
  · rw [h]
    exact ⟨rfl, .inl ⟨rfl, rfl⟩⟩
  · obtain rfl : i' = i := congrArg Prod.fst (Option.some.inj (hf'.symm.trans hf))
    rw [h]
    refine ⟨?_, .inr ⟨j, rfl⟩⟩
    rcases jn.advanced_seg i' j i' with ⟨hij, -⟩ | ⟨-, hseg⟩ | hseg
    · exact absurd hij.symm (JN.nextErased_ne hj)
    · rw [hseg]
    · rw [hseg]

theorem JN.advance_advance (jn : JN) : jn.advance.advance.filling = jn.advance.filling := by
  rcases jn.advance_cases with h | ⟨i, n, j, -, -, h⟩
  · rw [h, h]
  · have hroom : (jn.advanced i j).advance = jn.advanced i j := JN.advance_room (i := j) (k := 0) rfl (by omega)
    rw [h, hroom]

/-- A program in progress, its queue and the ring as they were: a waiting read's turn is kept. -/
theorem JN.yields_congr {a b : JN} (hb : b.busy = true → a.busy = true) (hr : a.reading = true → b.reading = true)
    (hq : ∀ p, a.queue.head? = some p → b.queue.head? = some p) (hs : b.segs = a.segs) (hf : b.filling = a.filling) {job : ReadJob}
    (h : a.yields job) : b.yields job := fun hbusy => by
  obtain ⟨hreading, p, hp, hfree⟩ := h (hb hbusy)
  refine ⟨hr hreading, p, hq p hp, fun bank hw => hfree bank ?_⟩
  rw [← JN.works_congr hs hf]
  exact hw

/-- A journal that keeps its segments and its append point, and begins no program. -/
theorem JN.serves_of_same {a b : JN} (hmem : b.mem = a.mem) (hfailures : b.failures = a.failures) (hfailed : b.failed = a.failed)
    (hreads : b.reads = a.reads) (hs : b.segs = a.segs) (hf : b.filling = a.filling) (hb : b.busy = true → a.busy = true)
    (hr : a.reading = true → b.reading = true) (hq : ∀ p, a.queue.head? = some p → b.queue.head? = some p) : a.Serves b :=
  ⟨hmem, hfailures, hfailed, hreads, fun _ _ _ _ => ⟨hf, hs⟩, fun i _ _ => ⟨by rw [JN.seg, hs]; rfl, .inl ⟨hf, hs⟩⟩,
    fun _ _ _ h => JN.yields_congr hb hr hq hs hf h⟩

theorem JN.startRead_serves (jn : JN) : jn.Serves jn.startRead := by
  unfold JN.startRead
  split
  · exact jn.serves_refl
  · split
    · exact jn.serves_refl
    · split
      · exact jn.serves_refl
      · exact JN.serves_of_same rfl rfl rfl rfl rfl rfl id (fun _ => rfl) fun _ => id

/-- A read starts where the engine is idle. -/
theorem JN.startRead_reading {jn : JN} (hb : jn.busy = false) (hr : jn.reads ≠ []) : jn.startRead.reading = true := by
  unfold JN.startRead
  split
  · next h => exact absurd h hr
  · split
    · next h => exact h
    · rw [hb]
      rfl

theorem JN.startProgram_serves {jn : JN} (hr : jn.busy = false → jn.reads ≠ [] → jn.reading = true) :
    jn.Serves jn.startProgram := by
  unfold JN.startProgram
  split
  · exact jn.serves_refl
  · next p rest hq =>
    split
    · exact jn.serves_refl
    · next hb =>
      split
      · exact jn.serves_refl
      · next hfree =>
        have hb' : jn.busy = false := by simpa using hb
        have hclear : ∀ job more, jn.reads = job :: more → ∀ bank, jn.works p.work bank = true → job.uses bank = true → False :=
          fun job more hj bank hw hu => by
            have hreading := hr hb' (by rw [hj]; exact List.cons_ne_nil _ _)
            rw [hreading, hj] at hfree
            cases bank <;> simp [hw, hu] at hfree
        cases hw : p.work.isAppend with
        | false =>
          rw [if_neg nofun]
          refine ⟨rfl, rfl, rfl, rfl, fun _ _ _ _ => ⟨rfl, rfl⟩, fun _ _ _ => ⟨rfl, .inl ⟨rfl, rfl⟩⟩, fun job more hj _ _ =>
            ⟨hr hb' (by rw [hj]; exact List.cons_ne_nil _ _), p, ?_, fun bank hworks => hclear job more hj bank ?_⟩⟩
          · show jn.queue.head? = some p
            rw [hq]
            rfl
          · rw [← JN.works_congr (a := jn) (b := { jn with busy := true }) rfl rfl]
            exact hworks
        | true =>
          rw [if_pos rfl]
          obtain ⟨hmem, hfailed, -, -, hfailures, -, hqueue, -, -, hreads, hreading, -⟩ := jn.advance_rest
          have hsame : ∀ bank, ({ jn.advance with busy := true } : JN).works p.work bank = jn.works p.work bank := fun bank => by
            obtain ⟨r, hwork⟩ : ∃ r, p.work = .append r := by
              cases hp : p.work with
              | append r => exact ⟨r, rfl⟩
              | change c => rw [hp] at hw; exact absurd hw nofun
              | mark q => rw [hp] at hw; exact absurd hw nofun
              | voidSlot i k => rw [hp] at hw; exact absurd hw nofun
            have htarget : ({ jn.advance with busy := true } : JN).target (.append r) = jn.target (.append r) :=
              (JN.target_congr (a := jn.advance) (b := { jn.advance with busy := true }) rfl rfl _).trans jn.advance_advance
            simp only [JN.works, hwork, htarget]
          refine ⟨hmem, hfailures, hfailed, hreads, fun i k hf hk => ?_, fun i k hf => jn.advance_ring hf, fun job more hj _ _ =>
            ⟨hreading.trans (hr hb' (by rw [hj]; exact List.cons_ne_nil _ _)), p, ?_, fun bank hworks => hclear job more hj bank ?_⟩⟩
          · have hroom := JN.advance_room hf hk
            exact ⟨(congrArg JN.filling hroom :), (congrArg JN.segs hroom :)⟩
          · show jn.advance.queue.head? = some p
            rw [hqueue, hq]
            rfl
          · rw [← hsame]
            exact hworks

theorem JN.timeErase_serves (jn : JN) (now : Nat) : jn.Serves (jn.timeErase now) := by
  unfold JN.timeErase
  (repeat' split) <;> exact JN.serves_of_same rfl rfl rfl rfl rfl rfl id id fun _ => id

theorem State.jnRun_serves (s : State) : s.jn.Serves s.jnRun.jn := by
  have hstart := s.jn.startRead_serves
  have hread : s.jn.startRead.busy = false → s.jn.startRead.reads ≠ [] → s.jn.startRead.reading = true := fun hb hr => by
    have hbusy : s.jn.startRead.busy = s.jn.busy := by
      unfold JN.startRead
      (repeat' split) <;> rfl
    exact JN.startRead_reading (hbusy ▸ hb) (hstart.reads ▸ hr)
  unfold State.jnRun
  dsimp only
  split
  · exact hstart.trans (JN.timeErase_serves ..)
  · exact (hstart.trans (JN.startProgram_serves hread)).trans (JN.timeErase_serves ..)

/-! ## What the owners do at a verified end (R149) -/

section
variable {s : State}

theorem State.hand_serves (s : State) (owner : Owner) (work : Work) : s.jn.Serves (s.hand owner work).1.jn := by
  unfold State.hand
  split
  · exact s.jn.serves_refl
  · have hqueued : s.jn.Serves { s.jn with queue := s.jn.queue ++ [{ owner := owner, work := work }] } := by
      refine JN.serves_of_same rfl rfl rfl rfl rfl rfl id id fun p hp => ?_
      rw [List.head?_append, hp]
      rfl
    have hrun := State.jnRun_serves { s with jn := { s.jn with queue := s.jn.queue ++ [{ owner := owner, work := work }] } }
    exact hqueued.trans hrun

theorem State.handOwedClose_serves (s : State) : s.jn.Serves s.handOwedClose.jn := by
  unfold State.handOwedClose
  split
  · exact s.jn.serves_refl
  · split
    · exact s.jn.serves_refl
    · dsimp only
      split <;> exact State.hand_serves ..

theorem State.handOwedChange_serves (s : State) : s.jn.Serves s.handOwedChange.jn := by
  unfold State.handOwedChange
  split
  · exact s.jn.serves_refl
  · split
    · exact s.jn.serves_refl
    · dsimp only
      split <;> exact State.hand_serves ..

theorem State.changeRecord_serves (s : State) (c : CaptureChange) : s.jn.Serves (s.changeRecord c).jn := by
  unfold State.changeRecord
  split
  · exact s.jn.serves_refl
  · dsimp only
    split <;> exact State.hand_serves ..

theorem State.walkOn_serves (s : State) (w : Walk) : s.jn.Serves (s.walkOn w).jn := by
  have hwalk : ∀ (u : State) (walk : Option Walk), u.jn.Serves { u.jn with walk := walk } := fun u walk =>
    JN.serves_of_same rfl rfl rfl rfl rfl rfl id id fun _ => id
  unfold State.walkOn
  split
  · exact hwalk s none
  · exact hwalk s none
  · next seq reached _ =>
    have hhand := (hwalk s (some { w with reached := reached })).trans (State.hand_serves (s.modJN fun jn => { jn with
      walk := some { w with reached := reached } }) .walk (.mark seq))
    dsimp only
    split
    · exact hhand
    · exact hhand.trans (hwalk _ none)

theorem State.captureOpened_serves (s : State) (seq : Nat) : s.jn.Serves (s.captureOpened seq true).jn := by
  unfold State.captureOpened
  split
  · exact s.jn.serves_refl
  · dsimp only
    rw [if_pos rfl]
    split
    · next h _ _ => exact State.changeRecord_serves (s.ok 0x38 ((s.cu.hand.bind (·.opening)).getD 0) (u32 h.number ++ u32 seq)) _
    · exact s.jn.serves_refl

theorem State.owedEnds_serves (s : State) (c : CaptureChange) : s.jn.Serves (s.owedEnds c true).jn := by
  unfold State.owedEnds
  dsimp only
  rw [if_pos rfl]
  split
  · exact s.jn.serves_refl
  · exact State.handOwedChange_serves (s.modCU fun cu => { cu with owedHanded := false })

theorem State.markEnds_serves (s : State) (seq : Nat) : s.jn.Serves (s.markEnds seq true).jn := by
  unfold State.markEnds
  split
  · exact s.jn.serves_refl
  · next w _ =>
    dsimp only
    rw [if_pos rfl]
    refine JN.Serves.trans ?_ (State.walkOn_serves (s.modJN fun jn => { jn with
      walk := some { w with reached := some seq, marked := w.marked + 1 } }) _)
    exact JN.serves_of_same rfl rfl rfl rfl rfl rfl id id fun _ => id

/-- What a running part's owner does at a verified end leaves the journal what it holds. -/
theorem State.tellOwner_serves (hrun : s.phase = .running) (p : Program) : s.jn.Serves (s.tellOwner p true).jn := by
  have hsame : ∀ t : State, t.jn = s.jn → s.jn.Serves t.jn := fun t h => h ▸ s.jn.serves_refl
  have hstarted : s.started = true := by simp [State.started, hrun]
  unfold State.tellOwner
  split
  · exact hsame _ (by simp)
  · unfold State.closeEnds
    dsimp only
    rw [if_pos rfl]
    exact State.handOwedClose_serves ((s.modSS fun ss => { ss with closeHanded := false }).modSS fun ss => { ss with owed := ss.owed.tail })
  · exact State.captureOpened_serves ..
  · exact s.jn.serves_refl
  · exact State.owedEnds_serves ..
  · exact hsame _ (by simp)
  · exact hsame _ (by simp)
  · exact hsame _ (by simp)
  · exact s.jn.serves_refl
  · unfold State.powerEnds
    rw [hrun]
    exact s.jn.serves_refl
  · unfold State.scanEndsOne
    split
    · next h _ => exact absurd h nofun
    · rw [if_pos hstarted]
      exact s.jn.serves_refl
    · rw [if_pos hstarted]
      exact s.jn.serves_refl
    · exact s.jn.serves_refl
  · exact State.markEnds_serves ..

/-- A running part stays running while an owner is told (R149). -/
theorem State.tellOwner_phase (hrun : s.phase = .running) (p : Program) (programmed : Bool) :
    (s.tellOwner p programmed).phase = .running := by
  rw [← hrun]
  unfold State.tellOwner
  split
  all_goals try simp
  · split <;> simp
  · unfold State.powerEnds
    rw [hrun]
    exact hrun

end

/-! ## The bytes that programs leave (R148, R149, R209) -/

theorem slotAddress_add (i k off : Nat) : slotAddress i k off = slotAddress i k 0 + off := rfl

theorem slotAddress_inj {i k off off' : Nat} (h : slotAddress i k off = slotAddress i k off') : off = off' := by
  rw [slotAddress_add i k off, slotAddress_add i k off'] at h
  omega

/-- Byte programs touch the addresses of their offsets and no other. -/
theorem programBytes_elsewhere {m : Memory} (h : m.wf = true) {i k : Nat} {steps : List (Nat × Byte)} (missed : List Byte) {a : Nat}
    (ha : ∀ x ∈ steps, a ≠ slotAddress i k x.1) : (programBytes m i k steps missed).1.read a = m.read a := by
  induction steps generalizing m missed with
  | nil => rfl
  | cons x steps ih =>
    obtain ⟨off, v⟩ := x
    refine (ih (Memory.program_wf _ _ h) missed.tail fun y hy => ha y (List.mem_cons_of_mem _ hy)).trans ?_
    rw [Memory.read_program h, if_neg (ha _ List.mem_cons_self)]

/-- Each of a list of byte programs, made in full at different offsets, leaves its bits. -/
theorem programBytes_at {m : Memory} (h : m.wf = true) {i k : Nat} {steps : List (Nat × Byte)} (hn : (steps.map Prod.fst).Nodup)
    {off : Nat} {v : Byte} (hin : (off, v) ∈ steps) :
    (programBytes m i k steps []).1.read (slotAddress i k off) = m.read (slotAddress i k off) &&& v := by
  induction steps generalizing m with
  | nil => exact absurd hin List.not_mem_nil
  | cons x steps ih =>
    obtain ⟨off', v'⟩ := x
    obtain ⟨hfresh, hn'⟩ := List.nodup_cons.mp hn
    have hwf := Memory.program_wf (slotAddress i k off') (v' ||| 0x00#8) h
    show (programBytes (m.program (slotAddress i k off') (v' ||| 0x00#8)) i k steps []).1.read _ = _
    rcases List.mem_cons.mp hin with hx | hin
    · obtain ⟨rfl, rfl⟩ := Prod.mk.inj hx
      rw [programBytes_elsewhere hwf [] fun y hy he => hfresh ?_, Memory.read_program h,
        if_pos rfl, BitVec.or_zero]
      exact List.mem_map.mpr ⟨y, hy, (slotAddress_inj he).symm⟩
    · rw [ih hwf hn' hin, Memory.read_program h, if_neg fun he => hfresh ?_]
      exact List.mem_map.mpr ⟨(off, v), hin, slotAddress_inj he⟩

/-! ### An append's bytes -/

theorem Record.early_length (r : Record) : r.early.length = 24 := by
  simp only [Record.early, padBody, u8, u32, List.length_append, List.length_cons, List.length_nil, List.length_take,
    List.length_replicate]
  omega

theorem Record.writing_nodup (r : Record) : (r.writing.map Prod.fst).Nodup ∧ ∀ x ∈ r.writing, x.1 < 28 := by
  have hlen : ((List.range 26).map (· + 2)).length = (r.early ++ crcBytes r.early).length := by
    simp [Record.early_length, crcBytes]
  have hfst : r.writing.map Prod.fst = 0 :: 1 :: (List.range 26).map (· + 2) := by
    simp only [Record.writing, List.map_cons, List.map_fst_zip (Nat.le_of_eq hlen)]
  refine ⟨by rw [hfst]; decide, fun x hx => ?_⟩
  have hin : x.1 ∈ 0 :: 1 :: (List.range 26).map (· + 2) := hfst ▸ List.mem_map_of_mem hx
  simp only [List.mem_cons, List.mem_map, List.mem_range] at hin
  omega

/-- The early fields and their CRC among an append's byte programs. -/
theorem Record.writing_field (r : Record) {off : Nat} (h : off < 26) :
    (off + 2, (r.early ++ crcBytes r.early).getD off 0xFF#8) ∈ r.writing := by
  have hlen : (r.early ++ crcBytes r.early).length = 26 := by simp [Record.early_length, crcBytes]
  refine List.mem_cons_of_mem _ (List.mem_cons_of_mem _ ?_)
  refine List.mem_iff_getElem.mpr ⟨off, by simp [hlen, h], ?_⟩
  rw [List.getElem_zip, List.getElem_map, List.getElem_range, List.getD_eq_getElem _ _ (by omega)]

theorem Record.closing_offsets (r : Record) : (r.closing.map Prod.fst).Nodup ∧ ∀ x ∈ r.closing, x.1 = 0 := by
  unfold Record.closing
  split
  · simp
  · simp

/-- An append's slot once its bytes are made on an erased one (R209). -/
theorem JN.appendedMem_slot {jn : JN} {r : Record} {i k : Nat} (h : jn.mem.wf = true)
    (herased : ∀ off, off < 32 → jn.mem.read (slotAddress i k off) = 0xFF#8) :
    (jn.appendedMem r i k).read (slotAddress i k 0) = (if r.closed then 0x3F#8 else 0x7F#8) ∧
      (jn.appendedMem r i k).read (slotAddress i k 1) = (if r.duress then 0xFE#8 else 0xFF#8) ∧
      ∀ off, off < 26 → (jn.appendedMem r i k).read (slotAddress i k (off + 2)) = (r.early ++ crcBytes r.early).getD off 0xFF#8 := by
  have hwf := programBytes_wf i k r.writing [] h
  obtain ⟨hnodup, -⟩ := r.writing_nodup
  obtain ⟨hnodup', hzero⟩ := r.closing_offsets
  have hother : ∀ off, off ≠ 0 → (jn.appendedMem r i k).read (slotAddress i k off) =
      (programBytes jn.mem i k r.writing []).1.read (slotAddress i k off) := fun off hoff =>
    programBytes_elsewhere hwf [] fun x hx he => hoff ((slotAddress_inj he).trans (hzero x hx))
  have hones : ∀ v : Byte, 0xFF#8 &&& v = v := fun v => BitVec.allOnes_and
  have hfirst : (programBytes jn.mem i k r.writing []).1.read (slotAddress i k 0) = 0x7F#8 := by
    rw [programBytes_at h hnodup List.mem_cons_self, herased 0 (by omega), hones]
  refine ⟨?_, ?_, fun off hoff => ?_⟩
  · unfold JN.appendedMem Record.closing
    split
    · rw [programBytes_at (off := 0) (v := 0x3F#8) hwf (by simp) List.mem_cons_self, hfirst]
      rfl
    · exact hfirst
  · rw [hother 1 (by omega), programBytes_at h hnodup (List.mem_cons_of_mem _ List.mem_cons_self), herased 1 (by omega), hones]
    cases r.duress <;> rfl
  · rw [hother _ (by omega), programBytes_at h hnodup (r.writing_field hoff), herased _ (by omega), hones]

/-- An append touches no byte outside its slot's first 28. -/
theorem JN.appendedMem_elsewhere {jn : JN} {r : Record} {i k : Nat} (h : jn.mem.wf = true) {a : Nat}
    (ha : ∀ off, off < 28 → a ≠ slotAddress i k off) : (jn.appendedMem r i k).read a = jn.mem.read a := by
  have hwf := programBytes_wf i k r.writing [] h
  refine (programBytes_elsewhere hwf [] fun x hx => ?_).trans (programBytes_elsewhere h [] fun x hx => ha _ (r.writing_nodup.2 x hx))
  rw [r.closing_offsets.2 x hx]
  exact ha 0 (by omega)

/-! ## The end of a program in a running part (R149) -/

section
variable {s : State} {p : Program} {rest : List Program}

theorem State.finish_jn (s : State) : s.finish.jn = s.jn := by simp

/-- A verified append: its owner leads to a state whose journal keeps what the append left. -/
theorem exec_appendVerified {r : Record} {i k : Nat} (hrun : s.phase = .running) (hb : s.jn.busy = true) (hq : s.jn.queue = p :: rest)
    (hw : p.work = .append r) (hf : s.jn.filling = some (i, k)) :
    ∃ u : State, exec (.journalProgramDone []) s = .next u.jnRun.finish ∧ (s.jn.appendEnded r i k).Serves u.jn := by
  have hphase := State.tellOwner_phase (s := { s with jn := s.jn.appendEnded r i k }) hrun p true
  refine ⟨({ s with jn := s.jn.appendEnded r i k } : State).tellOwner p true, ?_,
    State.tellOwner_serves (s := { s with jn := s.jn.appendEnded r i k }) hrun p⟩
  rw [exec_programDone (State.on_of_running hrun), State.programMade_append hb hq hw hf, State.scanStepEnds_past]
  simp only [State.jnRun_frame, hphase]
  exact nofun

/-- The memory once a change in place or a mark is made. -/
def JN.changedMem (jn : JN) (p : Program) : Memory :=
  ((jn.target p.work).map fun at_ => (programBytes jn.mem at_.1 at_.2 (jn.stepsOf p) []).1).getD jn.mem

/-- A change in place or a mark that has verified, or that has no slot to change (R148, R150). -/
theorem exec_changeVerified (hrun : s.phase = .running) (hb : s.jn.busy = true) (hq : s.jn.queue = p :: rest)
    (hw : p.work.isAppend = false) : exec (.journalProgramDone []) s =
      .next (((({ s with jn := { s.jn with mem := s.jn.changedMem p, failures := 0, queue := rest, busy := false } } :
        State).tellOwner p true).jnRun).finish) := by
  have hmade : s.programMade [] = (s.changeMade p []).scanStepEnds := by
    unfold State.programMade
    rw [hb, hq]
    dsimp only
    split
    · next hp _ => rw [hp] at hw; exact absurd hw nofun
    · next hp _ => rw [hp] at hw; exact absurd hw nofun
    · rfl
  have hpop : ∀ jn : JN, jn.queue = p :: rest → jn.pop = { jn with queue := rest, busy := false } := fun jn h => by
    unfold JN.pop
    rw [h]
    dsimp only
    rw [hw]
    rfl
  have hchange : s.changeMade p [] = ({ s with jn := { s.jn with mem := s.jn.changedMem p, failures := 0 } } : State).programEnds p true := by
    unfold State.changeMade JN.changedMem
    cases s.jn.target p.work with
    | none => rfl
    | some at_ =>
      simp only [programBytes_verifies, if_true]
      rfl
  have hphase := State.tellOwner_phase
    (s := { s with jn := { s.jn with mem := s.jn.changedMem p, failures := 0, queue := rest, busy := false } }) hrun p true
  rw [exec_programDone (State.on_of_running hrun), hmade, hchange]
  unfold State.programEnds State.modJN
  dsimp only
  rw [hpop { s.jn with mem := s.jn.changedMem p, failures := 0 } hq, State.scanStepEnds_past]
  simp only [State.jnRun_frame, hphase]
  exact nofun

end

/-! ## Reads, retries and the entry into FAILED (R149 to R153) -/

section
variable {s : State} {p : Program} {rest : List Program}

theorem JN.startProgram_reading (jn : JN) : jn.startProgram.reading = jn.reading := by
  unfold JN.startProgram
  split
  · rfl
  · split
    · rfl
    · split
      · rfl
      · show (if _ then jn.advance else jn).reading = _
        split
        · exact jn.advance_rest.2.2.2.2.2.2.2.2.2.2.1
        · rfl

theorem JN.timeErase_reading (jn : JN) (now : Nat) : (jn.timeErase now).reading = jn.reading ∧ (jn.timeErase now).busy = jn.busy := by
  unfold JN.timeErase
  (repeat' split) <;> exact ⟨rfl, rfl⟩

theorem JN.startRead_busy (jn : JN) : jn.startRead.busy = jn.busy ∧ (jn.reading = true → jn.startRead.reading = true) := by
  unfold JN.startRead
  (repeat' split) <;> simp

/-- A read that waits has started once the engine has gone on (R153). -/
theorem State.jnRun_reading {job : ReadJob} {more : List ReadJob} (hr : s.jn.reads = job :: more) (hy : s.jn.yields job) :
    s.jnRun.jn.reading = true := by
  have hstart : s.jn.startRead.reading = true := by
    cases hb : s.jn.busy with
    | true => exact s.jn.startRead_busy.2 (hy hb).1
    | false => exact JN.startRead_reading hb (by rw [hr]; exact List.cons_ne_nil _ _)
  unfold State.jnRun
  dsimp only
  rw [(JN.timeErase_reading _ _).1]
  split
  · exact hstart
  · rw [JN.startProgram_reading]
    exact hstart

/-- A program in progress stays so. -/
theorem State.jnRun_busy (hb : s.jn.busy = true) : s.jnRun.jn.busy = true := by
  have hstart : s.jn.startRead.busy = true := s.jn.startRead_busy.1.trans hb
  unfold State.jnRun
  dsimp only
  rw [(JN.timeErase_reading _ _).2]
  split
  · exact hstart
  · unfold JN.startProgram
    split
    · exact hstart
    · rw [if_pos hstart]
      exact hstart

/-- What an owner told of an unmade program does to the journal: a walk may end, and a scan close may be kept (R151, R163). -/
theorem State.endUnmade_leaves (hrun : s.phase = .running) (p : Program) :
    ∃ walk closes, (s.endUnmade p).jn = { s.jn with walk := walk, scanCloses := closes } ∧ (s.endUnmade p).phase = .running ∧
      (s.endUnmade p).lc.conds = s.lc.conds := by
  have hsame : ∀ t : State, t.jn = s.jn → t.phase = s.phase → t.lc.conds = s.lc.conds →
      ∃ walk closes, t.jn = { s.jn with walk := walk, scanCloses := closes } ∧ t.phase = .running ∧ t.lc.conds = s.lc.conds :=
    fun t hj hp hc => ⟨_, _, hj, hp.trans hrun, hc⟩
  unfold State.endUnmade State.tellOwner
  split
  · exact hsame _ rfl rfl rfl
  · exact hsame _ rfl rfl rfl
  · unfold State.captureOpened State.captureNotOpened
    split
    · exact hsame _ rfl rfl rfl
    · rw [if_neg nofun]
      exact hsame _ (by simp) (by simp) (by simp)
  · exact hsame _ rfl rfl rfl
  · exact hsame _ rfl rfl rfl
  · unfold State.binExchangeEnds
    split <;> exact hsame _ rfl rfl rfl
  · unfold State.replenishEnds
    split <;> exact hsame _ rfl rfl rfl
  · unfold State.boxEmptiedEnds
    split <;> exact hsame _ rfl rfl rfl
  · exact hsame _ rfl rfl rfl
  · unfold State.powerEnds
    rw [hrun]
    exact hsame _ rfl rfl rfl
  · unfold State.scanEndsOne
    split
    · exact ⟨_, _, rfl, hrun, rfl⟩
    · next h _ => exact absurd h nofun
    · next h _ => exact absurd h nofun
    · exact hsame _ rfl rfl rfl
  · unfold State.markEnds
    split
    · exact hsame _ rfl rfl rfl
    · exact ⟨_, _, rfl, hrun, rfl⟩

theorem State.endAllUnmade_leaves (hrun : s.phase = .running) (ps : List Program) :
    ∃ walk closes, (s.endAllUnmade ps).jn = { s.jn with walk := walk, scanCloses := closes } ∧
      (s.endAllUnmade ps).phase = .running ∧ (s.endAllUnmade ps).lc.conds = s.lc.conds := by
  unfold State.endAllUnmade
  induction ps generalizing s with
  | nil => exact ⟨_, _, rfl, hrun, rfl⟩
  | cons p ps ih =>
    obtain ⟨walk, closes, hjn, hphase, hconds⟩ := State.endUnmade_leaves hrun p
    obtain ⟨walk', closes', hjn', hphase', hconds'⟩ := ih hphase
    exact ⟨walk', closes', by rw [List.foldl_cons, hjn', hjn], hphase', hconds'.trans hconds⟩

/-- The journal FAILED: no program left, the condition risen with the sequence of the program that failed (R151). -/
theorem State.enterFailed_leaves (hrun : s.phase = .running) (hlen : s.lc.conds.length = 69) {w : Work}
    (hw : ∀ i k, w ≠ .voidSlot i k) :
    (s.enterFailed w).jn.failed = true ∧ (s.enterFailed w).jn.queue = [] ∧ (s.enterFailed w).jn.busy = false ∧
      (s.enterFailed w).jn.failures = s.jn.failures ∧ (s.enterFailed w).phase = .running ∧
      (s.enterFailed w).lc.conds[65]?.map (·.snapshot) = some (some (u32 w.seq)) := by
  generalize hv : s.modJN (fun jn => { jn with
    failed := true, queue := [], busy := false
    claims := jn.claims - (s.jn.queue.filter fun p => p.work.isAppend).length }) = v
  have henter : s.enterFailed w = ((v.endAllUnmade s.jn.queue).raise .journalFailed (u32 w.seq)).jnRun := by
    rw [← hv]
    unfold State.enterFailed State.raiseFailed
    cases w with
    | voidSlot i k => exact absurd rfl (hw i k)
    | append r => rfl
    | change c => rfl
    | mark q => rfl
  have hvs : v.phase = .running ∧ v.lc = s.lc ∧ v.jn.failed = true ∧ v.jn.queue = [] ∧ v.jn.busy = false ∧
      v.jn.failures = s.jn.failures := by
    rw [← hv]
    exact ⟨hrun, rfl, rfl, rfl, rfl, rfl⟩
  obtain ⟨hphase, hlc, hfailed, hqueue, hbusy, hfailures⟩ := hvs
  obtain ⟨walk, closes, hjn, hphase', hconds⟩ := State.endAllUnmade_leaves hphase s.jn.queue
  generalize v.endAllUnmade s.jn.queue = u at *
  have hraised : (u.raise .journalFailed (u32 w.seq)).jn = u.jn := rfl
  have hrest := State.jnRun_rest (u.raise .journalFailed (u32 w.seq))
  obtain ⟨hfailed', -, -, hfailures', -, hqueue', -⟩ := hrest
  have hidle : (u.raise .journalFailed (u32 w.seq)).jnRun.jn.busy = false := by
    have hstart : u.jn.startRead.queue = [] ∧ u.jn.startRead.busy = false := by
      refine ⟨?_, u.jn.startRead_busy.1.trans (by rw [hjn]; exact hbusy)⟩
      have hq : u.jn.queue = [] := by rw [hjn]; exact hqueue
      rw [← hq]
      unfold JN.startRead
      (repeat' split) <;> rfl
    have hprogram : u.jn.startRead.startProgram = u.jn.startRead := by
      unfold JN.startProgram
      rw [hstart.1]
    unfold State.jnRun
    dsimp only
    rw [(JN.timeErase_reading _ _).2, hraised, hprogram, ite_self]
    exact hstart.2
  rw [henter]
  refine ⟨hfailed'.trans ?_, hqueue'.trans ?_, hidle, hfailures'.trans ?_, ?_, ?_⟩
  · rw [hraised, hjn]
    exact hfailed
  · rw [hraised, hjn]
    exact hqueue
  · rw [hraised, hjn]
    exact hfailures
  · rw [← hphase']
    simp
  · have hlen' : u.lc.conds.length = 69 := by rw [hconds, hlc]; exact hlen
    have hshot := LC.raise_snapshot (n := 66) hlen' (by decide) (some (u32 w.seq))
    rw [(State.jnRun_frame _).2.2.2.2.2.2.2.2.2.2.2.1]
    exact hshot

/-! ## Programs that do not read back (R149, R150) -/

theorem programBytes_fails {m : Memory} {i k off : Nat} {v left : Byte} {steps : List (Nat × Byte)} {missed : List Byte}
    (h : m.read (slotAddress i k off) &&& (v ||| left) ≠ m.read (slotAddress i k off) &&& v) :
    (programBytes m i k ((off, v) :: steps) (left :: missed)).2 = false := by
  have hbad : decide (m.read (slotAddress i k off) &&& (v ||| left) = m.read (slotAddress i k off) &&& v) = false := decide_eq_false h
  rw [programBytes]
  exact (congrArg (· && _) hbad).trans (Bool.false_and _)

/-- A change in place or a mark that does not read back: with two failures before it the journal is FAILED, else it is made
again where it stands (R150, R151). -/
theorem State.programMade_missed {i k : Nat} {missed : List Byte} (hb : s.jn.busy = true) (hq : s.jn.queue = p :: rest)
    (hw : p.work.isAppend = false) (ht : s.jn.target p.work = some (i, k))
    (hbad : (programBytes s.jn.mem i k (s.jn.stepsOf p) missed).2 = false) :
    (2 ≤ s.jn.failures → s.programMade missed = (({ s with jn := { s.jn with
      mem := (programBytes s.jn.mem i k (s.jn.stepsOf p) missed).1, failures := s.jn.failures + 1 } } : State).enterFailed
        p.work).scanStepEnds) ∧
    (s.jn.failures < 2 → s.programMade missed = ({ s with jn := { s.jn with
      mem := (programBytes s.jn.mem i k (s.jn.stepsOf p) missed).1, failures := s.jn.failures + 1
      queue := { p with redo := some (s.jn.stepsOf p) } :: rest } } : State).scanStepEnds) := by
  have hmade : s.programMade missed = (s.changeMade p missed).scanStepEnds := by
    unfold State.programMade
    rw [hb, hq]
    dsimp only
    split
    · next hp _ => rw [hp] at hw; exact absurd hw nofun
    · next hp _ => rw [hp] at hw; exact absurd hw nofun
    · rfl
  rw [hmade]
  unfold State.changeMade
  rw [ht]
  dsimp only
  rw [if_neg (by rw [hbad]; exact nofun)]
  refine ⟨fun hf => ?_, fun hf => ?_⟩
  · refine congrArg State.scanStepEnds (if_pos ?_)
    show 3 ≤ s.jn.failures + 1
    omega
  · refine congrArg State.scanStepEnds ((if_neg ?_).trans ?_)
    · show ¬ 3 ≤ s.jn.failures + 1
      omega
    · unfold State.modJN
      dsimp only
      rw [hq]
      rfl

/-- The memory after an append whose first byte was not programmed, its slot marked VOID (R149). -/
def JN.voidedMem (jn : JN) (r : Record) (i k : Nat) : Memory :=
  (programBytes jn.mem i k r.writing [0xFF#8]).1.program (slotAddress i k 0) 0xF7#8

theorem JN.voidedMem_reads {jn : JN} {r : Record} {i k : Nat} (h : jn.mem.wf = true)
    (herased : jn.mem.read (slotAddress i k 0) = 0xFF#8) : (jn.voidedMem r i k).read (slotAddress i k 0) = 0xF7#8 ∧
      ∀ a, (∀ off, off < 28 → a ≠ slotAddress i k off) → (jn.voidedMem r i k).read a = jn.mem.read a := by
  have hwf := programBytes_wf i k r.writing [0xFF#8] h
  unfold JN.voidedMem
  refine ⟨?_, fun a ha => ?_⟩
  · rw [Memory.read_program hwf, if_pos rfl]
    have hrest := (List.nodup_cons.mp r.writing_nodup.1).1
    have hkept : (programBytes jn.mem i k r.writing [0xFF#8]).1.read (slotAddress i k 0) = 0xFF#8 := by
      refine (programBytes_elsewhere (Memory.program_wf _ _ h) _ fun x hx he => hrest ?_).trans ?_
      · exact List.mem_map.mpr ⟨x, hx, (slotAddress_inj he).symm⟩
      · rw [Memory.read_program h, if_pos rfl, herased]
        rfl
    rw [hkept]
    rfl
  · rw [Memory.read_program hwf, if_neg (ha 0 (by omega))]
    exact programBytes_elsewhere h _ fun x hx => ha _ (r.writing_nodup.2 x hx)

/-- An append whose first byte is not programmed: with two failures before it the journal is FAILED, else it is made again in
the next slot where there is room (R149, R151). -/
theorem State.programMade_voided {r : Record} {i k : Nat} (hb : s.jn.busy = true) (hq : s.jn.queue = p :: rest)
    (hw : p.work = .append r) (hf : s.jn.filling = some (i, k)) (herased : s.jn.mem.read (slotAddress i k 0) = 0xFF#8) :
    (2 ≤ s.jn.failures → s.programMade [0xFF#8] = (({ s with jn := { s.jn with
      mem := s.jn.voidedMem r i k, filling := some (i, k + 1), failures := s.jn.failures + 1 } } : State).enterFailed
        p.work).scanStepEnds) ∧
    (s.jn.failures < 2 → ({ s.jn with filling := some (i, k + 1), claims := s.jn.claims - 1 } : JN).roomFor r.kind = true →
      s.programMade [0xFF#8] = (((({ s with jn := { s.jn with
        mem := s.jn.voidedMem r i k, filling := some (i, k + 1), failures := s.jn.failures + 1 } } : State).modJN JN.retry).jnRun).noteFree
          s.jn.free).scanStepEnds) := by
  have hbad : (programBytes s.jn.mem i k r.writing [0xFF#8]).2 = false := programBytes_fails (by rw [herased]; decide)
  have hmade : s.programMade [0xFF#8] = (s.appendMade p r i k [0xFF#8]).scanStepEnds := by
    unfold State.programMade
    rw [hb, hq]
    dsimp only
    rw [hw, hf]
  rw [hmade]
  unfold State.appendMade
  simp only [hbad, Bool.false_eq_true, false_and, if_false, programBytes]
  refine ⟨fun hfail => ?_, fun hfail hroom => ?_⟩
  · refine congrArg State.scanStepEnds (if_pos ?_)
    show 3 ≤ s.jn.failures + 1
    omega
  · refine congrArg State.scanStepEnds ((if_neg ?_).trans (if_pos hroom))
    show ¬ 3 ≤ s.jn.failures + 1
    omega

end

/-! ## The end of a program, clause by clause (R148 to R153) -/

section
variable {s : State} {p : Program} {rest : List Program}

theorem JN.appendEnded_records {jn : JN} {r : Record} {i k : Nat} (h : i < jn.segs.length) :
    (k, r.seq) ∈ ((jn.appendEnded r i k).seg i).records := by
  have hsegs : ∀ j : JN, j.pop.seg i = j.seg i := fun j => by
    unfold JN.pop
    split <;> rfl
  refine (hsegs _).symm ▸ ?_
  show (k, r.seq) ∈ ((modifyAt _ i jn.segs).getD i _).records
  rw [List.getD_eq_getElem?_getD, getElem?_modifyAt, if_pos rfl, List.getElem?_eq_getElem h]
  exact List.mem_append_right _ List.mem_cons_self

/-- A verified append leaves its bytes, no failure counted, and its slot the record's (R149). -/
theorem exec_appendVerified_leaves {r : Record} {i k : Nat} (hrun : s.phase = .running) (hb : s.jn.busy = true)
    (hq : s.jn.queue = p :: rest) (hw : p.work = .append r) (hf : s.jn.filling = some (i, k)) :
    ∃ t, exec (.journalProgramDone []) s = .next t ∧ t.jn.mem = s.jn.appendedMem r i k ∧ t.jn.failures = 0 ∧
      (i < s.jn.segs.length → (k, r.seq) ∈ (t.jn.seg i).records) := by
  obtain ⟨u, hexec, hserves⟩ := exec_appendVerified hrun hb hq hw hf
  obtain ⟨-, -, hfailures, -, hfill, hmem, -⟩ := JN.appendEnded_rest hq hw i k
  have hrun := hserves.trans u.jnRun_serves
  refine ⟨_, hexec, ?_, ?_, fun hi => ?_⟩
  · rw [State.finish_jn, hrun.mem, hmem]
  · rw [State.finish_jn, hrun.failures, hfailures]
  · rw [State.finish_jn, (hrun.ring i (k + 1) hfill).1]
    exact JN.appendEnded_records hi

/-- A verified change leaves its bytes and no failure counted (R148, R150). -/
theorem exec_changeVerified_leaves (hrun : s.phase = .running) (hb : s.jn.busy = true) (hq : s.jn.queue = p :: rest)
    (hw : p.work.isAppend = false) : ∃ t, exec (.journalProgramDone []) s = .next t ∧ t.jn.mem = s.jn.changedMem p ∧
      t.jn.failures = 0 := by
  generalize hv : ({ s with jn := { s.jn with mem := s.jn.changedMem p, failures := 0, queue := rest, busy := false } } : State) = v
  have hphase : v.phase = .running := by rw [← hv]; exact hrun
  have hserves := (State.tellOwner_serves hphase p).trans (State.jnRun_serves (v.tellOwner p true))
  refine ⟨_, exec_changeVerified hrun hb hq hw, ?_, ?_⟩
  · rw [State.finish_jn, hv, hserves.mem, ← hv]
  · rw [State.finish_jn, hv, hserves.failures, ← hv]

theorem JN.changedMem_at {jn : JN} {i k : Nat} (ht : jn.target p.work = some (i, k)) :
    jn.changedMem p = (programBytes jn.mem i k (jn.stepsOf p) []).1 := by
  rw [JN.changedMem, ht]
  rfl

/-! ### The steps of a change (R148, R209) -/

theorem RecFlags.byte_empty {f : RecFlags} (h : f.isEmpty = true) : f.byte = 0xFF#8 := by
  obtain ⟨a, b, c, d, e⟩ := f
  simp only [RecFlags.isEmpty, Bool.not_eq_true', Bool.or_eq_false_iff] at h
  obtain ⟨⟨⟨⟨rfl, rfl⟩, rfl⟩, rfl⟩, rfl⟩ := h
  rfl

/-- The flags' program, absent where no flag is set. -/
def RecFlags.steps (f : RecFlags) : List (Nat × Byte) := if f.isEmpty then [] else [(1, f.byte)]

theorem RecFlags.steps_offsets (f : RecFlags) : (f.steps.map Prod.fst).Nodup ∧ ∀ x ∈ f.steps, x.1 = 1 := by
  unfold RecFlags.steps
  split <;> simp

/-- Byte programs that hold the flags' alone at byte 1 leave the flags (R209). -/
theorem programBytes_flags {m : Memory} (h : m.wf = true) {i k : Nat} {f : RecFlags} {before after : List (Nat × Byte)}
    (hn : ((before ++ f.steps ++ after).map Prod.fst).Nodup) (hb : ∀ x ∈ before ++ after, x.1 ≠ 1) :
    (programBytes m i k (before ++ f.steps ++ after) []).1.read (slotAddress i k 1) = m.read (slotAddress i k 1) &&& f.byte := by
  cases hf : f.isEmpty with
  | true =>
    have hnone : f.steps = [] := if_pos hf
    rw [RecFlags.byte_empty hf, hnone, List.append_nil, programBytes_elsewhere h]
    · exact BitVec.and_allOnes.symm
    · exact fun x hx he => hb x hx (slotAddress_inj he).symm
  | false =>
    have hone : f.steps = [(1, f.byte)] := if_neg (by rw [hf]; exact nofun)
    refine programBytes_at h hn ?_
    rw [hone]
    simp

theorem JN.stepsOf_flags {jn : JN} {c : Change} {i k : Nat} (hw : p.work = .change c) (hr : p.redo = none)
    (hf : jn.find c.seq = some (i, k)) (hc : c.closes = false) (hs : jn.mem.read (slotAddress i k 0) ∈ [0x7F#8, 0x3F#8]) :
    jn.stepsOf p = c.flags.steps := by
  have hstatus : jn.status i k = some .written ∨ jn.status i k = some .closed := by
    rcases List.mem_cons.mp hs with h | h
    · exact .inl (by rw [JN.status, h]; rfl)
    · exact .inr (by rw [JN.status, List.mem_singleton.mp h]; rfl)
  simp only [JN.stepsOf, hr, Option.getD_none, JN.changeSteps, hw, JN.target, hf, hc, Bool.false_eq_true, if_false, if_pos hstatus]
  rfl

theorem JN.stepsOf_close {jn : JN} {c : Change} {i k : Nat} (hw : p.work = .change c) (hr : p.redo = none)
    (hf : jn.find c.seq = some (i, k)) (hc : c.closes = true) (hs : jn.mem.read (slotAddress i k 0) = 0x7F#8)
    (h28 : jn.mem.read (slotAddress i k 28) = 0xFF#8) (h29 : jn.mem.read (slotAddress i k 29) = 0xFF#8) :
    jn.stepsOf p = c.late ++ c.flags.steps ++ [(0, 0x3F#8)] := by
  have hstatus : jn.status i k = some .written := by rw [JN.status, hs]; rfl
  have hlate : jn.lateDone i k = false := by
    rw [JN.lateDone, h28, h29]
    split <;> rfl
  simp only [JN.stepsOf, hr, Option.getD_none, JN.changeSteps, hw, JN.target, hf, hc, if_true, if_pos hstatus, hlate,
    Bool.false_eq_true, if_false]
  rfl

theorem JN.stepsOf_closed {jn : JN} {q i k : Nat} (hw : p.work = .mark q) (hr : p.redo = none) (hf : jn.find q = some (i, k))
    (hs : jn.mem.read (slotAddress i k 0) = 0x3F#8) : jn.stepsOf p = [(0, 0x1F#8)] := by
  have hstatus : jn.status i k = some .closed := by rw [JN.status, hs]; rfl
  simp only [JN.stepsOf, hr, Option.getD_none, JN.changeSteps, hw, JN.target, hf, if_pos hstatus]

/-- A close with two late fields on a WRITTEN record (R148, R209). -/
theorem exec_closeVerified {c : Change} {i k x y : Nat} {a b : Byte} (hrun : s.phase = .running) (hm : s.memoryFormed)
    (hb : s.jn.busy = true) (hq : s.jn.queue = p :: rest) (hw : p.work = .change c) (hr : p.redo = none)
    (hf : s.jn.find c.seq = some (i, k)) (hxy : (x = 28 ∧ y = 29) ∨ (x = 29 ∧ y = 28)) (hlate : c.late = [(x, a), (y, b)])
    (hc : c.closes = true) (hs : s.jn.mem.read (slotAddress i k 0) = 0x7F#8)
    (h28 : s.jn.mem.read (slotAddress i k 28) = 0xFF#8) (h29 : s.jn.mem.read (slotAddress i k 29) = 0xFF#8) :
    ∃ t, exec (.journalProgramDone []) s = .next t ∧ t.jn.mem.read (slotAddress i k x) = a ∧
      t.jn.mem.read (slotAddress i k y) = b ∧ t.jn.mem.read (slotAddress i k 0) = 0x3F#8 ∧
      t.jn.mem.read (slotAddress i k 1) = s.jn.mem.read (slotAddress i k 1) &&& c.flags.byte ∧
      (∀ address, (∀ off ∈ [0, 1, 28, 29], address ≠ slotAddress i k off) → t.jn.mem.read address = s.jn.mem.read address) ∧
      t.jn.failures = 0 := by
  obtain ⟨t, hexec, hmem, hfailures⟩ := exec_changeVerified_leaves hrun hb hq (by rw [hw]; rfl)
  have hsteps : s.jn.stepsOf p = [(x, a), (y, b)] ++ c.flags.steps ++ [(0, 0x3F#8)] :=
    hlate ▸ JN.stepsOf_close hw hr hf hc hs h28 h29
  rw [JN.changedMem_at (by rw [hw]; exact hf), hsteps] at hmem
  have hoffsets : ∀ e ∈ [(x, a), (y, b)] ++ c.flags.steps ++ [(0, 0x3F#8)], e.1 ∈ [0, 1, 28, 29] := fun e he => by
    simp only [List.mem_append, List.mem_cons, List.not_mem_nil, or_false] at he ⊢
    rcases he with ((rfl | rfl) | he) | rfl
    · dsimp only; omega
    · dsimp only; omega
    · exact .inr (.inl (c.flags.steps_offsets.2 e he))
    · exact .inl rfl
  have hnodup : (([(x, a), (y, b)] ++ c.flags.steps ++ [(0, 0x3F#8)]).map Prod.fst).Nodup := by
    rcases hxy with ⟨rfl, rfl⟩ | ⟨rfl, rfl⟩ <;> (unfold RecFlags.steps; split <;> simp)
  have hfresh : ∀ off v, (off = 28 ∨ off = 29) → (off, v) ∈ [(x, a), (y, b)] ++ c.flags.steps ++ [(0, 0x3F#8)] →
      t.jn.mem.read (slotAddress i k off) = v := fun off v hoff hin => by
    rw [hmem, programBytes_at hm hnodup hin]
    rcases hoff with rfl | rfl
    · rw [h28]; exact BitVec.allOnes_and
    · rw [h29]; exact BitVec.allOnes_and
  refine ⟨t, hexec, hfresh x a (by omega) (by simp), hfresh y b (by omega) (by simp), ?_, ?_, fun address ha => ?_, hfailures⟩
  · rw [hmem, programBytes_at (v := 0x3F#8) hm hnodup (by simp), hs]
    rfl
  · rw [hmem]
    refine programBytes_flags hm hnodup fun e he => ?_
    simp only [List.mem_append, List.mem_cons, List.not_mem_nil, or_false] at he
    rcases he with (rfl | rfl) | rfl
    · dsimp only; omega
    · dsimp only; omega
    · exact nofun
  · rw [hmem]
    exact programBytes_elsewhere hm _ fun e he => ha _ (hoffsets e he)

/-- A flag change of a WRITTEN or CLOSED record (R148, R209). -/
theorem exec_flagsVerified {c : Change} {i k : Nat} (hrun : s.phase = .running) (hm : s.memoryFormed)
    (hb : s.jn.busy = true) (hq : s.jn.queue = p :: rest) (hw : p.work = .change c) (hr : p.redo = none)
    (hf : s.jn.find c.seq = some (i, k)) (hc : c.closes = false) (hs : s.jn.mem.read (slotAddress i k 0) ∈ [0x7F#8, 0x3F#8]) :
    ∃ t, exec (.journalProgramDone []) s = .next t ∧
      t.jn.mem.read (slotAddress i k 1) = s.jn.mem.read (slotAddress i k 1) &&& c.flags.byte ∧
      (∀ address, address ≠ slotAddress i k 1 → t.jn.mem.read address = s.jn.mem.read address) ∧ t.jn.failures = 0 := by
  obtain ⟨t, hexec, hmem, hfailures⟩ := exec_changeVerified_leaves hrun hb hq (by rw [hw]; rfl)
  rw [JN.changedMem_at (by rw [hw]; exact hf), JN.stepsOf_flags hw hr hf hc hs] at hmem
  refine ⟨t, hexec, ?_, fun address ha => ?_, hfailures⟩
  · have hflags := programBytes_flags (i := i) (k := k) (f := c.flags) (before := []) (after := []) hm
      (by simpa using c.flags.steps_offsets.1) (fun e he => absurd he List.not_mem_nil)
    rw [hmem]
    simpa using hflags
  · rw [hmem]
    exact programBytes_elsewhere hm _ fun e he => by rw [c.flags.steps_offsets.2 e he]; exact ha

/-- A reconcile mark of a CLOSED record, verified (R155, R209). -/
theorem exec_markVerified {q i k : Nat} (hrun : s.phase = .running) (hm : s.memoryFormed) (hb : s.jn.busy = true)
    (hq : s.jn.queue = p :: rest) (hw : p.work = .mark q) (hr : p.redo = none) (hf : s.jn.find q = some (i, k))
    (hs : s.jn.mem.read (slotAddress i k 0) = 0x3F#8) :
    ∃ t, exec (.journalProgramDone []) s = .next t ∧ t.jn.mem.read (slotAddress i k 0) = 0x1F#8 ∧
      (∀ address, address ≠ slotAddress i k 0 → t.jn.mem.read address = s.jn.mem.read address) ∧ t.jn.failures = 0 := by
  obtain ⟨t, hexec, hmem, hfailures⟩ := exec_changeVerified_leaves hrun hb hq (by rw [hw]; rfl)
  rw [JN.changedMem_at (by rw [hw]; exact hf), JN.stepsOf_closed hw hr hf hs] at hmem
  refine ⟨t, hexec, ?_, fun address ha => ?_, hfailures⟩
  · rw [hmem, programBytes_at (v := 0x1F#8) hm (by simp) List.mem_cons_self, hs]
    rfl
  · rw [hmem]
    exact programBytes_elsewhere hm _ fun e he => by rw [List.mem_singleton.mp he]; exact ha

/-- A mark that does not read back is made again where it stands (R150). -/
theorem exec_markMissed {q i k : Nat} (hrun : s.phase = .running) (hm : s.memoryFormed) (hb : s.jn.busy = true)
    (hq : s.jn.queue = p :: rest) (hw : p.work = .mark q) (hr : p.redo = none) (hf : s.jn.find q = some (i, k))
    (hs : s.jn.mem.read (slotAddress i k 0) = 0x3F#8) (hfail : s.jn.failures < 2) :
    ∃ t, exec (.journalProgramDone [0x20#8]) s = .next t ∧ t.jn.mem.read (slotAddress i k 0) = 0x3F#8 ∧
      t.jn.failures = s.jn.failures + 1 ∧ t.jn.queue = { p with redo := some [(0, 0x1F#8)] } :: rest ∧
      t.jn.failed = s.jn.failed ∧ t.jn.busy = true := by
  have hsteps := JN.stepsOf_closed hw hr hf hs
  have hbad : (programBytes s.jn.mem i k (s.jn.stepsOf p) [0x20#8]).2 = false := by
    rw [hsteps]
    exact programBytes_fails (by rw [hs]; decide)
  have hmade := (State.programMade_missed hb hq (by rw [hw]; rfl) (by rw [hw]; exact hf) hbad).2 hfail
  refine ⟨_, exec_programDone (State.on_of_running hrun) _, ?_⟩
  rw [hmade, State.scanStepEnds_past (by rw [hrun]; exact nofun), State.finish_jn, hsteps]
  refine ⟨?_, rfl, rfl, rfl, hb⟩
  show (s.jn.mem.program (slotAddress i k 0) _).read _ = _
  rw [Memory.read_program hm, if_pos rfl, hs]
  rfl

theorem JN.startProgram_append {jn : JN} {r : Record} {i k : Nat} (hq : jn.queue = p :: rest) (hb : jn.busy = false)
    (hr : jn.reading = false) (hw : p.work = .append r) (hf : jn.filling = some (i, k)) (hk : k < 128) :
    jn.startProgram = { jn with busy := true } := by
  unfold JN.startProgram
  rw [hq]
  dsimp only
  rw [if_neg (by rw [hb]; exact nofun), if_neg (by rw [hr]; exact nofun), if_pos (by rw [hw]; rfl), JN.advance_room hf hk, hq]

/-- An append whose status byte is not programmed is made again in the next slot (R149). -/
theorem exec_appendVoided {r : Record} {i k : Nat} (hrun : s.phase = .running) (hm : s.memoryFormed) (hb : s.jn.busy = true)
    (hq : s.jn.queue = p :: rest) (hw : p.work = .append r) (hf : s.jn.filling = some (i, k))
    (herased : s.jn.mem.read (slotAddress i k 0) = 0xFF#8) (hfail : s.jn.failures < 2) (hk : k + 1 < 128)
    (hreading : s.jn.reading = false)
    (hroom : ({ s.jn with filling := some (i, k + 1), claims := s.jn.claims - 1 } : JN).roomFor r.kind = true) :
    ∃ t, exec (.journalProgramDone [0xFF#8]) s = .next t ∧ t.jn.queue = p :: rest ∧ t.jn.busy = true ∧
      t.jn.filling = some (i, k + 1) ∧ t.jn.failures = s.jn.failures + 1 ∧ t.jn.failed = s.jn.failed ∧
      t.jn.mem.read (slotAddress i k 0) = 0xF7#8 ∧ t.jn.segs = s.jn.segs ∧ t.jn.claims = s.jn.claims ∧
      (∀ address, (∀ off, off < 28 → address ≠ slotAddress i k off) → t.jn.mem.read address = s.jn.mem.read address) := by
  have hmade := (State.programMade_voided hb hq hw hf herased).2 hfail hroom
  generalize hv : ({ s with jn := { s.jn with
    mem := s.jn.voidedMem r i k, filling := some (i, k + 1), failures := s.jn.failures + 1 } } : State) = v at hmade
  have hretry : (v.modJN JN.retry).jn = { v.jn with busy := true } := by
    have hqueue : v.jn.queue = p :: rest := by rw [← hv]; exact hq
    have hread : v.jn.reading = false := by rw [← hv]; exact hreading
    have hfill : v.jn.filling = some (i, k + 1) := by rw [← hv]
    exact JN.startProgram_append (jn := { v.jn with busy := false }) hqueue rfl hread hw hfill hk
  have hphase : (v.modJN JN.retry).phase = .running := by rw [← hv]; exact hrun
  generalize v.modJN JN.retry = w at *
  obtain ⟨-, -, -, -, hclaims, hqueue, -⟩ := w.jnRun_rest
  have hserves := w.jnRun_serves
  obtain ⟨hfill, hsegs⟩ := hserves.room i (k + 1) (by rw [hretry, ← hv]) hk
  have hjn : (w.jnRun.noteFree s.jn.free).scanStepEnds.finish.jn = w.jnRun.jn := by
    rw [State.finish_jn, State.scanStepEnds_past]
    · simp
    · simp [hphase]
  obtain ⟨hzero, helse⟩ := JN.voidedMem_reads (r := r) (i := i) (k := k) hm herased
  refine ⟨_, exec_programDone (State.on_of_running hrun) _, ?_⟩
  rw [hmade, hjn, hserves.mem, hserves.failures, hserves.failed, hclaims, hqueue, hfill, hsegs, hretry, ← hv]
  exact ⟨hq, State.jnRun_busy (by rw [hretry]), rfl, rfl, rfl, hzero, rfl, rfl, helse⟩

/-! ### A read that waits (R153) -/

theorem State.jnRun_gives {job : ReadJob} {more : List ReadJob} (hr : s.jn.reads = job :: more) (hy : s.jn.yields job) :
    s.jnRun.jn.reading = true ∧ s.jnRun.jn.reads = s.jn.reads ∧ ∀ bank n later, s.jnRun.jn.queue = n :: later →
      s.jnRun.jn.works n.work bank = true → job.uses bank = true → s.jnRun.jn.busy = false := by
  refine ⟨State.jnRun_reading hr hy, s.jnRun_serves.reads, fun bank n later hq hworks huses => ?_⟩
  by_contra hbusy
  obtain ⟨-, p, hp, hfree⟩ := s.jnRun_serves.yields job more hr hy (by simpa using hbusy)
  rw [hq] at hp
  obtain rfl : n = p := Option.some.inj hp
  exact hfree bank hworks huses

/-- A program's end, whatever it is, has the engine go on from an idle state with the waiting reads as they were (R149). -/
theorem exec_programDone_goesOn {job : ReadJob} {more : List ReadJob} (hrun : s.phase = .running) (hb : s.jn.busy = true)
    (hq : s.jn.queue = p :: rest) (hr : s.jn.reads = job :: more) :
    ∃ u : State, exec (.journalProgramDone []) s = .next u.jnRun.finish ∧ u.jn.reads = s.jn.reads ∧ u.jn.yields job := by
  have hidle : ∀ jn : JN, jn.busy = false → jn.yields job := fun jn h hbusy => absurd (h.symm.trans hbusy) nofun
  cases hw : p.work.isAppend with
  | false =>
    refine ⟨_, exec_changeVerified hrun hb hq hw, ?_, ?_⟩
    · exact (State.tellOwner_serves
        (s := { s with jn := { s.jn with mem := s.jn.changedMem p, failures := 0, queue := rest, busy := false } }) hrun p).reads
    · exact (State.tellOwner_serves
        (s := { s with jn := { s.jn with mem := s.jn.changedMem p, failures := 0, queue := rest, busy := false } })
        hrun p).yields job more hr (hidle _ rfl)
  | true =>
    obtain ⟨r, hr'⟩ : ∃ r, p.work = .append r := by
      cases hp : p.work with
      | append r => exact ⟨r, rfl⟩
      | change c => rw [hp] at hw; exact absurd hw nofun
      | mark q => rw [hp] at hw; exact absurd hw nofun
      | voidSlot i k => rw [hp] at hw; exact absurd hw nofun
    cases hf : s.jn.filling with
    | some f =>
      obtain ⟨i, k⟩ := f
      obtain ⟨u, hexec, hserves⟩ := exec_appendVerified hrun hb hq hr' hf
      obtain ⟨-, hbusy, -, -, -, -, -, -, -, -, -, hreads, -⟩ := JN.appendEnded_rest hq hr' i k
      exact ⟨u, hexec, hserves.reads.trans hreads, hserves.yields job more (hreads.trans hr) (hidle _ hbusy)⟩
    | none =>
      obtain ⟨walk, closes, hjn, -⟩ := State.endUnmade_leaves (s := s.modJN JN.pop) hrun p
      have hpop : (s.modJN JN.pop).jn.reads = s.jn.reads ∧ (s.modJN JN.pop).jn.busy = false := by
        simp [State.modJN, JN.pop, hq]
      refine ⟨(s.modJN JN.pop).endUnmade p, ?_, ?_, hidle _ ?_⟩
      · rw [exec_programDone (State.on_of_running hrun)]
        unfold State.programMade
        rw [hb, hq]
        dsimp only
        rw [hr', hf]
        rfl
      · rw [hjn]
        exact hpop.1
      · rw [hjn]
        exact hpop.2

/-! ### The third failure (R151) -/

theorem exec_thirdFailure {v : State} {w : Work} (hmade : s.programMade [0xFF#8] = (v.enterFailed w).scanStepEnds)
    (hrun : s.phase = .running) (hphase : v.phase = .running)
    (hlen : v.lc.conds.length = 69) (hfailures : v.jn.failures = 3) (hw : ∀ i k, w ≠ .voidSlot i k) :
    ∃ t, exec (.journalProgramDone [0xFF#8]) s = .next t ∧ t.jn.failed = true ∧ t.jn.queue = [] ∧ t.jn.busy = false ∧
      t.jn.failures = 3 ∧ t.lc.conds[65]?.map (·.snapshot) = some (some (u32 w.seq)) := by
  obtain ⟨hfailed, hqueue, hbusy, hthree, hphase', hshot⟩ := State.enterFailed_leaves hphase hlen hw
  refine ⟨_, exec_programDone (State.on_of_running hrun) _, ?_⟩
  rw [hmade, State.scanStepEnds_past (by rw [hphase']; exact nofun), State.finish_jn, (State.finish_conds _).1]
  exact ⟨hfailed, hqueue, hbusy, hthree.trans hfailures, hshot⟩

end

/-- Settles O54: each program's bytes, its retry, the third failure and the waiting read. -/
theorem programsEndAsTheyVerify : Obligations.ProgramsEndAsTheyVerify := by
  refine ⟨fun p rest r i k s hrun hm hb hq hw hf herased => ?_, fun p rest r i k s hrun hm hb hq hw hf herased hfail hk hread hroom =>
      exec_appendVoided hrun hm hb hq hw hf (herased 0 (by omega)) hfail hk hread hroom,
    fun p rest c i k s hrun hm hb hq hw hr hf => ⟨fun x y a b hxy hlate hc hs h28 h29 =>
      exec_closeVerified hrun hm hb hq hw hr hf hxy hlate hc hs h28 h29, fun hc hs =>
      exec_flagsVerified hrun hm hb hq hw hr hf hc hs⟩,
    fun p rest q i k s hrun hm hb hq hw hr hf hs => ⟨exec_markVerified hrun hm hb hq hw hr hf hs, fun hfail =>
      exec_markMissed hrun hm hb hq hw hr hf hs hfail⟩,
    fun p rest job reads s hrun hb hq hr => ?_, fun p rest q i k s hrun hm hb hq hfail hlen hwork => ?_⟩
  · obtain ⟨t, hexec, hmem, hfailures, hrecord⟩ := exec_appendVerified_leaves hrun hb hq hw hf
    obtain ⟨hzero, hone, hfield⟩ := JN.appendedMem_slot (r := r) hm herased
    have hlen := r.early_length
    refine ⟨t, hexec, ?_⟩
    rw [hmem]
    refine ⟨hzero, hone, fun off hoff => ?_, ?_, ?_, fun address ha => JN.appendedMem_elsewhere hm ha, hfailures, hrecord⟩
    · rw [hfield off (by omega), List.getD_append _ _ _ _ (by omega)]
      rfl
    · rw [hfield 24 (by omega), List.getD_append_right _ _ _ _ (by omega), hlen]
      rfl
    · rw [hfield 25 (by omega), List.getD_append_right _ _ _ _ (by omega), hlen]
      rfl
  · obtain ⟨u, hexec, hreads, hyields⟩ := exec_programDone_goesOn hrun hb hq hr
    obtain ⟨hreading, hkept, hfree⟩ := State.jnRun_gives (hreads.trans hr) hyields
    refine ⟨_, hexec, ?_⟩
    rw [State.finish_jn]
    exact ⟨hreading, hkept.trans hreads, hfree⟩
  · rcases hwork with ⟨hw, hr, hf, hs⟩ | ⟨r, hw, rfl, hf, herased⟩
    · have hbad : (programBytes s.jn.mem i k (s.jn.stepsOf p) [0xFF#8]).2 = false := by
        rw [JN.stepsOf_closed hw hr hf hs]
        exact programBytes_fails (by rw [hs]; decide)
      have hmade := (State.programMade_missed hb hq (by rw [hw]; rfl) (by rw [hw]; exact hf) hbad).1 (by omega)
      rw [hw] at hmade
      exact exec_thirdFailure hmade hrun hrun hlen (congrArg (· + 1) hfail) (by simp)
    · have hmade := (State.programMade_voided hb hq hw hf (herased 0 (by omega))).1 (by omega)
      rw [hw] at hmade
      exact exec_thirdFailure hmade hrun hrun hlen (congrArg (· + 1) hfail) (by simp)

end Sys2Proof.Machine
end

section
/-! Journal: the erase, the reads and the journal requests (O55, O56) -/

namespace Sys2Proof.Machine

/-! ## What the engine does to a segment and to the erase run (R144, R158, R159) -/

theorem JN.startRead_eq (jn : JN) : ∃ r, jn.startRead = { jn with reading := r } := by
  unfold JN.startRead
  (repeat' split) <;> exact ⟨_, rfl⟩

theorem JN.advance_congr {a b : JN} (hs : b.segs = a.segs) (hf : b.filling = a.filling) :
    b.advance.segs = a.advance.segs ∧ b.advance.filling = a.advance.filling := by
  have hnext : ∀ i, b.nextErased i = a.nextErased i := fun i => by simp only [JN.nextErased, JN.firstErased, JN.seg, hs]
  unfold JN.advance
  rw [hf]
  cases a.filling with
  | none => exact ⟨hs, hf⟩
  | some f =>
    obtain ⟨i, n⟩ := f
    dsimp only
    rw [hnext]
    split
    · exact ⟨hs, hf⟩
    · cases a.nextErased i with
      | none => exact ⟨hs, hf⟩
      | some j => simp only [JN.modSeg, hs, and_self]

/-- The engine leaves the ring, or advances it for a program it starts. -/
theorem JN.startProgram_ring (jn : JN) : (jn.startProgram.segs = jn.segs ∧ jn.startProgram.filling = jn.filling) ∨
    (jn.queue ≠ [] ∧ jn.busy = false ∧ jn.startProgram.segs = jn.advance.segs ∧ jn.startProgram.filling = jn.advance.filling) := by
  unfold JN.startProgram
  split
  · exact .inl ⟨rfl, rfl⟩
  · next p rest hq =>
    split
    · exact .inl ⟨rfl, rfl⟩
    · next hb =>
      split
      · exact .inl ⟨rfl, rfl⟩
      · split
        · exact .inr ⟨by rw [hq]; exact List.cons_ne_nil _ _, by simpa using hb, rfl, rfl⟩
        · exact .inl ⟨rfl, rfl⟩

theorem JN.timeErase_ring (jn : JN) (now : Nat) : (jn.timeErase now).segs = jn.segs ∧ (jn.timeErase now).filling = jn.filling := by
  unfold JN.timeErase
  (repeat' split) <;> exact ⟨rfl, rfl⟩

theorem State.jnRun_ring (s : State) : (s.jnRun.jn.segs = s.jn.segs ∧ s.jnRun.jn.filling = s.jn.filling) ∨
    (s.jn.queue ≠ [] ∧ s.jn.busy = false ∧ s.jnRun.jn.segs = s.jn.advance.segs ∧ s.jnRun.jn.filling = s.jn.advance.filling) := by
  obtain ⟨r, hr⟩ := s.jn.startRead_eq
  unfold State.jnRun
  dsimp only
  rw [hr, (JN.timeErase_ring _ _).1, (JN.timeErase_ring _ _).2]
  split
  · exact .inl ⟨rfl, rfl⟩
  · rcases JN.startProgram_ring { s.jn with reading := r } with h | ⟨hq, hb, hsegs, hfill⟩
    · exact .inl h
    · obtain ⟨hsegs', hfill'⟩ := JN.advance_congr (a := s.jn) (b := { s.jn with reading := r }) rfl rfl
      exact .inr ⟨hq, hb, hsegs.trans hsegs', hfill.trans hfill'⟩

/-- A segment that is not the FILLING one stays, or, ERASED, is taken as it (R144). -/
theorem State.jnRun_seg {s : State} {m : Nat} (hf : s.jn.filling.map (·.1) ≠ some m) : s.jnRun.jn.seg m = s.jn.seg m ∨
    ((s.jn.seg m).state = .erased ∧ s.jnRun.jn.seg m = { s.jn.seg m with state := .filling, records := [] } ∧
      s.jnRun.jn.filling = some (m, 0) ∧ s.jn.queue ≠ [] ∧ s.jn.busy = false) := by
  rcases s.jnRun_ring with ⟨hsegs, -⟩ | ⟨hq, hb, hsegs, hfill⟩
  · exact .inl (by rw [JN.seg, hsegs]; rfl)
  · have hseg : s.jnRun.jn.seg m = s.jn.advance.seg m := by rw [JN.seg, hsegs]; rfl
    rw [hseg, hfill]
    rcases s.jn.advance_cases with h | ⟨i, n, j, hf', hj, h⟩
    · exact .inl (by rw [h])
    · rw [h]
      rcases s.jn.advanced_seg i j m with ⟨rfl, hm⟩ | ⟨rfl, -⟩ | hm
      · have herased : (s.jn.seg m).state = .erased := by
          have hfound := List.find?_some (show List.find? _ _ = some m from hj)
          simpa using hfound
        exact .inr ⟨herased, hm, rfl, hq, hb⟩
      · exact absurd (by rw [hf']; rfl) hf
      · exact .inl hm

/-- The run goes on as it stands, but for its erase time (R158). -/
theorem State.jnRun_run {s : State} {run : EraseRun} (h : s.jn.run = some run) :
    ∃ spent, s.jnRun.jn.run = some { run with spent := spent } := by
  have hprogram : ∀ jn : JN, jn.startProgram.run = jn.run := fun jn => by
    unfold JN.startProgram
    (repeat' split) <;> simp [JN.advance_rest]
  have htime : ∀ (jn : JN) (now : Nat), jn.run = some run → ∃ spent, (jn.timeErase now).run = some { run with spent := spent } :=
    fun jn now hr => by
      unfold JN.timeErase
      rw [hr]
      dsimp only
      split
      · exact ⟨run.spent, hr⟩
      · exact ⟨_, rfl⟩
  obtain ⟨r, hr⟩ := s.jn.startRead_eq
  unfold State.jnRun
  dsimp only
  rw [hr]
  split
  · exact htime _ _ h
  · exact htime _ _ ((hprogram _).trans h)

theorem JN.startProgram_none {jn : JN} (h : jn.queue = []) : jn.startProgram = jn := by
  unfold JN.startProgram
  rw [h]

theorem JN.timeErase_resumes {jn : JN} {run : EraseRun} {i : Nat} (hr : jn.run = some run) (he : run.erasing = some i)
    (hfree : jn.suspended run.bank = false) (now : Nat) :
    jn.timeErase now = { jn with run := some { run with spent := run.spent.resume now } } := by
  unfold JN.timeErase
  rw [hr]
  dsimp only
  rw [he]
  dsimp only
  rw [if_neg (by rw [hfree]; exact nofun)]

/-- With no program waiting the engine takes up a read and the erase time alone. -/
theorem State.jnRun_noProgram {s : State} (hq : s.jn.queue = []) :
    ∃ r, s.jnRun.jn = ({ s.jn with reading := r } : JN).timeErase s.now := by
  obtain ⟨r, hr⟩ := s.jn.startRead_eq
  have hprogram := JN.startProgram_none (jn := { s.jn with reading := r }) hq
  refine ⟨r, ?_⟩
  unfold State.jnRun
  dsimp only
  rw [hr, hprogram, ite_self]

/-- A run whose bank nothing uses counts its erase time on from now (R158, R159). -/
theorem State.jnRun_counts {s : State} {run : EraseRun} {i : Nat} (hq : s.jn.queue = []) (hr : s.jn.run = some run)
    (he : run.erasing = some i) (hspent : run.spent = Count.zero) (hfree : s.jn.suspended run.bank = false) :
    s.jnRun.jn.run = some { run with spent := ⟨0, some s.now⟩ } ∧ s.jnRun.jn.suspended run.bank = false := by
  obtain ⟨r, hjn⟩ := State.jnRun_noProgram hq
  have hfree' : ∀ jn : JN, jn.queue = [] → jn.reads = s.jn.reads → jn.suspended run.bank = false := fun jn hqueue hreads => by
    simp only [JN.suspended, hq, List.any_nil, Bool.false_or] at hfree
    simp only [JN.suspended, hqueue, hreads, hfree, List.any_nil, Bool.false_or]
  have hrun : s.jnRun.jn = { s.jn with reading := r, run := some { run with spent := ⟨0, some s.now⟩ } } := by
    rw [hjn, JN.timeErase_resumes (jn := { s.jn with reading := r }) hr he (hfree' _ hq rfl), hspent]
    rfl
  rw [hrun]
  exact ⟨rfl, hfree' _ hq rfl⟩

/-! ## The erase run's steps (R157, R158) -/

/-- The journal as the run's lowest segment becomes ERASING. -/
def JN.nextErasing (jn : JN) (run : EraseRun) (i : Nat) (rest : List Nat) : JN :=
  { (jn.modSeg i fun g => { g with state := .erasing, torn := true }) with
    run := some { run with waiting := rest, windowDue := none, erasing := some i, spent := Count.zero }
    reads := jn.reads.map (ReadJob.withErasing i) }

theorem JN.seg_modSeg_at {jn : JN} {i : Nat} (f : Segment → Segment) (h : i < jn.segs.length) :
    (jn.modSeg i f).seg i = f (jn.seg i) := by
  simp only [JN.seg, JN.modSeg, List.getD_eq_getElem?_getD, getElem?_modifyAt, if_true, List.getElem?_eq_getElem h,
    Option.map_some, Option.getD_some]

theorem JN.nextErasing_seg {jn : JN} {i : Nat} (run : EraseRun) (rest : List Nat) (h : i < jn.segs.length) :
    (jn.nextErasing run i rest).seg i = { jn.seg i with state := .erasing, torn := true } ∧
      ∀ m, m ≠ i → (jn.nextErasing run i rest).seg m = jn.seg m := by
  refine ⟨?_, fun m hm => ?_⟩
  · exact JN.seg_modSeg_at (fun g => { g with state := .erasing, torn := true }) h
  · rcases JN.seg_modSeg jn i m fun g => { g with state := .erasing, torn := true } with ⟨h, -⟩ | h
    · exact absurd h hm
    · exact h

section
variable {s : State} {run : EraseRun}

theorem State.eraseNext_waiting {i : Nat} {rest : List Nat} (hr : s.jn.run = some run) (hw : run.waiting = i :: rest) :
    s.eraseNext = ({ s with jn := s.jn.nextErasing run i rest } : State).jnRun := by
  unfold State.eraseNext
  rw [hr]
  dsimp only
  rw [hw]
  rfl

/-- The next segment of the run: what becomes of the run and of the reads that wait (R153, R158). -/
theorem State.eraseNext_begins {i : Nat} {rest : List Nat} (hr : s.jn.run = some run) (hw : run.waiting = i :: rest) :
    (∃ run', s.eraseNext.jn.run = some run' ∧ run'.erasing = some i ∧ run'.waiting = rest ∧ run'.windowDue = none ∧
        run'.bank = run.bank ∧ run'.ended = run.ended) ∧
      s.eraseNext.jn.reads = s.jn.reads.map (fun r => { r with found := r.found.map fun f =>
        (f.1, f.2.1, f.2.2.1, f.2.2.2 || f.2.1 == i) }) := by
  rw [State.eraseNext_waiting hr hw]
  obtain ⟨spent, hrun⟩ := State.jnRun_run (s := { s with jn := s.jn.nextErasing run i rest }) rfl
  exact ⟨⟨_, hrun, rfl, rfl, rfl, rfl, rfl⟩, (State.jnRun_serves { s with jn := s.jn.nextErasing run i rest }).reads⟩

/-- The run's last segment has ended: the run is removed and ERASE_DONE rises (R157, R164). -/
theorem State.eraseNext_last (hr : s.jn.run = some run) (hw : run.waiting = []) :
    s.eraseNext = (({ s with jn := { s.jn with run := none } } : State).raise .eraseDone
      (u8 run.ended.length ++ run.ended.flatMap fun e => u8 (e.1 + 1) ++ u8 (if e.2 then 1 else 2))).formRun := by
  unfold State.eraseNext
  rw [hr]
  dsimp only
  rw [hw]
  rfl

theorem State.formRun_jn (t : State) : ∃ r, t.formRun.jn = { t.jn with run := r } := by
  unfold State.formRun
  split <;> exact ⟨_, rfl⟩

theorem State.formRun_none {t : State} (h : t.jn.run = none) (hp : ∀ j, j < 16 → (t.jn.seg j).state ≠ .pendingErase) :
    t.formRun.jn.run = none := by
  have hnone : t.jn.pendingErase = [] := by
    rw [JN.pendingErase, List.filter_eq_nil_iff]
    intro j hj hstate
    exact hp j (List.mem_range.mp hj) (by simpa using hstate)
  unfold State.formRun
  simp only [hnone, h]

/-- What the run's next step leaves of a segment that is neither the next to erase nor the FILLING one. -/
theorem State.eraseNext_seg {m : Nat} (hr : s.jn.run = some run) (hm : run.waiting.head? ≠ some m)
    (hf : s.jn.filling.map (·.1) ≠ some m) : s.eraseNext.jn.seg m = s.jn.seg m ∨
      ((s.jn.seg m).state = .erased ∧ s.eraseNext.jn.seg m = { s.jn.seg m with state := .filling, records := [] } ∧
        s.eraseNext.jn.filling = some (m, 0) ∧ s.jn.queue ≠ [] ∧ s.jn.busy = false) := by
  cases hw : run.waiting with
  | nil =>
    rw [State.eraseNext_last hr hw]
    obtain ⟨r, hjn⟩ := State.formRun_jn (({ s with jn := { s.jn with run := none } } : State).raise .eraseDone
      (u8 run.ended.length ++ run.ended.flatMap fun e => u8 (e.1 + 1) ++ u8 (if e.2 then 1 else 2)))
    exact .inl (by rw [hjn]; rfl)
  | cons i rest =>
    have hne : m ≠ i := fun h => hm (by rw [hw, h]; rfl)
    have hseg : (s.jn.nextErasing run i rest).seg m = s.jn.seg m := by
      rcases JN.seg_modSeg s.jn i m fun g => { g with state := .erasing, torn := true } with ⟨h, -⟩ | h
      · exact absurd h hne
      · exact h
    have hkept := State.jnRun_seg (s := { s with jn := s.jn.nextErasing run i rest }) (m := m) hf
    rw [State.eraseNext_waiting hr hw]
    simp only [hseg] at hkept
    exact hkept

/-! ## The end of an erasing segment (R158) -/

/-- The journal as an erasing segment ends. -/
def JN.segmentEnded (jn : JN) (run : EraseRun) (i : Nat) (good : Bool) : JN :=
  let jn : JN := { jn with mem := if good then jn.mem.eraseRange (segmentAddress i) segmentBytes else jn.mem }
  { (jn.modSeg i fun g => { state := if good then .erased else .bad, records := [], torn := if good then false else g.torn }) with
    run := some { run with erasing := none, spent := Count.zero, ended := run.ended ++ [(i, good)] } }

theorem State.segmentEnds_eq (s : State) (run : EraseRun) (i : Nat) (good : Bool) :
    s.segmentEnds run i good = ({ s with jn := s.jn.segmentEnded run i good } : State).eraseNext := rfl

theorem JN.segmentEnded_seg {jn : JN} {i : Nat} (run : EraseRun) (good : Bool) (h : i < jn.segs.length) :
    (jn.segmentEnded run i good).seg i =
      { state := if good then .erased else .bad, records := [], torn := if good then false else (jn.seg i).torn } := by
  exact JN.seg_modSeg_at (fun g =>
    { state := if good then .erased else .bad, records := [], torn := if good then false else g.torn }) h

theorem JN.segmentEnded_elsewhere {jn : JN} {i m : Nat} (run : EraseRun) (good : Bool) (h : m ≠ i) :
    (jn.segmentEnded run i good).seg m = jn.seg m := by
  rcases JN.seg_modSeg jn i m fun g =>
    { state := if good then .erased else .bad, records := [], torn := if good then false else g.torn } with ⟨hm, -⟩ | hm
  · exact absurd hm h
  · exact hm

/-- An erased range reads FFh, whatever the memory was. -/
theorem Memory.read_erased (m : Memory) {lo len b : Nat} (h : lo ≤ b) (h' : b < lo + len) : (m.eraseRange lo len).read b = 0xFF#8 := by
  unfold Memory.eraseRange
  induction m with
  | nil => rfl
  | cons c m ih =>
    obtain ⟨a, v⟩ := c
    rw [List.filter_cons]
    split
    · next hkept =>
      have hout : a < lo ∨ lo + len ≤ a := by simpa using hkept
      rw [Memory.read, if_neg (by omega)]
      split
      · rfl
      · exact ih
    · exact ih

theorem segmentAddress_succ (i : Nat) : segmentAddress (i + 1) = segmentAddress i + segmentBytes := by
  simp only [segmentAddress, slotAddress, segmentBytes, Config.slotsPerSegment, Config.slotBytes]
  omega

end

/-! ## The erase and the reads, command by command (R153, R154, R157 to R159) -/

section
variable {s : State} {run : EraseRun} {i : Nat}

theorem JN.suspended_free {jn : JN} {bank : AB} (hq : jn.queue = []) (h : ∀ r ∈ jn.reads, r.uses bank = false) :
    jn.suspended bank = false := by
  simp only [JN.suspended, hq, List.any_nil, Bool.false_or]
  exact List.any_eq_false.mpr fun r hr => by rw [h r hr]; exact nofun

/-- The window's expiry makes the run's lowest segment ERASING (R157). -/
theorem exec_windowExpiry {due : Nat} {rest : List Nat} (hon : s.phase ≠ .off) (hlen : s.jn.segs.length = 16)
    (hr : s.jn.run = some run) (hd : run.windowDue = some due) (hw : run.waiting = i :: rest) (hi : i < 16)
    (hf : s.jn.filling.map (·.1) ≠ some i) :
    ∃ t run', exec .eraseWindowExpiry s = .next t ∧ t.now = max s.now due ∧ t.jn.run = some run' ∧ run'.erasing = some i ∧
      run'.waiting = rest ∧ run'.windowDue = none ∧ run'.bank = run.bank ∧ (t.jn.seg i).state = .erasing ∧
      (t.jn.seg i).records = (s.jn.seg i).records ∧ t.jn.mem = s.jn.mem ∧
      t.jn.reads = s.jn.reads.map (fun r => { r with found := r.found.map fun f =>
        (f.1, f.2.1, f.2.2.1, f.2.2.2 || f.2.1 == i) }) ∧
      (s.jn.queue = [] → (∀ r ∈ s.jn.reads, ∀ f ∈ r.found, f.2.1 = i ∨ f.2.2.2 = true ∨ bankOf f.2.1 ≠ run.bank) →
        t.jn.suspended run.bank = false ∧ run'.spent = ⟨0, some t.now⟩) := by
  have hdoes : s.eventDoes .eraseWindowExpiry = (s.reach due).eraseNext := by
    show s.onEraseWindowExpiry = _
    unfold State.onEraseWindowExpiry
    rw [hr]
    dsimp only
    rw [hd]
  have heq : (s.reach due).eraseNext = ({ s.reach due with jn := s.jn.nextErasing run i rest } : State).jnRun :=
    State.eraseNext_waiting (s := s.reach due) hr hw
  obtain ⟨⟨run', hrun', herase, hwait, hwindow, hbank, -⟩, hreads⟩ := State.eraseNext_begins (s := s.reach due) hr hw
  have hsegment := JN.nextErasing_seg (jn := s.jn) run rest (hlen ▸ hi)
  have hseg : ((s.reach due).eraseNext.jn.seg i) = { s.jn.seg i with state := .erasing, torn := true } := by
    rw [heq]
    rcases State.jnRun_seg (s := { s.reach due with jn := s.jn.nextErasing run i rest }) (m := i) hf with h | ⟨h, -⟩
    · exact h.trans hsegment.1
    · rw [hsegment.1] at h
      exact absurd h nofun
  refine ⟨_, run', exec_event_to rfl rfl hon hdoes, ?_, ?_⟩
  · simp only [State.finish_frame, State.eraseNext_frame]
    rfl
  · rw [State.finish_jn, hseg]
    refine ⟨hrun', herase, hwait, hwindow, hbank, rfl, rfl, ?_, hreads, fun hq hfree => ?_⟩
    · simp only [State.eraseNext_frame]
      rfl
    · have hnone : (s.jn.nextErasing run i rest).suspended run.bank = false := by
        refine JN.suspended_free hq fun r hr => ?_
        obtain ⟨r', hr', rfl⟩ := List.mem_map.mp hr
        refine List.any_eq_false.mpr fun f hf => ?_
        obtain ⟨f', hf', rfl⟩ := List.mem_map.mp hf
        rcases hfree r' hr' f' hf' with h | h | h
        · simp [h]
        · simp [h]
        · simp [h]
      obtain ⟨hspent, hfree'⟩ := State.jnRun_counts (s := { s.reach due with jn := s.jn.nextErasing run i rest })
        (run := { run with waiting := rest, windowDue := none, erasing := some i, spent := Count.zero }) (i := i) hq rfl rfl rfl hnone
      have hnow : (s.reach due).eraseNext.finish.now = (s.reach due).now := by simp
      rw [heq] at hrun' ⊢
      obtain rfl := Option.some.inj (hspent.symm.trans hrun')
      exact ⟨hfree', by simp [State.reach]⟩

/-- What a run's erasing segment does at a command. -/
theorem State.onEraseVerify_eq (hr : s.jn.run = some run) (he : run.erasing = some i) :
    s.onEraseVerify = if s.jn.suspended run.bank then s else s.segmentEnds run i true := by
  unfold State.onEraseVerify
  rw [hr]
  dsimp only
  rw [he]

theorem State.onEraseLimit_eq (hr : s.jn.run = some run) (he : run.erasing = some i) :
    s.onEraseLimit = match run.spent.since with
      | some since => if s.jn.suspended run.bank then s else (s.reach (since + (8000 - run.spent.spent))).segmentEnds run i false
      | none => s := by
  unfold State.onEraseLimit Count.reaches
  rw [hr]
  dsimp only
  rw [he]
  cases run.spent.since <;> rfl

theorem exec_eraseSuspended (hon : s.phase ≠ .off) (hr : s.jn.run = some run) (he : run.erasing = some i)
    (hs : s.jn.suspended run.bank = true) : exec .eraseVerify s = .next s.finish ∧ exec .eraseLimit s = .next s.finish := by
  refine ⟨exec_event_to rfl rfl hon ((State.onEraseVerify_eq hr he).trans (if_pos hs)),
    exec_event_to rfl rfl hon ((State.onEraseLimit_eq hr he).trans ?_)⟩
  split
  · exact if_pos hs
  · rfl

/-- What an ended segment is afterwards: ended, or taken as the FILLING segment at once (R144, R158). -/
theorem State.segmentEnds_seg (hlen : s.jn.segs.length = 16) (hi : i < 16) (hw : run.waiting.head? ≠ some i)
    (hf : s.jn.filling.map (·.1) ≠ some i) (good : Bool) :
    (s.segmentEnds run i good).jn.seg i = (s.jn.segmentEnded run i good).seg i ∨
      (good = true ∧ (s.segmentEnds run i good).jn.seg i = { (s.jn.segmentEnded run i good).seg i with state := .filling, records := [] } ∧
        (s.segmentEnds run i good).jn.filling = some (i, 0) ∧ s.jn.queue ≠ [] ∧ s.jn.busy = false) := by
  have hseg := JN.segmentEnded_seg (jn := s.jn) run good (hlen ▸ hi)
  rw [State.segmentEnds_eq]
  rcases State.eraseNext_seg (s := { s with jn := s.jn.segmentEnded run i good })
    (run := { run with erasing := none, spent := Count.zero, ended := run.ended ++ [(i, good)] }) (m := i) rfl hw hf with h | ⟨h, h'⟩
  · exact .inl h
  · refine .inr ⟨?_, h'⟩
    cases good with
    | true => rfl
    | false =>
      rw [hseg] at h
      exact absurd h nofun

/-- The run's end is announced, and the run is gone where the scan left none (R157, R164). -/
theorem State.segmentEnds_last (hconds : s.lc.conds.length = 69) (hlen : s.jn.segs.length = 16) (hi : i < 16) (hw : run.waiting = []) :
    (s.segmentEnds run i true).lc.isPending 65 = true ∧
      (s.segmentEnds run i true).lc.conds[64]?.map (·.snapshot) = some (some (u8 (run.ended.length + 1) ++
        (run.ended ++ [(i, true)]).flatMap fun e => u8 (e.1 + 1) ++ u8 (if e.2 then 1 else 2))) ∧
      ((∀ j, j < 16 → j ≠ i → (s.jn.seg j).state ≠ .pendingErase) → (s.segmentEnds run i true).jn.run = none) := by
  have heq : s.segmentEnds run i true = _ := State.eraseNext_last (s := { s with jn := s.jn.segmentEnded run i true })
    (run := { run with erasing := none, spent := Count.zero, ended := run.ended ++ [(i, true)] }) rfl hw
  rw [heq]
  dsimp only
  rw [List.length_append, List.length_singleton]
  refine ⟨?_, ?_, fun hp => State.formRun_none rfl fun j hj => ?_⟩
  · simp only [State.formRun_frame, State.raise_lc]
    show (s.lc.raise 65 _).isPending 65 = true
    rw [LC.raise_pending, if_pos rfl, hconds]
    rfl
  · simp only [State.formRun_frame, State.raise_lc]
    exact LC.raise_snapshot (n := 65) hconds (by omega) _
  · by_cases hji : j = i
    · have hseg := JN.segmentEnded_seg (jn := s.jn) run true (hlen ▸ hi)
      show ((s.jn.segmentEnded run i true).seg j).state ≠ _
      rw [hji, hseg]
      exact nofun
    · show ((s.jn.segmentEnded run i true).seg j).state ≠ _
      rw [JN.segmentEnded_elsewhere run true hji]
      exact hp j hj hji

/-- The erase has verified: its bytes, its segment, and what becomes of the run (R158). -/
theorem exec_eraseVerified (hon : s.phase ≠ .off) (hconds : s.lc.conds.length = 69) (hlen : s.jn.segs.length = 16)
    (hr : s.jn.run = some run) (he : run.erasing = some i) (hi : i < 16) (hs : s.jn.suspended run.bank = false) :
    ∃ t, exec .eraseVerify s = .next t ∧
      (run.waiting.head? ≠ some i → s.jn.filling.map (·.1) ≠ some i → (t.jn.seg i).records = [] ∧
        (t.jn.seg i).torn = false ∧ ((t.jn.seg i).state = .erased ∨
          ((t.jn.seg i).state = .filling ∧ t.jn.filling = some (i, 0))) ∧
        (s.jn.queue = [] ∨ s.jn.busy = true → (t.jn.seg i).state = .erased)) ∧
      (∀ address, segmentAddress i ≤ address → address < segmentAddress (i + 1) → t.jn.mem.read address = 0xFF#8) ∧
      (∀ address, address < segmentAddress i ∨ segmentAddress (i + 1) ≤ address →
        s.memoryFormed → t.jn.mem.read address = s.jn.mem.read address) ∧
      (run.waiting = [] → t.lc.isPending 65 = true ∧ t.lc.conds[64]?.map (·.snapshot) = some (some (u8 (run.ended.length + 1) ++
          (run.ended ++ [(i, true)]).flatMap fun e => u8 (e.1 + 1) ++ u8 (if e.2 then 1 else 2))) ∧
        ((∀ j, j < 16 → j ≠ i → (s.jn.seg j).state ≠ .pendingErase) → t.jn.run = none)) ∧
      (∀ j rest, run.waiting = j :: rest → (∃ run', t.jn.run = some run' ∧
          run'.erasing = some j ∧ run'.waiting = rest ∧ run'.ended = run.ended ++ [(i, true)]) ∧
        t.jn.reads = s.jn.reads.map (fun r => { r with found := r.found.map fun f =>
          (f.1, f.2.1, f.2.2.1, f.2.2.2 || f.2.1 == j) })) := by
  have hdoes : s.eventDoes .eraseVerify = s.segmentEnds run i true :=
    (State.onEraseVerify_eq hr he).trans (if_neg (by rw [hs]; exact nofun))
  have hmem := State.segmentEnds_mem s run i true
  rw [if_pos rfl] at hmem
  refine ⟨_, exec_event_to rfl rfl hon hdoes, ?_⟩
  rw [State.finish_jn, hmem, segmentAddress_succ, State.finish_isPending, (State.finish_conds _).1]
  refine ⟨fun hw hf => ?_, fun address h h' => Memory.read_erased _ h h', fun address h hm => ?_, fun hw =>
    State.segmentEnds_last hconds hlen hi hw, fun j rest hw => ?_⟩
  · have hseg := JN.segmentEnded_seg (jn := s.jn) run true (hlen ▸ hi)
    rcases State.segmentEnds_seg hlen hi hw hf true with h | ⟨-, h, hfill, hq, hb⟩
    · rw [h, hseg]
      exact ⟨rfl, rfl, .inl rfl, fun _ => rfl⟩
    · rw [h, hfill, hseg]
      exact ⟨rfl, rfl, .inr ⟨rfl, rfl⟩, fun hidle => absurd hidle (by simp [hq, hb])⟩
  · rw [Memory.read_eraseRange hm, if_neg (by omega)]
  · obtain ⟨⟨run', hrun', herase, hwait, -, -, hended⟩, hreads⟩ := State.eraseNext_begins
      (s := { s with jn := s.jn.segmentEnded run i true })
      (run := { run with erasing := none, spent := Count.zero, ended := run.ended ++ [(i, true)] }) rfl hw
    exact ⟨⟨run', hrun', herase, hwait, hended⟩, hreads⟩

/-- The erase has run its limit without a verify (R158). -/
theorem exec_eraseLimited {since : Nat} (hon : s.phase ≠ .off) (hlen : s.jn.segs.length = 16)
    (hr : s.jn.run = some run) (he : run.erasing = some i) (hi : i < 16) (hs : s.jn.suspended run.bank = false)
    (hsince : run.spent.since = some since) : ∃ t, exec .eraseLimit s = .next t ∧
      t.now = max s.now (since + (8000 - run.spent.spent)) ∧ t.jn.mem = s.jn.mem ∧
      (run.waiting.head? ≠ some i → s.jn.filling.map (·.1) ≠ some i → (t.jn.seg i).state = .bad ∧ (t.jn.seg i).records = []) := by
  have hdoes : s.eventDoes .eraseLimit = (s.reach (since + (8000 - run.spent.spent))).segmentEnds run i false := by
    refine (State.onEraseLimit_eq hr he).trans ?_
    rw [hsince]
    exact if_neg (by rw [hs]; exact nofun)
  refine ⟨_, exec_event_to rfl rfl hon hdoes, ?_, ?_, fun hw hf => ?_⟩
  · rw [State.segmentEnds_eq]
    simp only [State.finish_frame, State.eraseNext_frame]
    rfl
  · rw [State.finish_jn, State.segmentEnds_mem]
    rfl
  · have hseg := JN.segmentEnded_seg (jn := s.jn) run false (hlen ▸ hi)
    rcases State.segmentEnds_seg (s := s.reach (since + (8000 - run.spent.spent))) hlen hi hw hf false with h | ⟨h, -⟩
    · rw [State.finish_jn, h]
      rw [show (s.reach (since + (8000 - run.spent.spent))).jn = s.jn from rfl, hseg]
      exact ⟨rfl, rfl⟩
    · exact absurd h nofun

/-- A read's end is its reply, and the next may start (R153, R154). -/
theorem exec_readDone {r : ReadJob} {rest : List ReadJob} (hon : s.phase ≠ .off) (hreading : s.jn.reading = true)
    (hr : s.jn.reads = r :: rest) :
    ∃ t, exec .journalReadDone s = .next t ∧ t.lc.replies = s.lc.replies ++ [answer 0x41 r.tag (0x00#8 ::
        (u8 (bitSet [s.jn.lowest.isSome, s.jn.exhausted]) ++ u32 (s.jn.lowest.getD 4294967295) ++ u32 s.jn.counter ++
          u8 r.found.length ++ r.found.flatMap s.jn.entry ++ [0x00#8]))] ∧
      t.jn.reads = rest ∧ t.jn.mem = s.jn.mem ∧ t.jn.queue = s.jn.queue := by
  have hanswer := State.ok_replied (kind := 0x41) rfl s r.tag (u8 (bitSet [s.jn.lowest.isSome, s.jn.exhausted]) ++
    u32 (s.jn.lowest.getD 4294967295) ++ u32 s.jn.counter ++ u8 r.found.length ++ r.found.flatMap s.jn.entry ++ [0x00#8])
  have hdoes : s.eventDoes .journalReadDone =
      (((s.answerRead r).modJN fun jn => { jn with reads := rest, reading := false }).jnRun) := by
    show s.readEnds = _
    unfold State.readEnds
    rw [hreading, hr]
  have hends : s.answerRead r = _ := hanswer
  refine ⟨_, exec_event_to rfl rfl hon hdoes, ?_⟩
  rw [State.finish_jn, (State.jnRun_serves _).reads, (State.jnRun_serves _).mem, (State.jnRun_rest _).2.2.2.2.2.1, hends]
  refine ⟨?_, rfl, rfl, rfl⟩
  simp only [State.finish_frame, State.jnRun_frame]
  rfl

end

/-- Settles O55: the window's expiry, the verify and the limit of an erase, and the end of a read. -/
theorem erasesAndReadsEnd : Obligations.ErasesAndReadsEnd := by
  intro s hrun hconds hlen
  have hon := State.on_of_running hrun
  exact ⟨fun run due i rest hr hd hw hi hf => exec_windowExpiry hon hlen hr hd hw hi hf,
    fun run i hr he hi => ⟨exec_eraseSuspended hon hr he, fun hs => ⟨exec_eraseVerified hon hconds hlen hr he hi hs,
      fun since hsince => exec_eraseLimited hon hlen hr he hi hs hsince⟩⟩,
    fun r rest hreading hr => exec_readDone hon hreading hr⟩

/-! ## The reconcile walk (R155) -/

section
variable {s : State}

theorem slotState_closed {b : Byte} : slotState b = some .closed ↔ b = 0x3F#8 := by
  constructor
  · intro h
    unfold slotState at h
    split at h
    · exact absurd h nofun
    · split at h
      · exact absurd h nofun
      · split at h
        · assumption
        · split at h
          · exact absurd h nofun
          · split at h <;> exact absurd h nofun
  · rintro rfl
    rfl

/-- A mark touches its own slot's status alone. -/
theorem JN.markedMem_status {jn : JN} {p : Program} {q i k i' k' : Nat} (hm : jn.mem.wf = true) (hw : p.work = .mark q)
    (hr : p.redo = none) (hf : jn.find q = some (i, k)) (hne : slotAddress i' k' 0 ≠ slotAddress i k 0) :
    slotState ((jn.changedMem p).read (slotAddress i' k' 0)) = jn.status i' k' := by
  rw [JN.changedMem_at (by rw [hw]; exact hf), programBytes_elsewhere hm]
  · rfl
  · exact fun x hx => (JN.stepsOf_mark hw hr x hx) ▸ hne

/-- A journal's records ahead of a walk that has reached a sequence. -/
theorem JN.ahead_reached (jn : JN) (w : Walk) (q : Nat) (hw : w.reached = some q) :
    jn.ahead w = jn.bySeq.filter fun e => decide (q < e.1 ∧ e.1 ≤ w.through) := by
  unfold JN.ahead
  rw [hw]
  refine List.filter_congr fun e _ => ?_
  rw [Bool.decide_and, Bool.and_comm]

theorem State.walkOn_ran {w : Walk} {r : Option Nat} (h : s.jn.walkNext (s.jn.ahead w) w.reached = .ran r) :
    s.walkOn w = s.endWalk w r .nothing := by
  unfold State.walkOn
  rw [h]

theorem State.walkOn_stopped {w : Walk} {q : Nat} {r : Option Nat} (h : s.jn.walkNext (s.jn.ahead w) w.reached = .stopped q r) :
    s.walkOn w = s.endWalk w r (.written q) := by
  unfold State.walkOn
  rw [h]

/-- The walk hands its next mark to the engine. -/
theorem State.walkOn_marks {w : Walk} {q : Nat} {r : Option Nat} (hf : s.jn.failed = false)
    (h : s.jn.walkNext (s.jn.ahead w) w.reached = .mark q r) :
    s.walkOn w = ({ s with jn := { s.jn with
      walk := some { w with reached := r }, queue := s.jn.queue ++ [{ owner := .walk, work := .mark q }] } } : State).jnRun := by
  unfold State.walkOn
  rw [h]
  dsimp only
  unfold State.hand
  rw [if_neg (show ¬ (s.modJN fun jn => { jn with walk := some { w with reached := r } }).jn.failed = true from by
    rw [show (s.modJN fun jn => { jn with walk := some { w with reached := r } }).jn.failed = s.jn.failed from rfl, hf]
    exact nofun)]
  exact if_pos rfl

theorem State.endWalk_replied (s : State) (w : Walk) (r : Option Nat) (why : WalkStop) :
    s.endWalk w r why = ({ s with jn := { s.jn with walk := none } } : State).replied 0x42 w.tag
      (0x00#8 :: (optional 4 (r.map u32) ++ u16 w.marked ++ why.bytes)) :=
  State.ok_replied rfl _ _ _

/-- The end of a walk, the engine going on. -/
theorem State.endWalk_leaves (s : State) (w : Walk) (r : Option Nat) (why : WalkStop) :
    (s.endWalk w r why).jnRun.finish.jn.walk = none ∧ (s.endWalk w r why).jnRun.finish.jn.queue = s.jn.queue ∧
      (s.endWalk w r why).jnRun.finish.lc.replies = s.lc.replies ++
        [answer 0x42 w.tag (0x00#8 :: (optional 4 (r.map u32) ++ u16 w.marked ++ why.bytes))] := by
  rw [State.finish_jn]
  obtain ⟨-, -, -, -, -, hqueue, -, hwalk, -⟩ := (s.endWalk w r why).jnRun_rest
  rw [hqueue, hwalk, State.endWalk_replied]
  refine ⟨rfl, rfl, ?_⟩
  simp only [State.finish_frame, State.jnRun_frame]
  rfl

variable {w : Walk} {p : Program} {rest : List Program} {q i k : Nat}

/-- A verified mark of the walk: the walk goes on over the records ahead (R155). -/
theorem exec_walkMarked (hrun : s.phase = .running) (hwalk : s.jn.walk = some w) (hb : s.jn.busy = true)
    (hq : s.jn.queue = p :: rest) (ho : p.owner = .walk) (hw : p.work = .mark q) :
    exec (.journalProgramDone []) s = .next ((({ s with jn := { s.jn with
      mem := s.jn.changedMem p, failures := 0, queue := rest, busy := false, walk := some { w with reached := some q, marked := w.marked + 1 } } } :
        State).walkOn { w with reached := some q, marked := w.marked + 1 }).jnRun.finish) := by
  rw [exec_changeVerified hrun hb hq (by rw [hw]; rfl)]
  unfold State.tellOwner
  rw [ho]
  dsimp only
  unfold State.markEnds
  dsimp only
  rw [hwalk, hw]
  rfl

/-- An entry into FAILED at a mark ends the walk (R151, R155). -/
theorem exec_walkFails {missed : List Byte} (hrun : s.phase = .running) (hwalk : s.jn.walk = some w) (hb : s.jn.busy = true)
    (hq : s.jn.queue = [p]) (ho : p.owner = .walk) (hw : p.work = .mark q) (hf : s.jn.find q = some (i, k)) (hfail : s.jn.failures = 2)
    (hbad : (programBytes s.jn.mem i k (s.jn.stepsOf p) missed).2 = false) :
    ∃ t, exec (.journalProgramDone missed) s = .next t ∧ t.jn.walk = none ∧ t.jn.failed = true ∧
      t.lc.replies = s.lc.replies ++ [answer 0x42 w.tag (0x00#8 ::
        (optional 4 (w.reached.map u32) ++ u16 w.marked ++ 0x02#8 :: 0x00#8 :: List.replicate 4 0xFF#8))] := by
  have hmade := (State.programMade_missed hb hq (by rw [hw]; rfl) (by rw [hw]; exact hf) hbad).1 (by omega)
  generalize hv : ({ s with jn := { s.jn with
    mem := (programBytes s.jn.mem i k (s.jn.stepsOf p) missed).1, failures := s.jn.failures + 1 } } : State) = v at hmade
  have hvq : v.jn.queue = [p] := by rw [← hv]; exact hq
  have hvw : v.jn.walk = some w := by rw [← hv]; exact hwalk
  generalize hu : (v.modJN fun jn => { jn with
    failed := true, queue := [], busy := false
    claims := jn.claims - (v.jn.queue.filter fun p => p.work.isAppend).length }) = u
  have henter : v.enterFailed p.work = ((u.endWalk w w.reached .failed).raiseFailed p.work).jnRun := by
    have huw : u.jn.walk = some w := by rw [← hu]; exact hvw
    have hends : u.endAllUnmade [p] = u.endWalk w w.reached .failed := by
      rw [State.endAllUnmade, List.foldl_cons, List.foldl_nil, State.endUnmade, State.tellOwner, ho]
      dsimp only
      unfold State.markEnds
      rw [huw]
      rfl
    rw [← hends, ← hu, hvq]
    unfold State.enterFailed
    dsimp only
    rw [hvq]
  obtain ⟨hfailed, -, -, -, -, -, -, hwalk', -⟩ := ((u.endWalk w w.reached .failed).raiseFailed p.work).jnRun_rest
  have hphase : (((u.endWalk w w.reached .failed).raiseFailed p.work).jnRun).phase = .running := by
    simp only [State.jnRun_frame, State.raiseFailed_frame, State.endWalk_replied]
    rw [← hu, ← hv]
    exact hrun
  refine ⟨_, exec_programDone (State.on_of_running hrun) _, ?_⟩
  rw [hmade, henter, State.scanStepEnds_past (by rw [hphase]; exact nofun), State.finish_jn, hfailed, hwalk']
  simp only [State.raiseFailed_frame, State.endWalk_replied, State.finish_frame, State.jnRun_frame]
  rw [← hu, ← hv]
  exact ⟨rfl, rfl, rfl⟩

/-- The walk after a verified mark, by what is ahead (R155). -/
theorem exec_walkMarked_leaves {ahead : List (Nat × Nat × Nat)} (hrun : s.phase = .running) (hm : s.memoryFormed)
    (hfailed : s.jn.failed = false) (hwalk : s.jn.walk = some w) (hb : s.jn.busy = true)
    (hq : s.jn.queue = p :: rest) (ho : p.owner = .walk) (hw : p.work = .mark q) (hr : p.redo = none) (hf : s.jn.find q = some (i, k))
    (ha : ahead = s.jn.bySeq.filter fun e => decide (q < e.1 ∧ e.1 ≤ w.through)) :
    (ahead = [] → ∃ t, exec (.journalProgramDone []) s = .next t ∧ t.jn.walk = none ∧ t.jn.queue = rest ∧
      t.lc.replies = s.lc.replies ++ [answer 0x42 w.tag (0x00#8 :: (0x01#8 :: u32 q ++ u16 (w.marked + 1) ++
        0x03#8 :: 0x00#8 :: List.replicate 4 0xFF#8))]) ∧
    (∀ q' i' k' more, ahead = (q', i', k') :: more → (s.jn.seg i').state ≠ .erasing →
      slotAddress i' k' 0 ≠ slotAddress i k 0 →
      (s.jn.status i' k' = some .closed → ∃ t, exec (.journalProgramDone []) s = .next t ∧
        t.jn.walk = some { w with reached := some q, marked := w.marked + 1 } ∧
        t.jn.queue = rest ++ [{ owner := .walk, work := .mark q' }] ∧ t.lc.replies = s.lc.replies) ∧
      (s.jn.status i' k' = some .written → ∃ t, exec (.journalProgramDone []) s = .next t ∧ t.jn.walk = none ∧
        t.jn.queue = rest ∧ t.lc.replies = s.lc.replies ++ [answer 0x42 w.tag (0x00#8 :: (0x01#8 :: u32 q ++
          u16 (w.marked + 1) ++ 0x01#8 :: 0x01#8 :: u32 q'))])) := by
  have hexec := exec_walkMarked hrun hwalk hb hq ho hw
  generalize hv : ({ s with jn := { s.jn with
    mem := s.jn.changedMem p, failures := 0, queue := rest, busy := false
    walk := some { w with reached := some q, marked := w.marked + 1 } } } : State) = v at hexec
  have hvahead : v.jn.ahead { w with reached := some q, marked := w.marked + 1 } = ahead := by
    rw [ha, JN.ahead_reached _ _ q rfl, ← hv]
    rfl
  have hvq : v.jn.queue = rest := by rw [← hv]
  have hvreplies : v.lc.replies = s.lc.replies := by rw [← hv]
  refine ⟨fun hnil => ?_, fun q' i' k' more hcons herasing hne => ?_⟩
  · have hnext : v.jn.walkNext (v.jn.ahead { w with reached := some q, marked := w.marked + 1 }) (some q) = .ran (some q) := by
      rw [hvahead, hnil]
      rfl
    rw [State.walkOn_ran hnext] at hexec
    obtain ⟨hwalk', hqueue, hreplies⟩ := v.endWalk_leaves { w with reached := some q, marked := w.marked + 1 } (some q) .nothing
    exact ⟨_, hexec, hwalk', hqueue.trans hvq, hvreplies ▸ hreplies⟩
  · have hstatus : v.jn.status i' k' = s.jn.status i' k' := by
      rw [← JN.markedMem_status hm hw hr hf hne, ← hv]
      rfl
    have herasing' : (v.jn.seg i').state ≠ .erasing := by rw [← hv]; exact herasing
    refine ⟨fun hclosed => ?_, fun hwritten => ?_⟩
    · have hnext : v.jn.walkNext (v.jn.ahead { w with reached := some q, marked := w.marked + 1 }) (some q) = .mark q' (some q) := by
        rw [hvahead, hcons, JN.walkNext, if_neg herasing', hstatus, hclosed]
      have hvf : v.jn.failed = false := by rw [← hv]; exact hfailed
      rw [State.walkOn_marks hvf hnext] at hexec
      refine ⟨_, hexec, ?_⟩
      rw [State.finish_jn, (State.jnRun_rest _).2.2.2.2.2.2.2.1, (State.jnRun_rest _).2.2.2.2.2.1,
        (State.jnRun_rest _).2.2.2.2.2.2.2.1, (State.jnRun_rest _).2.2.2.2.2.1, hvq]
      simp only [State.finish_frame, State.jnRun_frame]
      exact ⟨trivial, trivial, hvreplies⟩
    · have hnext : v.jn.walkNext (v.jn.ahead { w with reached := some q, marked := w.marked + 1 }) (some q) = .stopped q' (some q) := by
        rw [hvahead, hcons, JN.walkNext, if_neg herasing', hstatus, hwritten]
      rw [State.walkOn_stopped hnext] at hexec
      obtain ⟨hwalk', hqueue, hreplies⟩ := v.endWalk_leaves { w with reached := some q, marked := w.marked + 1 } (some q) (.written q')
      exact ⟨_, hexec, hwalk', hqueue.trans hvq, hvreplies ▸ hreplies⟩

end

/-! ## The journal requests (R154 to R156, R167) -/

section
variable {s : State}

/-! ### JOURNAL_READ (R154) -/

theorem State.answerRead_replied (s : State) (r : ReadJob) : s.answerRead r = s.replied 0x41 r.tag (0x00#8 ::
    (u8 (bitSet [s.jn.lowest.isSome, s.jn.exhausted]) ++ u32 (s.jn.lowest.getD 4294967295) ++ u32 s.jn.counter ++
      u8 r.found.length ++ r.found.flatMap s.jn.entry ++ [0x00#8])) := State.ok_replied rfl _ _ _

theorem State.ownJournalRead_none {tag start count : Nat} (h1 : 1 ≤ count) (h6 : count ≤ 6) (h : ∀ e ∈ s.jn.bySeq, e.1 < start) :
    s.ownJournalRead tag start count = s.answerRead ⟨tag, []⟩ := by
  have hnone : (s.jn.bySeq.filter fun e => decide (start ≤ e.1)) = [] := by
    rw [List.filter_eq_nil_iff]
    intro e he hle
    exact absurd (h e he) (Nat.not_lt.mpr (of_decide_eq_true hle))
  have hcount : ¬ (count < 1 ∨ Config.readMax < count) := by simp only [Config.readMax]; omega
  unfold State.ownJournalRead
  rw [if_neg hcount]
  dsimp only
  rw [hnone, List.take_nil]
  rfl

/-- What a read asks of the memory: the first record at or above its start leads. -/
theorem State.ownJournalRead_waits {tag start count q i k : Nat} {rest : List (Nat × Nat × Nat)} (h1 : 1 ≤ count) (h6 : count ≤ 6)
    (hseq : s.jn.bySeq = (q, i, k) :: rest) (hle : start ≤ q) (hstate : (s.jn.seg i).state ≠ .erasing) :
    ∃ job : ReadJob, job.tag = tag ∧ job.found.length ≤ count ∧ job.found.head? = some (q, i, k, false) ∧
      s.ownJournalRead tag start count = ({ s with jn := { s.jn with reads := s.jn.reads ++ [job] } } : State).jnRun := by
  obtain ⟨n, rfl⟩ : ∃ n, count = n + 1 := ⟨count - 1, by omega⟩
  have hfound : ((s.jn.bySeq.filter fun e => decide (start ≤ e.1)).take (n + 1)).map
      (fun e => (e.1, e.2.1, e.2.2, (s.jn.seg e.2.1).state == .erasing)) = (q, i, k, false) ::
        ((rest.filter fun e => decide (start ≤ e.1)).take n).map fun e => (e.1, e.2.1, e.2.2, (s.jn.seg e.2.1).state == .erasing) := by
    rw [hseq, List.filter_cons_of_pos (by simpa using hle), List.take_succ_cons, List.map_cons]
    simp [hstate]
  refine ⟨⟨tag, (q, i, k, false) :: ((rest.filter fun e => decide (start ≤ e.1)).take n).map fun e =>
    (e.1, e.2.1, e.2.2, (s.jn.seg e.2.1).state == .erasing)⟩, rfl, ?_, rfl, ?_⟩
  · simp
  · have hcount : ¬ (n + 1 < 1 ∨ Config.readMax < n + 1) := by simp only [Config.readMax]; omega
    unfold State.ownJournalRead
    rw [if_neg hcount]
    dsimp only
    rw [hfound, if_pos]
    · rfl
    · cases hb : bankOf i <;> simp [ReadJob.uses, hb]

/-! ### JOURNAL_RECONCILE (R155) -/

theorem State.ownJournalReconcile_walks {tag through : Nat} (hf : s.jn.failed = false) (hw : s.jn.walk = none) :
    s.ownJournalReconcile tag through = s.walkOn ⟨tag, through, none, 0⟩ := by
  unfold State.ownJournalReconcile
  rw [if_neg (by rw [hf]; exact nofun), if_neg (by rw [hw]; exact nofun)]

theorem State.noWalk (h : s.jn.walk = none) : ({ s with jn := { s.jn with walk := none } } : State) = s := by
  rw [← h]

/-- The records at or below a bound that a new walk has ahead. -/
theorem JN.ahead_new (jn : JN) (tag through : Nat) : jn.ahead ⟨tag, through, none, 0⟩ = jn.bySeq.filter fun e => decide (e.1 ≤ through) := by
  unfold JN.ahead
  exact List.filter_congr fun e _ => Bool.and_true _

theorem State.ownJournalReconcile_none {tag through : Nat} (hf : s.jn.failed = false) (hw : s.jn.walk = none)
    (h : ∀ e ∈ s.jn.bySeq, through < e.1) : s.ownJournalReconcile tag through = s.replied 0x42 tag (0x00#8 :: (0x00#8 ::
        List.replicate 4 0xFF#8 ++ u16 0 ++ u8 3 ++ 0x00#8 :: List.replicate 4 0xFF#8)) := by
  have hnil : s.jn.ahead ⟨tag, through, none, 0⟩ = [] := by
    rw [JN.ahead_new, List.filter_eq_nil_iff]
    intro e he hle
    exact absurd (h e he) (Nat.not_lt.mpr (of_decide_eq_true hle))
  rw [State.ownJournalReconcile_walks hf hw, State.walkOn_ran (r := none) (by rw [hnil]; rfl), State.endWalk_replied, State.noWalk hw]
  rfl

theorem State.ownJournalReconcile_first {tag through q i k : Nat} {rest : List (Nat × Nat × Nat)} (hf : s.jn.failed = false)
    (hw : s.jn.walk = none) (hseq : s.jn.bySeq = (q, i, k) :: rest) (hle : q ≤ through) (hstate : (s.jn.seg i).state ≠ .erasing) :
    (s.jn.status i k = some .closed → s.ownJournalReconcile tag through = ({ s with jn := { s.jn with
      walk := some ⟨tag, through, none, 0⟩, queue := s.jn.queue ++ [{ owner := .walk, work := .mark q }] } } : State).jnRun) ∧
    (s.jn.status i k = some .written → s.ownJournalReconcile tag through = s.replied 0x42 tag
      (0x00#8 :: (0x00#8 :: List.replicate 4 0xFF#8 ++ u16 0 ++ u8 1 ++ 0x01#8 :: u32 q))) := by
  have hahead : s.jn.ahead ⟨tag, through, none, 0⟩ = (q, i, k) :: rest.filter fun e => decide (e.1 ≤ through) := by
    rw [JN.ahead_new, hseq, List.filter_cons_of_pos (by simpa using hle)]
  rw [State.ownJournalReconcile_walks hf hw]
  refine ⟨fun hclosed => ?_, fun hwritten => ?_⟩
  · exact State.walkOn_marks (r := none) hf (by rw [hahead, JN.walkNext, if_neg hstate, hclosed])
  · rw [State.walkOn_stopped (r := none) (q := q) (by rw [hahead, JN.walkNext, if_neg hstate, hwritten]), State.endWalk_replied,
      State.noWalk hw]
    rfl

/-! ### JOURNAL_ERASE (R156) -/

theorem State.okErase_replied (s : State) (tag word i : Nat) : s.okErase tag word i = s.replied 0x43 tag
    (0x00#8 :: (u8 word ++ u8 (i + 1) ++ u8 (s.jn.seg i).state.code ++ u16 500)) := State.ok_replied rfl _ _ _

theorem State.okErase_pending {i : Nat} (h : (s.jn.seg i).state = .pendingErase) (tag word : Nat) : s.okErase tag word i =
    s.replied 0x43 tag (0x00#8 :: (u8 word ++ u8 (i + 1) ++ u8 4 ++ u16 500)) := by
  rw [State.okErase_replied, h]
  rfl

theorem State.ownJournalErase_segment {tag i : Nat} (hi : i < 16) : s.ownJournalErase tag (i + 1) = s.eraseSegment tag i := by
  unfold State.ownJournalErase
  exact if_neg (show ¬ (i + 1 < 1 ∨ 16 < i + 1) from by omega)

/-- A run whose window is open for a bank (R156). -/
def JN.joins (jn : JN) (bank : AB) : Bool := jn.run.any fun run => run.bank == bank && run.windowDue.isSome

theorem JN.joins_iff (jn : JN) (bank : AB) :
    jn.joins bank = true ↔ ∃ run, jn.run = some run ∧ run.bank = bank ∧ run.windowDue ≠ none := by
  unfold JN.joins
  cases jn.run with
  | none => simp
  | some run => simp [Option.isSome_iff_ne_none]

/-- A segment waits in the run. -/
def JN.awaits (jn : JN) (i : Nat) : Bool := jn.run.any fun run => run.waiting.contains i

theorem JN.awaits_iff (jn : JN) (i : Nat) : jn.awaits i = true ↔ ∃ run, jn.run = some run ∧ i ∈ run.waiting := by
  unfold JN.awaits
  cases jn.run with
  | none => simp
  | some run => simp

variable {tag i : Nat}

theorem State.eraseSegment_inUse (h : (s.jn.seg i).state = .filling) :
    s.eraseSegment tag i = s.refuse 0x43 tag .segmentInUse [] := by
  unfold State.eraseSegment
  exact if_pos h

theorem State.eraseSegment_waits {run : EraseRun} (hstate : (s.jn.seg i).state = .pendingErase) (hr : s.jn.run = some run)
    (hj : s.jn.joins (bankOf i) = true) (ha : s.jn.awaits i = true) :
    s.eraseSegment tag i = ({ s with jn := { s.jn with run := some { run with windowDue := some (s.now + 500) } } } : State).okErase tag 1 i := by
  unfold State.eraseSegment
  refine (if_neg (by rw [hstate]; exact nofun)).trans ((if_pos ⟨hj, ha⟩).trans ?_)
  simp only [State.modJN, hr]
  rfl

theorem State.eraseSegment_wrong (hf : (s.jn.seg i).state ≠ .filling) (hj : ¬ (s.jn.joins (bankOf i) = true ∧ s.jn.awaits i = true))
    (hstate : (s.jn.seg i).state ≠ .full) : s.eraseSegment tag i = s.refuse 0x43 tag .wrongState [] := by
  unfold State.eraseSegment
  exact (if_neg hf).trans ((if_neg hj).trans (if_pos hstate))

theorem State.eraseSegment_busy (hstate : (s.jn.seg i).state = .full) (hr : s.jn.run ≠ none) (hj : s.jn.joins (bankOf i) = false) :
    s.eraseSegment tag i = s.refuse 0x43 tag .busy [] := by
  unfold State.eraseSegment
  exact (if_neg (by rw [hstate]; exact nofun)).trans ((if_neg fun h => Bool.false_ne_true (hj.symm.trans h.1)).trans
    ((if_neg fun h => h hstate).trans (if_pos ⟨Option.isSome_iff_ne_none.mpr hr, hj⟩)))

/-- A FULL segment that the run can take: what its records decide (R156). -/
theorem State.eraseSegment_full (hstate : (s.jn.seg i).state = .full) (hr : s.jn.run = none ∨ s.jn.joins (bankOf i) = true)
    (ha : s.jn.awaits i = false) :
    (∀ seq, s.jn.unsettled i = some seq → s.eraseSegment tag i = s.refuse 0x43 tag .unreconciled (u32 seq)) ∧
    (∀ run, s.jn.unsettled i = none → s.jn.run = some run → s.eraseSegment tag i =
      ({ s with jn := { s.jn.modSeg i fun g => { g with state := .pendingErase } with
        run := some { run with waiting := insertAscending i run.waiting, windowDue := some (s.now + 500) } } } : State).okErase tag 1 i) ∧
    (s.jn.unsettled i = none → s.jn.run = none → s.eraseSegment tag i =
      ({ s with jn := { s.jn.modSeg i fun g => { g with state := .pendingErase } with
        run := some ⟨bankOf i, [i], some (s.now + 500), none, Count.zero, []⟩ } } : State).okErase tag 2 i) := by
  have hfree : ¬ (s.jn.run.isSome = true ∧ s.jn.joins (bankOf i) = false) := by
    rintro ⟨hsome, hj⟩
    rcases hr with hr | hr
    · rw [hr] at hsome
      exact absurd hsome nofun
    · exact Bool.false_ne_true (hj.symm.trans hr)
  have hfilling : ¬ (s.jn.seg i).state = .filling := by rw [hstate]; exact nofun
  have hchecks : ∀ t, (s.eraseSegment tag i = t ↔ _ = t) := fun t => iff_of_eq (congrArg (· = t) ((if_neg hfilling).trans
    ((if_neg fun h => Bool.false_ne_true (ha.symm.trans h.2)).trans ((if_neg fun h => h hstate).trans (if_neg hfree)))))
  refine ⟨fun seq hu => (hchecks _).mpr ?_, fun run hu hrun => (hchecks _).mpr ?_, fun hu hrun => (hchecks _).mpr ?_⟩
  · rw [hu]
  · rw [hu]
    simp only [State.modJN, JN.modSeg, hrun, Config.eraseWindow]
  · rw [hu]
    simp only [State.modJN, JN.modSeg, hrun, runFor, Config.eraseWindow]

theorem JN.unsettled_some {jn : JN} {k q : Nat} (hin : (k, q) ∈ (jn.seg i).records) (hs : jn.status i k ∈ [some .written, some .closed])
    (hle : ∀ e ∈ (jn.seg i).records, jn.status i e.1 ∈ [some .written, some .closed] → q ≤ e.2) : jn.unsettled i = some q := by
  have hopen : ∀ k, (jn.status i k == some .written || jn.status i k == some .closed) = true ↔
      jn.status i k ∈ [some SlotState.written, some .closed] := fun k => by simp
  unfold JN.unsettled
  rw [List.min?_eq_some_iff]
  refine ⟨List.mem_map.mpr ⟨(k, q), List.mem_filter.mpr ⟨hin, (hopen k).mpr hs⟩, rfl⟩, fun b hb => ?_⟩
  obtain ⟨e, he, rfl⟩ := List.mem_map.mp hb
  obtain ⟨hrec, hst⟩ := List.mem_filter.mp he
  exact hle e hrec ((hopen e.1).mp hst)

theorem JN.unsettled_none {jn : JN} (h : ∀ r ∈ (jn.seg i).records, jn.status i r.1 = some .reconciled) : jn.unsettled i = none := by
  unfold JN.unsettled
  rw [List.min?_eq_none_iff, List.map_eq_nil_iff, List.filter_eq_nil_iff]
  intro r hr
  rw [h r hr]
  exact nofun

theorem mem_insertAscending {j : Nat} (js : List Nat) : j ∈ insertAscending i js ↔ j = i ∨ j ∈ js := by
  induction js with
  | nil => simp [insertAscending]
  | cons a js ih =>
    unfold insertAscending
    split
    · simp
    · simp only [List.mem_cons, ih]
      tauto

/-! ### JOURNAL_RECOVER (R167) -/

theorem State.handAgain_none {t : State} (hscan : t.jn.scanCloses = []) (howed : t.ss.owed = []) (hcu : t.cu.owed = none) :
    (t.handScanCloses.handOwedClose).handOwedChange = t := by
  have hclose : t.handScanCloses = t := by
    have hsame : (t.modJN fun jn => { jn with scanCloses := [] }) = t := by
      rw [State.modJN, ← hscan]
    rw [State.handScanCloses, hsame, hscan]
    rfl
  rw [hclose]
  have h1 : t.handOwedClose = t := by
    unfold State.handOwedClose
    rw [howed]
  rw [h1]
  unfold State.handOwedChange
  rw [hcu]

/-- A journal with an append point, or one that finds one, returns to OPERATING (R167). -/
theorem State.ownJournalRecover_recovers {jn : JN} {f : Nat × Nat} (hfailed : s.jn.failed = true) (hfind : s.jn.findFilling = jn)
    (hfill : jn.filling = some f) (hscan : jn.scanCloses = []) (howed : s.ss.owed = []) (hcu : s.cu.owed = none) :
    s.ownJournalRecover tag = ({ s with jn := { jn with failed := false, failures := 0 } } : State).replied 0x44 tag [0x00#8, 0x01#8] := by
  unfold State.ownJournalRecover
  rw [if_pos hfailed]
  unfold State.recover State.modJN
  dsimp only
  rw [hfind, hfill]
  dsimp only [Option.isSome_some]
  rw [if_pos rfl, State.ok_replied rfl]
  exact State.handAgain_none hscan howed hcu

theorem JN.findFilling_none {jn : JN} (hf : jn.filling = none) (h : ∀ i, i < 16 → (jn.seg i).state ≠ .erased) : jn.findFilling = jn := by
  have hnone : jn.firstErased (List.range Config.segments) = none := by
    rw [JN.firstErased, List.find?_eq_none]
    intro i hi hstate
    exact h i (List.mem_range.mp hi) (by simpa using hstate)
  unfold JN.findFilling
  rw [hf, hnone]

theorem JN.findFilling_some {jn : JN} {f : Nat × Nat} (hf : jn.filling = some f) : jn.findFilling = jn := by
  unfold JN.findFilling
  rw [hf]

theorem JN.findFilling_first {jn : JN} {i : Nat} (hi : i < 16) (hf : jn.filling = none) (he : (jn.seg i).state = .erased)
    (h : ∀ j, j < i → (jn.seg j).state ≠ .erased) :
    jn.findFilling = { (jn.modSeg i fun g => { g with state := .filling }) with filling := some (i, 0) } := by
  have hfirst : jn.firstErased (List.range Config.segments) = some i := by
    rw [JN.firstErased, List.find?_range_eq_some]
    refine ⟨by simp [he], List.mem_range.mpr hi, fun j hj => ?_⟩
    simpa using h j hj
  unfold JN.findFilling
  rw [hf, hfirst]

end

/-! ## The journal requests, command by command (R154 to R156, R167) -/

section
variable {s : State} {tag : Nat}

/-- JOURNAL_READ (R154). -/
theorem exec_journalRead (hs : s.Serves tag) :
    (∀ start count, count < 1 ∨ 6 < count →
      exec (.journalRead tag start count) s = .next (s.refused 0x41 tag .malformed).finish) ∧
    (∀ start count, 1 ≤ count → count ≤ 6 →
      ((∀ e ∈ s.jn.bySeq, e.1 < start) → exec (.journalRead tag start count) s =
        .next (s.counted.replied 0x41 tag (0x00#8 :: (u8 (bitSet [s.jn.lowest.isSome, s.jn.exhausted]) ++
          u32 (s.jn.lowest.getD 4294967295) ++ u32 s.jn.counter ++ [0x00#8, 0x00#8]))).finish) ∧
      (∀ q i k rest, s.jn.bySeq = (q, i, k) :: rest → start ≤ q → (s.jn.seg i).state ≠ .erasing →
        ∃ t job, exec (.journalRead tag start count) s = .next t ∧ job.tag = tag ∧ t.jn.reads = s.jn.reads ++ [job] ∧
          job.found.length ≤ count ∧ job.found.head? = some (q, i, k, false) ∧ t.lc.replies = s.lc.replies ∧
          t.jn.mem = s.jn.mem)) := by
  refine ⟨fun start count hc => exec_serves_to rfl hs ((if_pos hc).trans (State.counted_refuse rfl ..)), fun start count h1 h6 =>
    ⟨fun hnone => ?_, fun q i k rest hseq hle hstate => ?_⟩⟩
  · refine exec_serves_to rfl hs ((State.ownJournalRead_none (s := s.counted) h1 h6 hnone).trans ?_)
    rw [State.answerRead_replied]
    simp only [List.length_nil, List.flatMap_nil, List.append_nil, List.append_assoc]
    rfl
  · obtain ⟨job, htag, hlen, hhead, hown⟩ := State.ownJournalRead_waits (s := s.counted) (tag := tag) h1 h6 hseq hle hstate
    refine ⟨_, job, exec_serves_to rfl hs hown, htag, ?_, hlen, hhead, ?_, ?_⟩
    · rw [State.finish_jn, (State.jnRun_serves _).reads]
      rfl
    · simp only [State.finish_frame, State.jnRun_frame]
      rfl
    · rw [State.finish_jn, (State.jnRun_serves _).mem]
      rfl

/-- JOURNAL_RECONCILE (R155). -/
theorem exec_journalReconcile (hs : s.Serves tag) :
    (∀ through, s.jn.failed = true →
      exec (.journalReconcile tag through) s = .next (s.refused 0x42 tag .journalUnavailable).finish) ∧
    (∀ through, s.jn.failed = false → s.jn.walk ≠ none →
      exec (.journalReconcile tag through) s = .next (s.refused 0x42 tag .busy).finish) ∧
    (∀ through, s.jn.failed = false → s.jn.walk = none → (∀ e ∈ s.jn.bySeq, through < e.1) →
      exec (.journalReconcile tag through) s = .next (s.counted.replied 0x42 tag (0x00#8 :: (0x00#8 ::
        List.replicate 4 0xFF#8 ++ u16 0 ++ u8 3 ++ 0x00#8 :: List.replicate 4 0xFF#8))).finish) ∧
    (∀ through q i k rest, s.jn.failed = false → s.jn.walk = none → s.jn.bySeq = (q, i, k) :: rest → q ≤ through →
      (s.jn.seg i).state ≠ .erasing →
      (s.jn.status i k = some .closed → ∃ t, exec (.journalReconcile tag through) s = .next t ∧
        t.jn.walk = some ⟨tag, through, none, 0⟩ ∧ t.jn.queue = s.jn.queue ++ [{ owner := .walk, work := .mark q }] ∧
        t.lc.replies = s.lc.replies) ∧
      (s.jn.status i k = some .written → exec (.journalReconcile tag through) s = .next (s.counted.replied 0x42 tag
        (0x00#8 :: (0x00#8 :: List.replicate 4 0xFF#8 ++ u16 0 ++ u8 1 ++ 0x01#8 :: u32 q))).finish)) := by
  refine ⟨fun through hf => exec_serves_to rfl hs ((if_pos hf).trans (State.counted_refuse rfl ..)), fun through hf hw =>
      exec_serves_to rfl hs ((if_neg (show ¬ s.jn.failed = true from by rw [hf]; exact nofun)).trans
        ((if_pos (Option.isSome_iff_ne_none.mpr hw)).trans (State.counted_refuse rfl ..))),
    fun through hf hw hnone => exec_serves_to rfl hs (State.ownJournalReconcile_none (s := s.counted) hf hw hnone),
    fun through q i k rest hf hw hseq hle hstate => ?_⟩
  obtain ⟨hclosed, hwritten⟩ := State.ownJournalReconcile_first (s := s.counted) (tag := tag) hf hw hseq hle hstate
  refine ⟨fun h => ⟨_, exec_serves_to rfl hs (hclosed h), ?_⟩, fun h => exec_serves_to rfl hs (hwritten h)⟩
  rw [State.finish_jn, (State.jnRun_rest _).2.2.2.2.2.2.2.1, (State.jnRun_rest _).2.2.2.2.2.1]
  refine ⟨rfl, rfl, ?_⟩
  simp only [State.finish_frame, State.jnRun_frame]
  rfl

/-- JOURNAL_ERASE's checks before the segment's records (R156). -/
theorem exec_journalErase_checks (hs : s.Serves tag) {i : Nat} (hi : i < 16) :
    ((s.jn.seg i).state = .filling →
      exec (.journalErase tag (i + 1)) s = .next (s.refused 0x43 tag .segmentInUse).finish) ∧
    ((s.jn.seg i).state ∉ [.filling, .full] →
      (∀ run, s.jn.run = some run → run.bank = bankOf i → run.windowDue ≠ none → i ∉ run.waiting) →
      exec (.journalErase tag (i + 1)) s = .next (s.refused 0x43 tag .wrongState).finish) ∧
    (∀ run due, (s.jn.seg i).state = .pendingErase → s.jn.run = some run → run.bank = bankOf i → run.windowDue = some due →
      i ∈ run.waiting → exec (.journalErase tag (i + 1)) s = .next ((({ s.counted with jn := { s.jn with
        run := some { run with windowDue := some (s.now + 500) } } } : State).replied 0x43 tag
          (0x00#8 :: 0x01#8 :: BitVec.ofNat 8 (i + 1) :: 0x04#8 :: u16 500)).finish)) ∧
    (∀ run, (s.jn.seg i).state = .full → s.jn.run = some run → i ∉ run.waiting →
      run.windowDue = none ∨ run.bank ≠ bankOf i →
      exec (.journalErase tag (i + 1)) s = .next (s.refused 0x43 tag .busy).finish) := by
  have hown := State.ownJournalErase_segment (s := s.counted) (tag := tag) hi
  refine ⟨fun hstate => exec_serves_to rfl hs (hown.trans ((State.eraseSegment_inUse (s := s.counted) hstate).trans
      (State.counted_refuse rfl ..))), fun hstate hrun => ?_, fun run due hstate hr hbank hdue hin => ?_, fun run hstate hr hout hbusy => ?_⟩
  · obtain ⟨hfilling, hfull⟩ : (s.jn.seg i).state ≠ .filling ∧ (s.jn.seg i).state ≠ .full := by simpa using hstate
    have hnot : ¬ (s.jn.joins (bankOf i) = true ∧ s.jn.awaits i = true) := by
      rintro ⟨hj, ha⟩
      obtain ⟨run, hr, hbank, hdue⟩ := (JN.joins_iff ..).mp hj
      obtain ⟨run', hr', hin⟩ := (JN.awaits_iff ..).mp ha
      obtain rfl := Option.some.inj (hr.symm.trans hr')
      exact hrun run hr hbank hdue hin
    exact exec_serves_to rfl hs (hown.trans ((State.eraseSegment_wrong (s := s.counted) hfilling hnot hfull).trans
      (State.counted_refuse rfl ..)))
  · have hj : s.jn.joins (bankOf i) = true := (JN.joins_iff ..).mpr ⟨run, hr, hbank, by rw [hdue]; exact nofun⟩
    have ha : s.jn.awaits i = true := (JN.awaits_iff ..).mpr ⟨run, hr, hin⟩
    refine exec_serves_to rfl hs (hown.trans ((State.eraseSegment_waits (s := s.counted) hstate hr hj ha).trans ?_))
    exact State.okErase_pending (s := { s.counted with jn := { s.jn with
      run := some { run with windowDue := some (s.now + 500) } } }) hstate tag 1
  · have hj : s.jn.joins (bankOf i) = false := by
      refine Bool.eq_false_iff.mpr fun h => ?_
      obtain ⟨run', hr', hbank, hdue⟩ := (JN.joins_iff ..).mp h
      obtain rfl := Option.some.inj (hr.symm.trans hr')
      rcases hbusy with h | h
      · exact hdue h
      · exact h hbank
    exact exec_serves_to rfl hs (hown.trans ((State.eraseSegment_busy (s := s.counted) hstate (by
      rw [show s.counted.jn.run = some run from hr]; exact nofun) hj).trans (State.counted_refuse rfl ..)))

/-- A run that a FULL segment can join is none at work, or one with its window open (R156). -/
theorem State.takesFull {i : Nat} (hr : s.jn.run = none ∨ (∃ run, s.jn.run = some run ∧ run.bank = bankOf i ∧
    run.windowDue ≠ none ∧ i ∉ run.waiting)) : (s.jn.run = none ∨ s.jn.joins (bankOf i) = true) ∧ s.jn.awaits i = false := by
  rcases hr with hr | ⟨run, hr, hbank, hdue, hout⟩
  · refine ⟨.inl hr, Bool.eq_false_iff.mpr fun h => ?_⟩
    obtain ⟨run, hr', -⟩ := (JN.awaits_iff ..).mp h
    exact absurd (hr.symm.trans hr') nofun
  · refine ⟨.inr ((JN.joins_iff ..).mpr ⟨run, hr, hbank, hdue⟩), Bool.eq_false_iff.mpr fun h => ?_⟩
    obtain ⟨run', hr', hin⟩ := (JN.awaits_iff ..).mp h
    obtain rfl := Option.some.inj (hr.symm.trans hr')
    exact hout hin

/-- A FULL segment's erase: an unreconciled record refuses it, else it forms a run or joins one (R156). -/
theorem exec_journalErase_full (hs : s.Serves tag) {i : Nat} (hi : i < 16) (hlen : s.jn.segs.length = 16)
    (hstate : (s.jn.seg i).state = .full) :
    (∀ k q, s.jn.run = none ∨ (∃ run, s.jn.run = some run ∧ run.bank = bankOf i ∧
        run.windowDue ≠ none ∧ i ∉ run.waiting) → (k, q) ∈ (s.jn.seg i).records →
      s.jn.status i k ∈ [some .written, some .closed] →
      (∀ e ∈ (s.jn.seg i).records, s.jn.status i e.1 ∈ [some .written, some .closed] → q ≤ e.2) → exec (.journalErase tag (i + 1)) s =
        .next (s.counted.replied 0x43 tag (0x18#8 :: u32 q)).finish) ∧
    ((∀ r ∈ (s.jn.seg i).records, s.jn.status i r.1 = some .reconciled) →
      (s.jn.run = none → ∃ t, exec (.journalErase tag (i + 1)) s = .next t ∧ (t.jn.seg i).state = .pendingErase ∧
        t.jn.run = some ⟨bankOf i, [i], some (s.now + 500), none, Count.zero, []⟩ ∧ t.jn.mem = s.jn.mem ∧
        t.lc.replies = s.lc.replies ++ [answer 0x43 tag (0x00#8 :: 0x02#8 :: BitVec.ofNat 8 (i + 1) :: 0x04#8 :: u16 500)]) ∧
      (∀ run due, s.jn.run = some run → run.bank = bankOf i → run.windowDue = some due → i ∉ run.waiting →
        ∃ t run', exec (.journalErase tag (i + 1)) s = .next t ∧ (t.jn.seg i).state = .pendingErase ∧
          t.jn.run = some run' ∧ run'.windowDue = some (s.now + 500) ∧ run'.bank = run.bank ∧
          (∀ j, j ∈ run'.waiting ↔ j = i ∨ j ∈ run.waiting) ∧
          t.lc.replies = s.lc.replies ++ [answer 0x43 tag (0x00#8 :: 0x01#8 :: BitVec.ofNat 8 (i + 1) :: 0x04#8 :: u16 500)])) := by
  have hown := State.ownJournalErase_segment (s := s.counted) (tag := tag) hi
  have hpending : ((s.jn.modSeg i fun g => { g with state := .pendingErase }).seg i).state = .pendingErase := by
    rw [JN.seg_modSeg_at (fun g => { g with state := .pendingErase }) (hlen ▸ hi)]
  have hreply := fun (run : EraseRun) (word : Nat) => State.okErase_pending
    (s := { s.counted with jn := { s.jn.modSeg i fun g => { g with state := .pendingErase } with run := some run } }) hpending tag word
  refine ⟨fun k q hrun hin hst hle => ?_, fun hall => ⟨fun hr => ?_, fun run due hr hbank hdue hout => ?_⟩⟩
  · obtain ⟨hr, ha⟩ := State.takesFull hrun
    have hunsettled : s.jn.unsettled i = some q := JN.unsettled_some hin hst hle
    exact exec_serves_to rfl hs (hown.trans (((State.eraseSegment_full (s := s.counted) hstate hr ha).1 q hunsettled).trans
      (State.reply_replied rfl ..)))
  · obtain ⟨hr', ha⟩ := State.takesFull (s := s) (i := i) (.inl hr)
    refine ⟨_, exec_serves_to rfl hs (hown.trans (((State.eraseSegment_full (s := s.counted) hstate hr' ha).2.2
      (JN.unsettled_none hall) hr).trans (hreply _ 2))), ?_⟩
    rw [State.finish_jn]
    refine ⟨hpending, rfl, rfl, ?_⟩
    simp only [State.finish_frame]
    rfl
  · obtain ⟨hr', ha⟩ := State.takesFull (s := s) (i := i) (.inr ⟨run, hr, hbank, by rw [hdue]; exact nofun, hout⟩)
    refine ⟨_, { run with waiting := insertAscending i run.waiting, windowDue := some (s.now + 500) },
      exec_serves_to rfl hs (hown.trans (((State.eraseSegment_full (s := s.counted) hstate hr' ha).2.1 run
      (JN.unsettled_none hall) hr).trans (hreply _ 1))), ?_⟩
    rw [State.finish_jn]
    refine ⟨hpending, rfl, rfl, rfl, fun j => mem_insertAscending _, ?_⟩
    simp only [State.finish_frame]
    rfl

/-- JOURNAL_RECOVER (R167). -/
theorem exec_journalRecover (hs : s.Serves tag) :
    (s.jn.failed = false → exec (.journalRecover tag) s = .next (s.counted.replied 0x44 tag [0x00#8, 0x01#8]).finish) ∧
    (∀ f, s.jn.failed = true → s.jn.filling = some f → s.jn.scanCloses = [] → s.ss.owed = [] → s.cu.owed = none →
      exec (.journalRecover tag) s = .next ((({ s.counted with jn := { s.jn with failed := false, failures := 0 } } :
        State).replied 0x44 tag [0x00#8, 0x01#8]).finish)) ∧
    (∀ i, i < 16 → s.jn.segs.length = 16 → s.jn.failed = true → s.jn.filling = none → (s.jn.seg i).state = .erased →
      (∀ j, j < i → (s.jn.seg j).state ≠ .erased) → s.jn.scanCloses = [] → s.ss.owed = [] → s.cu.owed = none →
      ∃ t, exec (.journalRecover tag) s = .next t ∧ t.jn.filling = some (i, 0) ∧ (t.jn.seg i).state = .filling ∧
        (∀ j, j ≠ i → t.jn.seg j = s.jn.seg j) ∧ t.jn.failed = false ∧ t.jn.failures = 0 ∧ t.jn.mem = s.jn.mem ∧
        t.lc.replies = s.lc.replies ++ [answer 0x44 tag [0x00#8, 0x01#8]]) ∧
    (s.jn.failed = true → s.jn.filling = none → (∀ i, i < 16 → (s.jn.seg i).state ≠ .erased) →
      exec (.journalRecover tag) s = .next (s.counted.replied 0x44 tag [0x00#8, 0x02#8]).finish) := by
  refine ⟨fun hf => exec_serves_to rfl hs ((if_neg (show ¬ s.jn.failed = true from by rw [hf]; exact nofun)).trans
      (State.ok_replied rfl ..)),
    fun f hf hfill hscan howed hcu => exec_serves_to rfl hs (State.ownJournalRecover_recovers (s := s.counted) hf
      (JN.findFilling_some hfill) hfill hscan howed hcu), fun i hi hlen hf hfill he hbelow hscan howed hcu => ?_, fun hf hfill hnone => ?_⟩
  · refine ⟨_, exec_serves_to rfl hs (State.ownJournalRecover_recovers (s := s.counted) hf
      (JN.findFilling_first hi hfill he hbelow) rfl hscan howed hcu), ?_⟩
    rw [State.finish_jn]
    refine ⟨rfl, ?_, fun j hj => ?_, rfl, rfl, rfl, ?_⟩
    · exact congrArg Segment.state (JN.seg_modSeg_at (fun g => { g with state := .filling }) (hlen ▸ hi))
    · rcases JN.seg_modSeg s.jn i j fun g => { g with state := .filling } with ⟨h, -⟩ | h
      · exact absurd h hj
      · exact h
    · simp only [State.finish_frame]
      rfl
  · refine exec_serves_to rfl hs ?_
    show s.counted.ownJournalRecover tag = _
    unfold State.ownJournalRecover
    rw [if_pos (show s.counted.jn.failed = true from hf)]
    unfold State.recover State.modJN
    dsimp only
    rw [JN.findFilling_none (jn := s.counted.jn) hfill hnone, if_neg (by
      rw [show s.counted.jn.filling = none from hfill]; exact nofun)]
    exact State.ok_replied rfl ..

end

/-- Settles O56: the walk at the end of its mark, and the four journal requests. -/
theorem journalRequestsAct : Obligations.JournalRequestsAct := by
  refine ⟨fun w p rest q i k ahead s hrun hm hfailed hwalk hb hq ho hw hr hf hst ha => ?_, fun tag s hs => ?_⟩
  · obtain ⟨hnil, hcons⟩ := exec_walkMarked_leaves hrun hm hfailed hwalk hb hq ho hw hr hf ha
    refine ⟨hnil, hcons, fun hrest hfail => ?_⟩
    subst hrest
    have hclosed := slotState_closed.mp hst
    have hbad : (programBytes s.jn.mem i k (s.jn.stepsOf p) [0x20#8]).2 = false := by
      rw [JN.stepsOf_closed hw hr hf hclosed]
      exact programBytes_fails (by rw [hclosed]; decide)
    obtain ⟨t, hexec, hnone, hfails, hreplies⟩ := exec_walkFails hrun hwalk hb hq ho hw hf hfail hbad
    refine ⟨t, hexec, hnone, hfails, hreplies.trans ?_⟩
    cases w.reached <;> rfl
  · obtain ⟨hmal, hread⟩ := exec_journalRead hs
    obtain ⟨hrec1, hrec2, hrec3, hrec4⟩ := exec_journalReconcile hs
    obtain ⟨hrcv1, hrcv2, hrcv3, hrcv4⟩ := exec_journalRecover hs
    refine ⟨hmal, hread, hrec1, hrec2, hrec3, hrec4, fun n hn => exec_serves_to rfl hs ((if_pos hn).trans
      (State.counted_refuse rfl ..)), fun i hi hlen => ?_, hrcv1, hrcv2, hrcv3, hrcv4⟩
    obtain ⟨hinUse, hwrong, hwaits, hbusy⟩ := exec_journalErase_checks hs hi
    exact ⟨hinUse, hwrong, hwaits, hbusy, fun k q hfull => (exec_journalErase_full hs hi hlen hfull).1 k q, fun hfull =>
      (exec_journalErase_full hs hi hlen hfull).2⟩

end Sys2Proof.Machine
end

section
/-! Alarm zones: their events, the outputs and the requests (O58, O59) -/

namespace Sys2Proof.Machine

/-! ## A zone's transition and what goes with it (R175, R177, R180 to R182) -/

section
variable {s : State} {z k : ZoneId} {entered : ZoneState} {told : List Nat}

theorem ZoneId.mem_all (z : ZoneId) : z ∈ ZoneId.all := by
  cases z with
  | tamper l => cases l <;> simp [ZoneId.all]
  | _ => simp [ZoneId.all]

theorem ZoneState.alarming_iff (st : ZoneState) : st.alarming = true ↔ st ∈ [.alarm, .latched, .locked] := by
  cases st <;> simp [ZoneState.alarming]

theorem AU.silent_iff (au : AU) :
    au.silent = true ↔ ∃ z : ZoneId, z.cls ≠ .fault ∧ (au.zones.get z).state ∈ [.alarm, .latched, .locked] := by
  simp only [AU.silent, List.any_eq_true, Bool.and_eq_true, bne_iff_ne, ZoneState.alarming_iff]
  exact ⟨fun ⟨z, _, h⟩ => ⟨z, h⟩, fun ⟨z, h⟩ => ⟨z, z.mem_all, h⟩⟩

theorem AU.trouble_iff (au : AU) : au.trouble = true ↔
    ∃ z : ZoneId, z.cls ∈ [.door, .fault, .missing] ∧ (au.zones.get z).state ∈ [.alarm, .latched, .locked] := by
  simp only [AU.trouble, List.any_eq_true, Bool.and_eq_true, Bool.or_eq_true, beq_iff_eq, ZoneState.alarming_iff, List.mem_cons,
    List.not_mem_nil, or_false, or_assoc]
  exact ⟨fun ⟨z, _, h⟩ => ⟨z, h⟩, fun ⟨z, h⟩ => ⟨z, z.mem_all, h⟩⟩

theorem AU.sounding_of {au : AU} (hc : z.cls = .door ∨ z.cls = .tamper) (h : (au.zones.get z).state = .alarm) : au.sounding = true := by
  simp only [AU.sounding, List.any_eq_true, Bool.and_eq_true, Bool.or_eq_true, beq_iff_eq]
  exact ⟨z, z.mem_all, hc, h⟩

/-- An entry into ALARM leaves a sounder run, PULSING before or from now (R181). -/
theorem AU.rerun_sounds {au : AU} (h : au.sounding = true) (now : Nat) : (au.rerun now true).run ≠ .idle := by
  unfold AU.rerun
  rw [if_neg (by rw [h]; exact nofun)]
  split
  · next hrun => rw [hrun]; exact nofun
  · rw [if_pos rfl]
    exact nofun

/-! ### The zone itself -/

theorem State.zoneTo_same (h : entered = (s.zone z).state) : s.zoneTo z entered = s := by
  unfold State.zoneTo
  exact if_pos h

theorem State.zoneTo_at (h : entered ≠ (s.zone z).state) : (s.zoneTo z entered).zone z = { s.zone z with
    state := entered, delayDue := none, acked := if entered = .alarm ∨ entered = .idle then false else (s.zone z).acked } :=
  (s.zoneTo_zone z entered z).trans (if_pos ⟨rfl, h⟩)

theorem State.zoneTo_elsewhere (h : k ≠ z) : (s.zoneTo z entered).zone k = s.zone k :=
  (s.zoneTo_zone z entered k).trans (if_neg fun hk => h hk.1)

theorem State.zoneTo_state (s : State) (z : ZoneId) (entered : ZoneState) : ((s.zoneTo z entered).zone z).state = entered := by
  by_cases h : entered = (s.zone z).state
  · rw [State.zoneTo_same h, h]
  · rw [State.zoneTo_at h]

theorem State.zoneTo_cause (s : State) (z : ZoneId) (entered : ZoneState) (k : ZoneId) :
    ((s.zoneTo z entered).zone k).cause = (s.zone k).cause := by
  by_cases hk : k = z
  · subst hk
    by_cases h : entered = (s.zone k).state
    · rw [State.zoneTo_same h]
    · rw [State.zoneTo_at h]
  · rw [State.zoneTo_elsewhere hk]

theorem State.zoneTo_supervised (s : State) (z : ZoneId) (entered : ZoneState) :
    ((s.zoneTo z entered).zone z).supervised = (s.zone z).supervised := by
  by_cases h : entered = (s.zone z).state
  · rw [State.zoneTo_same h]
  · rw [State.zoneTo_at h]

/-! ### What is told, heard and kept -/

theorem State.alarmRecord_delays (s : State) (z : ZoneId) (left entered : ZoneState) :
    (s.alarmRecord z left entered).au.safeDelay = s.au.safeDelay ∧ (s.alarmRecord z left entered).au.binDelay = s.au.binDelay ∧
      (s.alarmRecord z left entered).au.run = s.au.run := by
  unfold State.alarmRecord
  dsimp only
  split <;> simp [State.countLost]

/-- A transition keeps the entry delays (R168, R182). -/
theorem State.zoneTo_entryDelay (s : State) (z : ZoneId) (entered : ZoneState) :
    (s.zoneTo z entered).au.entryDelay = s.au.entryDelay := by
  have hdelays : (s.zoneTo z entered).au.safeDelay = s.au.safeDelay ∧ (s.zoneTo z entered).au.binDelay = s.au.binDelay := by
    unfold State.zoneTo
    dsimp only
    split
    · exact ⟨rfl, rfl⟩
    · split
      · rw [(State.alarmRecord_delays _ _ _ _).1, (State.alarmRecord_delays _ _ _ _).2.1]
        simp
      · simp
  funext d
  cases d
  · exact hdelays.1
  · exact hdelays.2

/-- ZONE_CHANGE rises at a transition (R182). -/
theorem State.zoneTo_tellsChange (h : entered ≠ (s.zone z).state) (ht : s.lc.Tells told) : (s.zoneTo z entered).lc.Tells (67 :: told) := by
  have hraised := LC.raise_tells_new (n := 67) (State.tellTamper_tells (s.modZone z fun r =>
    { r with
      state := entered, delayDue := none
      acked := if entered = .alarm ∨ entered = .idle then false else r.acked }) z entered ht) (by decide)
      (some (u8 z.num ++ u8 entered.code))
  unfold State.zoneTo
  rw [if_neg h]
  dsimp only
  split
  · exact State.alarmRecord_tells _ _ _ _ hraised
  · exact hraised

/-- A DOOR or TAMPER zone that enters ALARM leaves the sounder run in force (R181). -/
theorem State.zoneTo_sounds (hc : z.cls = .door ∨ z.cls = .tamper) (h : (s.zone z).state ≠ .alarm) : (s.zoneTo z .alarm).au.run ≠ .idle := by
  have hflag : (ZoneState.alarm == ZoneState.alarm && (z.cls == ZoneClass.door || z.cls == ZoneClass.tamper)) = true := by
    simpa using hc
  unfold State.zoneTo
  rw [if_neg (Ne.symm h)]
  dsimp only
  rw [hflag, if_pos (show recordsTransition (s.zone z).state .alarm = true from rfl), (State.alarmRecord_delays _ _ _ _).2.2]
  refine AU.rerun_sounds (AU.sounding_of (z := z) hc ?_) _
  simp [Zones.get_set]

/-- What a transition does to the lanes is its report to the LI (R177, R182). -/
theorem State.zoneTo_li (h : entered ≠ (s.zone z).state) : (s.zoneTo z entered).li = (s.tellTamper z entered).li := by
  have hmod : ∀ (u : State) (f : Zone → Zone), ((u.modZone z f).tellTamper z entered).li = (u.tellTamper z entered).li := fun u f => by
    unfold State.tellTamper
    split
    · rw [State.setReasons_lanes, State.setReasons_lanes]
      rfl
    · rw [State.setReasons_lanes, State.setReasons_lanes]
      rfl
    · rfl
  have hrecord : ∀ (u : State) (left : ZoneState), (u.alarmRecord z left entered).li = u.li := fun u left => by
    unfold State.alarmRecord
    dsimp only
    split <;> simp [State.countLost]
  unfold State.zoneTo
  rw [if_neg h]
  dsimp only
  split
  · rw [hrecord]
    exact hmod s _
  · exact hmod s _

/-- TAMPER is set at an entry into ALARM and removed at a return to IDLE (R177). -/
theorem State.zoneTo_reason {l : Lane} (h : entered ≠ (s.zone (.tamper l)).state) (he : entered = .alarm ∨ entered = .idle) :
    ((s.zoneTo (.tamper l) entered).laneRec l).reasons.tamper = (entered == .alarm) := by
  rcases he with rfl | rfl
  · have hli : (s.zoneTo (.tamper l) .alarm).li = (s.setReasons l fun r => { r with tamper := true }).li := State.zoneTo_li h
    rw [State.laneRec, hli, ← State.laneRec, State.setReasons_laneRec, if_pos rfl]
    rfl
  · have hli : (s.zoneTo (.tamper l) .idle).li = (s.setReasons l fun r => { r with tamper := false }).li := State.zoneTo_li h
    rw [State.laneRec, hli, ← State.laneRec, State.setReasons_laneRec, if_pos rfl]
    rfl

/-- A lamp's drive is the TAMPER zone's state (R14, R180). -/
theorem State.lamp_red {l : Lane} (h : (s.zone (.tamper l)).state.alarming = true) : s.lamp l = .red :=
  if_pos (.inr h)

/-! ### A return to IDLE (R175, R176) -/

/-- The state a zone returns to. -/
def Zone.restsAt (z : ZoneId) (r : Zone) : ZoneState := if z.cls = .tamper ∧ r.supervised = false then .unsupervised else .idle

theorem State.zoneIdle_tamper (s : State) (l : Lane) : s.zoneIdle (.tamper l) =
    if ((s.zoneTo (.tamper l) .idle).zone (.tamper l)).supervised then s.zoneTo (.tamper l) .idle
    else (s.zoneTo (.tamper l) .idle).zoneTo (.tamper l) .unsupervised := rfl

theorem State.zoneIdle_state (s : State) (z : ZoneId) : ((s.zoneIdle z).zone z).state = Zone.restsAt z (s.zone z) := by
  unfold State.zoneIdle Zone.restsAt
  dsimp only
  cases z with
  | tamper l =>
    rw [State.zoneTo_supervised]
    cases hs : (s.zone (.tamper l)).supervised with
    | true => exact State.zoneTo_state ..
    | false =>
      rw [if_neg nofun, if_pos ⟨rfl, rfl⟩]
      exact State.zoneTo_state ..
  | _ => exact (State.zoneTo_state ..).trans (if_neg (by simp [ZoneId.cls])).symm

/-- A zone not IDLE that returns to it: acknowledged no more, ZONE_CHANGE risen, its TAMPER reason removed (R177, R182). -/
theorem State.zoneIdle_leaves (h : (s.zone z).state ≠ .idle) (ht : s.lc.Tells told) :
    ((s.zoneIdle z).zone z).acked = false ∧ (s.zoneIdle z).lc.Tells (67 :: told) ∧
      ∀ l, z = .tamper l → ((s.zoneIdle z).laneRec l).reasons.tamper = false := by
  have hidle := State.zoneTo_at (s := s) (z := z) (Ne.symm h)
  have htold := State.zoneTo_tellsChange (Ne.symm h) ht
  cases z with
  | tamper l =>
    have hreason := State.zoneTo_reason (Ne.symm h) (.inr rfl)
    rw [State.zoneIdle_tamper]
    split
    · exact ⟨congrArg Zone.acked hidle, htold, fun k hk => by cases hk; exact hreason⟩
    · have hne : ZoneState.unsupervised ≠ ((s.zoneTo (.tamper l) .idle).zone (.tamper l)).state := by
        rw [State.zoneTo_state]
        exact nofun
      refine ⟨?_, State.zoneTo_tells _ _ _ htold, fun k hk => ?_⟩
      · rw [State.zoneTo_at hne, hidle]
        rfl
      · cases hk
        have hli : ((s.zoneTo (.tamper l) .idle).zoneTo (.tamper l) .unsupervised).li = (s.zoneTo (.tamper l) .idle).li :=
          State.zoneTo_li hne
        rw [State.laneRec, hli]
        exact hreason
  | _ => exact ⟨congrArg Zone.acked hidle, htold, fun k hk => absurd hk nofun⟩

/-! ### Delays and windows (R172 to R174) -/

theorem doorZone_ne {d d' : Door} (h : d ≠ d') : doorZone d ≠ doorZone d' := by
  cases d <;> cases d' <;> simp_all [doorZone]

theorem State.startDelay_other {d : Door} (h : k ≠ doorZone d) : (s.startDelay d).zone k = s.zone k := by
  unfold State.startDelay
  split
  · exact State.zoneTo_elsewhere h
  · rw [State.zone_modZone, if_neg h]
    exact State.zoneTo_elsewhere h

/-- An IDLE door zone whose delay begins (R172). -/
theorem State.startDelay_at (s : State) (d : Door) :
    (s.au.entryDelay d = 0 → ((s.startDelay d).zone (doorZone d)).state = .alarm) ∧
      (0 < s.au.entryDelay d → ((s.startDelay d).zone (doorZone d)).state = .delay ∧
        ((s.startDelay d).zone (doorZone d)).delayDue = some (s.now + s.au.entryDelay d * 1000)) := by
  refine ⟨fun h => ?_, fun h => ?_⟩
  · unfold State.startDelay
    rw [if_pos h]
    exact State.zoneTo_state ..
  · unfold State.startDelay
    rw [if_neg (by omega), State.zone_modZone, if_pos rfl]
    exact ⟨State.zoneTo_state .., rfl⟩

theorem State.startDelay_window (s : State) (d : Door) (k : ZoneId) :
    ((s.startDelay d).zone k).windowUntil = (s.zone k).windowUntil := by
  unfold State.startDelay
  split
  · exact State.zoneTo_window ..
  · rw [State.zone_modZone]
    split
    · exact State.zoneTo_window ..
    · exact State.zoneTo_window ..

theorem State.startDelay_entryDelay (s : State) (d : Door) : (s.startDelay d).au.entryDelay = s.au.entryDelay := by
  unfold State.startDelay
  split <;> exact State.zoneTo_entryDelay ..

/-- A window closes on a zone that is not IDLE, or whose door is shut: nothing follows (R174). -/
theorem State.closeWindow_quiet {d : Door} (h : (s.zone (doorZone d)).state ≠ .idle ∨ (s.zone (doorZone d)).cause = false) :
    s.closeWindow d = s.modZone (doorZone d) fun r => { r with windowUntil := none } := by
  unfold State.closeWindow
  refine if_neg ?_
  rw [State.zone_modZone, if_pos rfl]
  rintro ⟨hidle, hcause⟩
  rcases h with h | h
  · exact h hidle
  · exact absurd (h.symm.trans hcause) nofun

/-- A window closes on an IDLE zone whose door is open: its delay begins (R174). -/
theorem State.closeWindow_starts {d : Door} (hidle : (s.zone (doorZone d)).state = .idle) (hcause : (s.zone (doorZone d)).cause = true) :
    s.closeWindow d = (s.modZone (doorZone d) fun r => { r with windowUntil := none }).startDelay d := by
  unfold State.closeWindow
  refine if_pos ?_
  rw [State.zone_modZone, if_pos rfl]
  exact ⟨hidle, hcause⟩

theorem State.closeWindow_other {d : Door} (h : k ≠ doorZone d) : (s.closeWindow d).zone k = s.zone k := by
  have hmod : (s.modZone (doorZone d) fun r => { r with windowUntil := none }).zone k = s.zone k := by
    rw [State.zone_modZone, if_neg h]
  unfold State.closeWindow
  dsimp only
  split
  · rw [State.startDelay_other h, hmod]
  · exact hmod

theorem State.closeWindow_window (s : State) (d : Door) : ((s.closeWindow d).zone (doorZone d)).windowUntil = none := by
  have hmod : ((s.modZone (doorZone d) fun r => { r with windowUntil := none }).zone (doorZone d)).windowUntil = none := by
    rw [State.zone_modZone, if_pos rfl]
  unfold State.closeWindow
  dsimp only
  split
  · rw [State.startDelay_window, hmod]
  · exact hmod

theorem State.closeWindow_keeps (s : State) (d : Door) :
    (s.closeWindow d).au.entryDelay = s.au.entryDelay ∧ (s.closeWindow d).now = s.now := by
  unfold State.closeWindow
  dsimp only
  split
  · exact ⟨State.startDelay_entryDelay .., by simp⟩
  · exact ⟨rfl, rfl⟩

/-- An IDLE zone with its door open, once its window is closed (R174). -/
theorem State.closeWindow_delays {d : Door} (hidle : (s.zone (doorZone d)).state = .idle) (hcause : (s.zone (doorZone d)).cause = true) :
    (s.au.entryDelay d = 0 → ((s.closeWindow d).zone (doorZone d)).state = .alarm) ∧
      (0 < s.au.entryDelay d → ((s.closeWindow d).zone (doorZone d)).state = .delay ∧
        ((s.closeWindow d).zone (doorZone d)).delayDue = some (s.now + s.au.entryDelay d * 1000)) := by
  rw [State.closeWindow_starts hidle hcause]
  exact State.startDelay_at (s.modZone (doorZone d) fun r => { r with windowUntil := none }) d

/-! ### Causes (R170, R175) -/

theorem State.live_running (h : s.phase = .running) : s.live = true := by
  unfold State.live
  rw [h]

theorem State.setCause_same {active : Bool} (h : (s.zone z).cause = active) : s.setCause z active = s := if_pos h

/-- A live part's zone takes a rise of its cause (R175). -/
theorem State.setCause_rises (hrun : s.phase = .running) (h : (s.zone z).cause = false) :
    s.setCause z true = (s.modZone z fun r => { r with cause := true }).causeRises z := by
  unfold State.setCause
  rw [if_neg (by rw [h]; exact nofun)]
  exact if_pos (State.live_running (s := s.modZone z fun r => { r with cause := true }) hrun)

/-- And a fall (R175). -/
theorem State.setCause_falls (hrun : s.phase = .running) (h : (s.zone z).cause = true) :
    s.setCause z false = (s.modZone z fun r => { r with cause := false }).causeFalls z := by
  unfold State.setCause
  rw [if_neg (by rw [h]; exact nofun)]
  exact if_pos (State.live_running (s := s.modZone z fun r => { r with cause := false }) hrun)

end

/-! ## The zones' events (R170 to R174) -/

section
variable {s : State} {told : List Nat}

/-! ### Hold-up inputs and the key switch (R170, R171) -/

theorem State.causeRises_holdup (s : State) (i : AB) :
    s.causeRises (holdupZone i) = if (s.zone (holdupZone i)).state = .idle then s.lockIn (holdupZone i) else s := by
  cases i <;> rfl

/-- At the onset of duress a hold-up zone locks in and both windows close, zone 3 before zone 4 (R170, R171). -/
theorem State.lockIn_onset {z : ZoneId} (h : s.au.duress = false) :
    s.lockIn z = ((s.zoneTo z .locked).closeWindow .safe).closeWindow .bin := by
  unfold State.lockIn
  exact if_neg (by rw [h]; exact nofun)

/-- What the onset leaves of the zones (R171, R174). -/
theorem State.lockIn_leaves {i : AB} (hd : s.au.duress = false) (hidle : (s.zone (holdupZone i)).state = .idle)
    (ht : s.lc.Tells told) : ((s.lockIn (holdupZone i)).zone (holdupZone i)).state = .locked ∧
      ((s.lockIn (holdupZone i)).zone (holdupZone i)).cause = (s.zone (holdupZone i)).cause ∧
      (∀ d, ((s.lockIn (holdupZone i)).zone (doorZone d)).windowUntil = none) ∧ (s.lockIn (holdupZone i)).lc.Tells (67 :: told) ∧
      (∀ d, (s.zone (doorZone d)).state = .idle → (s.zone (doorZone d)).cause = true → 0 < s.au.entryDelay d →
        ((s.lockIn (holdupZone i)).zone (doorZone d)).state = .delay ∧
          ((s.lockIn (holdupZone i)).zone (doorZone d)).delayDue = some (s.now + s.au.entryDelay d * 1000)) ∧
      ∀ k, k ≠ holdupZone i → (∀ d, k ≠ doorZone d) → (s.lockIn (holdupZone i)).zone k = s.zone k := by
  rw [State.lockIn_onset hd]
  generalize hu : s.zoneTo (holdupZone i) .locked = u
  have hne : ZoneState.locked ≠ (s.zone (holdupZone i)).state := by rw [hidle]; exact nofun
  have hat := State.zoneTo_at hne
  have htold := State.zoneTo_tellsChange hne ht
  have hother : ∀ k, k ≠ holdupZone i → u.zone k = s.zone k := fun k hk => hu ▸ State.zoneTo_elsewhere hk
  have hdelays : u.au.entryDelay = s.au.entryDelay := hu ▸ State.zoneTo_entryDelay ..
  have hnow : u.now = s.now := by rw [← hu]; simp
  rw [hu] at hat htold
  have hkept : ∀ k, (∀ d, k ≠ doorZone d) → ((u.closeWindow .safe).closeWindow .bin).zone k = u.zone k := fun k hk =>
    (State.closeWindow_other (hk .bin)).trans (State.closeWindow_other (hk .safe))
  have hhold := hkept (holdupZone i) fun d => holdupZone_ne_doorZone i d
  obtain ⟨hdelays', hnow'⟩ := u.closeWindow_keeps .safe
  refine ⟨by rw [hhold, hat], by rw [hhold, hat], fun d => ?_, by simp [htold], fun d hdi hdc hpos => ?_, fun k hk hdoor => ?_⟩
  · cases d with
    | safe => rw [State.closeWindow_other (doorZone_ne (d := .safe) (d' := .bin) (by simp)), State.closeWindow_window]
    | bin => exact State.closeWindow_window ..
  · have hzone : u.zone (doorZone d) = s.zone (doorZone d) := hother _ (holdupZone_ne_doorZone i d).symm
    cases d with
    | safe =>
      rw [State.closeWindow_other (doorZone_ne (d := .safe) (d' := .bin) (by simp)), ← hnow, ← hdelays]
      exact (State.closeWindow_delays (by rw [hzone]; exact hdi) (by rw [hzone]; exact hdc)).2 (by rw [hdelays]; exact hpos)
    | bin =>
      have hsafe : (u.closeWindow .safe).zone (doorZone .bin) = s.zone (doorZone .bin) :=
        (State.closeWindow_other (doorZone_ne (d := .bin) (d' := .safe) (by simp))).trans hzone
      rw [← hnow, ← hdelays, ← hnow', ← hdelays']
      exact (State.closeWindow_delays (by rw [hsafe]; exact hdi) (by rw [hsafe]; exact hdc)).2
        (by rw [hdelays', hdelays]; exact hpos)
  · exact (hkept k hdoor).trans (hother k hk)

theorem State.finish_silent (h : ∃ z : ZoneId, z.cls ≠ .fault ∧ (s.zone z).state ∈ [.alarm, .latched, .locked]) :
    s.finish.au.silent = true := by
  rw [State.finish_au]
  exact (AU.silent_iff _).mpr h

/-- An active hold-up input on an IDLE zone (R170, R171). -/
theorem exec_holdupActive {i : AB} (hrun : s.phase = .running) (hlen : s.lc.conds.length = 69)
    (hc : (s.zone (holdupZone i)).cause = false) (hidle : (s.zone (holdupZone i)).state = .idle) (hd : s.au.duress = false) :
    ∃ t, exec (.holdupInputChange i true) s = .next t ∧
      (t.zone (holdupZone i)).state = .locked ∧ (t.zone (holdupZone i)).cause = true ∧
      (t.zone .safeDoor).windowUntil = none ∧ (t.zone .binDoor).windowUntil = none ∧ t.au.silent = true ∧
      t.lc.isPending 67 = true ∧
      (∀ d, (s.zone (doorZone d)).state = .idle → (s.zone (doorZone d)).cause = true → 0 < s.au.entryDelay d →
        (t.zone (doorZone d)).state = .delay ∧ (t.zone (doorZone d)).delayDue = some (s.now + s.au.entryDelay d * 1000)) ∧
      (∀ l, t.zone (.tamper l) = s.zone (.tamper l)) ∧ t.zone .carrierMissing = s.zone .carrierMissing := by
  have hset : s.setCause (holdupZone i) true =
      (s.modZone (holdupZone i) fun r => { r with cause := true }).causeRises (holdupZone i) :=
    State.setCause_rises hrun hc
  generalize hv : s.modZone (holdupZone i) (fun r => { r with cause := true }) = v at hset
  have hvat : v.zone (holdupZone i) = { s.zone (holdupZone i) with cause := true } := by rw [← hv, State.zone_modZone, if_pos rfl]
  have hvother : ∀ k, k ≠ holdupZone i → v.zone k = s.zone k := fun k hk => by rw [← hv, State.zone_modZone, if_neg hk]
  have hvd : v.au.duress = false := by
    have hstates : ∀ j, (v.zone (holdupZone j)).state = (s.zone (holdupZone j)).state := fun j => by
      by_cases hj : holdupZone j = holdupZone i
      · rw [hj, hvat]
      · rw [hvother _ hj]
    refine Bool.eq_false_iff.mpr fun h => ?_
    obtain ⟨j, hj⟩ := (AU.duress_iff _).mp h
    refine absurd (hd.symm.trans ((AU.duress_iff _).mpr ⟨j, ?_⟩)) nofun
    exact (hstates j).symm.trans hj
  have hvidle : (v.zone (holdupZone i)).state = .idle := by rw [hvat]; exact hidle
  have hvlc : v.lc = s.lc := by rw [← hv]; rfl
  have hvdelay : v.au.entryDelay = s.au.entryDelay ∧ v.now = s.now := by rw [← hv]; exact ⟨rfl, rfl⟩
  rw [State.causeRises_holdup, if_pos hvidle] at hset
  obtain ⟨hlocked, hcause, hwindows, htold, hdoors, hrest⟩ := State.lockIn_leaves hvd hvidle (LC.tells_nil (hvlc ▸ hlen))
  refine ⟨_, exec_event_to rfl rfl (State.on_of_running hrun) hset, ?_⟩
  simp only [State.finish_zone, State.finish_isPending]
  refine ⟨hlocked, hcause.trans (by rw [hvat]), hwindows .safe, hwindows .bin, State.finish_silent ⟨holdupZone i, ?_, ?_⟩, htold.pending,
    fun d hdi hdc hpos => ?_, fun l => ?_, ?_⟩
  · cases i <;> exact nofun
  · rw [hlocked]
    simp
  · have hzone := hvother (doorZone d) (holdupZone_ne_doorZone i d).symm
    rw [← hvdelay.1, ← hvdelay.2]
    exact hdoors d (by rw [hzone]; exact hdi) (by rw [hzone]; exact hdc) (by rw [hvdelay.1]; exact hpos)
  · have hne : ZoneId.tamper l ≠ holdupZone i := by cases i <;> exact nofun
    exact (hrest _ hne fun d => by cases d <;> exact nofun).trans (hvother _ hne)
  · have hne : ZoneId.carrierMissing ≠ holdupZone i := by cases i <;> exact nofun
    exact (hrest _ hne fun d => by cases d <;> exact nofun).trans (hvother _ hne)

/-- A LOCKED hold-up zone follows its input in its cause alone (R170). -/
theorem exec_holdupLocked {i : AB} {active : Bool} (hrun : s.phase = .running) (hc : (s.zone (holdupZone i)).cause ≠ active)
    (hlocked : (s.zone (holdupZone i)).state = .locked) : exec (.holdupInputChange i active) s =
      .next ((s.modZone (holdupZone i) fun z => { z with cause := active }).finish) := by
  refine exec_event_to rfl rfl (State.on_of_running hrun) ?_
  have hstate : ((s.modZone (holdupZone i) fun z => { z with cause := active }).zone (holdupZone i)).state = .locked := by
    rw [State.zone_modZone, if_pos rfl]
    exact hlocked
  cases active with
  | true =>
    refine (State.setCause_rises hrun (by simpa using hc)).trans ((State.causeRises_holdup _ i).trans (if_neg ?_))
    rw [hstate]
    exact nofun
  | false =>
    refine (State.setCause_falls hrun (by simpa using hc)).trans (if_neg ?_)
    rw [hstate]
    exact nofun

/-- The key's release of a zone (R170). -/
theorem State.keyReleases_state (s : State) (z k : ZoneId) : ((s.keyReleases z).zone k).state =
    if k = z ∧ (s.zone z).state = .locked ∧ (s.zone z).cause = false then .idle else (s.zone k).state := by
  unfold State.keyReleases
  by_cases h : (s.zone z).state = .locked ∧ (s.zone z).cause = false
  · rw [if_pos h]
    by_cases hk : k = z
    · rw [if_pos ⟨hk, h⟩, hk]
      exact State.zoneTo_state ..
    · rw [if_neg fun hkz => hk hkz.1, State.zoneTo_elsewhere hk]
  · rw [if_neg h, if_neg fun hk => h hk.2]

theorem State.keyReleases_cause (s : State) (z k : ZoneId) : ((s.keyReleases z).zone k).cause = (s.zone k).cause := by
  unfold State.keyReleases
  split
  · exact State.zoneTo_cause ..
  · rfl

theorem State.keyEdge_falls (s : State) : s.keyEdge false = { s with au := { s.au with keySwitch := false } } := by
  unfold State.keyEdge
  exact if_neg (by simp)

theorem State.keyEdge_rises (hrun : s.phase = .running) : s.keyEdge true =
    ((s.modAU fun au => { au with keySwitch := true }).keyReleases .holdupA).keyReleases .holdupB := by
  unfold State.keyEdge
  exact if_pos ⟨rfl, State.live_running (s := s.modAU fun au => { au with keySwitch := true }) hrun⟩

/-- The key switch's edges (R170). -/
theorem exec_keySwitchEdge (hrun : s.phase = .running) :
    exec (.keySwitchEdge false) s = .next (({ s with au := { s.au with keySwitch := false } } : State).finish) ∧
    ∃ t, exec (.keySwitchEdge true) s = .next t ∧ t.au.keySwitch = true ∧ ∀ input,
      (t.zone (holdupZone input)).state = (if (s.zone (holdupZone input)).state = .locked ∧
        (s.zone (holdupZone input)).cause = false then .idle else (s.zone (holdupZone input)).state) := by
  have hon := State.on_of_running hrun
  refine ⟨exec_event_to rfl rfl hon (State.keyEdge_falls s), ?_⟩
  generalize hv : s.modAU (fun au => { au with keySwitch := true }) = v
  have hvz : ∀ k, v.zone k = s.zone k := fun k => by rw [← hv]; rfl
  have hkey : v.au.keySwitch = true := by rw [← hv]; rfl
  have hdoes : s.eventDoes (.keySwitchEdge true) = (v.keyReleases .holdupA).keyReleases .holdupB := by
    rw [← hv]
    exact State.keyEdge_rises hrun
  refine ⟨_, exec_event_to rfl rfl hon hdoes, ?_, fun input => ?_⟩
  · simp [hkey]
  · rw [State.finish_zone, State.keyReleases_state, State.keyReleases_state, State.keyReleases_state, State.keyReleases_cause,
      hvz, hvz, hvz]
    by_cases h : (s.zone (holdupZone input)).state = .locked ∧ (s.zone (holdupZone input)).cause = false
    · rw [if_pos h]
      cases input with
      | a => exact (if_neg nofun).trans (if_pos ⟨rfl, h⟩)
      | b => exact if_pos ⟨rfl, (if_neg nofun).trans h.1, h.2⟩
    · rw [if_neg h]
      cases input with
      | a => exact (if_neg nofun).trans (if_neg fun hk => h hk.2)
      | b => exact (if_neg fun hk => h ⟨(if_neg nofun).symm.trans hk.2.1, hk.2.2⟩).trans (if_neg nofun)

/-! ### Delays and windows (R173, R174) -/

/-- A delay that runs out is ALARM (R173). -/
theorem exec_entryDelayExpiry {d : Door} {due : Nat} (hrun : s.phase = .running) (hlen : s.lc.conds.length = 69)
    (hst : (s.zone (doorZone d)).state = .delay) (hdue : (s.zone (doorZone d)).delayDue = some due) :
    ∃ t, exec (.entryDelayExpiry d) s = .next t ∧ t.now = max s.now due ∧ (t.zone (doorZone d)).state = .alarm ∧
      (t.zone (doorZone d)).acked = false ∧ (t.zone (doorZone d)).delayDue = none ∧
      (t.zone (doorZone d)).cause = (s.zone (doorZone d)).cause ∧ t.au.run ≠ .idle ∧ t.lc.isPending 67 = true := by
  have hdoes : s.eventDoes (.entryDelayExpiry d) = (s.reach due).zoneTo (doorZone d) .alarm := by
    show s.onEntryDelayExpiry d = _
    unfold State.onEntryDelayExpiry
    rw [hst, hdue]
  have hne : ZoneState.alarm ≠ ((s.reach due).zone (doorZone d)).state := by
    rw [show ((s.reach due).zone (doorZone d)).state = .delay from hst]
    exact nofun
  have hcls : (doorZone d).cls = .door ∨ (doorZone d).cls = .tamper := by cases d <;> exact .inl rfl
  refine ⟨_, exec_event_to rfl rfl (State.on_of_running hrun) hdoes, ?_⟩
  rw [State.finish_zone, State.zoneTo_at hne, State.finish_isPending, State.finish_au]
  refine ⟨?_, rfl, rfl, rfl, rfl, State.zoneTo_sounds hcls hne.symm, (State.zoneTo_tellsChange hne (LC.tells_nil hlen)).pending⟩
  simp [State.reach]

/-- A window that runs out is closed (R174). -/
theorem exec_windowExpires {d : Door} {due : Nat} (hrun : s.phase = .running) (hdue : (s.zone (doorZone d)).windowUntil = some due) :
    ((s.zone (doorZone d)).state ≠ .idle ∨ (s.zone (doorZone d)).cause = false →
      exec (.windowExpiry d) s = .next (({ s with now := max s.now due } : State).modZone (doorZone d) fun z =>
        { z with windowUntil := none }).finish) ∧
    ((s.zone (doorZone d)).state = .idle → (s.zone (doorZone d)).cause = true →
      ∃ t, exec (.windowExpiry d) s = .next t ∧ (t.zone (doorZone d)).windowUntil = none ∧
        (s.au.entryDelay d = 0 → (t.zone (doorZone d)).state = .alarm) ∧
        (0 < s.au.entryDelay d → (t.zone (doorZone d)).state = .delay ∧
          (t.zone (doorZone d)).delayDue = some (max s.now due + s.au.entryDelay d * 1000))) := by
  have hdoes : s.eventDoes (.windowExpiry d) = (s.reach due).closeWindow d := by
    show s.onWindowExpiry d = _
    unfold State.onWindowExpiry
    rw [hdue]
  have hon := State.on_of_running hrun
  refine ⟨fun h => exec_event_to rfl rfl hon (hdoes.trans (State.closeWindow_quiet (s := s.reach due) h)), fun hidle hcause =>
    ⟨_, exec_event_to rfl rfl hon hdoes, ?_⟩⟩
  rw [State.finish_zone]
  exact ⟨State.closeWindow_window .., State.closeWindow_delays (s := s.reach due) hidle hcause⟩

end

/-! ## The TAMPER zones (R175 to R177) -/

section
variable {s : State} {told : List Nat} {l : Lane}

/-- A TAMPER zone's alarm: the zone, its reason, the outputs and the run (R177, R180 to R182). -/
theorem State.tamperAlarm_leaves (h : (s.zone (.tamper l)).state ∈ [.idle, .latched]) (ht : s.lc.Tells told) :
    ((s.zoneTo (.tamper l) .alarm).zone (.tamper l)).state = .alarm ∧ ((s.zoneTo (.tamper l) .alarm).zone (.tamper l)).acked = false ∧
      ((s.zoneTo (.tamper l) .alarm).laneRec l).reasons.tamper = true ∧ (s.zoneTo (.tamper l) .alarm).au.run ≠ .idle ∧
      (s.zoneTo (.tamper l) .alarm).lc.Tells (67 :: told) := by
  have hne : ZoneState.alarm ≠ (s.zone (.tamper l)).state := fun he => by
    rw [← he] at h
    simp at h
  rw [State.zoneTo_at hne]
  exact ⟨rfl, rfl, State.zoneTo_reason hne (.inl rfl), State.zoneTo_sounds (.inr rfl) hne.symm, State.zoneTo_tellsChange hne ht⟩

/-- What a change of a live part's tamper level does to the zone (R175 to R177). -/
theorem State.setCause_tamper (hrun : s.phase = .running) (ht : s.lc.Tells told) (level : Bool) :
    ((s.setCause (.tamper l) level).zone (.tamper l)).cause = level ∧
    ((s.zone (.tamper l)).cause = level → (s.setCause (.tamper l) level).zone (.tamper l) = s.zone (.tamper l)) ∧
    (level = true → (s.zone (.tamper l)).cause = false → (s.zone (.tamper l)).state ∈ [.idle, .latched] →
      ((s.setCause (.tamper l) level).zone (.tamper l)).state = .alarm ∧
        ((s.setCause (.tamper l) level).zone (.tamper l)).acked = false ∧
        ((s.setCause (.tamper l) level).laneRec l).reasons.tamper = true ∧ (s.setCause (.tamper l) level).au.run ≠ .idle ∧
        (s.setCause (.tamper l) level).lc.Tells (67 :: told)) ∧
    (level = false → (s.zone (.tamper l)).cause = true → (s.zone (.tamper l)).state = .alarm →
      ((s.zone (.tamper l)).acked = false → ((s.setCause (.tamper l) level).zone (.tamper l)).state = .latched) ∧
      ((s.zone (.tamper l)).acked = true → (s.zone (.tamper l)).supervised = true →
        ((s.setCause (.tamper l) level).zone (.tamper l)).state = .idle ∧
          ((s.setCause (.tamper l) level).laneRec l).reasons.tamper = false)) := by
  have hmod : ∀ b, (s.modZone (.tamper l) fun r => { r with cause := b }).zone (.tamper l) = { s.zone (.tamper l) with cause := b } :=
    fun b => (State.zone_modZone ..).trans (if_pos rfl)
  refine ⟨State.setCause_zone .., fun h => by rw [State.setCause_same h], ?_, ?_⟩
  · rintro rfl hc hst
    have hst' : ((s.modZone (.tamper l) fun r => { r with cause := true }).zone (.tamper l)).state ∈ [.idle, .latched] := by
      rw [hmod]; exact hst
    have hrises : (s.modZone (.tamper l) fun r => { r with cause := true }).causeRises (.tamper l) =
        (s.modZone (.tamper l) fun r => { r with cause := true }).zoneTo (.tamper l) .alarm := if_pos (by simpa using hst')
    rw [State.setCause_rises hrun hc, hrises]
    exact State.tamperAlarm_leaves hst' ht
  · rintro rfl hc hst
    rw [State.setCause_falls hrun hc]
    generalize hv : s.modZone (.tamper l) (fun r => { r with cause := false }) = v
    have hvz : v.zone (.tamper l) = { s.zone (.tamper l) with cause := false } := hv ▸ hmod false
    have hfalls : v.causeFalls (.tamper l) = if (v.zone (.tamper l)).acked then v.zoneIdle (.tamper l)
        else v.zoneTo (.tamper l) .latched := if_pos (by rw [hvz]; exact hst)
    rw [hfalls, hvz]
    dsimp only
    refine ⟨fun ha => ?_, fun ha hsup => ?_⟩
    · rw [ha, if_neg nofun]
      exact State.zoneTo_state ..
    · rw [ha, if_pos rfl]
      refine ⟨?_, ?_⟩
      · rw [State.zoneIdle_state, hvz]
        exact if_neg fun h => absurd (h.2.symm.trans hsup) nofun
      · exact (State.zoneIdle_leaves (s := v) (by rw [hvz, hst]; exact nofun) (told := told)
          (by rw [← hv]; exact ht)).2.2 l rfl

/-- A FULL station's answer reaches the AU as its tamper level, where that is resolved (R8, R169). -/
theorem exec_pollAnswer_tamper {due : Nat} {p : PollReport} (hrun : s.phase = .running) (hb : s.li.bus = .poll l due)
    (hlost : (s.laneRec l).reasons.stationLost = false) (hlen : s.lc.conds.length = 69) :
    ∃ v u t : State, exec (.pollAnswer p) s = .next t ∧ v.au = s.au ∧ v.phase = .running ∧ v.lc.Tells [] ∧
      u = (if (s.laneRec l).resolved.tamperSwitch then v.setCause (.tamper l) p.tamper else v) ∧
      t.au = u.au ∧ (t.laneRec l).reasons = (u.laneRec l).reasons ∧ ∀ told, u.lc.Tells told → t.lc.Tells told := by
  have hon := State.on_of_running hrun
  have hdoes : s.eventDoes (.pollAnswer p) = (s.takeAnswer l p).releaseByPoll := by
    show s.onPollAnswer p = _
    unfold State.onPollAnswer
    rw [hb]
    exact congrArg State.releaseByPoll (if_neg (by rw [hlost]; exact Bool.false_ne_true))
  generalize hw : (s.modLane l fun r => { r with missed := 0, answerReceived := true }).reportStation l (sense p.carrier) = w
  generalize hx : (if (w.laneRec l).resolved.carrierDoor then w.reportDoor l (sense p.door) else w) = x
  have hxs : x.au = s.au ∧ x.phase = s.phase ∧ x.lc.Tells [] := by
    have hws : w.au = s.au ∧ w.phase = s.phase ∧ w.lc.Tells [] := by
      rw [← hw]
      exact ⟨by simp, by simp, State.reportStation_tells _ _ _ (LC.tells_nil hlen)⟩
    rw [← hx]
    split
    · exact ⟨by simp [hws.1], by simp [hws.2.1], State.reportDoor_tells _ _ _ hws.2.2⟩
    · exact hws
  have hheard : s.heard l p = (x.modLane l fun r => { r with tamperLevel := p.tamper }).tellTamperLevel l := by
    rw [← hx, ← hw]
    rfl
  generalize hv : x.modLane l (fun r => { r with tamperLevel := p.tamper }) = v at hheard
  have hvs : v.au = s.au ∧ v.phase = .running ∧ v.lc.Tells [] := by
    rw [← hv]
    exact ⟨hxs.1, hxs.2.1.trans hrun, hxs.2.2⟩
  have hvlevel : (v.laneRec l).tamperLevel = p.tamper := by
    rw [← hv, State.modLane_at]
  have hvres : (v.laneRec l).resolved = (s.laneRec l).resolved := by
    have htell : ((v.tellTamperLevel l).laneRec l).resolved = (v.laneRec l).resolved :=
      LaneRec.resolved_of_core (State.core_of_cores (by simp) l)
    have hcore : ((s.heard l p).laneRec l).resolved = (s.laneRec l).resolved := by
      have h := congrArg LaneRec.resolved ((s.heard_core l l p).trans (if_pos rfl))
      exact h
    rw [← htell, ← hheard]
    exact hcore
  have htell : v.tellTamperLevel l = if (s.laneRec l).resolved.tamperSwitch then v.setCause (.tamper l) p.tamper else v := by
    unfold State.tellTamperLevel
    rw [hvres, hvlevel]
  have hau : (s.takeAnswer l p).releaseByPoll.finish.au = (s.heard l p).au := by
    have hpressed : ∀ a : State, (a.pressed l p).au = a.au := fun a => by
      unfold State.pressed
      split <;> simp
    have hlooped : ∀ a : State, (a.looped l p).au = a.au := fun a => by
      unfold State.looped
      split <;> simp
    have hcall : (s.takeAnswer l p).au = (((s.heard l p).looped l p).pressed l p).au := by
      rw [State.takeAnswer_eq]
      exact (apply_ite State.au _ _ _).trans (ite_self _)
    rw [State.finish_au, (State.releaseByPoll_frame _).2.2.2.2.2.2.2.2.2.2.1, hcall, hpressed, hlooped]
  have hreasons : ((s.takeAnswer l p).releaseByPoll.finish.laneRec l).reasons = ((s.heard l p).laneRec l).reasons := by
    rw [State.finish_laneRec, LaneRec.unshown_eq (State.releaseByPoll_unshown _ l), State.takeAnswer_laneRec]
    have hrest : (((s.heard l p).looped l p).laneRec l).reasons = ((s.heard l p).laneRec l).reasons := by rw [State.looped_rest]
    exact hrest
  refine ⟨v, v.tellTamperLevel l, _, exec_event_to rfl rfl hon hdoes, hvs.1, hvs.2.1, hvs.2.2, htell, hau.trans (by rw [hheard]),
    hreasons.trans (by rw [hheard]), fun told ht => ?_⟩
  have htold : (s.takeAnswer l p).lc.Tells told := State.takeAnswer_tells (State.looped_tells (by rw [hheard]; exact ht) l p)
  refine ⟨?_, fun n hn => ?_⟩
  · rw [(State.finish_conds _).1, (State.releaseByPoll_frame _).2.2.2.2.2.2.2.2.2.2.2.1]
    exact htold.1
  · rw [State.finish_isPending, (State.releaseByPoll_frame _).2.2.2.2.2.2.2.2.2.2.2.1]
    exact htold.2 n hn

theorem State.zone_of_au {a b : State} (h : a.au = b.au) (z : ZoneId) : a.zone z = b.zone z := congrArg (fun au : AU => au.zones.get z) h

/-- A good poll answer's tamper level and its zone (R175 to R177, R180). -/
theorem exec_pollAnswer_zone {due : Nat} {p : PollReport} (hrun : s.phase = .running) (hb : s.li.bus = .poll l due)
    (hlost : (s.laneRec l).reasons.stationLost = false) (hlen : s.lc.conds.length = 69) :
    ∃ t, exec (.pollAnswer p) s = .next t ∧
      ((s.laneRec l).resolved.tamperSwitch = false → t.zone (.tamper l) = s.zone (.tamper l)) ∧
      ((s.laneRec l).resolved.tamperSwitch = true → (t.zone (.tamper l)).cause = p.tamper ∧
        ((s.zone (.tamper l)).cause = p.tamper → t.zone (.tamper l) = s.zone (.tamper l)) ∧
        (p.tamper = true → (s.zone (.tamper l)).cause = false → (s.zone (.tamper l)).state ∈ [.idle, .latched] →
          (t.zone (.tamper l)).state = .alarm ∧ (t.zone (.tamper l)).acked = false ∧ (t.laneRec l).reasons.tamper = true ∧
          t.lamp l = .red ∧ t.au.silent = true ∧ t.au.run ≠ .idle ∧ t.lc.isPending 67 = true) ∧
        (p.tamper = false → (s.zone (.tamper l)).cause = true → (s.zone (.tamper l)).state = .alarm →
          ((s.zone (.tamper l)).acked = false → (t.zone (.tamper l)).state = .latched ∧ t.lamp l = .red) ∧
          ((s.zone (.tamper l)).acked = true → (s.zone (.tamper l)).supervised = true →
            (t.zone (.tamper l)).state = .idle ∧ (t.laneRec l).reasons.tamper = false))) := by
  obtain ⟨v, u, t, hexec, hvau, hvrun, hvt, hu, hau, hreasons, htells⟩ := exec_pollAnswer_tamper (p := p) hrun hb hlost hlen
  have hz := State.zone_of_au hau (.tamper l)
  have hvz := State.zone_of_au hvau (.tamper l)
  refine ⟨t, hexec, fun h => ?_, fun h => ?_⟩
  · rw [hz, hu, h, if_neg nofun, hvz]
  · rw [h, if_pos rfl] at hu
    obtain ⟨hcause, hsame, hrise, hfall⟩ := State.setCause_tamper (l := l) hvrun hvt p.tamper
    rw [← hu, hvz] at hsame
    rw [← hu] at hcause
    simp only [← hu, hvz] at hrise hfall
    rw [hz, hreasons]
    refine ⟨hcause, hsame, fun hp hc hst => ?_, fun hp hc hst => ?_⟩
    · obtain ⟨hstate, hacked, hreason, hsounds, htold⟩ := hrise hp hc hst
      refine ⟨hstate, hacked, hreason, State.lamp_red (by rw [hz, hstate]; rfl), ?_, ?_, (htells _ htold).pending⟩
      · refine (AU.silent_iff _).mpr ⟨.tamper l, nofun, ?_⟩
        rw [hau]
        exact (show (u.zone (.tamper l)).state ∈ _ from by rw [hstate]; simp)
      · rw [hau]
        exact hsounds
    · obtain ⟨hlatched, hidle⟩ := hfall hp hc hst
      exact ⟨fun ha => ⟨hlatched ha, State.lamp_red (by rw [hz, hlatched ha]; rfl)⟩, hidle⟩

/-! ### Supervision (R3, R176) -/

/-- Supervision goes with the resolved set (R176). -/
theorem State.supervise_off (hrun : s.phase = .running) (hs : (s.zone (.tamper l)).supervised = true) :
    ((s.supervise l false).zone (.tamper l)).supervised = false ∧ ((s.supervise l false).zone (.tamper l)).cause = false ∧
      ((s.zone (.tamper l)).state = .idle → ((s.supervise l false).zone (.tamper l)).state = .unsupervised) ∧
      ((s.zone (.tamper l)).state = .alarm → ((s.supervise l false).zone (.tamper l)).state =
        if (s.zone (.tamper l)).acked then .unsupervised else .latched) ∧
      ((s.zone (.tamper l)).state = .latched → ((s.supervise l false).zone (.tamper l)).state = .latched) := by
  generalize hv : s.modZone (.tamper l) (fun r => { r with supervised := false, cause := false }) = v
  have hvz : v.zone (.tamper l) = { s.zone (.tamper l) with supervised := false, cause := false } := by
    rw [← hv, State.zone_modZone, if_pos rfl]
  have hlive : v.live = true := State.live_running (by rw [← hv]; exact hrun)
  have hsup : s.supervise l false = if (v.zone (.tamper l)).state = .idle then v.zoneTo (.tamper l) .unsupervised
      else v.causeFalls (.tamper l) := by
    unfold State.supervise
    dsimp only
    rw [if_neg (by rw [hs]; exact nofun), if_neg nofun, hv, hlive, if_pos rfl]
  have hidle : ∀ st, ((v.zoneTo (.tamper l) st).zone (.tamper l)).supervised = false ∧
      ((v.zoneTo (.tamper l) st).zone (.tamper l)).cause = false := fun st =>
    ⟨(State.zoneTo_supervised ..).trans (by rw [hvz]), (State.zoneTo_cause ..).trans (by rw [hvz])⟩
  have hrest : ((v.zoneIdle (.tamper l)).zone (.tamper l)).supervised = false ∧
      ((v.zoneIdle (.tamper l)).zone (.tamper l)).cause = false := by
    rw [State.zoneIdle_tamper, (hidle .idle).1, if_neg nofun]
    exact ⟨(State.zoneTo_supervised ..).trans (hidle .idle).1, (State.zoneTo_cause ..).trans (hidle .idle).2⟩
  rw [hsup, hvz]
  dsimp only
  by_cases hst : (s.zone (.tamper l)).state = .idle
  · rw [if_pos hst, hst]
    exact ⟨(hidle _).1, (hidle _).2, fun _ => State.zoneTo_state .., nofun, nofun⟩
  · rw [if_neg hst]
    unfold State.causeFalls
    rw [hvz]
    dsimp only
    by_cases ha : (s.zone (.tamper l)).state = .alarm
    · rw [if_pos ha, ha]
      cases hack : (s.zone (.tamper l)).acked with
      | true =>
        rw [if_pos rfl, if_pos rfl]
        exact ⟨hrest.1, hrest.2, nofun, fun _ => (State.zoneIdle_state ..).trans (if_pos ⟨rfl, by rw [hvz]⟩), nofun⟩
      | false =>
        rw [if_neg nofun, if_neg nofun]
        exact ⟨(hidle _).1, (hidle _).2, nofun, fun _ => State.zoneTo_state .., nofun⟩
    · rw [if_neg ha, hvz]
      exact ⟨rfl, rfl, fun h => absurd h hst, fun h => absurd h ha, fun h => h⟩

/-- Supervision comes with the resolved set, the zone taking the level the LI holds (R176). -/
theorem State.supervise_on (hrun : s.phase = .running) (hs : (s.zone (.tamper l)).supervised = false)
    (hst : (s.zone (.tamper l)).state = .unsupervised) :
    ((s.supervise l true).zone (.tamper l)).supervised = true ∧
      ((s.supervise l true).zone (.tamper l)).cause = (s.laneRec l).tamperLevel ∧
      ((s.supervise l true).zone (.tamper l)).state = (if (s.laneRec l).tamperLevel then .alarm else .idle) ∧
      ((s.supervise l true).laneRec l).reasons.tamper = (s.laneRec l).tamperLevel := by
  generalize hv : s.modZone (.tamper l) (fun r => { r with supervised := true, cause := (s.laneRec l).tamperLevel }) = v
  have hvz : v.zone (.tamper l) = { s.zone (.tamper l) with supervised := true, cause := (s.laneRec l).tamperLevel } := by
    rw [← hv, State.zone_modZone, if_pos rfl]
  have hlive : v.live = true := State.live_running (by rw [← hv]; exact hrun)
  have hunsup : (v.zone (.tamper l)).state = .unsupervised := by rw [hvz]; exact hst
  have hne : ZoneState.idle ≠ (v.zone (.tamper l)).state := by rw [hunsup]; exact nofun
  have hsup : s.supervise l true = if ((v.zoneTo (.tamper l) .idle).zone (.tamper l)).cause
      then (v.zoneTo (.tamper l) .idle).causeRises (.tamper l) else v.zoneTo (.tamper l) .idle := by
    unfold State.supervise
    dsimp only
    rw [if_neg (by rw [hs]; exact nofun), if_pos rfl, hv, hlive, if_pos rfl, if_pos hunsup]
  have hidle := State.zoneTo_at hne
  have hreason := State.zoneTo_reason hne (.inr rfl)
  rw [hvz] at hidle
  generalize v.zoneTo (.tamper l) .idle = w at *
  rw [hsup, hidle]
  dsimp only
  cases hlevel : (s.laneRec l).tamperLevel with
  | false =>
    rw [if_neg nofun, if_neg nofun, hidle, hlevel]
    exact ⟨rfl, rfl, rfl, hreason⟩
  | true =>
    rw [if_pos rfl, if_pos rfl]
    have hwidle : (w.zone (.tamper l)).state = .idle := by rw [hidle]
    have hrises : w.causeRises (.tamper l) = w.zoneTo (.tamper l) .alarm := if_pos (.inl hwidle)
    have halarm : ZoneState.alarm ≠ (w.zone (.tamper l)).state := by rw [hwidle]; exact nofun
    rw [hrises, State.zoneTo_reason halarm (.inl rfl), State.zoneTo_at halarm, hidle]
    exact ⟨rfl, hlevel, rfl, rfl⟩

/-- LANE_SETTINGS brings supervision and takes it away with the resolved set (R3, R15, R176). -/
theorem exec_laneSettings_supervise {tag features waypoints timeout auto : Nat} (hs : s.Serves tag) (ha : auto ≤ 1) :
    ∃ t, exec (.laneSettings tag l.num features waypoints timeout auto) s = .next t ∧
      (features.testBit 1 = false → (s.zone (.tamper l)).supervised = true →
        (t.zone (.tamper l)).supervised = false ∧ (t.zone (.tamper l)).cause = false ∧
        ((s.zone (.tamper l)).state = .idle → (t.zone (.tamper l)).state = .unsupervised) ∧
        ((s.zone (.tamper l)).state = .alarm → (t.zone (.tamper l)).state =
          if (s.zone (.tamper l)).acked then .unsupervised else .latched) ∧
        ((s.zone (.tamper l)).state = .latched → (t.zone (.tamper l)).state = .latched)) ∧
      (features.testBit 1 = true → (s.laneRec l).advertised.tamperSwitch = true →
        (s.zone (.tamper l)).supervised = false → (s.zone (.tamper l)).state = .unsupervised →
        (t.zone (.tamper l)).supervised = true ∧ (t.zone (.tamper l)).cause = (s.laneRec l).tamperLevel ∧
        (t.zone (.tamper l)).state = (if (s.laneRec l).tamperLevel then .alarm else .idle) ∧
        (t.laneRec l).reasons.tamper = (s.laneRec l).tamperLevel) := by
  obtain ⟨a, hauto⟩ : ∃ a, onOff auto = some a := by
    rcases Nat.le_one_iff_eq_zero_or_eq_one.mp ha with rfl | rfl
    · exact ⟨false, rfl⟩
    · exact ⟨true, rfl⟩
  generalize hv : s.counted.modLane l (fun r => { r with set := { r.set with
    enabled := Features.ofNat features, waypoints := clamp 0 3 waypoints, segTimeout := clamp 1000 30000 timeout, autoRecall := a } }) = v
  have hvl : v.laneRec l = { s.laneRec l with set := { (s.laneRec l).set with
      enabled := Features.ofNat features, waypoints := clamp 0 3 waypoints, segTimeout := clamp 1000 30000 timeout, autoRecall := a } } := by
    rw [← hv, State.modLane_at]
    rfl
  generalize hu : (if (v.laneRec l).resolved.vehicleLoop then v else v.modLane l fun r => { r with vehicle := false, clearDue := none }) = u
  have hul : (u.laneRec l).tamperLevel = (s.laneRec l).tamperLevel ∧ u.au = s.au ∧ u.phase = .running := by
    have hvs : (v.laneRec l).tamperLevel = (s.laneRec l).tamperLevel ∧ v.au = s.au ∧ v.phase = .running :=
      ⟨by rw [hvl], by rw [← hv]; rfl, by rw [← hv]; exact hs.1⟩
    rw [← hu]
    split
    · exact hvs
    · exact ⟨by rw [State.modLane_at]; exact hvs.1, hvs.2⟩
  have hres : (v.laneRec l).resolved.tamperSwitch = ((s.laneRec l).advertised.tamperSwitch && features.testBit 1) := by rw [hvl]; rfl
  have hreresolve : v.reresolve l = if (v.laneRec l).resolved.carrierDoor then u.supervise l (v.laneRec l).resolved.tamperSwitch
      else (u.supervise l (v.laneRec l).resolved.tamperSwitch).reportDoor l .unsensed := by rw [← hu]; rfl
  obtain ⟨body, hown⟩ : ∃ body, s.counted.serve (.laneSettings tag l.num features waypoints timeout auto) =
      (v.reresolve l).ok 0x10 tag body := by
    show ∃ body, s.counted.ownLaneSettings tag l.num features waypoints timeout auto = _
    unfold State.ownLaneSettings
    rw [Ix4.ofNum_num, hauto]
    dsimp only
    rw [hv]
    exact ⟨_, rfl⟩
  refine ⟨_, exec_serves_to rfl hs hown, ?_⟩
  have hzone : (((v.reresolve l).ok 0x10 tag body).finish.zone (.tamper l)) =
      (u.supervise l (v.laneRec l).resolved.tamperSwitch).zone (.tamper l) := by
    rw [State.finish_zone, hreresolve, State.ok_replied rfl]
    refine State.zone_of_au ?_ _
    show (State.au (if _ then _ else _)) = _
    split
    · rfl
    · simp
  have hreason : (((v.reresolve l).ok 0x10 tag body).finish.laneRec l).reasons =
      ((u.supervise l (v.laneRec l).resolved.tamperSwitch).laneRec l).reasons := by
    rw [State.finish_laneRec, hreresolve, State.ok_replied rfl]
    show (State.laneRec (if _ then _ else _) l).reasons = _
    split
    · rfl
    · rw [State.reportDoor_unsensed, State.modLane_at]
  rw [hzone, hreason, hres]
  have huz := State.zone_of_au hul.2.1 (.tamper l)
  refine ⟨fun hbit hsup => ?_, fun hbit hadv hsup hst => ?_⟩
  · rw [hbit, Bool.and_false]
    have hoff := State.supervise_off (l := l) hul.2.2 (by rw [huz]; exact hsup)
    rw [huz] at hoff
    exact hoff
  · rw [hbit, hadv, Bool.and_true]
    have hon := State.supervise_on (l := l) hul.2.2 (by rw [huz]; exact hsup) (by rw [huz]; exact hst)
    rw [hul.1] at hon
    exact hon

end

/-! ## The zones at the end of start-up (R183) -/

section
variable {s : State} {z k : ZoneId}

theorem State.doorOpens_other {d : Door} (h : k ≠ doorZone d) : (s.doorOpens d).zone k = s.zone k := by
  unfold State.doorOpens
  dsimp only
  split
  · split
    · rfl
    · exact State.startDelay_other h
  · split
    · rfl
    · exact State.zoneTo_elsewhere h
  · rfl

theorem State.doorOpens_entryDelay (s : State) (d : Door) : (s.doorOpens d).au.entryDelay = s.au.entryDelay := by
  unfold State.doorOpens
  dsimp only
  split
  · split
    · rfl
    · exact State.startDelay_entryDelay ..
  · split
    · rfl
    · exact State.zoneTo_entryDelay ..
  · rfl

theorem State.evaluateTamper_other {l : Lane} (h : k ≠ .tamper l) :
    (s.evaluateTamper l).zone k = s.zone k ∧ (s.evaluateTamper l).au.entryDelay = s.au.entryDelay := by
  have hmod : (s.modZone (.tamper l) fun r => { r with heldLatched := false }).zone k = s.zone k := by
    rw [State.zone_modZone, if_neg h]
  have hreasons : ∀ (u : State) (f : Reasons → Reasons), (u.setReasons l f).au = u.au := fun u f => by simp
  unfold State.evaluateTamper
  dsimp only
  split
  · split
    · exact ⟨(State.zoneTo_elsewhere h).trans ((State.zoneTo_elsewhere h).trans hmod),
        (State.zoneTo_entryDelay ..).trans (State.zoneTo_entryDelay ..)⟩
    · split
      · refine ⟨(State.zone_of_au (hreasons _ _) k).trans ((State.zoneTo_elsewhere h).trans ((State.zoneTo_elsewhere h).trans hmod)), ?_⟩
        rw [hreasons]
        exact (State.zoneTo_entryDelay ..).trans (State.zoneTo_entryDelay ..)
      · exact ⟨(State.zoneTo_elsewhere h).trans hmod, State.zoneTo_entryDelay ..⟩
  · exact ⟨hmod, rfl⟩

theorem State.causeRises_fault (s : State) (h : z ∈ [.tubeJam, .airFail, .envelopeJam, .carrierMissing]) :
    s.causeRises z = if (s.zone z).state = .idle ∨ (s.zone z).state = .latched then s.zoneTo z .alarm else s := by
  simp only [List.mem_cons, List.not_mem_nil, or_false] at h
  rcases h with rfl | rfl | rfl | rfl <;> rfl

theorem State.evaluateZone_holdup (s : State) (i : AB) : s.evaluateZone (holdupZone i) =
    if (s.zone (holdupZone i)).state = .idle ∧ (s.zone (holdupZone i)).cause then s.zoneTo (holdupZone i) .locked else s := by
  cases i <;> rfl

theorem State.evaluateZone_door (s : State) (d : Door) :
    s.evaluateZone (doorZone d) = if (s.zone (doorZone d)).cause then s.doorOpens d else s := by
  cases d <;> rfl

theorem State.evaluateZone_fault (s : State) (h : z ∈ [.tubeJam, .airFail, .envelopeJam, .carrierMissing]) : s.evaluateZone z =
    if (s.zone z).cause ∧ ((s.zone z).state = .idle ∨ (s.zone z).state = .latched) then s.zoneTo z .alarm else s := by
  have heq : s.evaluateZone z = if (s.zone z).cause then s.causeRises z else s := by
    simp only [List.mem_cons, List.not_mem_nil, or_false] at h
    rcases h with rfl | rfl | rfl | rfl <;> rfl
  rw [heq, State.causeRises_fault s h, ite_and]

theorem ZoneId.kinds (z : ZoneId) : (∃ i, z = holdupZone i) ∨ (∃ d, z = doorZone d) ∨ (∃ l, z = .tamper l) ∨
    z ∈ [.tubeJam, .airFail, .envelopeJam, .carrierMissing] := by
  cases z with
  | holdupA => exact .inl ⟨.a, rfl⟩
  | holdupB => exact .inl ⟨.b, rfl⟩
  | safeDoor => exact .inr (.inl ⟨.safe, rfl⟩)
  | binDoor => exact .inr (.inl ⟨.bin, rfl⟩)
  | tamper l => exact .inr (.inr (.inl ⟨l, rfl⟩))
  | _ => simp

/-- A zone's evaluation is its own: no other zone and no delay setting changes. -/
theorem State.evaluateZone_other (h : k ≠ z) :
    (s.evaluateZone z).zone k = s.zone k ∧ (s.evaluateZone z).au.entryDelay = s.au.entryDelay := by
  rcases z.kinds with ⟨i, rfl⟩ | ⟨d, rfl⟩ | ⟨l, rfl⟩ | hz
  · rw [State.evaluateZone_holdup]
    split
    · exact ⟨State.zoneTo_elsewhere h, State.zoneTo_entryDelay ..⟩
    · exact ⟨rfl, rfl⟩
  · rw [State.evaluateZone_door]
    split
    · exact ⟨State.doorOpens_other h, State.doorOpens_entryDelay ..⟩
    · exact ⟨rfl, rfl⟩
  · exact State.evaluateTamper_other h
  · rw [State.evaluateZone_fault s hz]
    split
    · exact ⟨State.zoneTo_elsewhere h, State.zoneTo_entryDelay ..⟩
    · exact ⟨rfl, rfl⟩

theorem State.evaluateAll_other {zs : List ZoneId} (h : k ∉ zs) : (zs.foldl State.evaluateZone s).zone k = s.zone k := by
  induction zs generalizing s with
  | nil => rfl
  | cons z zs ih =>
    rw [List.mem_cons, not_or] at h
    exact (ih h.2).trans (State.evaluateZone_other h.1).1

/-- In the evaluation of distinct zones each is evaluated as it stood (R183). -/
theorem State.evaluateAll_at {zs : List ZoneId} (hn : zs.Nodup) (hz : z ∈ zs) :
    ∃ u : State, u.zone z = s.zone z ∧ u.au.entryDelay = s.au.entryDelay ∧
      (zs.foldl State.evaluateZone s).zone z = (u.evaluateZone z).zone z := by
  induction zs generalizing s with
  | nil => exact absurd hz List.not_mem_nil
  | cons y zs ih =>
    obtain ⟨hfresh, hn'⟩ := List.nodup_cons.mp hn
    by_cases hyz : z = y
    · subst hyz
      exact ⟨s, rfl, rfl, State.evaluateAll_other hfresh⟩
    · obtain ⟨u, huz, hud, hfold⟩ := ih (s := s.evaluateZone y) hn' ((List.mem_cons.mp hz).resolve_left hyz)
      obtain ⟨hzone, hdelay⟩ := State.evaluateZone_other (s := s) hyz
      exact ⟨u, huz.trans hzone, hud.trans hdelay, hfold⟩

theorem State.endStartUp_zone (s : State) (z : ZoneId) : ∃ u : State, u.zone z = s.zone z ∧ u.au.entryDelay = s.au.entryDelay ∧
    s.endStartUp.zone z = (u.evaluateZone z).zone z :=
  State.evaluateAll_at (by decide) z.mem_all

/-! ### Class by class -/

theorem State.evaluated_holdup (s : State) (i : AB) : ((s.evaluateZone (holdupZone i)).zone (holdupZone i)).state =
    if (s.zone (holdupZone i)).state = .idle ∧ (s.zone (holdupZone i)).cause = true then .locked else (s.zone (holdupZone i)).state := by
  rw [State.evaluateZone_holdup]
  split
  · exact State.zoneTo_state ..
  · rfl

theorem State.evaluated_door {d : Door} (hw : (s.zone (doorZone d)).windowUntil = none) :
    ((s.evaluateZone (doorZone d)).zone (doorZone d)).state =
      if (s.zone (doorZone d)).cause = true ∧ (s.zone (doorZone d)).state = .idle then
        (if s.au.entryDelay d = 0 then .alarm else .delay)
      else if (s.zone (doorZone d)).cause = true ∧ (s.zone (doorZone d)).state = .latched then .alarm
      else (s.zone (doorZone d)).state := by
  rw [State.evaluateZone_door]
  cases hc : (s.zone (doorZone d)).cause with
  | false => rw [if_neg nofun, if_neg fun h => absurd h.1 nofun, if_neg fun h => absurd h.1 nofun]
  | true =>
    rw [if_pos rfl]
    have hopen : ¬ (s.zone (doorZone d)).windowUntil.isSome = true := by rw [hw]; exact nofun
    unfold State.doorOpens
    dsimp only
    split
    · next hst =>
      rw [if_neg hopen, if_pos ⟨rfl, hst⟩]
      obtain ⟨hnow, hlater⟩ := s.startDelay_at d
      split
      · next h0 => exact hnow h0
      · next h0 => exact (hlater (Nat.pos_of_ne_zero h0)).1
    · next hst =>
      rw [if_neg hopen, if_neg fun h => absurd (h.2.symm.trans hst) (by simp), if_pos ⟨rfl, hst⟩]
      exact State.zoneTo_state ..
    · next hidle hlatched => rw [if_neg fun h => hidle h.2, if_neg fun h => hlatched h.2]

theorem State.evaluated_tamper (s : State) (l : Lane) :
    ((s.zone (.tamper l)).supervised = false → ((s.evaluateZone (.tamper l)).zone (.tamper l)).state = (s.zone (.tamper l)).state) ∧
    ((s.zone (.tamper l)).supervised = true → ((s.evaluateZone (.tamper l)).zone (.tamper l)).state =
      if (s.zone (.tamper l)).cause then .alarm else if (s.zone (.tamper l)).heldLatched then .latched else .idle) := by
  have hmod : (s.modZone (.tamper l) fun r => { r with heldLatched := false }).zone (.tamper l) =
      { s.zone (.tamper l) with heldLatched := false } := (State.zone_modZone ..).trans (if_pos rfl)
  have hreasons : ∀ (u : State) (f : Reasons → Reasons), (u.setReasons l f).au = u.au := fun u f => by simp
  show (_ → (State.zone (s.evaluateTamper l) _).state = _) ∧ (_ → (State.zone (s.evaluateTamper l) _).state = _)
  unfold State.evaluateTamper
  dsimp only
  rw [hmod]
  refine ⟨fun h => ?_, fun h => ?_⟩
  · rw [if_neg (show ¬ (s.zone (.tamper l)).supervised = true from by rw [h]; exact nofun), hmod]
  · rw [if_pos (show (s.zone (.tamper l)).supervised = true from h), State.zoneTo_cause, hmod]
    dsimp only
    split
    · exact State.zoneTo_state ..
    · split
      · rw [State.zone_of_au (hreasons _ _)]
        exact State.zoneTo_state ..
      · exact State.zoneTo_state ..

theorem State.evaluated_fault (s : State) (h : z ∈ [.tubeJam, .airFail, .envelopeJam, .carrierMissing]) :
    ((s.evaluateZone z).zone z).state =
      if (s.zone z).cause = true ∧ (s.zone z).state ∈ [.idle, .latched] then .alarm else (s.zone z).state := by
  rw [State.evaluateZone_fault s h]
  by_cases hc : (s.zone z).cause = true ∧ ((s.zone z).state = .idle ∨ (s.zone z).state = .latched)
  · rw [if_pos hc, if_pos (by simpa using hc)]
    exact State.zoneTo_state ..
  · rw [if_neg hc, if_neg (by simpa using hc)]

/-- The refresh run that ends start-up, the zones evaluated against their causes (R58, R183). -/
theorem exec_refreshRunEnd_evaluates {since : Nat} (hp : s.phase = .startUp .air) (hst : s.as.state = .refresh)
    (hstarted : s.as.started = some since) (hin : s.as.closedInRun = true) (hclosed : s.as.duty.switchClosed = true) :
    ∃ t, exec .refreshRunEnd s = .next t ∧ t.phase = .running ∧ (∀ z, (t.zone z).cause = (s.zone z).cause) ∧
      (∀ input, (t.zone (holdupZone input)).state = (if (s.zone (holdupZone input)).state = .idle ∧
        (s.zone (holdupZone input)).cause = true then .locked else (s.zone (holdupZone input)).state)) ∧
      (∀ d, (s.zone (doorZone d)).windowUntil = none → (t.zone (doorZone d)).state =
        (if (s.zone (doorZone d)).cause = true ∧ (s.zone (doorZone d)).state = .idle then
          (if s.au.entryDelay d = 0 then .alarm else .delay)
        else if (s.zone (doorZone d)).cause = true ∧ (s.zone (doorZone d)).state = .latched then .alarm
        else (s.zone (doorZone d)).state)) ∧
      (∀ l, ((s.zone (.tamper l)).supervised = false → (t.zone (.tamper l)).state = (s.zone (.tamper l)).state) ∧
        ((s.zone (.tamper l)).supervised = true → (t.zone (.tamper l)).state = (if (s.zone (.tamper l)).cause then .alarm
          else if (s.zone (.tamper l)).heldLatched then .latched else .idle))) ∧
      ∀ z, z ∈ [.tubeJam, .airFail, .envelopeJam, .carrierMissing] → (t.zone z).state =
        (if (s.zone z).cause = true ∧ (s.zone z).state ∈ [.idle, .latched] then .alarm else (s.zone z).state) := by
  have hdoes := State.refreshRun_passes hst hstarted hin hclosed
  generalize hv : (s.reach (since + 2000)).modAS (fun as => as.enterEconomy (max s.now (since + 2000))) = v at hdoes
  have hvau : v.au = s.au := by rw [← hv]; rfl
  rw [State.airStepEnds_startUp (show v.phase = .startUp .air from by rw [← hv]; exact hp)] at hdoes
  have hvz := State.zone_of_au hvau
  have hat := v.endStartUp_zone
  have hcauses := v.endStartUp_causes
  obtain ⟨hphase, -⟩ := v.endStartUp_begins
  refine ⟨_, exec_event_to rfl rfl (by rw [hp]; exact nofun) hdoes, ?_⟩
  simp only [State.finish_zone]
  refine ⟨by simpa using hphase, fun z => ?_, fun i => ?_, fun d hw => ?_, fun l => ?_, fun z hz => ?_⟩
  · rw [State.cause_eq, hcauses, ← State.cause_eq, hvz]
  · obtain ⟨u, hu, -, hzone⟩ := hat (holdupZone i)
    rw [hzone, State.evaluated_holdup, hu, hvz]
  · obtain ⟨u, hu, hdelay, hzone⟩ := hat (doorZone d)
    rw [hzone, State.evaluated_door (by rw [hu, hvz]; exact hw), hu, hvz, hdelay, hvau]
  · obtain ⟨u, hu, -, hzone⟩ := hat (.tamper l)
    have heval := u.evaluated_tamper l
    rw [hu, hvz] at heval
    rw [hzone]
    exact heval
  · obtain ⟨u, hu, -, hzone⟩ := hat z
    rw [hzone, State.evaluated_fault u hz, hu, hvz]

end

/-- Settles O58: the zones' events, the outputs, and the evaluation at the end of start-up. -/
theorem alarmEventsMoveTheZones : Obligations.AlarmEventsMoveTheZones := by
  refine ⟨fun s hrun hlen => ⟨fun input active hc => exec_event_to rfl rfl (State.on_of_running hrun) (State.setCause_same hc),
      fun input hc hidle hd => exec_holdupActive hrun hlen hc hidle hd, fun input active hc hl => exec_holdupLocked hrun hc hl,
      (exec_keySwitchEdge hrun).1, (exec_keySwitchEdge hrun).2, fun d due hst hdue => exec_entryDelayExpiry hrun hlen hst hdue,
      fun d due hdue => exec_windowExpires hrun hdue⟩,
    fun s => ⟨fun l => ?_, AU.silent_iff s.au, AU.trouble_iff s.au⟩,
    fun l due p s hrun hb hlost hlen => exec_pollAnswer_zone hrun hb hlost hlen,
    fun tag features waypoints timeout auto l s hs ha => exec_laneSettings_supervise hs ha,
    fun since s hp hst hstarted hin hclosed => exec_refreshRunEnd_evaluates hp hst hstarted hin hclosed⟩
  simp only [State.lamp, AU.lampDrive, ZoneState.alarming_iff]
  rfl

/-! ## AUTHORIZE and ACK_ZONE (R174, R185, R186) -/

section
variable {s : State} {tag : Nat}

theorem doorOf_some {d : Door} {zone : Nat} (h : (d = .safe ∧ zone = 3) ∨ (d = .bin ∧ zone = 4)) : doorOf zone = some d := by
  rcases h with ⟨rfl, rfl⟩ | ⟨rfl, rfl⟩ <;> rfl

/-- AUTHORIZE without duress: the window is set, and the zone answered with (R185). -/
theorem State.ownAuthorize_sets {d : Door} {zone minutes : Nat} (hz : doorOf zone = some d) (hd : s.au.duress = false) {u : State}
    (hu : (if minutes = 0 then s.closeWindow d else s.openWindow d minutes) = u) :
    s.ownAuthorize tag zone minutes = u.replied 0x49 tag (0x00#8 :: (u8 zone ++ u8 (u.zone (doorZone d)).state.code ++
      u16 (secondsLeft (u.zone (doorZone d)).windowUntil u.now))) := by
  unfold State.ownAuthorize
  rw [hz]
  dsimp only
  rw [if_neg (by rw [hd]; exact nofun), hu]
  exact State.ok_replied rfl ..

theorem secondsLeft_minutes (now minutes : Nat) : secondsLeft (some (now + minutes * 60000)) now = minutes * 60 := by
  simp only [secondsLeft, seconds, Option.map_some, Option.getD_some]
  omega

theorem clamp_minutes {minutes : Nat} (h : 1 ≤ minutes) : clamp 1 120 minutes = min 120 minutes := by
  unfold clamp
  omega

/-- AUTHORIZE of a door zone (R171, R174, R185). -/
theorem exec_authorize (hs : s.Serves tag) (hlen : s.lc.conds.length = 69) {d : Door} {zone : Nat} (minutes : Nat)
    (hz : (d = Door.safe ∧ zone = 3) ∨ (d = .bin ∧ zone = 4)) :
    (s.au.duress = true → exec (.authorize tag zone minutes) s = .next (s.refused 0x49 tag .duressLock).finish) ∧
    (s.au.duress = false → 1 ≤ minutes → (s.zone (doorZone d)).state ≠ .delay →
      ∃ t, exec (.authorize tag zone minutes) s = .next t ∧
        t.zone (doorZone d) = { s.zone (doorZone d) with windowUntil := some (s.now + min 120 minutes * 60000) } ∧
        t.lc.replies = s.lc.replies ++ [answer 0x49 tag (0x00#8 :: (u8 zone ++ u8 (s.zone (doorZone d)).state.code ++
          u16 (min 120 minutes * 60)))] ∧ t.lc.conds = s.lc.conds) ∧
    (s.au.duress = false → 1 ≤ minutes → (s.zone (doorZone d)).state = .delay →
      ∃ t, exec (.authorize tag zone minutes) s = .next t ∧ (t.zone (doorZone d)).state = .idle ∧
        (t.zone (doorZone d)).delayDue = none ∧
        (t.zone (doorZone d)).windowUntil = some (s.now + min 120 minutes * 60000) ∧ t.lc.isPending 67 = true) ∧
    (s.au.duress = false → (s.zone (doorZone d)).cause = false → ∃ t, exec (.authorize tag zone 0) s = .next t ∧
      t.zone (doorZone d) = { s.zone (doorZone d) with windowUntil := none } ∧
      t.lc.replies = s.lc.replies ++ [answer 0x49 tag (0x00#8 :: (u8 zone ++ u8 (s.zone (doorZone d)).state.code ++ u16 0))]) := by
  have hdoor := doorOf_some hz
  have hown := fun (hd : s.au.duress = false) (m : Nat) => State.ownAuthorize_sets (s := s.counted) (tag := tag) (minutes := m) hdoor hd rfl
  refine ⟨fun hd => exec_serves_to rfl hs ?_, fun hd hm hst => ?_, fun hd hm hst => ?_, fun hd hc => ?_⟩
  · show s.counted.ownAuthorize tag zone minutes = _
    unfold State.ownAuthorize
    rw [hdoor]
    exact (if_pos hd).trans (State.counted_refuse rfl ..)
  · have hset : (if minutes = 0 then s.counted.closeWindow d else s.counted.openWindow d minutes) =
        s.counted.modZone (doorZone d) fun z => { z with windowUntil := some (s.now + clamp 1 120 minutes * 60000) } := by
      rw [if_neg (by omega)]
      unfold State.openWindow
      dsimp only
      rw [if_neg (show ¬ (s.counted.zone (doorZone d)).state = .delay from hst)]
      rfl
    refine ⟨_, exec_serves_to rfl hs (State.ownAuthorize_sets (s := s.counted) hdoor hd hset), ?_⟩
    have hat : (s.counted.modZone (doorZone d) fun z => { z with windowUntil := some (s.now + clamp 1 120 minutes * 60000) }).zone
        (doorZone d) = { s.zone (doorZone d) with windowUntil := some (s.now + min 120 minutes * 60000) } := by
      rw [State.zone_modZone, if_pos rfl, clamp_minutes hm]
      rfl
    rw [State.finish_zone, (State.finish_conds _).1, hat]
    refine ⟨hat, ?_, rfl⟩
    rw [show (s.counted.modZone (doorZone d) fun z => { z with windowUntil := some (s.now + clamp 1 120 minutes * 60000) }).now = s.now from rfl,
      secondsLeft_minutes]
    simp only [State.finish_frame]
    rfl
  · have hne : ZoneState.idle ≠ (s.counted.zone (doorZone d)).state := by
      rw [show (s.counted.zone (doorZone d)).state = .delay from hst]
      exact nofun
    have hset : (if minutes = 0 then s.counted.closeWindow d else s.counted.openWindow d minutes) =
        (s.counted.zoneTo (doorZone d) .idle).modZone (doorZone d) fun z =>
          { z with windowUntil := some (s.now + clamp 1 120 minutes * 60000) } := by
      have hnow : (s.counted.zoneTo (doorZone d) .idle).now = s.now := by
        simp only [State.zoneTo_frame]
        rfl
      rw [if_neg (by omega)]
      unfold State.openWindow
      dsimp only
      rw [if_pos (show (s.counted.zone (doorZone d)).state = .delay from hst), hnow]
    refine ⟨_, exec_serves_to rfl hs (State.ownAuthorize_sets (s := s.counted) hdoor hd hset), ?_⟩
    have hat : ((s.counted.zoneTo (doorZone d) .idle).modZone (doorZone d) fun z =>
        { z with windowUntil := some (s.now + clamp 1 120 minutes * 60000) }).zone (doorZone d) =
          { (s.counted.zoneTo (doorZone d) .idle).zone (doorZone d) with windowUntil := some (s.now + min 120 minutes * 60000) } := by
      rw [State.zone_modZone, if_pos rfl, clamp_minutes hm]
    have htold := State.zoneTo_tellsChange hne (LC.tells_nil (lc := s.counted.lc) hlen)
    rw [State.finish_zone, State.finish_isPending]
    rw [State.zoneTo_at hne] at hat
    refine ⟨(congrArg Zone.state hat :), (congrArg Zone.delayDue hat :), (congrArg Zone.windowUntil hat :), htold.pending⟩
  · have hset : (if 0 = 0 then s.counted.closeWindow d else s.counted.openWindow d 0) =
        s.counted.modZone (doorZone d) fun z => { z with windowUntil := none } :=
      (if_pos rfl).trans (State.closeWindow_quiet (s := s.counted) (.inr hc))
    refine ⟨_, exec_serves_to rfl hs (State.ownAuthorize_sets (s := s.counted) hdoor hd hset), ?_⟩
    have hat : (s.counted.modZone (doorZone d) fun z => { z with windowUntil := none }).zone (doorZone d) =
        { s.zone (doorZone d) with windowUntil := none } := (State.zone_modZone ..).trans (if_pos rfl)
    rw [State.finish_zone, hat]
    refine ⟨hat, ?_⟩
    simp only [State.finish_frame]
    rfl

/-! ### ACK_ZONE (R179, R186) -/

theorem ZoneId.ofNum_num (z : ZoneId) : ZoneId.ofNum z.num = some z := by
  cases z with
  | tamper l => cases l <;> rfl
  | _ => rfl

theorem ZoneId.ofNum_none {n : Nat} (h : n = 0 ∨ 12 < n) : ZoneId.ofNum n = none := by
  unfold ZoneId.ofNum
  rw [List.find?_eq_none]
  intro z _ hz
  have hnum : z.num = n := by simpa using hz
  have hrange : 1 ≤ z.num ∧ z.num ≤ 12 := by
    cases z with
    | tamper l => cases l <;> decide
    | _ => decide
  omega

theorem State.ownAckZone_acks {z : ZoneId} (h : (s.zone z).state ≠ .locked) : s.ownAckZone tag z.num =
    (s.acknowledge z).replied 0x4A tag (0x00#8 :: u8 ((s.acknowledge z).zone z).state.code) := by
  unfold State.ownAckZone
  rw [z.ofNum_num]
  dsimp only
  rw [if_neg h]
  exact State.ok_replied rfl ..

theorem State.acknowledge_zone {z : ZoneId} (h : z ≠ .carrierMissing) : s.acknowledge z = s.acknowledgedZone z := by
  rw [State.acknowledge_eq]
  cases z with
  | carrierMissing => exact absurd rfl h
  | _ => rfl

variable {z : ZoneId}

/-- A zone with nothing to acknowledge (R186). -/
theorem State.acknowledgedZone_none (h : (s.zone z).state ∈ [.idle, .delay, .unsupervised]) : s.acknowledgedZone z = s := by
  unfold State.acknowledgedZone
  split
  · next hst => rw [hst] at h; simp at h
  · next hst => rw [hst] at h; simp at h
  · rfl

theorem State.acknowledgedZone_acks (h : (s.zone z).state = .alarm) (hc : (s.zone z).cause = true) :
    s.acknowledgedZone z = s.modZone z fun r => { r with acked := true } := by
  unfold State.acknowledgedZone
  rw [h]
  exact if_pos hc

theorem State.acknowledgedZone_rests (h : ((s.zone z).state = .alarm ∧ (s.zone z).cause = false) ∨ (s.zone z).state = .latched) :
    s.acknowledgedZone z = s.zoneIdle z := by
  unfold State.acknowledgedZone
  rcases h with ⟨h, hc⟩ | h
  · rw [h]
    exact if_neg (by rw [hc]; exact nofun)
  · rw [h]

/-- ACK_ZONE of a zone other than zone 12, by its state (R186). -/
theorem exec_ackZone (hs : s.Serves tag) (hlen : s.lc.conds.length = 69) (hz : z ≠ .carrierMissing) :
    ((s.zone z).state ∈ [.idle, .delay, .unsupervised] → exec (.ackZone tag z.num) s =
      .next (s.counted.replied 0x4A tag (0x00#8 :: u8 (s.zone z).state.code)).finish) ∧
    ((s.zone z).state = .alarm → (s.zone z).cause = true → ∃ t, exec (.ackZone tag z.num) s = .next t ∧
      t.zone z = { s.zone z with acked := true } ∧ t.au.run = s.au.run ∧ t.jn = s.jn ∧
      t.lc.replies = s.lc.replies ++ [answer 0x4A tag [0x00#8, 0x03#8]]) ∧
    (((s.zone z).state = .alarm ∧ (s.zone z).cause = false) ∨ (s.zone z).state = .latched →
      ∃ t, exec (.ackZone tag z.num) s = .next t ∧ (t.zone z).acked = false ∧ t.lc.isPending 67 = true ∧
        (t.zone z).state = (if z.cls = .tamper ∧ (s.zone z).supervised = false then .unsupervised else .idle) ∧
        (∀ l, z = .tamper l → (t.laneRec l).reasons.tamper = false)) := by
  have hown := fun (h : (s.zone z).state ≠ .locked) => State.ownAckZone_acks (s := s.counted) (tag := tag) (z := z) h
  rw [State.acknowledge_zone hz] at hown
  refine ⟨fun h => ?_, fun h hc => ?_, fun h => ?_⟩
  · have hnone := State.acknowledgedZone_none (s := s.counted) h
    rw [hnone] at hown
    exact exec_serves_to rfl hs (hown fun hl => by rw [hl] at h; simp at h)
  · have hacks := State.acknowledgedZone_acks (s := s.counted) h hc
    have hat : (s.counted.modZone z fun r => { r with acked := true }).zone z = { s.zone z with acked := true } :=
      (State.zone_modZone ..).trans (if_pos rfl)
    rw [hacks, hat] at hown
    dsimp only at hown
    rw [h] at hown
    refine ⟨_, exec_serves_to rfl hs (hown nofun), ?_⟩
    rw [State.finish_zone, State.finish_jn, State.finish_au]
    refine ⟨hat, rfl, rfl, ?_⟩
    simp only [State.finish_frame]
    rfl
  · have hrests := State.acknowledgedZone_rests (s := s.counted) h
    have hlocked : (s.zone z).state ≠ .locked := fun hl => by
      rcases h with ⟨h, -⟩ | h
      · exact absurd (h.symm.trans hl) nofun
      · exact absurd (h.symm.trans hl) nofun
    have hidle : (s.counted.zone z).state ≠ .idle := fun hi => by
      rcases h with ⟨h, -⟩ | h
      · exact absurd (h.symm.trans hi) nofun
      · exact absurd (h.symm.trans hi) nofun
    obtain ⟨hacked, htold, hreason⟩ := State.zoneIdle_leaves hidle (LC.tells_nil (lc := s.counted.lc) hlen)
    rw [hrests] at hown
    refine ⟨_, exec_serves_to rfl hs (hown hlocked), ?_⟩
    rw [State.finish_zone, State.finish_isPending]
    refine ⟨hacked, htold.pending, State.zoneIdle_state .., fun l hl => ?_⟩
    rw [State.finish_laneRec]
    exact hreason l hl

/-- ACK_ZONE of zone 12, its missing lanes emptied first (R179, R186). -/
theorem exec_ackMissing (hs : s.Serves tag) (h : (s.zone .carrierMissing).state ∈ [.alarm, .latched]) :
    ∃ t, exec (.ackZone tag 12) s = .next t ∧ (t.zone .carrierMissing).state = .idle ∧ (t.zone .carrierMissing).cause = false ∧
      t.au.missing = Four.const false ∧ t.li = s.li := by
  generalize hv : s.counted.missingEmptied .carrierMissing = v
  have hvz : v.zone .carrierMissing = { s.zone .carrierMissing with cause := false } := by rw [← hv]; rfl
  have hvm : v.au.missing = Four.const false ∧ v.li = s.li := by rw [← hv]; exact ⟨rfl, rfl⟩
  have hstate : (v.zone .carrierMissing).state ∈ [.alarm, .latched] := by rw [hvz]; exact h
  have hrests : v.acknowledgedZone .carrierMissing = v.zoneTo .carrierMissing .idle := by
    refine State.acknowledgedZone_rests ?_
    rw [List.mem_cons, List.mem_singleton] at hstate
    exact hstate.imp_left fun ha => ⟨ha, by rw [hvz]⟩
  have hown := State.ownAckZone_acks (s := s.counted) (tag := tag) (z := .carrierMissing) fun hl => by
    rw [show (s.counted.zone .carrierMissing).state = (s.zone .carrierMissing).state from rfl] at hl
    rw [hl] at h
    simp at h
  rw [State.acknowledge_eq, hv, hrests] at hown
  have hne : ZoneState.idle ≠ (v.zone .carrierMissing).state := fun hi => by
    rw [← hi] at hstate
    simp at hstate
  have hli : (v.zoneTo .carrierMissing .idle).li = v.li := State.zoneTo_li hne
  refine ⟨_, exec_serves_to rfl hs hown, ?_⟩
  rw [State.finish_zone, State.finish_au]
  refine ⟨State.zoneTo_state v .carrierMissing .idle, (State.zoneTo_cause v .carrierMissing .idle .carrierMissing).trans (by rw [hvz]), ?_, ?_⟩
  · show (v.zoneTo .carrierMissing .idle).au.missing = _
    simp only [State.zoneTo_frame]
    exact hvm.1
  · simp only [State.finish_frame]
    exact hli.trans hvm.2

end

/-- Settles O59: AUTHORIZE by duress, minutes and the zone's state; ACK_ZONE by the zone's state. -/
theorem authorizeAndAcknowledge : Obligations.AuthorizeAndAcknowledge := by
  intro tag s hs hlen
  refine ⟨fun zone minutes h3 h4 => exec_serves_to rfl hs ?_, fun d zone minutes hz => exec_authorize hs hlen minutes hz,
    fun zone hz => exec_serves_to rfl hs ?_, fun z hl => exec_serves_to rfl hs ?_, fun z hz => exec_ackZone hs hlen hz,
    fun h => exec_ackMissing hs h⟩
  · show s.counted.ownAuthorize tag zone minutes = _
    unfold State.ownAuthorize
    rw [doorOf_none h3 h4]
    exact State.counted_refuse rfl ..
  · show s.counted.ownAckZone tag zone = _
    unfold State.ownAckZone
    rw [ZoneId.ofNum_none hz]
    exact State.counted_refuse rfl ..
  · show s.counted.ownAckZone tag z.num = _
    unfold State.ownAckZone
    rw [z.ofNum_num]
    exact (if_pos hl).trans (State.counted_refuse rfl ..)

end Sys2Proof.Machine
end

section
/-! A drop that the bin has no room for (chapter 7): O21. -/

namespace Sys2Proof.Machine

/-- A powered part whose bin is full while a capture is DROPPING an envelope that its record says is counted already. -/
def State.droppingCounted : State :=
  { State.reset with
    phase := .running
    cu := { State.reset.cu with
      state := .dropping
      bin := { Bin.default with count := Bin.default.capacity }
      hand := some { bay := .i1, number := 1, seq := some 1, opening := none, returning := none, duress := false,
                     stamp := some true, uncounted := false, due := none } } }

/-- Nothing in hand is uncounted, so a full bin has the room that is asked for. -/
theorem State.droppingCounted_binFormed : State.droppingCounted.binFormed := by decide

/-- DROP_SENSED counts the envelope of a capture that is DROPPING whatever its record says (R132). -/
theorem State.droppingCounted_counts : State.droppingCounted.onDropSensed.finish.cu.bin.count = 801 := by
  decide +kernel

theorem State.droppingCounted_capacity : State.droppingCounted.onDropSensed.finish.cu.bin.capacity = 800 := by
  decide +kernel

/-- Refutes O21: the bin's clause asks for room only for an envelope marked uncounted, while a sensed drop of a capture that
is DROPPING is counted without looking at the mark (R132); no clause of the premise ties the two, so a full bin of 800 with
such a capture goes to 801. -/
theorem not_binCountStaysWithinCapacity : ¬ Obligations.BinCountStaysWithinCapacity := by
  intro h
  obtain ⟨hroom, -⟩ := h.1 .dropSensed State.droppingCounted _ State.droppingCounted_binFormed
    (exec_powered (c := .dropSensed) rfl (.inl (by decide)))
  have hroom' : 801 ≤ 800 := by
    calc 801 = State.droppingCounted.onDropSensed.finish.cu.bin.count := State.droppingCounted_counts.symm
      _ ≤ State.droppingCounted.onDropSensed.finish.cu.bin.capacity := (Nat.le_add_right _ _).trans hroom
      _ = 800 := State.droppingCounted_capacity
  omega

end Sys2Proof.Machine
end

section
/-! The requests outstanding, the dispense queue and the load table within their capacities (sections 5.2 and 10.2). -/

namespace Sys2Proof.Machine

/-! ## The requests outstanding (R192) -/

/-- A taken frame counts one request more only where fewer than four are outstanding (R192). -/
theorem State.takeFrame_withinLimit (s : State) (kind tag : Nat) {owner : State → State}
    (howner : ∀ u : State, (owner u).lc.outstanding = u.lc.outstanding) (h : s.withinLimit) :
    (s.takeFrame kind tag owner).withinLimit := by
  unfold State.takeFrame
  dsimp only
  split
  · split <;> exact h
  · next hfew =>
    have hmore : s.lc.outstanding + 1 ≤ Config.outstandingMax := Nat.lt_of_not_ge hfew
    (repeat' split) <;> simp [State.withinLimit, howner, hmore]

/-- Bytes from the line that complete no frame count no request (R190). -/
theorem State.checkFrame_withinLimit (s : State) (buffer : List Byte) (h : s.withinLimit) : (s.checkFrame buffer).withinLimit := by
  unfold State.checkFrame
  dsimp only
  split
  · refine State.takeFrame_withinLimit _ _ _ (fun u => ?_) h
    split <;> simp
  · simpa [State.withinLimit] using h

theorem State.takeByte_withinLimit (s : State) (v : Byte) (h : s.withinLimit) : (s.takeByte v).withinLimit := by
  unfold State.takeByte
  dsimp only
  split
  · split <;> exact h
  · (repeat' split) <;> simpa [State.withinLimit] using h
  · exact h
  · split
    · exact h
    · exact s.checkFrame_withinLimit _ h

theorem State.takeBytes_withinLimit (bytes : List Byte) (s : State) (h : s.withinLimit) : (s.takeBytes bytes).withinLimit := by
  unfold State.takeBytes
  induction bytes generalizing s with
  | nil => exact h
  | cons v bytes ih => exact ih _ (s.takeByte_withinLimit v h)

/-- The end of a reply takes its request away, and a notice's none (R192, R194). -/
theorem State.onFrameSent_withinLimit (s : State) (h : s.withinLimit) : s.onFrameSent.withinLimit := by
  have hreply : ∀ u : State, u.withinLimit → u.replySent.withinLimit := fun u hu => by
    unfold State.replySent
    split
    · exact hu
    · dsimp only [State.withinLimit]
      split
      · exact hu
      · exact (Nat.sub_le _ _).trans hu
  unfold State.onFrameSent
  split
  · unfold State.sent
    dsimp only
    split
    · exact hreply (s.modLC fun lc => { lc with sending := none }) h
    · exact h
    · exact h
  · exact h

/-- A start-up begins with nothing outstanding (R192, R205). -/
theorem State.starts_withinLimit (s : State) :
    (∀ a b, (s.powersOn a b).withinLimit) ∧ s.restarts.withinLimit := by
  have hzero : ∀ (u : State) (kind : StartKind) (kept : Retained) (failed : Bool),
      (u.beginStartUp kind kept failed).lc.outstanding = 0 := fun _ _ _ _ => rfl
  refine ⟨fun a b => ?_, ?_⟩
  · unfold State.powersOn
    split <;> simp [State.withinLimit, hzero]
  · rw [State.restarts_eq]
    simp [State.withinLimit, hzero]

theorem State.eventDoes_withinLimit (s : State) (c : Instr) (h : s.withinLimit) : (s.eventDoes c).withinLimit := by
  cases c
  case powerOn a b => exact s.starts_withinLimit.1 a b
  case restartStartUp =>
    simp only [State.eventDoes, State.onRestartStartUp]
    split
    · exact s.starts_withinLimit.2
    · exact h
  case frameTaken bytes => exact State.takeBytes_withinLimit bytes s h
  case frameDropped bytes framingError =>
    cases framingError
    · exact State.takeBytes_withinLimit bytes s h
    · have hbytes := State.takeBytes_withinLimit bytes s h
      show ((s.takeBytes bytes).breakFrame).withinLimit
      simpa [State.withinLimit] using hbytes
  case frameSent => exact s.onFrameSent_withinLimit h
  all_goals simpa [State.eventDoes, State.withinLimit] using h

theorem State.does_withinLimit (s : State) (c : Instr) (h : s.withinLimit) : (s.does c).withinLimit := by
  cases hr : requestFrame c with
  | some f =>
    obtain ⟨kind, tag, body⟩ := f
    rw [State.does_request hr]
    exact s.takeFrame_withinLimit kind tag (fun u => by simp) h
  | none =>
    rw [State.does, hr]
    exact s.eventDoes_withinLimit c h

/-- No command leaves more than four requests outstanding (R192). -/
theorem exec_withinLimit (c : Instr) (s t : State) (hs : s.withinLimit) (h : exec c s = .next t) : t.withinLimit := by
  rcases exec_cases h with ⟨-, -, rfl⟩ | ⟨-, -, rfl⟩ | ⟨-, rfl⟩ | ⟨cut, n, b, -, rfl⟩
  · simpa [State.withinLimit] using s.does_withinLimit c hs
  · cases c <;> exact hs
  · exact hs
  · split <;> exact hs

/-! ## The dispense queue and the load table (R85, R86) -/

/-- The queue and the table within their capacities, the ids 1 to 255 and each of one load (`State.loadsFormed`). -/
def DP.Formed (dp : DP) : Prop :=
  dp.queue.length ≤ 3 ∧ dp.loads.length ≤ 8 ∧ (dp.loads.map (·.id)).Nodup ∧ (∀ ld ∈ dp.loads, 1 ≤ ld.id ∧ ld.id ≤ 255) ∧
    1 ≤ dp.nextId ∧ dp.nextId ≤ 255

theorem State.loadsFormed_iff (s : State) : s.loadsFormed ↔ s.dp.Formed := Iff.rfl

theorem DP.initial_formed (set : DispenseSettings) : (DP.initial set).Formed := by
  simp [DP.Formed, DP.initial]

/-- A table keeps its form where loads and requests leave it and the ids of the others stay. -/
theorem DP.Formed.of_sublist {a b : DP} (h : a.Formed) (hqueue : b.queue.length ≤ a.queue.length)
    (hids : (b.loads.map (·.id)).Sublist (a.loads.map (·.id))) (hnext : b.nextId = a.nextId) : b.Formed := by
  obtain ⟨hq, hl, hnodup, hrange, hn⟩ := h
  have hlen := hids.length_le
  simp only [List.length_map] at hlen
  refine ⟨hqueue.trans hq, hlen.trans hl, hnodup.sublist hids, fun ld hld => ?_, hnext ▸ hn⟩
  obtain ⟨other, hother, hid⟩ := List.mem_map.mp (hids.subset (List.mem_map_of_mem hld))
  exact hid ▸ hrange other hother

theorem State.ite_formed {p : Prop} [Decidable p] {a b : State} (ha : p → a.dp.Formed) (hb : ¬ p → b.dp.Formed) :
    (if p then a else b).dp.Formed := by
  split
  · next h => exact ha h
  · next h => exact hb h

/-- A change of a load's record keeps its id. -/
@[simp ↓] theorem State.modLoad_formed (s : State) (id : Nat) (f : Load → Load) (hid : ∀ ld, (f ld).id = ld.id)
    (hf : s.dp.Formed) : (s.modLoad id f).dp.Formed := by
  have hids : (s.modLoad id f).dp.loads.map (·.id) = s.dp.loads.map (·.id) := by
    simp only [State.modLoad, List.map_map]
    refine List.map_congr_left fun ld _ => ?_
    show (if ld.id = id then f ld else ld).id = ld.id
    split
    · exact hid ld
    · rfl
  exact hf.of_sublist (le_refl _) (by rw [hids]) rfl

@[simp] theorem DP.pruned_formed {dp : DP} (hf : dp.Formed) : dp.pruned.Formed :=
  hf.of_sublist (List.length_filter_le _ _) (List.Sublist.refl _) rfl

/-- A freed load leaves the table, and its request's list (R86). -/
@[simp ↓] theorem State.freeLoad_formed (s : State) (id : Nat) (outcome : LoadOutcome) (hf : s.dp.Formed) :
    (s.freeLoad id outcome).dp.Formed := by
  unfold State.freeLoad
  split
  · exact hf
  · next ld _ =>
    refine DP.pruned_formed ?_
    have hmod : (s.modLoad id fun ld => { ld with state := .closed, outcome := some outcome }).dp.Formed :=
      s.modLoad_formed id _ (fun _ => rfl) hf
    refine hmod.of_sublist ?_ (List.filter_sublist.map _) rfl
    simp

/-- The outstanding load of a carrier changes its state and nothing else. -/
@[simp] theorem State.stepOutstanding_formed (s : State) (l : Lane) (before after : LoadState) (hf : s.dp.Formed) :
    (s.stepOutstanding l before after).dp.Formed := by
  unfold State.stepOutstanding
  split
  · exact hf
  · exact s.modLoad_formed _ _ (fun ld => by split <;> rfl) hf

/-! ## New loads (R86, R88) -/

theorem idAfter_range {id : Nat} (h : 1 ≤ id ∧ id ≤ 255) : 1 ≤ idAfter id ∧ idAfter id ≤ 255 := by
  unfold idAfter
  split <;> omega

theorem DP.freeId_range (dp : DP) (fuel id : Nat) (h : 1 ≤ id ∧ id ≤ 255) : 1 ≤ dp.freeId fuel id ∧ dp.freeId fuel id ≤ 255 := by
  induction fuel generalizing id with
  | zero => exact h
  | succ fuel ih =>
    rw [DP.freeId_succ]
    split
    · exact ih _ (idAfter_range h)
    · exact h

/-- A table of fewer than eight loads takes one more under an id of its own. -/
theorem DP.Formed.joined {dp : DP} (h : dp.Formed) (hroom : dp.loads.length < 8) {ld : Load}
    (hid : ld.id = dp.freeId (Config.loadTableMax + 1) dp.nextId) :
    ({ dp with loads := dp.loads ++ [ld], nextId := idAfter ld.id } : DP).Formed := by
  obtain ⟨hq, -, hnodup, hrange, hn⟩ := h
  have hnew := dp.freeId_new (by omega) dp.nextId
  have hld : 1 ≤ ld.id ∧ ld.id ≤ 255 := hid ▸ dp.freeId_range _ _ hn
  refine ⟨hq, by simpa using hroom, ?_, fun o ho => ?_, idAfter_range hld⟩
  · rw [List.map_append, List.nodup_append]
    refine ⟨hnodup, List.nodup_singleton _, fun a ha b hb => ?_⟩
    obtain ⟨o, ho, rfl⟩ := List.mem_map.mp ha
    exact fun heq => hnew o ho ((heq.trans (List.mem_singleton.mp hb)).trans hid)
  · rcases List.mem_append.mp ho with ho | ho
    · exact hrange o ho
    · exact List.mem_singleton.mp ho ▸ hld

/-- The loads of a plan join a table that has room for them; the queue stays. -/
theorem State.createLoads_formed (l : Lane) (reference : Nat) (autoSend : Bool) (order : List Cass) (count : Nat)
    (notes : List (Four Nat)) (s : State) (index : Nat) (hf : s.dp.Formed) (hroom : s.dp.loads.length + notes.length ≤ 8) :
    (s.createLoads l reference autoSend order count index notes).1.dp.Formed ∧
      (s.createLoads l reference autoSend order count index notes).1.dp.queue = s.dp.queue := by
  induction notes generalizing s index with
  | nil => exact ⟨hf, rfl⟩
  | cons n notes ih =>
    rw [List.length_cons] at hroom
    refine ih (s.createLoad l reference autoSend order count index n).1 (index + 1) (hf.joined (by omega) rfl) ?_
    show (s.dp.loads ++ [_]).length + notes.length ≤ 8
    simp only [List.length_append, List.length_singleton]
    omega

/-- A queue of fewer than three requests takes one more (R85). -/
theorem DP.Formed.queued {dp : DP} (h : dp.Formed) (hroom : dp.queue.length < 3) (r : Request) :
    ({ dp with queue := dp.queue ++ [r] } : DP).Formed := by
  obtain ⟨-, hrest⟩ := h
  exact ⟨by simpa using hroom, hrest⟩

/-! ## The operations that change a load or a request -/

section
set_option backward.isDefEq.respectTransparency false

@[simp] theorem State.closeHeld_formed (s : State) (id : Nat) (outcome : LoadOutcome) (hf : s.dp.Formed) :
    (s.closeHeld id outcome).dp.Formed := by
  unfold State.closeHeld
  dsimp only
  (repeat' split) <;> simp [hf]

@[simp] theorem State.cancelLoad_formed (s : State) (ld : Load) (hf : s.dp.Formed) : (s.cancelLoad ld).dp.Formed := by
  simp [State.cancelLoad, hf]

@[simp] theorem State.cancelIfPlanned_formed (s : State) (id : Nat) (hf : s.dp.Formed) :
    (s.cancelIfPlanned id).dp.Formed := by
  unfold State.cancelIfPlanned
  (repeat' split) <;> simp [hf]

@[simp] theorem State.cancelPlanned_formed (s : State) (ids : List Nat) (hf : s.dp.Formed) :
    (s.cancelPlanned ids).dp.Formed := by
  unfold State.cancelPlanned
  induction ids generalizing s with
  | nil => exact hf
  | cons x xs ih => exact ih _ (State.cancelIfPlanned_formed _ _ hf)

@[simp] theorem State.reportLaunch_formed (s : State) (l : Lane) (hf : s.dp.Formed) :
    (s.reportLaunch l).dp.Formed := by
  simp [State.reportLaunch, hf]

@[simp] theorem State.reportAtLane_formed (s : State) (l : Lane) (hf : s.dp.Formed) :
    (s.reportAtLane l).dp.Formed := by
  simp [State.reportAtLane, hf]

@[simp] theorem State.awaitClose_formed (s : State) (l : Lane) (id : Nat) (hf : s.dp.Formed) :
    (s.awaitClose l id).dp.Formed := by
  simp [State.awaitClose, hf, -State.modLoad_dp]

@[simp] theorem State.reportAtBay_formed (s : State) (l : Lane) (read : Content) (find : Bool) (hf : s.dp.Formed) :
    (s.reportAtBay l read find).dp.Formed := by
  unfold State.reportAtBay
  (repeat' split) <;> simp [hf]

@[simp] theorem State.launch_formed (s : State) (hf : s.dp.Formed) : s.launch.dp.Formed := by
  unfold State.launch
  dsimp only
  (repeat' split) <;> simp [hf]

@[simp] theorem State.enterLaunch_formed (s : State) (hf : s.dp.Formed) : s.enterLaunch.dp.Formed := by
  unfold State.enterLaunch
  dsimp only
  (repeat' split) <;> simp [hf]

@[simp] theorem State.diverted_formed (s : State) (hf : s.dp.Formed) : s.diverted.dp.Formed := by
  unfold State.diverted
  dsimp only
  (repeat' split) <;> simp [hf]

@[simp] theorem State.enterDivert_formed (s : State) (hf : s.dp.Formed) : s.enterDivert.dp.Formed := by
  unfold State.enterDivert
  (repeat' split) <;> simp [hf]

@[simp] theorem State.grant_formed (s : State) (l : Lane) (dir : Dir) (origin : Origin) (isPurge : Bool) (hf : s.dp.Formed) :
    (s.grant l dir origin isPurge).dp.Formed := by
  unfold State.grant
  dsimp only
  split <;> simp [hf]

@[simp] theorem State.toldReady_formed (s : State) (hf : s.dp.Formed) : s.toldReady.dp.Formed := by
  unfold State.toldReady
  split <;> simp [hf]

@[simp] theorem State.reportAt_formed (s : State) (l : Lane) (loc : Location) (find : Bool) (hf : s.dp.Formed) :
    (s.reportAt l loc find).dp.Formed := by
  unfold State.reportAt
  split <;> simp [hf]

@[simp] theorem State.lateArrival_formed (s : State) (l : Lane) (loc : Location) (hf : s.dp.Formed) :
    (s.lateArrival l loc).dp.Formed := by
  simp [State.lateArrival, hf]

@[simp] theorem State.relocate_formed (s : State) (l : Lane) (loc : Location) (hf : s.dp.Formed) :
    (s.relocate l loc).dp.Formed := by
  unfold State.relocate
  dsimp only
  split <;> simp [hf]

@[simp] theorem State.presentRisesFree_formed (s : State) (l : Lane) (loc : Location) (hf : s.dp.Formed) :
    (s.presentRisesFree l loc).dp.Formed := by
  unfold State.presentRisesFree
  (repeat' split) <;> simp [hf]

@[simp] theorem State.presentRises_formed (s : State) (l : Lane) (loc : Location) (hf : s.dp.Formed) :
    (s.presentRises l loc).dp.Formed := by
  unfold State.presentRises
  (repeat' split) <;> simp [hf]

@[simp] theorem State.presentFalls_formed (s : State) (l : Lane) (loc : Location) (hf : s.dp.Formed) :
    (s.presentFalls l loc).dp.Formed := by
  unfold State.presentFalls
  (repeat' split) <;> simp [hf]

@[simp] theorem State.reportStation_formed (s : State) (l : Lane) (level : Sense) (hf : s.dp.Formed) :
    (s.reportStation l level).dp.Formed := by
  unfold State.reportStation
  dsimp only
  (repeat' split) <;> simp [hf]

@[simp] theorem State.ownPurge_formed (tag lane towards : Nat) (s : State) (hf : s.dp.Formed) :
    (State.ownPurge tag lane towards s).dp.Formed := by
  unfold State.ownPurge
  (repeat' split) <;> simp [hf]

@[simp] theorem State.arbitrate_formed (s : State) (hf : s.dp.Formed) : s.arbitrate.dp.Formed := by
  unfold State.arbitrate
  (repeat' split) <;> simp [hf]

@[simp] theorem State.onDivertSettleDone_formed (s : State) (hf : s.dp.Formed) : s.onDivertSettleDone.dp.Formed := by
  unfold State.onDivertSettleDone
  split <;> simp [hf]

@[simp] theorem State.bayPresent_formed (s : State) (l : Lane) (present : Bool) (hf : s.dp.Formed) :
    (s.bayPresent l present).dp.Formed := by
  unfold State.bayPresent
  dsimp only
  (repeat' split) <;> simp [hf]

@[simp] theorem State.presentSucceeds_formed (s : State) (l : Lane) (id : Nat) (hf : s.dp.Formed) :
    (s.presentSucceeds l id).dp.Formed := by
  unfold State.presentSucceeds
  dsimp only
  (repeat' split) <;> simp [hf, -State.modLoad_dp]

@[simp] theorem State.bayContentLevel_formed (s : State) (l : Lane) (reads : Bool) (hf : s.dp.Formed) :
    (s.bayContentLevel l reads).dp.Formed := by
  unfold State.bayContentLevel
  dsimp only
  (repeat' split) <;> simp [hf]

@[simp] theorem State.settled_formed (s : State) (m : Move) (after : SettleOf) (hf : s.dp.Formed) :
    (s.settled m after).dp.Formed := by
  unfold State.settled
  dsimp only
  split <;> simp [hf]

@[simp] theorem State.onSettleEnd_formed (s : State) (hf : s.dp.Formed) : s.onSettleEnd.dp.Formed := by
  unfold State.onSettleEnd
  (repeat' split) <;> simp [hf]

@[simp] theorem State.spinUpFound_formed (s : State) (hf : s.dp.Formed) : s.spinUpFound.dp.Formed := by
  unfold State.spinUpFound
  dsimp only
  split <;> simp [hf]

@[simp] theorem State.airAfterFailure_formed (s : State) (hf : s.dp.Formed) : s.airAfterFailure.dp.Formed := by
  unfold State.airAfterFailure
  dsimp only
  (repeat' split) <;> simp [hf]

@[simp] theorem State.switchCloses_formed (s : State) (which : AB) (hf : s.dp.Formed) :
    (s.switchCloses which).dp.Formed := by
  unfold State.switchCloses
  dsimp only
  (repeat' split) <;> simp [hf]

@[simp] theorem State.switchOpens_formed (s : State) (which : AB) (hf : s.dp.Formed) :
    (s.switchOpens which).dp.Formed := by
  unfold State.switchOpens
  dsimp only
  split <;> simp [hf]

@[simp] theorem State.onSpinUpLimit_formed (s : State) (hf : s.dp.Formed) : s.onSpinUpLimit.dp.Formed := by
  unfold State.onSpinUpLimit
  (repeat' split) <;> simp [hf]

@[simp] theorem State.judgeRefresh_formed (s : State) (hf : s.dp.Formed) : s.judgeRefresh.dp.Formed := by
  unfold State.judgeRefresh
  split <;> simp [hf]

@[simp] theorem State.onRefreshRunEnd_formed (s : State) (hf : s.dp.Formed) : s.onRefreshRunEnd.dp.Formed := by
  unfold State.onRefreshRunEnd
  (repeat' split) <;> simp [hf]

@[simp] theorem State.ownAirWake_formed (tag : Nat) (s : State) (hf : s.dp.Formed) :
    (State.ownAirWake tag s).dp.Formed := by
  unfold State.ownAirWake
  split <;> simp [hf]

@[simp] theorem State.enrolled_formed (s : State) (l : Lane) (f : Found) (hf : s.dp.Formed) :
    (s.enrolled l f).dp.Formed := by
  simp [State.enrolled, hf]

@[simp] theorem State.endEnrolment_formed (s : State) (l : Lane) (why : EnrolWhy) (f : Found) (hf : s.dp.Formed) :
    (s.endEnrolment l why f).dp.Formed := by
  simp [State.endEnrolment, hf]

@[simp] theorem State.onIdentAnswer_formed (report : IdentReport) (s : State) (hf : s.dp.Formed) :
    (State.onIdentAnswer report s).dp.Formed := by
  unfold State.onIdentAnswer
  split <;> simp [hf]

@[simp] theorem State.onIdentTimeout_formed (loopClosed : Bool) (s : State) (hf : s.dp.Formed) :
    (State.onIdentTimeout loopClosed s).dp.Formed := by
  unfold State.onIdentTimeout
  dsimp only
  (repeat' split) <;> simp [hf]

@[simp] theorem State.takeAnswer_formed (s : State) (l : Lane) (p : PollReport) (hf : s.dp.Formed) :
    (s.takeAnswer l p).dp.Formed := by
  unfold State.takeAnswer
  dsimp only
  (repeat' split) <;> simp [hf]

@[simp] theorem State.onPollAnswer_formed (report : PollReport) (s : State) (hf : s.dp.Formed) :
    (State.onPollAnswer report s).dp.Formed := by
  unfold State.onPollAnswer
  (repeat' split) <;> simp [hf]

@[simp] theorem State.loseStation_formed (s : State) (l : Lane) (hf : s.dp.Formed) : (s.loseStation l).dp.Formed := by
  simp [State.loseStation, hf]

@[simp] theorem State.missPoll_formed (s : State) (l : Lane) (hf : s.dp.Formed) : (s.missPoll l).dp.Formed := by
  unfold State.missPoll
  dsimp only
  split <;> simp [hf]

@[simp] theorem State.onPollAnswerTimeout_formed (s : State) (hf : s.dp.Formed) :
    s.onPollAnswerTimeout.dp.Formed := by
  unfold State.onPollAnswerTimeout
  split <;> simp [hf]

@[simp] theorem State.basicCarrier_formed (s : State) (l : Lane) (present : Bool) (hf : s.dp.Formed) :
    (s.basicCarrier l present).dp.Formed := by
  unfold State.basicCarrier
  dsimp only
  split <;> simp [hf]

@[simp] theorem State.failLoad_formed (s : State) (id : Nat) (cause : FailCause) (hf : s.dp.Formed) :
    (s.failLoad id cause).dp.Formed := by
  unfold State.failLoad
  dsimp only
  split <;> simp [hf]

@[simp] theorem State.pickFails_formed (s : State) (cause : FailCause) (st : NDState) (hf : s.dp.Formed) :
    (s.pickFails cause st).dp.Formed := by
  unfold State.pickFails
  split <;> simp [hf]

@[simp] theorem State.loadStopped_formed (s : State) (hf : s.dp.Formed) : s.loadStopped.dp.Formed := by
  unfold State.loadStopped
  split <;> simp [hf]

@[simp] theorem State.loadComplete_formed (s : State) (id : Nat) (hf : s.dp.Formed) :
    (s.loadComplete id).dp.Formed := by
  simp [State.loadComplete, hf, -State.modLoad_dp]

@[simp] theorem State.nextPick_formed (s : State) (hf : s.dp.Formed) : s.nextPick.dp.Formed := by
  unfold State.nextPick
  (repeat' split) <;> simp [hf]

@[simp] theorem State.startPicking_formed (s : State) (id : Nat) (hf : s.dp.Formed) :
    (s.startPicking id).dp.Formed := by
  simp [State.startPicking, hf, -State.modLoad_dp]

@[simp] theorem State.handOverLoad_formed (s : State) (hf : s.dp.Formed) : s.handOverLoad.dp.Formed := by
  unfold State.handOverLoad
  (repeat' split) <;> simp [hf]

@[simp] theorem State.pickWaiting_formed (s : State) (hf : s.dp.Formed) : s.pickWaiting.dp.Formed := by
  unfold State.pickWaiting
  (repeat' split) <;> simp [hf]

@[simp] theorem State.missed_formed (s : State) (c : Cass) (hf : s.dp.Formed) : (s.missed c).dp.Formed := by
  unfold State.missed
  dsimp only
  (repeat' split) <;> simp [hf]

@[simp] theorem State.onPickMiss_formed (s : State) (hf : s.dp.Formed) : s.onPickMiss.dp.Formed := by
  unfold State.onPickMiss
  split <;> simp [hf]

@[simp] theorem State.applySingle_formed (s : State) (c : Cass) (reading : Nat) (hf : s.dp.Formed) :
    (s.applySingle c reading).dp.Formed := by
  unfold State.applySingle
  dsimp only
  split <;> simp [hf, -State.modLoad_dp]

@[simp] theorem State.applyOutcome_formed (s : State) (c : Cass) (g : Gauge) (hf : s.dp.Formed) :
    (s.applyOutcome c g).dp.Formed := by
  unfold State.applyOutcome
  split <;> simp [hf]

@[simp] theorem State.afterOutcome_formed (s : State) (c : Cass) (hf : s.dp.Formed) :
    (s.afterOutcome c).dp.Formed := by
  unfold State.afterOutcome
  (repeat' split) <;> simp [hf]

@[simp] theorem State.noteLeaves_formed (s : State) (g : Gauge) (hf : s.dp.Formed) : (s.noteLeaves g).dp.Formed := by
  unfold State.noteLeaves
  dsimp only
  (repeat' split) <;> simp [hf]

@[simp] theorem State.onNoteLeavesGauge_formed (s : State) (hf : s.dp.Formed) : s.onNoteLeavesGauge.dp.Formed := by
  unfold State.onNoteLeavesGauge
  split <;> simp [hf]

@[simp] theorem State.jam_formed (s : State) (g : Gauge) (hf : s.dp.Formed) : (s.jam g).dp.Formed := by
  unfold State.jam
  dsimp only
  (repeat' split) <;> simp [hf]

@[simp] theorem State.onGaugeTimeout_formed (s : State) (hf : s.dp.Formed) : s.onGaugeTimeout.dp.Formed := by
  unfold State.onGaugeTimeout
  split <;> simp [hf]

@[simp] theorem State.halt_formed (s : State) (hf : s.dp.Formed) : s.halt.dp.Formed := by
  unfold State.halt
  dsimp only
  split <;> simp [hf]

@[simp] theorem State.safeDoor_formed (s : State) (opened : Bool) (hf : s.dp.Formed) :
    (s.safeDoor opened).dp.Formed := by
  unfold State.safeDoor
  dsimp only
  (repeat' split) <;> simp [hf]

@[simp] theorem State.ownDispenseSettings_formed (tag capacity noteCeiling duressCeiling rejectCeiling doubleThreshold : Nat) (s : State)
    (hf : s.dp.Formed) :
    (State.ownDispenseSettings tag capacity noteCeiling duressCeiling rejectCeiling doubleThreshold s).dp.Formed := by
  exact hf.of_sublist (le_refl _) (List.Sublist.refl _) rfl

/-- An accepted request joins a queue that has room for it, its loads a table that has room for them (R88). -/
theorem State.acceptDispense_formed (s : State) (tag : Nat) (l : Lane) (asked planned reference : Nat) (autoSend : Bool)
    (p : Plan) (hf : s.dp.Formed) (hqueue : s.dp.queue.length < 3) (htable : s.dp.loads.length + p.loads.length ≤ 8) :
    (s.acceptDispense tag l asked planned reference autoSend p).dp.Formed := by
  have hcommit : (s.commit p.notes).dp = s.dp := by simp
  obtain ⟨hmade, hsame⟩ := State.createLoads_formed l reference autoSend p.order p.loads.length p.loads (s.commit p.notes) 1
    (hcommit ▸ hf) (hcommit ▸ htable)
  have hjoined := hmade.queued (by rw [hsame, hcommit]; exact hqueue)
  unfold State.acceptDispense
  dsimp only
  split
  · exact State.handOverLoad_formed _ (hjoined _)
  · exact hjoined _

@[simp] theorem State.ownDispense_formed (tag lane amount autoSend reference : Nat) (s : State) (hf : s.dp.Formed) :
    (State.ownDispense tag lane amount autoSend reference s).dp.Formed := by
  have hrefuse : ∀ code body, (s.refuse 0x31 tag code body).dp.Formed := fun _ _ => hf
  unfold State.ownDispense
  split
  · next l a _ _ =>
    iterate 6 refine State.ite_formed (fun _ => hrefuse _ _) fun _ => ?_
    dsimp only
    cases s.plan (s.clampedAmount amount) with
    | error code => exact hrefuse _ _
    | ok p =>
      refine State.ite_formed (fun _ => hrefuse _ _) fun _ => State.ite_formed (fun _ => hrefuse _ _) fun hqueue =>
        State.ite_formed (fun _ => hrefuse _ _) fun htable => ?_
      exact s.acceptDispense_formed tag l _ _ _ _ p hf (Nat.lt_of_not_ge hqueue) (Nat.le_of_not_gt htable)
  · exact hrefuse _ _

@[simp] theorem State.cancelOne_formed (s : State) (ld : Load) (hf : s.dp.Formed) : (s.cancelOne ld).dp.Formed := by
  unfold State.cancelOne
  split <;> simp [hf, -State.modLoad_dp]

@[simp] theorem State.cancelEach_formed (s : State) (lds : List Load) (hf : s.dp.Formed) :
    (s.cancelEach lds).dp.Formed := by
  unfold State.cancelEach
  induction lds generalizing s with
  | nil => exact hf
  | cons x xs ih => exact ih _ (State.cancelOne_formed _ _ hf)

@[simp] theorem State.takeCancel_formed (s : State) (tag : Nat) (l : Lane) (hf : s.dp.Formed) :
    (s.takeCancel tag l).dp.Formed := by
  unfold State.takeCancel
  dsimp only
  (repeat' split) <;> simp [hf]

@[simp] theorem State.ownCancelDispense_formed (tag lane : Nat) (s : State) (hf : s.dp.Formed) :
    (State.ownCancelDispense tag lane s).dp.Formed := by
  unfold State.ownCancelDispense
  (repeat' split) <;> simp [hf]

@[simp] theorem State.takeDeferred_formed (s : State) (hf : s.dp.Formed) : s.takeDeferred.dp.Formed := by
  unfold State.takeDeferred
  (repeat' split) <;> simp [hf]

@[simp] theorem State.transferEnds_formed (s : State) (id seq : Nat) (programmed : Bool) (hf : s.dp.Formed) :
    (s.transferEnds id seq programmed).dp.Formed := by
  unfold State.transferEnds
  dsimp only
  (repeat' split) <;> simp [hf, -State.modLoad_dp]

@[simp] theorem State.askPresenting_formed (s : State) (hf : s.dp.Formed) : s.askPresenting.dp.Formed := by
  unfold State.askPresenting
  dsimp only
  (repeat' split) <;> simp [hf, -State.modLoad_dp]

@[simp] theorem State.holdExpires_formed (s : State) (ld : Load) (hf : s.dp.Formed) :
    (s.holdExpires ld).dp.Formed := by
  simp [State.holdExpires, hf]

@[simp] theorem State.presentFails_formed (s : State) (ld : Load) (hf : s.dp.Formed) :
    (s.presentFails ld).dp.Formed := by
  simp [State.presentFails, hf]

@[simp] theorem State.withdrawn_formed (s : State) (l : Lane) (why : WithdrawWhy) (hf : s.dp.Formed) :
    (s.withdrawn l why).dp.Formed := by
  unfold State.withdrawn
  dsimp only
  (repeat' split) <;> simp [hf, -State.modLoad_dp]

@[simp] theorem State.onWithdrawalEnd_formed (s : State) (hf : s.dp.Formed) : s.onWithdrawalEnd.dp.Formed := by
  unfold State.onWithdrawalEnd
  (repeat' split) <;> simp [hf]

@[simp] theorem State.onStageHoldExpiry_formed (s : State) (hf : s.dp.Formed) : s.onStageHoldExpiry.dp.Formed := by
  unfold State.onStageHoldExpiry
  dsimp only
  (repeat' split) <;> simp [hf, -State.modLoad_dp]

@[simp] theorem State.ownLoadClose_formed (tag load outcome : Nat) (s : State) (hf : s.dp.Formed) :
    (State.ownLoadClose tag load outcome s).dp.Formed := by
  unfold State.ownLoadClose
  (repeat' split) <;> simp [hf]

@[simp] theorem State.tellOwner_formed (s : State) (p : Program) (programmed : Bool) (hf : s.dp.Formed) :
    (s.tellOwner p programmed).dp.Formed := by
  unfold State.tellOwner
  (repeat' split) <;> simp [hf]

@[simp] theorem State.endUnmade_formed (s : State) (p : Program) (hf : s.dp.Formed) : (s.endUnmade p).dp.Formed := by
  simp [State.endUnmade, hf]

@[simp] theorem State.endAllUnmade_formed (s : State) (ps : List Program) (hf : s.dp.Formed) :
    (s.endAllUnmade ps).dp.Formed := by
  unfold State.endAllUnmade
  induction ps generalizing s with
  | nil => exact hf
  | cons x xs ih => exact ih _ (State.tellOwner_formed _ _ _ hf)

@[simp] theorem State.enterFailed_formed (s : State) (failed : Work) (hf : s.dp.Formed) :
    (s.enterFailed failed).dp.Formed := by
  simp [State.enterFailed, hf]

@[simp] theorem State.programEnds_formed (s : State) (p : Program) (programmed : Bool) (hf : s.dp.Formed) :
    (s.programEnds p programmed).dp.Formed := by
  simp [State.programEnds, hf]

@[simp] theorem State.appendMade_formed (s : State) (p : Program) (r : Record) (i k : Nat) (missed : List Byte)
    (hf : s.dp.Formed) :
    (s.appendMade p r i k missed).dp.Formed := by
  unfold State.appendMade
  dsimp only
  (repeat' split) <;> simp [hf]

@[simp] theorem State.changeMade_formed (s : State) (p : Program) (missed : List Byte) (hf : s.dp.Formed) :
    (s.changeMade p missed).dp.Formed := by
  unfold State.changeMade
  dsimp only
  (repeat' split) <;> simp [hf]

@[simp] theorem State.programMade_formed (s : State) (missed : List Byte) (hf : s.dp.Formed) :
    (s.programMade missed).dp.Formed := by
  unfold State.programMade
  (repeat' split) <;> simp [hf]

@[simp] theorem State.onJournalProgramDone_formed (missed : List Byte) (s : State) (hf : s.dp.Formed) :
    (State.onJournalProgramDone missed s).dp.Formed := by
  simp [State.onJournalProgramDone, hf]

@[simp] theorem State.serve_formed (s : State) (i : Instr) (hf : s.dp.Formed) : (s.serve i).dp.Formed := by
  unfold State.serve
  split <;> simp [hf]

end

/-- A start-up begins with an empty table (R86, R205). -/
theorem State.startUp_formed (s : State) : (∀ a b, (s.powersOn a b).dp.Formed) ∧ s.restarts.dp.Formed := by
  have hinitial : ∀ (u : State) (kind : StartKind) (kept : Retained) (failed : Bool),
      (u.beginStartUp kind kept failed).dp.Formed := fun _ _ _ _ => DP.initial_formed _
  refine ⟨fun a b => ?_, ?_⟩
  · unfold State.powersOn
    split <;> simp [hinitial]
  · rw [State.restarts_eq]
    simp [hinitial]

section
set_option backward.isDefEq.respectTransparency false

theorem State.eventDoes_formed (s : State) (c : Instr) (hb : isBytes c = false) (hf : s.dp.Formed) :
    (s.eventDoes c).dp.Formed := by
  cases c
  case powerOn a b => exact s.startUp_formed.1 a b
  case restartStartUp =>
    simp only [State.eventDoes, State.onRestartStartUp]
    split
    · exact s.startUp_formed.2
    · exact hf
  case frameTaken => cases hb
  case frameDropped => cases hb
  all_goals simp [State.eventDoes, hf]

end

/-- No command leaves the queue or the table past its capacity, or two loads under one id (R85, R86). -/
theorem exec_loadsFormed (c : Instr) (s t : State) (hs : s.loadsFormed) (h : exec c s = .next t) : t.loadsFormed := by
  rw [State.loadsFormed_iff] at hs ⊢
  rcases exec_cases h with ⟨-, -, rfl⟩ | ⟨-, -, rfl⟩ | ⟨-, rfl⟩ | ⟨cut, n, b, -, rfl⟩
  · have hdoes : (s.does c).dp.Formed := State.does_keeps (P := fun s => s.dp.Formed) (fun _ _ h => h)
      (fun s i _ h => s.serve_formed i h) s c (fun _ hb h => s.eventDoes_formed c hb h) hs
    simpa using hdoes
  · cases c <;> exact hs
  · exact hs
  · split <;> exact hs

end Sys2Proof.Machine
end

section
/-! The transit queue, the reservations and the move in flight, through every operation (sections 2.1 to 2.7): O20. -/

namespace Sys2Proof.Machine

/-! ## The bookkeeping of the drive (R22, R25, R27) -/

/-- The carriers' locations are still to be derived: a step of start-up before the note path's (R24, R205). -/
def Phase.underived : Phase → Bool
  | .startUp .scan => true
  | .startUp .powerRecord => true
  | .startUp .enrolment => true
  | _ => false

/-- `State.tubeFormed` of the drive alone, `early` standing for a start-up that has not derived the locations. That the
queue holds at most four entries follows from there being one a lane. -/
structure TD.Orderly (td : TD) (early : Bool) : Prop where
  single : (td.queue.map (·.lane)).Nodup
  queued : ∀ l, (td.carriers.get l).reservation = .queued ↔ ∃ e ∈ td.queue, e.lane = l
  moving : ∀ l, (td.carriers.get l).reservation = .moving ↔ ∃ m, td.move = some m ∧ m.lane = l
  stands : ∀ e ∈ td.queue, (td.carriers.get e.lane).location = e.dir.origin
  rests : early = true → td.move = none ∧ ∀ l, (td.carriers.get l).location = .unknown

theorem Ix4.nodup_length {ls : List Lane} (h : ls.Nodup) : ls.length ≤ 4 := by
  have hall : ls ⊆ Ix4.all := fun l _ => by cases l <;> simp [Ix4.all]
  exact (h.subperm hall).length_le

theorem Phase.underived_iff (p : Phase) :
    p.underived = true ↔ p ∈ [Phase.startUp .scan, .startUp .powerRecord, .startUp .enrolment] := by
  unfold Phase.underived
  split <;> simp_all

theorem State.tubeFormed_iff (s : State) : s.tubeFormed ↔ s.td.Orderly s.phase.underived := by
  constructor
  · rintro ⟨hsingle, -, hqueued, hmoving, hstands, hrests⟩
    exact ⟨hsingle, hqueued, hmoving, hstands, fun h => hrests ((Phase.underived_iff _).mp h)⟩
  · rintro ⟨hsingle, hqueued, hmoving, hstands, hrests⟩
    refine ⟨hsingle, ?_, hqueued, hmoving, hstands, fun h => hrests ((Phase.underived_iff _).mpr h)⟩
    simpa using Ix4.nodup_length hsingle

theorem Dir.origin_known (d : Dir) : d.origin ≠ .unknown := by cases d <;> nofun

section
variable {td : TD} {early : Bool}

theorem TD.Orderly.of_same {a b : TD} (h : a.Orderly early) (hqueue : b.queue = a.queue) (hcarriers : b.carriers = a.carriers)
    (hmove : b.move = a.move) : b.Orderly early := by
  obtain ⟨hsingle, hqueued, hmoving, hstands, hrests⟩ := h
  constructor
  · rwa [hqueue]
  · rwa [hqueue, hcarriers]
  · rwa [hmove, hcarriers]
  · rwa [hqueue, hcarriers]
  · rwa [hmove, hcarriers]

/-- Once the locations are derived nothing is said of them. -/
theorem TD.Orderly.late (h : td.Orderly early) : td.Orderly false := ⟨h.single, h.queued, h.moving, h.stands, nofun⟩

/-- An entry's carrier has a known location, so there is no entry before the locations are derived. -/
theorem TD.Orderly.late_of_entry (h : td.Orderly early) {e : Entry} (he : e ∈ td.queue) : early = false :=
  Bool.eq_false_iff.mpr fun hearly => e.dir.origin_known ((h.stands e he).symm.trans ((h.rests hearly).2 e.lane))

theorem TD.Orderly.late_of_move (h : td.Orderly early) {m : Move} (hm : td.move = some m) : early = false :=
  Bool.eq_false_iff.mpr fun hearly => nomatch hm.symm.trans (h.rests hearly).1

/-- A carrier whose location is UNKNOWN has no entry. -/
theorem TD.Orderly.unqueued (h : td.Orderly early) {l : Lane} (hl : (td.carriers.get l).location = .unknown) :
    (td.carriers.get l).reservation ≠ .queued := fun hq => by
  obtain ⟨e, he, rfl⟩ := (h.queued l).mp hq
  exact e.dir.origin_known ((h.stands e he).symm.trans hl)

theorem TD.Orderly.no_entry (h : td.Orderly early) {l : Lane} (hl : (td.carriers.get l).reservation ≠ .queued) :
    ∀ e ∈ td.queue, e.lane ≠ l := fun e he heq => hl ((h.queued l).mpr ⟨e, he, heq⟩)

theorem TD.Orderly.no_move (h : td.Orderly early) {l : Lane} (hl : (td.carriers.get l).reservation ≠ .moving) :
    ∀ m, td.move = some m → m.lane ≠ l := fun m hm heq => hl ((h.moving l).mpr ⟨m, hm, heq⟩)

/-- The carrier of the move in flight is MOVING, so it is not QUEUED. -/
theorem TD.Orderly.of_move (h : td.Orderly early) {m : Move} (hm : td.move = some m) :
    (td.carriers.get m.lane).reservation = .moving := (h.moving m.lane).mpr ⟨m, hm, rfl⟩

/-- A carrier changes without entering or leaving QUEUED or MOVING; its location may change where it has no entry. -/
theorem TD.Orderly.carrier_changed (h : td.Orderly early) (l : Lane) (f : Carrier → Carrier)
    (hqueued : (f (td.carriers.get l)).reservation = .queued ↔ (td.carriers.get l).reservation = .queued)
    (hmoving : (f (td.carriers.get l)).reservation = .moving ↔ (td.carriers.get l).reservation = .moving)
    (hloc : (f (td.carriers.get l)).location = (td.carriers.get l).location ∨
      (td.carriers.get l).reservation ≠ .queued ∧ (early = true → (f (td.carriers.get l)).location = .unknown)) :
    ({ td with carriers := td.carriers.modify l f } : TD).Orderly early := by
  constructor
  · exact h.single
  · intro k
    rw [Four.get_modify]
    split
    · next hk => rw [hk, hqueued]; exact h.queued l
    · exact h.queued k
  · intro k
    rw [Four.get_modify]
    split
    · next hk => rw [hk, hmoving]; exact h.moving l
    · exact h.moving k
  · intro e he
    rw [Four.get_modify]
    split
    · next hk =>
      have hq : (td.carriers.get l).reservation = .queued := (h.queued l).mpr ⟨e, he, hk⟩
      have hsame := hloc.resolve_right fun hno => hno.1 hq
      rw [hk, hsame, ← hk]
      exact h.stands e he
    · exact h.stands e he
  · intro hearly
    refine ⟨(h.rests hearly).1, fun k => ?_⟩
    rw [Four.get_modify]
    split
    · next hk => rw [hk]; exact hloc.elim (fun hsame => hsame.trans ((h.rests hearly).2 l)) fun hno => hno.2 hearly
    · exact (h.rests hearly).2 k

/-- A lane's entry leaves the queue, its carrier being neither QUEUED nor MOVING then, wherever it is. -/
theorem TD.Orderly.dropped (h : td.Orderly early) {l : Lane} (he : ∃ e ∈ td.queue, e.lane = l) (f : Carrier → Carrier)
    (hnone : (f (td.carriers.get l)).reservation = .none) :
    ({ td with queue := td.queue.filter fun e => e.lane != l, carriers := td.carriers.modify l f } : TD).Orderly early := by
  have hq : (td.carriers.get l).reservation = .queued := (h.queued l).mpr he
  obtain ⟨e, he, -⟩ := he
  have hlate := h.late_of_entry he
  constructor
  · exact h.single.sublist (List.filter_sublist.map _)
  · intro k
    rw [Four.get_modify]
    split
    · next hk =>
      rw [hk, hnone]
      refine ⟨nofun, fun ⟨e, he, hel⟩ => ?_⟩
      simp [hel] at he
    · next hk =>
      rw [h.queued k]
      refine exists_congr fun e => ?_
      simp only [List.mem_filter, bne_iff_ne]
      exact ⟨fun ⟨he, hel⟩ => ⟨⟨he, fun hl => hk (hel.symm.trans hl)⟩, hel⟩, fun ⟨⟨he, _⟩, hel⟩ => ⟨he, hel⟩⟩
  · intro k
    rw [Four.get_modify]
    split
    · next hk =>
      rw [hk, hnone]
      refine ⟨nofun, fun hm => ?_⟩
      exact nomatch hq.symm.trans ((h.moving l).mpr hm)
    · exact h.moving k
  · intro e he
    obtain ⟨he, hel⟩ := List.mem_filter.mp he
    rw [Four.get_modify, if_neg (bne_iff_ne.mp hel)]
    exact h.stands e he
  · rw [hlate]
    nofun

/-- An entry joins the queue for a carrier at its origin that is neither QUEUED nor MOVING (R25). -/
theorem TD.Orderly.joined (h : td.Orderly early) (e : Entry) (hloc : (td.carriers.get e.lane).location = e.dir.origin)
    (hnone : ∀ q ∈ td.queue, q.lane ≠ e.lane) (hmoving : (td.carriers.get e.lane).reservation ≠ .moving) :
    ({ td with queue := td.queue ++ [e], carriers := td.carriers.modify e.lane fun c => { c with reservation := .queued } } :
      TD).Orderly early := by
  have hlate : early = false := Bool.eq_false_iff.mpr fun hearly => e.dir.origin_known (hloc.symm.trans ((h.rests hearly).2 _))
  have hstay : ∀ k, ((td.carriers.modify e.lane fun c => { c with reservation := .queued }).get k).location =
      (td.carriers.get k).location := fun k => by
    rw [Four.get_modify]
    split <;> rfl
  constructor
  · simp only [List.map_append, List.map_singleton]
    refine List.nodup_append.mpr ⟨h.single, List.nodup_singleton _, fun a ha b hb => ?_⟩
    obtain ⟨q, hq, rfl⟩ := List.mem_map.mp ha
    rw [List.mem_singleton.mp hb]
    exact hnone q hq
  · intro k
    simp only [List.mem_append, List.mem_singleton, Four.get_modify]
    split
    · next hk => exact ⟨fun _ => ⟨e, .inr rfl, hk.symm⟩, fun _ => rfl⟩
    · next hk =>
      rw [h.queued k]
      refine ⟨fun ⟨q, hq, hl⟩ => ⟨q, .inl hq, hl⟩, fun ⟨q, hq, hl⟩ => ⟨q, hq.resolve_right fun heq => ?_, hl⟩⟩
      exact hk (hl.symm.trans (congrArg Entry.lane heq))
  · intro k
    simp only [Four.get_modify]
    split
    · next hk =>
      refine ⟨nofun, fun hm => absurd ((h.moving e.lane).mpr (hk ▸ hm)) hmoving⟩
    · exact h.moving k
  · intro q hq
    rw [hstay]
    rcases List.mem_append.mp hq with hq | hq
    · exact h.stands q hq
    · rw [List.mem_singleton.mp hq]
      exact hloc
  · rw [hlate]
    nofun

/-- The move in flight changes in what it records of its lane alone. -/
theorem TD.Orderly.move_changed (h : td.Orderly early) {f : Move → Move} (hf : ∀ m, (f m).lane = m.lane) :
    ({ td with move := td.move.map f } : TD).Orderly early := by
  refine ⟨h.single, h.queued, fun l => ?_, h.stands, fun hearly => ⟨?_, (h.rests hearly).2⟩⟩
  · rw [h.moving l]
    cases td.move <;> simp [hf]
  · rw [show td.move = none from (h.rests hearly).1]
    rfl

/-- The move in flight ends; its carrier is no longer MOVING (R27). -/
theorem TD.Orderly.move_ended (h : td.Orderly early) {m : Move} (hm : td.move = some m) :
    ({ td with carriers := td.carriers.modify m.lane fun c => { c with reservation := .none }, move := none } :
      TD).Orderly early := by
  have hmoving := h.of_move hm
  have hstay : ∀ k, ((td.carriers.modify m.lane fun c => { c with reservation := .none }).get k).location =
      (td.carriers.get k).location := fun k => by
    rw [Four.get_modify]
    split <;> rfl
  refine ⟨h.single, fun k => ?_, fun k => ?_, fun e he => (hstay _).trans (h.stands e he), fun hearly => ⟨rfl, fun k =>
    (hstay k).trans ((h.rests hearly).2 k)⟩⟩
  · simp only [Four.get_modify]
    split
    · next hk =>
      subst hk
      exact ⟨nofun, fun he => nomatch hmoving.symm.trans ((h.queued _).mpr he)⟩
    · exact h.queued k
  · simp only [Four.get_modify]
    refine ⟨fun hk => ?_, fun ⟨_, hno, _⟩ => nomatch hno⟩
    split at hk
    · cases hk
    · next hne =>
      obtain ⟨n, hn, hnl⟩ := (h.moving k).mp hk
      exact absurd (hnl.symm.trans (congrArg Move.lane (Option.some.inj (hn.symm.trans hm)))) hne

/-- A move takes the idle drive; its lane's entry, if there is one, leaves the queue (R27, R40). -/
theorem TD.Orderly.granted (h : td.Orderly early) (hidle : td.move = none) (hlate : early = false) (m : Move) :
    ({ td with
      queue := td.queue.filter fun e => e.lane != m.lane
      carriers := td.carriers.modify m.lane fun c => { c with reservation := .moving }, move := some m } : TD).Orderly early := by
  constructor
  · exact h.single.sublist (List.filter_sublist.map _)
  · intro k
    simp only [Four.get_modify, List.mem_filter, bne_iff_ne]
    split
    · next hk => exact ⟨nofun, fun ⟨e, ⟨_, hne⟩, hel⟩ => absurd (hel.trans hk) hne⟩
    · next hk =>
      rw [h.queued k]
      exact exists_congr fun e =>
        ⟨fun ⟨he, hel⟩ => ⟨⟨he, fun hl => hk (hel.symm.trans hl)⟩, hel⟩, fun ⟨⟨he, _⟩, hel⟩ => ⟨he, hel⟩⟩
  · intro k
    simp only [Four.get_modify]
    split
    · next hk => exact ⟨fun _ => ⟨m, rfl, hk.symm⟩, fun _ => rfl⟩
    · next hk =>
      refine ⟨fun hm => ?_, fun ⟨n, hn, hnl⟩ => absurd (hnl.symm.trans (congrArg Move.lane (Option.some.inj hn)).symm) hk⟩
      obtain ⟨n, hn, -⟩ := (h.moving k).mp hm
      exact nomatch hidle.symm.trans hn
  · intro e he
    obtain ⟨he, hel⟩ := List.mem_filter.mp he
    simp only [Four.get_modify, if_neg (bne_iff_ne.mp hel)]
    exact h.stands e he
  · rw [hlate]
    nofun

end

/-! ## Entries, requests and reasons -/

section
set_option backward.isDefEq.respectTransparency false
variable {early : Bool}

theorem TD.entry_none {td : TD} {l : Lane} (h : td.entry l = none) : ∀ e ∈ td.queue, e.lane ≠ l := by
  simpa only [TD.entry, List.find?_eq_none, decide_eq_true_eq] using h

theorem TD.entry_some {td : TD} {l : Lane} {e : Entry} (h : td.entry l = some e) : e ∈ td.queue ∧ e.lane = l :=
  ⟨List.mem_of_find?_eq_some h, by simpa using List.find?_some h⟩

/-- A lane without an entry has a carrier that is not QUEUED. -/
theorem TD.Orderly.not_queued {td : TD} (h : td.Orderly early) {l : Lane} (hn : td.entry l = none) :
    (td.carriers.get l).reservation ≠ .queued := fun hq => by
  obtain ⟨e, he, hl⟩ := (h.queued l).mp hq
  exact TD.entry_none hn e he hl

@[simp] theorem State.dropQueued_orderly (s : State) (l : Lane) (result : MoveResult) (h : s.td.Orderly early) :
    (s.dropQueued l result).td.Orderly early := by
  unfold State.dropQueued
  split
  · exact h
  · next e he => exact h.dropped ⟨e, TD.entry_some he⟩ _ rfl

/-- A carrier found elsewhere loses its entry (R38, R39). -/
theorem State.relocated_orderly (s : State) (l : Lane) (loc : Location) (result : MoveResult) (hloc : early = true → loc = .unknown)
    (h : s.td.Orderly early) : ((s.setLocation l loc).dropQueued l result).td.Orderly early := by
  unfold State.dropQueued
  split
  · next he => exact h.carrier_changed l _ Iff.rfl Iff.rfl (.inr ⟨h.not_queued he, hloc⟩)
  · next e he =>
    have hdropped := h.dropped ⟨e, TD.entry_some he⟩ (fun c => { c with location := loc, reservation := .none }) rfl
    exact hdropped.of_same rfl (Four.modify_modify s.td.carriers l (fun c => { c with location := loc })
      fun c => { c with reservation := .none }) rfl

@[simp] theorem State.setReasons_orderly (s : State) (l : Lane) (f : Reasons → Reasons) (h : s.td.Orderly early) :
    (s.setReasons l f).td.Orderly early := by
  unfold State.setReasons
  dsimp only
  split
  · exact h
  · split
    · exact State.dropQueued_orderly _ l _ h
    · exact h

/-- A carrier that stands at a direction's origin has no entry but of that direction. -/
theorem TD.Orderly.no_other_entry {td : TD} (h : td.Orderly early) {l : Lane} {dir : Dir}
    (hloc : (td.carriers.get l).location = dir.origin) (hno : td.hasEntry l dir = false) : ∀ e ∈ td.queue, e.lane ≠ l := by
  intro e he hl
  have hdir : e.dir = dir := by
    have horigin : e.dir.origin = dir.origin := (h.stands e he).symm.trans (hl ▸ hloc)
    revert horigin
    cases e.dir <;> cases dir <;> simp [Dir.origin]
  exact Bool.false_ne_true (hno.symm.trans ((td.hasEntry_iff l dir).mpr ⟨e, he, hl, hdir⟩))

theorem State.enqueue_orderly (s : State) {l : Lane} {dir : Dir} (origin : Origin) (hloc : (s.carrier l).location = dir.origin)
    (hno : s.td.hasEntry l dir = false) (hmoving : (s.carrier l).reservation ≠ .moving) (h : s.td.Orderly early) :
    (s.enqueue l dir origin).td.Orderly early :=
  h.joined { lane := l, dir := dir, origin := origin, time := s.now } hloc (h.no_other_entry hloc hno) hmoving

/-- A request for an UP move joins the queue of a carrier at the bay that is neither QUEUED for it nor MOVING, or it changes
nothing (R45). -/
theorem State.askUp_cases (s : State) (l : Lane) (origin : Origin) : (s.askUp l origin).1 = s ∨
    (s.askUp l origin).1 = s.enqueue l .up origin ∧ (s.carrier l).location = .atBay ∧ s.td.hasEntry l .up = false ∧
      (s.carrier l).reservation ≠ .moving := by
  unfold State.askUp
  (repeat' split)
  any_goals exact .inl rfl
  next hno hloc hbusy _ =>
    exact .inr ⟨rfl, not_not.mp hloc, by simpa using hno, fun hm => hbusy (.inr (.inr hm))⟩

/-- A request for a DOWN move joins the queue of a carrier at the lane, or it changes nothing (R46). -/
theorem State.askDown_cases (s : State) (l : Lane) (origin : Origin) : (s.askDown l origin).1 = s ∨
    (s.askDown l origin).1 = s.enqueue l .down origin ∧ (s.carrier l).location = .atLane ∧ s.td.hasEntry l .down = false ∧
      (s.carrier l).reservation ≠ .moving := by
  unfold State.askDown
  (repeat' split)
  any_goals exact .inl rfl
  next hno hloc _ hmoving => exact .inr ⟨rfl, not_not.mp hloc, by simpa using hno, hmoving⟩

@[simp] theorem State.askUp_orderly (s : State) (l : Lane) (origin : Origin) (h : s.td.Orderly early) :
    (s.askUp l origin).1.td.Orderly early := by
  rcases s.askUp_cases l origin with hsame | ⟨hqueued, hloc, hno, hmoving⟩
  · rwa [hsame]
  · rw [hqueued]
    exact s.enqueue_orderly origin hloc hno hmoving h

@[simp] theorem State.askDown_orderly (s : State) (l : Lane) (origin : Origin) (h : s.td.Orderly early) :
    (s.askDown l origin).1.td.Orderly early := by
  rcases s.askDown_cases l origin with hsame | ⟨hqueued, hloc, hno, hmoving⟩
  · rwa [hsame]
  · rw [hqueued]
    exact s.enqueue_orderly origin hloc hno hmoving h

/-! ## A move from its grant to its end (R27 to R36) -/

@[simp ↓] theorem State.setPhase_orderly (s : State) (p : MovePhase) (h : s.td.Orderly early) :
    (s.setPhase p).td.Orderly early := h.move_changed fun _ => rfl

/-- The carrier of the move in flight has no entry, so it may be anywhere. -/
theorem State.setLocation_moving (s : State) {m : Move} (hm : s.td.move = some m) (loc : Location) (h : s.td.Orderly early) :
    (s.setLocation m.lane loc).td.Orderly early := by
  refine h.carrier_changed m.lane _ Iff.rfl Iff.rfl (.inr ⟨fun hq => ?_, fun hearly => ?_⟩)
  · exact nomatch (h.of_move hm).symm.trans hq
  · exact nomatch hearly.symm.trans (h.late_of_move hm)

@[simp] theorem State.endMove_orderly (s : State) (h : s.td.Orderly early) : s.endMove.td.Orderly early := by
  cases hm : s.td.move with
  | none => simpa [State.endMove, hm] using h
  | some m =>
    rw [State.endMove_some hm]
    exact h.move_ended hm

@[simp] theorem State.failMove_orderly (s : State) (result : MoveResult) (h : s.td.Orderly early) :
    (s.failMove result).td.Orderly early := by
  cases hm : s.td.move with
  | none => simpa [State.failMove, hm] using h
  | some m =>
    rw [State.failMove_some hm]
    exact (h.move_ended hm).of_same (by simp) rfl rfl

@[simp] theorem State.arrive_orderly (s : State) (h : s.td.Orderly early) : s.arrive.td.Orderly early := by
  unfold State.arrive
  split
  · exact h
  · next m hm => exact State.setPhase_orderly _ _ (s.setLocation_moving hm _ h)

@[simp] theorem State.fallBack_orderly (s : State) (h : s.td.Orderly early) : s.fallBack.td.Orderly early := by
  unfold State.fallBack
  split
  · exact h
  · next m hm => exact State.setPhase_orderly _ _ (s.setLocation_moving hm _ h)

@[simp] theorem State.launch_orderly (s : State) (h : s.td.Orderly early) : s.launch.td.Orderly early := by
  unfold State.launch
  split
  · exact h
  · next m hm =>
    have hgone : ∀ p, ((s.setLocation m.lane m.dir.moving).setPhase p).td.Orderly early := fun p =>
      State.setPhase_orderly _ p (s.setLocation_moving hm _ h)
    dsimp only
    (repeat' split) <;> simp [hgone, -State.setPhase_td]

@[simp] theorem State.enterLaunch_orderly (s : State) (h : s.td.Orderly early) : s.enterLaunch.td.Orderly early := by
  unfold State.enterLaunch
  split
  · exact h
  · dsimp only
    split
    · exact State.launch_orderly _ (State.setPhase_orderly _ _ h)
    · exact State.setPhase_orderly _ _ h

@[simp] theorem State.diverted_orderly (s : State) (h : s.td.Orderly early) : s.diverted.td.Orderly early := by
  unfold State.diverted
  split
  · exact h
  · next m _ =>
    have hset : ({ s.td with diverter := some m.lane, valve := some m.dir } : TD).Orderly early := h.of_same rfl rfl rfl
    dsimp only
    split
    · exact State.setPhase_orderly _ _ hset
    · exact State.enterLaunch_orderly _ hset

@[simp] theorem State.enterDivert_orderly (s : State) (h : s.td.Orderly early) : s.enterDivert.td.Orderly early := by
  unfold State.enterDivert
  (repeat' split) <;> simp [h]

/-- A grant of the idle drive; what stands in the queue for the lane has left it (R27, R40). -/
theorem State.grant_orderly (s : State) (l : Lane) (dir : Dir) (origin : Origin) (isPurge : Bool) (hidle : s.td.move = none)
    (hlate : early = false) (h : s.td.Orderly early) :
    (({ s with td := { s.td with queue := s.td.queue.filter fun q => q.lane != l } } : State).grant l dir origin isPurge).td.Orderly
      early := by
  have htaken := h.granted hidle hlate { lane := l, dir := dir, origin := origin, isPurge := isPurge, phase := .air }
  unfold State.grant
  dsimp only
  split
  · exact State.enterDivert_orderly _ htaken
  · exact State.failMove_orderly _ _ htaken
  · exact htaken

@[simp] theorem State.tellKnown_orderly (s : State) (l : Lane) (h : s.td.Orderly early) : (s.tellKnown l).td.Orderly early :=
  s.setReasons_orderly l _ h

/-! ## Grants, and carriers found and lost (R27, R37 to R41) -/

/-- A start-up that has not derived the locations stands at such a step. -/
def Phase.Allows (p : Phase) (early : Bool) : Prop := early = true → p.underived = true

theorem Phase.allows_self (p : Phase) : p.Allows p.underived := id

theorem Phase.Allows.late {p : Phase} (he : p.Allows early) (hp : p.underived = false) : early = false :=
  Bool.eq_false_iff.mpr fun h => Bool.false_ne_true (hp.symm.trans (he h))

theorem State.derived_late {s : State} (hd : s.derived = true) (he : s.phase.Allows early) : early = false := by
  refine he.late ?_
  unfold State.derived at hd
  split at hd
  · next h => rw [h]; rfl
  · next h => rw [h]; rfl
  · next h => rw [h]; rfl
  · next h => rw [h]; rfl
  · cases hd

@[simp] theorem State.arbitrate_orderly (s : State) (h : s.td.Orderly early) (he : s.phase.Allows early) :
    s.arbitrate.td.Orderly early := by
  unfold State.arbitrate
  split
  · next hstarted =>
    split
    · exact h
    · have hrunning : s.phase = .running := by simpa [State.started] using hstarted.1
      exact s.grant_orderly _ _ _ _ hstarted.2 (he.late (hrunning ▸ rfl)) h
  · exact h

/-- PURGE of a carrier that is UNKNOWN, which has no entry, on the idle drive (R40). -/
theorem State.ownPurge_orderly (tag lane towards : Nat) (s : State) (h : s.td.Orderly false) :
    (State.ownPurge tag lane towards s).td.Orderly false := by
  unfold State.ownPurge
  split
  · next l d _ _ =>
    split
    · exact h
    · next hmove =>
      split
      · exact h
      · next hloc =>
        have hnone : s.td.move = none := by simpa using hmove
        have hempty : s.td.queue.filter (fun q => q.lane != l) = s.td.queue :=
          List.filter_eq_self.mpr fun e he => bne_iff_ne.mpr (h.no_entry (h.unqueued (not_not.mp hloc)) e he)
        have hgrant := State.grant_orderly (s.ok 0x1A tag []) l d .host true hnone rfl h
        rw [show (s.ok 0x1A tag []).td.queue = s.td.queue from rfl, hempty] at hgrant
        exact hgrant
  · exact h

theorem State.purgeFind_orderly (s : State) {m : Move} (hm : s.td.move = some m) (loc : Location) (h : s.td.Orderly early) :
    (s.purgeFind m.lane loc).td.Orderly early := by
  have hleft : (({ s with td := s.td.abandonDivert } : State)).td.Orderly early := h.of_same (by simp) (by simp) (by simp)
  exact State.setPhase_orderly _ _ (State.setLocation_moving _ (m := m) (by simpa using hm) loc hleft)

/-- A carrier keeps its place in the bookkeeping where its location and its reservation stay. -/
theorem State.modCarrier_orderly (s : State) (l : Lane) (f : Carrier → Carrier) (hloc : ∀ c, (f c).location = c.location)
    (hres : ∀ c, (f c).reservation = c.reservation) (h : s.td.Orderly early) : (s.modCarrier l f).td.Orderly early :=
  h.carrier_changed l f (by rw [hres]) (by rw [hres]) (.inl (hloc _))

@[simp] theorem State.closeHeld_orderly (s : State) (id : Nat) (outcome : LoadOutcome) (h : s.td.Orderly early) :
    (s.closeHeld id outcome).td.Orderly early := by
  unfold State.closeHeld
  split
  · exact h
  · next ld _ =>
    have hcarrier : (if (s.carrier ld.lane).outstanding = some id then
        s.modCarrier ld.lane fun c => { c with outstanding := none } else s).td.Orderly early := by
      split
      · exact s.modCarrier_orderly _ _ (fun _ => rfl) (fun _ => rfl) h
      · exact h
    dsimp only
    generalize (if (s.carrier ld.lane).outstanding = some id then
      s.modCarrier ld.lane fun c => { c with outstanding := none } else s) = u at hcarrier ⊢
    split <;> simpa using hcarrier

@[simp] theorem State.reportAtBay_orderly (s : State) (l : Lane) (read : Content) (find : Bool) (h : s.td.Orderly early) :
    (s.reportAtBay l read find).td.Orderly early := by
  unfold State.reportAtBay
  (repeat' split) <;> simp [h]

@[simp] theorem State.reportAt_orderly (s : State) (l : Lane) (loc : Location) (find : Bool) (h : s.td.Orderly early) :
    (s.reportAt l loc find).td.Orderly early := by
  unfold State.reportAt
  split <;> simp [h]

/-- A carrier found whose location was not known (R37). -/
theorem State.lateArrival_orderly (s : State) (l : Lane) (loc : Location) (hloc : (s.carrier l).location = .unknown)
    (hlate : early = false) (h : s.td.Orderly early) : (s.lateArrival l loc).td.Orderly early := by
  have hset : (s.setLocation l loc).td.Orderly early := h.carrier_changed l _ Iff.rfl Iff.rfl
    (.inr ⟨h.unqueued hloc, fun hearly => nomatch hearly.symm.trans hlate⟩)
  exact State.reportAt_orderly _ l loc true (State.tellKnown_orderly _ l hset)

theorem State.relocate_orderly (s : State) (l : Lane) (loc : Location) (hlate : early = false) (h : s.td.Orderly early) :
    (s.relocate l loc).td.Orderly early := by
  have hset := s.relocated_orderly l loc .locationChanged (fun hearly => nomatch hearly.symm.trans hlate) h
  unfold State.relocate
  dsimp only
  split <;> simp [State.raiseAt, hset, -State.setLocation_td]

@[simp] theorem State.loseCarrier_orderly (s : State) (l : Lane) (h : s.td.Orderly early) :
    (s.loseCarrier l).td.Orderly early := by
  have hset := s.relocated_orderly l .unknown .locationLost (fun _ => rfl) h
  unfold State.loseCarrier
  dsimp only
  (repeat' split) <;> simp [hset, -State.setLocation_td]

theorem State.presentRisesFree_orderly (s : State) (l : Lane) (loc : Location) (hlate : early = false) (h : s.td.Orderly early) :
    (s.presentRisesFree l loc).td.Orderly early := by
  unfold State.presentRisesFree
  split
  · next hloc => exact s.lateArrival_orderly l loc hloc hlate h
  · split
    · exact s.relocate_orderly l _ hlate h
    · exact h
  · split
    · exact s.relocate_orderly l _ hlate h
    · exact h
  · exact h

@[simp] theorem State.presentRises_orderly (s : State) (l : Lane) (loc : Location) (h : s.td.Orderly early)
    (he : s.phase.Allows early) : (s.presentRises l loc).td.Orderly early := by
  unfold State.presentRises
  split
  · exact h
  · next hd =>
    have hlate := State.derived_late (by simpa using hd) he
    split
    · next m hm =>
      split
      · next hl =>
        subst hl
        split
        · exact h
        · exact s.purgeFind_orderly hm loc h
        · split <;> simp [h]
        · split <;> simp [h]
        · split
          · next hloc => exact s.lateArrival_orderly _ loc hloc hlate h
          · exact h
      · exact s.presentRisesFree_orderly l loc hlate h
    · exact s.presentRisesFree_orderly l loc hlate h

end

/-! ## The operations that report to the drive or reserve a carrier -/

section
set_option backward.isDefEq.respectTransparency false
variable {early : Bool}

@[simp ↓] theorem State.modBay_orderly (s : State) (l : Lane) (f : Bay → Bay) (h : s.td.Orderly early) :
    (s.modBay l f).td.Orderly early := h.of_same rfl rfl rfl

@[simp] theorem State.tellTamper_orderly (s : State) (z : ZoneId) (entered : ZoneState) (ho : s.td.Orderly early) :
    (s.tellTamper z entered).td.Orderly early := by
  unfold State.tellTamper
  split <;> simp [ho]

@[simp] theorem State.zoneTo_orderly (s : State) (z : ZoneId) (entered : ZoneState) (ho : s.td.Orderly early) :
    (s.zoneTo z entered).td.Orderly early := by
  unfold State.zoneTo
  dsimp only
  (repeat' split) <;> simp [ho]

@[simp] theorem State.zoneIdle_orderly (s : State) (z : ZoneId) (ho : s.td.Orderly early) :
    (s.zoneIdle z).td.Orderly early := by
  unfold State.zoneIdle
  dsimp only
  (repeat' split) <;> simp [ho]

@[simp] theorem State.startDelay_orderly (s : State) (d : Door) (ho : s.td.Orderly early) :
    (s.startDelay d).td.Orderly early := by
  unfold State.startDelay
  split <;> simp [ho]

@[simp] theorem State.closeWindow_orderly (s : State) (d : Door) (ho : s.td.Orderly early) :
    (s.closeWindow d).td.Orderly early := by
  unfold State.closeWindow
  dsimp only
  split <;> simp [ho]

@[simp] theorem State.lockIn_orderly (s : State) (z : ZoneId) (ho : s.td.Orderly early) :
    (s.lockIn z).td.Orderly early := by
  unfold State.lockIn
  dsimp only
  split <;> simp [ho]

@[simp] theorem State.doorOpens_orderly (s : State) (d : Door) (ho : s.td.Orderly early) :
    (s.doorOpens d).td.Orderly early := by
  unfold State.doorOpens
  dsimp only
  (repeat' split) <;> simp [ho]

@[simp] theorem State.causeRises_orderly (s : State) (z : ZoneId) (ho : s.td.Orderly early) :
    (s.causeRises z).td.Orderly early := by
  unfold State.causeRises
  (repeat' split) <;> simp [ho]

@[simp] theorem State.causeFalls_orderly (s : State) (z : ZoneId) (ho : s.td.Orderly early) :
    (s.causeFalls z).td.Orderly early := by
  unfold State.causeFalls
  (repeat' split) <;> simp [ho]

@[simp] theorem State.setCause_orderly (s : State) (z : ZoneId) (active : Bool) (ho : s.td.Orderly early) :
    (s.setCause z active).td.Orderly early := by
  unfold State.setCause
  dsimp only
  (repeat' split) <;> simp [ho]

@[simp] theorem State.tellJam_orderly (s : State) (ho : s.td.Orderly early) : s.tellJam.td.Orderly early := by
  simp [State.tellJam, ho]

@[simp] theorem State.tellTamperLevel_orderly (s : State) (l : Lane) (ho : s.td.Orderly early) :
    (s.tellTamperLevel l).td.Orderly early := by
  unfold State.tellTamperLevel
  split <;> simp [ho]

@[simp] theorem State.supervise_orderly (s : State) (l : Lane) (resolved : Bool) (ho : s.td.Orderly early) :
    (s.supervise l resolved).td.Orderly early := by
  unfold State.supervise
  dsimp only
  (repeat' split) <;> simp [ho]

@[simp] theorem State.airFault_orderly (s : State) (ho : s.td.Orderly early) : s.airFault.1.td.Orderly early := by
  simp [State.airFault, ho]

@[simp] theorem State.airLeavesFault_orderly (s : State) (ho : s.td.Orderly early) :
    s.airLeavesFault.td.Orderly early := by
  simp [State.airLeavesFault, ho]

@[simp] theorem State.airReexamine_orderly (s : State) (ho : s.td.Orderly early) :
    s.airReexamine.td.Orderly early := by
  unfold State.airReexamine
  (repeat' split) <;> simp [ho]

@[simp] theorem State.airSwapOrFault_orderly (s : State) (ho : s.td.Orderly early) :
    s.airSwapOrFault.1.td.Orderly early := by
  unfold State.airSwapOrFault
  dsimp only
  split <;> simp [ho]

@[simp] theorem State.evaluateTamper_orderly (s : State) (l : Lane) (ho : s.td.Orderly early) :
    (s.evaluateTamper l).td.Orderly early := by
  have hidle : ((s.modZone (.tamper l) fun r => { r with heldLatched := false }).zoneTo (.tamper l) .idle).td.Orderly early :=
    State.zoneTo_orderly _ _ _ ho
  unfold State.evaluateTamper
  dsimp only
  (repeat' split) <;> simp [hidle, ho]

@[simp] theorem State.evaluateZone_orderly (s : State) (z : ZoneId) (ho : s.td.Orderly early) :
    (s.evaluateZone z).td.Orderly early := by
  unfold State.evaluateZone
  (repeat' split) <;> simp [ho]

@[simp] theorem State.endStartUp_orderly (s : State) (ho : s.td.Orderly early) : s.endStartUp.td.Orderly early := by
  unfold State.endStartUp
  show (ZoneId.all.foldl State.evaluateZone s).td.Orderly early
  generalize ZoneId.all = zs
  induction zs generalizing s with
  | nil => exact ho
  | cons z zs ih => exact ih _ (s.evaluateZone_orderly z ho)

@[simp] theorem State.airStepEnds_orderly (s : State) (ho : s.td.Orderly early) : s.airStepEnds.td.Orderly early := by
  unfold State.airStepEnds
  split <;> simp [ho]

@[simp] theorem State.overdue_orderly (s : State) (ho : s.td.Orderly early) : s.overdue.td.Orderly early := by
  unfold State.overdue
  split
  · exact ho
  · next m hm =>
    have hlost := s.releasePressure.setLocation_moving (m := m) (by simpa using hm) .unknown (by simpa using ho)
    exact State.endMove_orderly _ (State.tellJam_orderly _ (State.setReasons_orderly _ m.lane _ hlost))

@[simp] theorem State.toldAirFault_orderly (s : State) (ho : s.td.Orderly early) :
    s.toldAirFault.td.Orderly early := by
  unfold State.toldAirFault
  (repeat' split) <;> simp [ho]

@[simp] theorem State.toldReady_orderly (s : State) (ho : s.td.Orderly early) : s.toldReady.td.Orderly early := by
  unfold State.toldReady
  split <;> simp [ho]

@[simp] theorem State.presentFalls_orderly (s : State) (l : Lane) (loc : Location) (ho : s.td.Orderly early) :
    (s.presentFalls l loc).td.Orderly early := by
  unfold State.presentFalls
  (repeat' split) <;> simp [ho]

@[simp] theorem State.originDoorOpens_orderly (s : State) (l : Lane) (dir : Dir) (ho : s.td.Orderly early) :
    (s.originDoorOpens l dir).td.Orderly early := by
  unfold State.originDoorOpens
  (repeat' split) <;> simp [ho]

@[simp] theorem State.reportStation_orderly (s : State) (l : Lane) (level : Sense)
    (ho : s.td.Orderly early) (he : s.phase.Allows early) :
    (s.reportStation l level).td.Orderly early := by
  unfold State.reportStation
  dsimp only
  (repeat' split) <;> simp [ho, he]

@[simp] theorem State.reportDoor_orderly (s : State) (l : Lane) (level : Sense) (ho : s.td.Orderly early) :
    (s.reportDoor l level).td.Orderly early := by
  unfold State.reportDoor
  dsimp only
  split <;> simp [ho]

@[simp] theorem State.ownSend_orderly (tag lane : Nat) (s : State) (ho : s.td.Orderly early) :
    (State.ownSend tag lane s).td.Orderly early := by
  unfold State.ownSend
  dsimp only
  split <;> simp [ho]

@[simp] theorem State.ownRecall_orderly (tag lane : Nat) (s : State) (ho : s.td.Orderly early) :
    (State.ownRecall tag lane s).td.Orderly early := by
  unfold State.ownRecall
  dsimp only
  split <;> simp [ho]

@[simp] theorem State.onDivertSettleDone_orderly (s : State) (ho : s.td.Orderly early) :
    s.onDivertSettleDone.td.Orderly early := by
  unfold State.onDivertSettleDone
  split <;> simp [ho]

@[simp] theorem State.onLaunchTimeout_orderly (s : State) (ho : s.td.Orderly early) :
    s.onLaunchTimeout.td.Orderly early := by
  unfold State.onLaunchTimeout
  split <;> simp [ho]

@[simp] theorem State.bayPresent_orderly (s : State) (l : Lane) (present : Bool)
    (ho : s.td.Orderly early) (he : s.phase.Allows early) :
    (s.bayPresent l present).td.Orderly early := by
  unfold State.bayPresent
  dsimp only
  (repeat' split) <;> simp [ho, he, -State.modBay_td]

/-- Where a hold ends the carrier leaves PRESENTING or CAPTURING, and with it no bookkeeping of the drive. -/
theorem State.released_orderly (s : State) (l : Lane) (held : Reservation) (hq : held ≠ .queued) (hm : held ≠ .moving)
    (f : Carrier → Carrier) (hloc : ∀ c, (f c).location = c.location)
    (hres : ∀ c, (f c).reservation = if c.reservation = held then .none else c.reservation) (ho : s.td.Orderly early) :
    (s.modCarrier l f).td.Orderly early := by
  refine ho.carrier_changed l f ?_ ?_ (.inl (hloc _)) <;> rw [hres] <;> split
  · next h => simp [h, hq]
  · rfl
  · next h => simp [h, hm]
  · rfl

@[simp] theorem State.presentSucceeds_orderly (s : State) (l : Lane) (id : Nat) (ho : s.td.Orderly early) :
    (s.presentSucceeds l id).td.Orderly early := by
  have hpresented := s.released_orderly l .presenting (by simp) (by simp) (fun c => { c with
    outstanding := some id, reservation := if c.reservation = .presenting then .none else c.reservation }) (fun _ => rfl)
    (fun _ => rfl) ho
  unfold State.presentSucceeds
  dsimp only
  split
  · split
    · exact State.askUp_orderly _ l .autoSend hpresented
    · exact hpresented
  · exact hpresented

@[simp] theorem State.bayContentLevel_orderly (s : State) (l : Lane) (reads : Bool) (ho : s.td.Orderly early) :
    (s.bayContentLevel l reads).td.Orderly early := by
  unfold State.bayContentLevel
  dsimp only
  (repeat' split) <;> simp [ho, -State.modBay_td]

@[simp] theorem State.bayDoor_orderly (s : State) (l : Lane) (closed : Bool) (ho : s.td.Orderly early) :
    (s.bayDoor l closed).td.Orderly early := by
  unfold State.bayDoor
  dsimp only
  (repeat' split) <;> simp [ho, -State.modBay_td]

@[simp] theorem State.passWaypoint_orderly (s : State) (l : Lane) (k : Nat) (ho : s.td.Orderly early) :
    (s.passWaypoint l k).td.Orderly early := by
  unfold State.passWaypoint
  (repeat' split) <;> simp [ho, -State.setPhase_td]

@[simp] theorem State.onWaypointPass_orderly (lane : Lane) (waypoint : Nat) (s : State) (ho : s.td.Orderly early) :
    (State.onWaypointPass lane waypoint s).td.Orderly early := by
  simp [State.onWaypointPass, ho]

@[simp] theorem State.onTransitTimeout_orderly (s : State) (ho : s.td.Orderly early) :
    s.onTransitTimeout.td.Orderly early := by
  unfold State.onTransitTimeout
  split <;> simp [ho]

@[simp] theorem State.settled_orderly (s : State) (m : Move) (after : SettleOf) (ho : s.td.Orderly early) :
    (s.settled m after).td.Orderly early := by
  unfold State.settled
  dsimp only
  refine State.endMove_orderly _ ?_
  cases after <;> simp [ho]

@[simp] theorem State.onSettleEnd_orderly (s : State) (ho : s.td.Orderly early) : s.onSettleEnd.td.Orderly early := by
  unfold State.onSettleEnd
  (repeat' split) <;> simp [ho]

@[simp] theorem State.onPurgeTimeout_orderly (s : State) (ho : s.td.Orderly early) :
    s.onPurgeTimeout.td.Orderly early := by
  unfold State.onPurgeTimeout
  split <;> simp [ho]

@[simp] theorem State.onQueueWaitExpiry_orderly (lane : Lane) (s : State) (ho : s.td.Orderly early) :
    (State.onQueueWaitExpiry lane s).td.Orderly early := by
  unfold State.onQueueWaitExpiry
  split <;> simp [ho]

@[simp] theorem State.spinUpFound_orderly (s : State) (ho : s.td.Orderly early) : s.spinUpFound.td.Orderly early := by
  unfold State.spinUpFound
  dsimp only
  split <;> simp [ho]

@[simp] theorem State.airAfterFailure_orderly (s : State) (ho : s.td.Orderly early) :
    s.airAfterFailure.td.Orderly early := by
  have hfailed := s.airSwapOrFault_orderly ho
  unfold State.airAfterFailure
  dsimp only
  (repeat' split) <;> simp [hfailed]

@[simp] theorem State.switchCloses_orderly (s : State) (which : AB) (ho : s.td.Orderly early) :
    (s.switchCloses which).td.Orderly early := by
  unfold State.switchCloses
  dsimp only
  (repeat' split) <;> simp [ho]

@[simp] theorem State.switchOpens_orderly (s : State) (which : AB) (ho : s.td.Orderly early) :
    (s.switchOpens which).td.Orderly early := by
  unfold State.switchOpens
  dsimp only
  split <;> simp [ho]

@[simp] theorem State.onSpinUpLimit_orderly (s : State) (ho : s.td.Orderly early) :
    s.onSpinUpLimit.td.Orderly early := by
  unfold State.onSpinUpLimit
  (repeat' split) <;> simp [ho]

@[simp] theorem State.judgeRefresh_orderly (s : State) (ho : s.td.Orderly early) :
    s.judgeRefresh.td.Orderly early := by
  unfold State.judgeRefresh
  split <;> simp [ho]

@[simp] theorem State.onRefreshRunEnd_orderly (s : State) (ho : s.td.Orderly early) :
    s.onRefreshRunEnd.td.Orderly early := by
  unfold State.onRefreshRunEnd
  (repeat' split) <;> simp [ho]

@[simp] theorem State.airChoose_orderly (s : State) (duty : AB) (ho : s.td.Orderly early) :
    (s.airChoose duty).td.Orderly early := by
  unfold State.airChoose
  dsimp only
  split <;> simp [ho]

@[simp] theorem State.ownAirSettings_orderly (tag mode idle refresh autoSwitch duty : Nat) (s : State)
    (ho : s.td.Orderly early) :
    (State.ownAirSettings tag mode idle refresh autoSwitch duty s).td.Orderly early := by
  unfold State.ownAirSettings
  dsimp only
  split <;> simp [ho]

@[simp] theorem State.ownAirWake_orderly (tag : Nat) (s : State) (ho : s.td.Orderly early) :
    (State.ownAirWake tag s).td.Orderly early := by
  unfold State.ownAirWake
  split <;> simp [ho]

@[simp] theorem State.airResets_orderly (s : State) (which : AB) (ho : s.td.Orderly early) :
    (s.airResets which).td.Orderly early := by
  unfold State.airResets
  split <;> simp [ho]

@[simp] theorem State.ownAirReset_orderly (tag blower : Nat) (s : State) (ho : s.td.Orderly early) :
    (State.ownAirReset tag blower s).td.Orderly early := by
  unfold State.ownAirReset
  dsimp only
  split <;> simp [ho]

@[simp] theorem State.enrolled_orderly (s : State) (l : Lane) (f : Found)
    (ho : s.td.Orderly early) (he : s.phase.Allows early) :
    (s.enrolled l f).td.Orderly early := by
  unfold State.enrolled
  refine State.tellTamperLevel_orderly _ l ?_
  simp only [State.takeLoopAtEnrolment_frame]
  exact State.reportDoor_orderly _ l _ (State.reportStation_orderly _ l _ (by simp [ho]) (by simp [he]))

@[simp] theorem State.sendPress_orderly (s : State) (l : Lane) (ho : s.td.Orderly early) :
    (s.sendPress l).td.Orderly early := by
  unfold State.sendPress
  split <;> simp [ho]

@[simp] theorem State.takeAnswer_orderly (s : State) (l : Lane) (p : PollReport) (ho : s.td.Orderly early)
    (he : s.phase.Allows early) : (s.takeAnswer l p).td.Orderly early := by
  have hheard : (s.heard l p).td.Orderly early := by
    unfold State.heard
    refine State.tellTamperLevel_orderly _ l ?_
    split <;> simp [ho, he]
  have hlooped : ((s.heard l p).looped l p).td.Orderly early := by
    unfold State.looped
    split <;> simp [hheard]
  rw [State.takeAnswer_td]
  unfold State.pressed
  split <;> simp [hlooped]

@[simp] theorem State.onPollAnswer_orderly (report : PollReport) (s : State)
    (ho : s.td.Orderly early) (he : s.phase.Allows early) :
    (State.onPollAnswer report s).td.Orderly early := by
  unfold State.onPollAnswer
  (repeat' split) <;> simp [ho, he]

@[simp] theorem State.loseStation_orderly (s : State) (l : Lane) (ho : s.td.Orderly early) (he : s.phase.Allows early) :
    (s.loseStation l).td.Orderly early := by
  simp [State.loseStation, ho, he]

@[simp] theorem State.missPoll_orderly (s : State) (l : Lane) (ho : s.td.Orderly early) (he : s.phase.Allows early) :
    (s.missPoll l).td.Orderly early := by
  unfold State.missPoll
  dsimp only
  split <;> simp [ho, he]

@[simp] theorem State.onPollAnswerTimeout_orderly (s : State) (ho : s.td.Orderly early) (he : s.phase.Allows early) :
    s.onPollAnswerTimeout.td.Orderly early := by
  unfold State.onPollAnswerTimeout
  split <;> simp [ho, he]

@[simp] theorem State.onBasicSendEdge_orderly (lane : Lane) (s : State) (ho : s.td.Orderly early) :
    (State.onBasicSendEdge lane s).td.Orderly early := by
  unfold State.onBasicSendEdge
  split <;> simp [ho]

@[simp] theorem State.basicCarrier_orderly (s : State) (l : Lane) (present : Bool)
    (ho : s.td.Orderly early) (he : s.phase.Allows early) :
    (s.basicCarrier l present).td.Orderly early := by
  unfold State.basicCarrier
  dsimp only
  split <;> simp [ho, he]

@[simp] theorem State.carrierMissing_orderly (s : State) (l : Lane) (ho : s.td.Orderly early) :
    (s.carrierMissing l).td.Orderly early := by
  simp [State.carrierMissing, ho]

@[simp] theorem State.driveOff_orderly (s : State) (l : Lane) (ho : s.td.Orderly early) :
    (s.driveOff l).td.Orderly early := by
  unfold State.driveOff
  dsimp only
  split <;> simp [ho]

@[simp] theorem State.depart_orderly (s : State) (l : Lane) (ho : s.td.Orderly early) :
    (s.depart l).td.Orderly early := by
  unfold State.depart
  dsimp only
  (repeat' split) <;> simp [ho]

@[simp] theorem State.onVehicleClearExpiry_orderly (lane : Lane) (s : State) (ho : s.td.Orderly early) :
    (State.onVehicleClearExpiry lane s).td.Orderly early := by
  unfold State.onVehicleClearExpiry
  split <;> simp [ho]

@[simp] theorem State.reresolve_orderly (s : State) (l : Lane) (ho : s.td.Orderly early) :
    (s.reresolve l).td.Orderly early := by
  unfold State.reresolve
  dsimp only
  (repeat' split) <;> simp [ho]

@[simp] theorem State.ownLaneSettings_orderly (tag lane features waypoints timeout autoRecall : Nat) (s : State)
    (ho : s.td.Orderly early) :
    (State.ownLaneSettings tag lane features waypoints timeout autoRecall s).td.Orderly early := by
  unfold State.ownLaneSettings
  dsimp only
  split <;> simp [ho]

@[simp] theorem State.ownOpen_orderly (tag lane : Nat) (s : State) (ho : s.td.Orderly early) :
    (State.ownOpen tag lane s).td.Orderly early := by
  unfold State.ownOpen
  dsimp only
  (repeat' split) <;> simp [ho]

@[simp] theorem State.safeDoor_orderly (s : State) (opened : Bool) (ho : s.td.Orderly early) :
    (s.safeDoor opened).td.Orderly early := by
  unfold State.safeDoor
  dsimp only
  (repeat' split) <;> simp [ho]

@[simp] theorem State.cancelOne_orderly (s : State) (ld : Load) (ho : s.td.Orderly early) :
    (s.cancelOne ld).td.Orderly early := by
  unfold State.cancelOne
  split <;> simp [ho]

@[simp] theorem State.cancelEach_orderly (s : State) (lds : List Load) (ho : s.td.Orderly early) :
    (s.cancelEach lds).td.Orderly early := by
  unfold State.cancelEach
  induction lds generalizing s with
  | nil => exact ho
  | cons x xs ih => exact ih _ (State.cancelOne_orderly _ _ ho)

@[simp] theorem State.takeCancel_orderly (s : State) (tag : Nat) (l : Lane) (ho : s.td.Orderly early) :
    (s.takeCancel tag l).td.Orderly early := by
  unfold State.takeCancel
  dsimp only
  (repeat' split) <;> simp [ho]

@[simp] theorem State.ownCancelDispense_orderly (tag lane : Nat) (s : State) (ho : s.td.Orderly early) :
    (State.ownCancelDispense tag lane s).td.Orderly early := by
  unfold State.ownCancelDispense
  (repeat' split) <;> simp [ho]

@[simp] theorem State.takeDeferred_orderly (s : State) (ho : s.td.Orderly early) :
    s.takeDeferred.td.Orderly early := by
  unfold State.takeDeferred
  (repeat' split) <;> simp [ho]

@[simp] theorem State.askPresenting_orderly (s : State) (ho : s.td.Orderly early) : s.askPresenting.td.Orderly early := by
  unfold State.askPresenting
  split
  · next id _ _ =>
    split
    · exact ho
    · next ld _ =>
      split
      · split
        · exact ho
        · next hgrant =>
          have hfree : (s.carrier ld.lane).reservation = .none := by
            by_contra hne
            unfold State.presentingRefusal at hgrant
            rw [if_pos hne] at hgrant
            split at hgrant <;> cases hgrant
          exact ho.carrier_changed ld.lane _ (by rw [show (s.td.carriers.get ld.lane).reservation = .none from hfree]; simp)
            (by rw [show (s.td.carriers.get ld.lane).reservation = .none from hfree]; simp) (.inl rfl)
      · exact ho
  · exact ho

@[simp] theorem State.holdExpires_orderly (s : State) (ld : Load) (ho : s.td.Orderly early) :
    (s.holdExpires ld).td.Orderly early := by
  simp [State.holdExpires, ho]

@[simp] theorem State.presentFails_orderly (s : State) (ld : Load) (ho : s.td.Orderly early) :
    (s.presentFails ld).td.Orderly early := by
  simp [State.presentFails, ho]

@[simp] theorem State.withdrawn_orderly (s : State) (l : Lane) (why : WithdrawWhy) (ho : s.td.Orderly early) :
    (s.withdrawn l why).td.Orderly early := by
  have hreleased := s.released_orderly l .presenting (by simp) (by simp) (fun c =>
    if c.reservation = .presenting then { c with reservation := .none } else c) (fun c => by split <;> rfl)
    (fun c => by split <;> rfl) ho
  unfold State.withdrawn
  dsimp only
  (repeat' split) <;> simp [hreleased, -State.modCarrier_td]

@[simp] theorem State.onWithdrawalEnd_orderly (s : State) (ho : s.td.Orderly early) :
    s.onWithdrawalEnd.td.Orderly early := by
  unfold State.onWithdrawalEnd
  (repeat' split) <;> simp [ho]

@[simp] theorem State.onStageHoldExpiry_orderly (s : State) (ho : s.td.Orderly early) :
    s.onStageHoldExpiry.td.Orderly early := by
  unfold State.onStageHoldExpiry
  dsimp only
  (repeat' split) <;> simp [ho]

@[simp] theorem State.ownLoadClose_orderly (tag load outcome : Nat) (s : State) (ho : s.td.Orderly early) :
    (State.ownLoadClose tag load outcome s).td.Orderly early := by
  unfold State.ownLoadClose
  (repeat' split) <;> simp [ho]

@[simp] theorem State.releaseCapturing_orderly (s : State) (l : Lane) (ho : s.td.Orderly early) :
    (s.releaseCapturing l).td.Orderly early := by
  exact s.released_orderly l .capturing (by simp) (by simp) _ (fun c => by split <;> rfl)
    (fun c => by split <;> rfl) ho

@[simp] theorem State.captureOver_orderly (s : State) (h : Capture) (ho : s.td.Orderly early) :
    (s.captureOver h).td.Orderly early := by
  simp [State.captureOver, ho]

@[simp] theorem State.captureAborted_orderly (s : State) (h : Capture) (ho : s.td.Orderly early) :
    (s.captureAborted h).td.Orderly early := by
  simp [State.captureAborted, ho]

@[simp] theorem State.captureNotOpened_orderly (s : State) (ho : s.td.Orderly early) :
    s.captureNotOpened.td.Orderly early := by
  unfold State.captureNotOpened
  split <;> simp [ho]

/-- A capture opens at a carrier whose reservation is NONE (R43, R128). -/
theorem State.openCapture_orderly (s : State) (tag : Nat) (l : Lane) (hfree : (s.carrier l).reservation = .none)
    (ho : s.td.Orderly early) : (s.openCapture tag l).td.Orderly early := by
  have hfree' : (s.td.carriers.get l).reservation = .none := hfree
  have hheld : (s.modCarrier l fun c => { c with reservation := .capturing }).td.Orderly early :=
    ho.carrier_changed l _ (by simp [hfree']) (by simp [hfree']) (.inl rfl)
  unfold State.openCapture
  dsimp only
  (repeat' split) <;> simp [hheld, -State.modCarrier_td]

@[simp] theorem State.ownCapture_orderly (tag bay : Nat) (s : State) (ho : s.td.Orderly early) :
    (State.ownCapture tag bay s).td.Orderly early := by
  unfold State.ownCapture
  split
  · exact ho
  · next l _ =>
    iterate 6 split; exact ho
    split
    · exact ho
    · next hgrant =>
      refine s.openCapture_orderly tag l ?_ ho
      by_contra hne
      unfold State.capturingRefusal at hgrant
      rw [if_pos hne] at hgrant
      split at hgrant <;> cases hgrant

@[simp] theorem State.captureOpened_orderly (s : State) (seq : Nat) (programmed : Bool) (ho : s.td.Orderly early) :
    (s.captureOpened seq programmed).td.Orderly early := by
  unfold State.captureOpened
  dsimp only
  (repeat' split) <;> simp [ho]

@[simp] theorem State.returned_orderly (s : State) (h : Capture) (why : ReturnWhy) (ho : s.td.Orderly early) :
    (s.returned h why).td.Orderly early := by
  unfold State.returned
  dsimp only
  split <;> simp [ho]

@[simp] theorem State.onArmReturnEnd_orderly (s : State) (ho : s.td.Orderly early) :
    s.onArmReturnEnd.td.Orderly early := by
  unfold State.onArmReturnEnd
  (repeat' split) <;> simp [ho]

@[simp] theorem State.dropped_orderly (s : State) (h : Capture) (ho : s.td.Orderly early) :
    (s.dropped h).td.Orderly early := by
  simp [State.dropped, ho]

@[simp] theorem State.onDropSensed_orderly (s : State) (ho : s.td.Orderly early) :
    s.onDropSensed.td.Orderly early := by
  unfold State.onDropSensed
  (repeat' split) <;> simp [ho]

@[simp] theorem State.dropFails_orderly (s : State) (h : Capture) (ho : s.td.Orderly early) :
    (s.dropFails h).td.Orderly early := by
  simp [State.dropFails, ho]

@[simp] theorem State.onDropTimeout_orderly (s : State) (ho : s.td.Orderly early) :
    s.onDropTimeout.td.Orderly early := by
  unfold State.onDropTimeout
  (repeat' split) <;> simp [ho]

@[simp] theorem State.binDoor_orderly (s : State) (closed : Bool) (ho : s.td.Orderly early) :
    (s.binDoor closed).td.Orderly early := by
  unfold State.binDoor
  dsimp only
  (repeat' split) <;> simp [ho]

@[simp] theorem State.clearFault_orderly (s : State) (tag : Nat) (h : Capture) (inBin : Bool) (ho : s.td.Orderly early) :
    (s.clearFault tag h inBin).td.Orderly early := by
  unfold State.clearFault
  dsimp only
  (repeat' split) <;> simp [ho]

@[simp] theorem State.ownCaptureClear_orderly (tag disposition : Nat) (s : State) (ho : s.td.Orderly early) :
    (State.ownCaptureClear tag disposition s).td.Orderly early := by
  unfold State.ownCaptureClear
  (repeat' split) <;> simp [ho]

@[simp] theorem State.tellOwner_orderly (s : State) (p : Program) (programmed : Bool) (ho : s.td.Orderly early) :
    (s.tellOwner p programmed).td.Orderly early := by
  unfold State.tellOwner
  (repeat' split) <;> simp [ho]

@[simp] theorem State.endUnmade_orderly (s : State) (p : Program) (ho : s.td.Orderly early) :
    (s.endUnmade p).td.Orderly early := by
  simp [State.endUnmade, ho]

@[simp] theorem State.endAllUnmade_orderly (s : State) (ps : List Program) (ho : s.td.Orderly early) :
    (s.endAllUnmade ps).td.Orderly early := by
  unfold State.endAllUnmade
  induction ps generalizing s with
  | nil => exact ho
  | cons x xs ih => exact ih _ (State.tellOwner_orderly _ _ _ ho)

@[simp] theorem State.enterFailed_orderly (s : State) (failed : Work) (ho : s.td.Orderly early) :
    (s.enterFailed failed).td.Orderly early := by
  simp [State.enterFailed, ho]

@[simp] theorem State.programEnds_orderly (s : State) (p : Program) (programmed : Bool) (ho : s.td.Orderly early) :
    (s.programEnds p programmed).td.Orderly early := by
  simp [State.programEnds, ho]

@[simp] theorem State.appendMade_orderly (s : State) (p : Program) (r : Record) (i k : Nat) (missed : List Byte)
    (ho : s.td.Orderly early) :
    (s.appendMade p r i k missed).td.Orderly early := by
  unfold State.appendMade
  dsimp only
  (repeat' split) <;> simp [ho]

@[simp] theorem State.changeMade_orderly (s : State) (p : Program) (missed : List Byte) (ho : s.td.Orderly early) :
    (s.changeMade p missed).td.Orderly early := by
  unfold State.changeMade
  dsimp only
  (repeat' split) <;> simp [ho]

@[simp] theorem State.programMade_orderly (s : State) (missed : List Byte) (ho : s.td.Orderly early) :
    (s.programMade missed).td.Orderly early := by
  unfold State.programMade
  (repeat' split) <;> simp [ho]

@[simp] theorem State.onJournalProgramDone_orderly (missed : List Byte) (s : State) (ho : s.td.Orderly early) :
    (State.onJournalProgramDone missed s).td.Orderly early := by
  simp [State.onJournalProgramDone, ho]

@[simp] theorem State.keyReleases_orderly (s : State) (z : ZoneId) (ho : s.td.Orderly early) :
    (s.keyReleases z).td.Orderly early := by
  unfold State.keyReleases
  split <;> simp [ho]

@[simp] theorem State.keyEdge_orderly (s : State) (rising : Bool) (ho : s.td.Orderly early) :
    (s.keyEdge rising).td.Orderly early := by
  unfold State.keyEdge
  dsimp only
  split <;> simp [ho]

@[simp] theorem State.onEntryDelayExpiry_orderly (door : Door) (s : State) (ho : s.td.Orderly early) :
    (State.onEntryDelayExpiry door s).td.Orderly early := by
  unfold State.onEntryDelayExpiry
  split <;> simp [ho]

@[simp] theorem State.onWindowExpiry_orderly (door : Door) (s : State) (ho : s.td.Orderly early) :
    (State.onWindowExpiry door s).td.Orderly early := by
  unfold State.onWindowExpiry
  split <;> simp [ho]

@[simp] theorem State.openWindow_orderly (s : State) (d : Door) (minutes : Nat) (ho : s.td.Orderly early) :
    (s.openWindow d minutes).td.Orderly early := by
  unfold State.openWindow
  dsimp only
  split <;> simp [ho]

@[simp] theorem State.ownAuthorize_orderly (tag zone minutes : Nat) (s : State) (ho : s.td.Orderly early) :
    (State.ownAuthorize tag zone minutes s).td.Orderly early := by
  unfold State.ownAuthorize
  dsimp only
  (repeat' split) <;> simp [ho]

@[simp] theorem State.acknowledge_orderly (s : State) (z : ZoneId) (ho : s.td.Orderly early) :
    (s.acknowledge z).td.Orderly early := by
  unfold State.acknowledge
  dsimp only
  (repeat' split) <;> simp [ho]

@[simp] theorem State.ownAckZone_orderly (tag zone : Nat) (s : State) (ho : s.td.Orderly early) :
    (State.ownAckZone tag zone s).td.Orderly early := by
  unfold State.ownAckZone
  dsimp only
  (repeat' split) <;> simp [ho]

end

/-! ## The steps of start-up (R24, R205) -/

section
set_option backward.isDefEq.respectTransparency false

@[simp] theorem State.beginNotePath_underived (s : State) : s.beginNotePath.phase.underived = false := by
  unfold State.beginNotePath
  dsimp only
  split <;> simp [State.beginAir, Phase.underived]

@[simp] theorem State.airStepEnds_underived (s : State) : s.airStepEnds.phase.underived = s.phase.underived := by
  unfold State.airStepEnds
  split
  · next hp => rw [hp]; rfl
  · rfl

@[simp] theorem State.notePathStepEnds_underived (s : State) : s.notePathStepEnds.phase.underived = s.phase.underived := by
  unfold State.notePathStepEnds
  split
  · next hp => rw [hp]; rfl
  · rfl

@[simp] theorem State.airAfterFailure_underived (s : State) :
    s.airAfterFailure.phase.underived = s.phase.underived := by
  unfold State.airAfterFailure
  dsimp only
  (repeat' split) <;> simp

@[simp] theorem State.switchOpens_underived (s : State) (which : AB) :
    (s.switchOpens which).phase.underived = s.phase.underived := by
  unfold State.switchOpens
  dsimp only
  split <;> simp

@[simp] theorem State.onSpinUpLimit_underived (s : State) : s.onSpinUpLimit.phase.underived = s.phase.underived := by
  unfold State.onSpinUpLimit
  (repeat' split) <;> simp

@[simp] theorem State.judgeRefresh_underived (s : State) : s.judgeRefresh.phase.underived = s.phase.underived := by
  unfold State.judgeRefresh
  split <;> simp

@[simp] theorem State.onRefreshRunEnd_underived (s : State) :
    s.onRefreshRunEnd.phase.underived = s.phase.underived := by
  unfold State.onRefreshRunEnd
  (repeat' split) <;> simp

@[simp] theorem State.halt_underived (s : State) : s.halt.phase.underived = s.phase.underived := by
  unfold State.halt
  dsimp only
  split <;> simp

@[simp] theorem State.safeDoor_underived (s : State) (opened : Bool) :
    (s.safeDoor opened).phase.underived = s.phase.underived := by
  unfold State.safeDoor
  dsimp only
  (repeat' split) <;> simp

@[simp] theorem State.onClearingEnd_underived (pathClear : Bool) (s : State) :
    (State.onClearingEnd pathClear s).phase.underived = s.phase.underived := by
  unfold State.onClearingEnd
  split <;> simp

@[simp] theorem State.powerEnds_underived (s : State) (programmed : Bool) :
    (s.powerEnds programmed).phase.underived = s.phase.underived := by
  unfold State.powerEnds
  split
  · next hp => split <;> rw [hp] <;> rfl
  · rfl

@[simp] theorem State.tellOwner_underived (s : State) (p : Program) (programmed : Bool) :
    (s.tellOwner p programmed).phase.underived = s.phase.underived := by
  unfold State.tellOwner
  (repeat' split) <;> simp

@[simp] theorem State.endAllUnmade_underived (s : State) (ps : List Program) :
    (s.endAllUnmade ps).phase.underived = s.phase.underived := by
  unfold State.endAllUnmade
  induction ps generalizing s with
  | nil => rfl
  | cons p ps ih => rw [List.foldl_cons, ih, State.endUnmade, State.tellOwner_underived]

@[simp] theorem State.enterFailed_underived (s : State) (failed : Work) :
    (s.enterFailed failed).phase.underived = s.phase.underived := by
  simp [State.enterFailed]

@[simp] theorem State.programEnds_underived (s : State) (p : Program) (programmed : Bool) :
    (s.programEnds p programmed).phase.underived = s.phase.underived := by
  simp [State.programEnds]

@[simp] theorem State.scanEnds_underived (s : State) : s.scanEnds.phase.underived = true := by
  unfold State.scanEnds State.beginPowerRecord
  dsimp only
  split <;> rfl

@[simp] theorem State.scanStepEnds_underived (s : State) : s.scanStepEnds.phase.underived = s.phase.underived := by
  unfold State.scanStepEnds
  split
  · next hp =>
    split
    · rw [State.scanEnds_underived, hp]
      rfl
    · rfl
  · rfl

@[simp] theorem State.appendMade_underived (s : State) (p : Program) (r : Record) (i : Nat) (k : Nat) (missed : List Byte) :
    (s.appendMade p r i k missed).phase.underived = s.phase.underived := by
  unfold State.appendMade
  dsimp only
  (repeat' split) <;> simp

@[simp] theorem State.changeMade_underived (s : State) (p : Program) (missed : List Byte) :
    (s.changeMade p missed).phase.underived = s.phase.underived := by
  unfold State.changeMade
  dsimp only
  (repeat' split) <;> simp

@[simp] theorem State.programMade_underived (s : State) (missed : List Byte) :
    (s.programMade missed).phase.underived = s.phase.underived := by
  unfold State.programMade
  (repeat' split) <;> simp

@[simp] theorem State.onJournalProgramDone_underived (missed : List Byte) (s : State) :
    (State.onJournalProgramDone missed s).phase.underived = s.phase.underived := by
  simp [State.onJournalProgramDone]

@[simp] theorem State.scan_underived (s : State) : s.scan.phase.underived = s.phase.underived := by
  unfold State.scan
  dsimp only
  (repeat' split) <;> simp

/-- A carrier's derived location, with nothing queued (R24). -/
theorem State.deriveLocation_orderly (s : State) (l : Lane) (ho : s.td.Orderly false) (hempty : s.td.queue = []) :
    (s.deriveLocation l).td.Orderly false ∧ (s.deriveLocation l).td.queue = [] := by
  have hnone : s.td.entry l = none := by rw [TD.entry, hempty, List.find?_nil]
  have hset : ∀ loc, (s.modCarrier l fun c => { c with location := loc }).td.Orderly false := fun loc =>
    ho.carrier_changed l _ Iff.rfl Iff.rfl (.inr ⟨ho.not_queued hnone, nofun⟩)
  unfold State.deriveLocation
  dsimp only
  split
  · rw [State.setReasons_unqueued (s := s.modCarrier l fun c => { c with location := s.derivedLocation l }) hnone]
    exact ⟨hset _, hempty⟩
  · exact ⟨hset _, hempty⟩

theorem State.deriveLocations_orderly (s : State) (ho : s.td.Orderly false) (hempty : s.td.queue = []) :
    s.deriveLocations.td.Orderly false := by
  unfold State.deriveLocations
  generalize Ix4.all = ls
  induction ls generalizing s with
  | nil => exact ho
  | cons l ls ih =>
    obtain ⟨ho', hempty'⟩ := s.deriveLocation_orderly l ho hempty
    exact ih _ ho' hempty'

/-- The end of the enrolments derives the locations: nothing is queued and no move is in flight until then (R24). -/
@[simp] theorem State.enrolmentStepEnds_orderly (s : State) (ho : s.td.Orderly s.phase.underived) :
    s.enrolmentStepEnds.td.Orderly s.enrolmentStepEnds.phase.underived := by
  unfold State.enrolmentStepEnds
  split
  · next hp =>
    have hempty : s.td.queue = [] := List.eq_nil_iff_forall_not_mem.mpr fun e he => by
      have hlate := ho.late_of_entry he
      rw [hp] at hlate
      cases hlate
    have hderived := s.deriveLocations_orderly ho.late hempty
    rw [State.beginNotePath_underived]
    simpa using hderived
  · exact ho

@[simp] theorem Phase.allows_iff (p : Phase) : p.Allows p.underived ↔ True := iff_true_intro p.allows_self

@[simp] theorem State.afterEnrolment_orderly (s : State) (l : Lane) (why : EnrolWhy) (ho : s.td.Orderly s.phase.underived) :
    (s.afterEnrolment l why).td.Orderly (s.afterEnrolment l why).phase.underived := by
  unfold State.afterEnrolment
  (repeat' split) <;> simp [ho]

@[simp] theorem State.endEnrolment_orderly (s : State) (l : Lane) (why : EnrolWhy) (f : Found) (ho : s.td.Orderly s.phase.underived) :
    (s.endEnrolment l why f).td.Orderly (s.endEnrolment l why f).phase.underived := by
  simp [State.endEnrolment, ho]

@[simp] theorem State.onIdentAnswer_orderly (report : IdentReport) (s : State) (ho : s.td.Orderly s.phase.underived) :
    (State.onIdentAnswer report s).td.Orderly (State.onIdentAnswer report s).phase.underived := by
  unfold State.onIdentAnswer
  split <;> simp [ho]

@[simp] theorem State.onIdentTimeout_orderly (loopClosed : Bool) (s : State) (ho : s.td.Orderly s.phase.underived) :
    (State.onIdentTimeout loopClosed s).td.Orderly (State.onIdentTimeout loopClosed s).phase.underived := by
  unfold State.onIdentTimeout
  dsimp only
  (repeat' split) <;> simp [ho]

/-! ## Every command -/

/-- A start-up begins with an empty queue, the drive idle and no location known (R22, R205). -/
theorem State.startUp_orderly (s : State) :
    (∀ a b, (s.powersOn a b).td.Orderly (s.powersOn a b).phase.underived) ∧ s.restarts.td.Orderly s.restarts.phase.underived := by
  have hinitial : ∀ bays : Four Bay, (TD.initial bays).Orderly true := fun bays =>
    ⟨List.nodup_nil, fun l => by cases l <;> simp [TD.initial, Four.const, Four.get],
      fun l => by cases l <;> simp [TD.initial, Four.const, Four.get], fun _ he => (List.not_mem_nil he).elim,
      fun _ => ⟨rfl, fun l => by cases l <;> rfl⟩⟩
  have hbegun : ∀ (u : State) (kind : StartKind) (kept : Retained) (failed : Bool),
      (u.beginStartUp kind kept failed).td.Orderly (u.beginStartUp kind kept failed).phase.underived :=
    fun _ _ _ _ => hinitial _
  refine ⟨fun a b => ?_, ?_⟩
  · unfold State.powersOn
    split <;> simp [hbegun]
  · rw [State.restarts_eq]
    simp [hbegun]

/-- A request served leaves the drive's bookkeeping in order, the part being started. -/
theorem State.serve_orderly (s : State) (i : Instr) (ho : s.td.Orderly false) : (s.serve i).td.Orderly false := by
  cases i <;> simp [State.serve, State.ownPurge_orderly, ho]

theorem State.serve_underived (s : State) (i : Instr) (hrun : s.phase = .running) : (s.serve i).phase.underived = false := by
  have hstarted : s.phase.underived = false := by rw [hrun]; rfl
  have hrestart : ∀ tag, (State.ownRestart tag s).phase.underived = false := fun tag => by
    unfold State.ownRestart
    split
    · rfl
    · exact hstarted
  cases i <;> simp [State.serve, hrestart, hstarted]

/-- The end of RESTART's reply begins no start-up yet (R207). -/
theorem State.onFrameSent_orderly (s : State) (ho : s.td.Orderly s.phase.underived) :
    s.onFrameSent.td.Orderly s.onFrameSent.phase.underived := by
  have hreply : ∀ u : State, u.td.Orderly u.phase.underived → u.replySent.td.Orderly u.replySent.phase.underived := fun u hu => by
    unfold State.replySent
    split
    · exact hu
    · dsimp only
      split
      · exact hu.late
      · exact hu
  unfold State.onFrameSent
  split
  · unfold State.sent
    dsimp only
    split
    · exact hreply (s.modLC fun lc => { lc with sending := none }) ho
    · exact ho
    · exact ho
  · exact ho

theorem State.eventDoes_orderly (s : State) (c : Instr) (hb : isBytes c = false) (ho : s.td.Orderly s.phase.underived) :
    (s.eventDoes c).td.Orderly (s.eventDoes c).phase.underived := by
  cases c
  case powerOn a b => exact s.startUp_orderly.1 a b
  case restartStartUp =>
    simp only [State.eventDoes, State.onRestartStartUp]
    split
    · exact s.startUp_orderly.2
    · exact ho
  case frameSent => exact s.onFrameSent_orderly ho
  case frameTaken => cases hb
  case frameDropped => cases hb
  all_goals simp [State.eventDoes, ho]

/-- No command leaves the drive's bookkeeping out of order (R22, R25, R27). -/
theorem exec_tubeFormed (c : Instr) (s t : State) (hs : s.tubeFormed) (h : exec c s = .next t) : t.tubeFormed := by
  rw [State.tubeFormed_iff] at hs ⊢
  rcases exec_cases h with ⟨-, -, rfl⟩ | ⟨-, hoff, rfl⟩ | ⟨-, rfl⟩ | ⟨cut, n, b, -, rfl⟩
  · have hdoes : (s.does c).td.Orderly (s.does c).phase.underived :=
      State.does_keeps (P := fun s => s.td.Orderly s.phase.underived) (fun _ _ h => h)
        (fun s i hrun h => by
          rw [State.serve_underived s i hrun]
          exact s.serve_orderly i h.late) s c (fun _ hb h => s.eventDoes_orderly c hb h) hs
    simpa using hdoes
  · cases c
    case bayCarrierPresentChange => exact hs.of_same rfl rfl rfl
    case bayContentChange => exact hs.of_same rfl rfl rfl
    case bayDoorChange => exact hs.of_same rfl rfl rfl
    all_goals exact hs
  · exact hs
  · split
    · exact hs.late
    · exact hs

/-- Settles O20: each of the three by its own invariant of the operations, over every command. -/
theorem outstandingStaysWithinFour : Obligations.OutstandingStaysWithinFour :=
  ⟨exec_withinLimit, exec_tubeFormed, exec_loadsFormed⟩

end

end Sys2Proof.Machine
end
